-- ==== Sys2Proof/Word.lean ====
section
/-! DEFINITION. The word types: what the spec treats as bits. Register fields, times, voltages, addresses
of cells and counters are natural numbers; the Generdy-32's registers and immediates are bit vectors. -/

namespace Sys2Proof

/-- A 32-bit word of the Generdy-32. -/
abbrev Word := BitVec 32
/-- A byte. -/
abbrev Byte := BitVec 8

end Sys2Proof
end

