-- ==== Sys2Proof/Syntax.lean ====
section
/-! DEFINITION. The commands of the block and the types of their operands. -/

namespace Sys2Proof

/-- A register field of a Generdy instruction word. -/
abbrev RegNo := Fin 16
/-- A predicate field of a Generdy instruction word. -/
abbrev PredNo := Fin 8

/-- The predicate of an instruction word (R403): NEG and PRED. -/
structure Pred where
  neg : Bool
  reg : PredNo
  deriving DecidableEq, Repr

/-- A core register as the debug port names it (R317): D and A registers, a half of an accumulator, PC, and the control
registers by their numbers (R408). -/
inductive CoreReg where
  | data (n : RegNo) | addr (n : Fin 8) | acc (q : Fin 2) (high : Bool) | pc | control (n : BitVec 6)
  deriving DecidableEq, Repr

/-- What the debug port does with the core (R317, R318): at level 1 it halts, steps, sets breakpoints and reaches the core
registers; at level 2 it reaches 1, 2 or 4 bytes (`size` 0, 1, 2) at a core address. -/
inductive DebugOp where
  | halt | step | resume | breakpoints (on : Bool)
  | readReg (r : CoreReg) | writeReg (r : CoreReg) (v : Word)
  | read (a : Word) (size : Fin 3) | write (a : Word) (size : Fin 3) (v : Word)
  deriving DecidableEq, Repr


/-- One transaction of the host: the TBASE at which it runs, whether a post or page change less than tPSU old
is taken at its snapshot edge (R56), whether its CRC is good, and whether it completed (R52). -/
structure Txn where
  t : Nat
  recent : Bool
  crcOk : Bool
  completed : Bool
  deriving DecidableEq, Repr

/-- eSPI commands that the part does not support (R72). -/
inductive Unsupported where
  | opcode | cycle64 | message | controllerFlash | wideIo | payloadOver64 | payloadZero
  deriving DecidableEq, Repr

/-- A voltage on VBUS in mV, with the TBASE at which it stood. -/
structure VbusReading where
  vbus : Nat
  t : Nat
  deriving DecidableEq, Repr

/-- What holds the charge current below its target (R176). -/
inductive ChargeHold where
  | none | ilim | demand | tdie
  deriving DecidableEq, Repr

/-- What a matrix scan samples: VLED, the sink voltages and, in a test scan, the test samples, in mV by channel
(R234, R236). -/
structure ScanReading where
  vled : Nat
  sinks : List (Fin 768 × Nat)
  tests : List (Fin 768 × Nat)
  deriving DecidableEq, Repr

/-- A STATUS response of a chain driver (R244). -/
structure ChainStatus where
  pos : Fin 64
  vlow : Byte
  vhigh : Byte
  flags : Byte
  devid : Word
  nchmax : BitVec 16
  lastframe : Word
  temp : Byte
  nopen : BitVec 16
  nshort : BitVec 16
  deriving DecidableEq, Repr

/-- What a fan channel measures: the tach period in µs (0: no edge for 500 ms), the commutation ripple in Hz (0:
none found), the output current in mA and FANVIN in mV (R262, R263). -/
structure FanReading where
  period : Nat := 0
  ripple : Nat := 0
  iout : Nat := 0
  fanvin : Nat := 12000
  deriving DecidableEq, Repr

/-- What an Icefall action meets on the pins when it starts: every reading that the units it drives take. -/
structure ActionData where
  /-- VSYS and VBAT in mV, IBAT in mA, the charge since the last step in mC, the reverse output current in mA,
  and what holds the charge current (supervision step). -/
  vsys : Nat := 0
  vbat : Nat := 0
  ibat : Int := 0
  charge : Int := 0
  iout : Nat := 0
  hold : ChargeHold := .none
  /-- The thermistor code as last sampled (supervision step). -/
  batth : BitVec 12 := 0x800
  /-- VIN in mV and IIN in mA, averages of the last millisecond (tracker step). -/
  vin : Nat := 0
  iin : Nat := 0
  /-- The crosspoints that read closed, by key index (key-scan frame). -/
  keys : List (Fin 768) := []
  /-- The code of every mux input (ADC sequence). -/
  adc : List (BitVec 12) := []
  /-- The channel's readings (fan control step). -/
  fan : FanReading := {}
  deriving DecidableEq, Repr

/-- A Floe frame (R273): SRC, DST, CTL, PAYLOAD, and of a secured frame CNT and MAC; CRC as read; the bits from SOF to
the last CRC bit as read, 1 recessive, where they are not those that stuffing makes of these fields (R275); whether the
form of the frame is bad. -/
structure FloeFrame where
  src : Byte := 1
  dst : Byte := 0
  ctl : Byte := 0
  payload : List Byte := []
  cnt : Word := 0
  mac : List Byte := []
  crc : BitVec 16 := 0
  wire : Option (List Bool) := none
  formBad : Bool := false
  deriving DecidableEq, Repr

/-- What a Floe port measures during a frame: the line voltage in mV at each sample point, and the delay of each
rising edge in sixteenths of a bit time (R271, R272). -/
structure FloeSignal where
  volts : List Nat
  rises : List Nat
  deriving DecidableEq, Repr

/-- How a transmit attempt ends (R276, R277). -/
inductive FloeEnd where
  | acked | noAck | bitError | lost
  deriving DecidableEq, Repr

/-- What a flash device's SFDP tables say (R324): the header and basic table are good, density in bytes, the
uniform 4 KiB erase opcode, an area without 4 KiB erase, the fast reads offered, the quad enable method, the
means to address above 16 MiB, the page size. -/
structure Sfdp where
  good : Bool := false
  size : Nat := 0
  eraseOp : Option Byte := none
  mixed : Bool := false
  read144 : Bool := false
  read114 : Bool := false
  quad : Nat := 0
  addr4 : Bool := false
  page : Nat := 256
  deriving DecidableEq, Repr

/-- A request on the flash channel (R331): read, write, erase, or any other type. -/
inductive FlashAsk where
  | read (addr len : Nat) | write (addr : Nat) (data : List Byte) | erase (addr : Nat) | other
  deriving DecidableEq, Repr

/-- What the Smart Battery pack answers (R189): Voltage, Current, RelativeStateOfCharge, RemainingCapacity,
FullChargeCapacity, ChargingCurrent, ChargingVoltage and BatteryStatus. -/
structure PackReading where
  volt : BitVec 16
  curr : BitVec 16
  rsoc : BitVec 16
  remcap : BitVec 16
  fullcap : BitVec 16
  chgCurr : BitVec 16
  chgVolt : BitVec 16
  status : BitVec 16
  deriving DecidableEq, Repr


/-- The commands of the block: one constructor per row of the opcode table. -/
inductive Instr where
  /-- REGISTER_WRITE (R9): A core write to a register field that has no row of its own, applied as its access code states. -/
  | registerWrite (a v : Word)
  /-- LUXEN (R21): A write of SYS_DOMCTRL.LUXEN switches LUX on, zeroing its memories, or switches its outputs and supply off. -/
  | luxen (v : Word)
  /-- LUX_READY (R21): The zeroing of the lighting memories completes and LUXRDY is set. -/
  | luxReady (t : Nat)
  /-- COREOFF (R23): A COREOFF request with KEY 0xA5 is refused or accepted against the conditions that stood before the write. -/
  | coreoff (v : Word)
  /-- SHIP (R47): A ship-mode request is refused, or rails drop, BATFET opens, the comparator is armed and all domains go off. -/
  | ship (v : Word)
  /-- SHIP_WAKE (R48): The ship-wake comparator fires on an input held at 4.0 V for 10 ms and starts a cold reset. -/
  | shipWake (hmode : Fin 4) (ncell : Fin 8)
  /-- WAKE_SOURCE (R49): A wake source fires, sets its SYS_WAKESTAT bit and, if enabled, wakes the KT8840 from the AON-only state. -/
  | wakeSource (src : Fin 9) (t : Nat)
  /-- WAKE_ALARM (R49): TBASE reaches SYS_WAKEALARM and the alarm wake source fires. -/
  | wakeAlarm (t : Nat)
  /-- SYS_WAKEALARMHI (R49): A write of the high alarm half takes both staged halves into effect together. -/
  | sysWakealarmhi (v : Word)
  /-- CORESEL (R27): A write of CORESEL starts a core clock change and sets CLKBUSY, or is ignored as no change. -/
  | coresel (v : Word)
  /-- CLOCK_SETTLED (R27): The core regulator settles, the new core frequency takes effect and CLKBUSY clears. -/
  | clockSettled (t : Nat)
  /-- PLL_LOSS_OF_LOCK (R28): The PLL loses lock, the clocks switch to OSC10, PLLLOCK clears and ERR records the event. -/
  | pllLossOfLock (t : Nat)
  /-- SYS_RSTREQ_CORE (R29): A keyed write requests a core reset. -/
  | sysRstreqCore (v : Word)
  /-- SYS_RSTREQ_DOMAIN (R29): A keyed write requests a domain reset, which waits for the log front end to drain. -/
  | sysRstreqDomain (v : Word)
  /-- SYS_RSTREQ_COLD (R475): A keyed write requests a cold reset, which waits for the log front end to drain. -/
  | sysRstreqCold (v : Word)
  /-- SYS_RSTREQ_HANDOVER (R365): A keyed write requests a core reset at which the boot ROM reads the hand-over block. -/
  | sysRstreqHandover (v : Word)
  /-- DOMAIN_RESET (R31): CORE and LUX reset while AON holds rail enables, gate drives and VSYS regulation. -/
  | domainReset (t : Nat)
  /-- COLD_RESET (R475): A cold reset with AON powered drops V18_EN, resets AON and HOST and reruns start-up. -/
  | coldReset (t : Nat)
  /-- AON_POWER_UP (R34): The AON supply crosses 4.0 V and start-up runs through fuse sensing to the assertion of V18_EN. -/
  | aonPowerUp (hmode : Fin 4) (ncell : Fin 8) (latchKept : Bool)
  /-- AON_BROWNOUT (R476): The AON supply falls below 3.6 V and a cold reset starts with the brownout latch kept. -/
  | aonBrownout (t : Nat)
  /-- V18_PG_ASSERTED (R34): V18_PG arrives, the PLL locks and the hardware wipe starts. -/
  | v18PgAsserted (t : Nat)
  /-- V18_PG_DEASSERTED (R36): V18_PG falls while CORE is on and a domain reset with cause CORESUP begins. -/
  | v18PgDeasserted (t : Nat)
  /-- V18_PG_TIMEOUT (R36): V18_PG is not asserted within 20 ms; V18_EN drops, the fault pattern shows, and after three attempts the series ends with V18FAIL. -/
  | v18PgTimeout (t : Nat)
  /-- V18_RETRY (R36): One second after a failed attempt, V18_EN is asserted again. -/
  | v18Retry (t : Nat)
  /-- WIPE_COMPLETE (R33): The hardware wipe of main SRAM, lighting and return-stack memory ends and the core is released to the boot ROM. -/
  | wipeComplete (t : Nat)
  /-- HOLD_CLEAR (R141): Firmware clears SYS_PADHOLD.HOLD and the pins pass from AON to the channels. -/
  | holdClear (v : Word)
  /-- MEMORY_READ (R53): An eSPI peripheral memory read returns host-window bytes from the snapshot taken at its snapshot edge. -/
  | memoryRead (x : Txn) (addr len : Nat)
  /-- MEMORY_WRITE (R54): An eSPI peripheral memory write commits its host-window writes together at its commit edge if it completed with a good CRC. -/
  | memoryWrite (x : Txn) (addr : Nat) (data : List Byte)
  /-- IO_READ (R73): An eSPI 1-byte I/O read of the EC ports or the configuration pair is served inline. -/
  | ioRead (x : Txn) (port : BitVec 16)
  /-- IO_WRITE (R73): An eSPI 1-byte I/O write to the EC ports or the configuration pair takes effect at its commit. -/
  | ioWrite (x : Txn) (port : BitVec 16) (data : Byte)
  /-- PUT_VW (R74): The host sends virtual-wire groups, which update HOST_VWIN and trigger the wire handling. -/
  | putVw (x : Txn) (groups : List (Nat × Byte))
  /-- GET_VW (R74): The host fetches pending target-to-host virtual-wire groups in ascending index order. -/
  | getVw (x : Txn)
  /-- PUT_OOB (R75): The host sends a tunnelled SMBus message, delivered, refused as not free, or answered NON_FATAL_ERROR. -/
  | putOob (x : Txn) (msg : List Byte)
  /-- GET_OOB (R75): The host fetches the outbound OOB message and HOST_OOBTX.BUSY clears. -/
  | getOob (x : Txn)
  /-- PUT_FLASH (R331): The host posts a flash access request of read, write or erase on the flash channel. -/
  | putFlash (x : Txn) (tag : Fin 16) (ask : FlashAsk)
  /-- GET_FLASH (R331): The host fetches the completion of its non-posted flash request. -/
  | getFlash (x : Txn)
  /-- GET_STATUS (R71): The host reads the eSPI status. -/
  | getStatus (x : Txn)
  /-- GET_CONFIGURATION (R478): The host reads an eSPI capability or channel configuration register. -/
  | getConfiguration (x : Txn) (addr : BitVec 16)
  /-- SET_CONFIGURATION (R72): The host writes an eSPI configuration register; values beyond the capability keep the old value. -/
  | setConfiguration (x : Txn) (addr : BitVec 16) (v : Word)
  /-- RESET_COMMAND (R71): The host sends the eSPI in-band RESET command. -/
  | resetCommand (x : Txn)
  /-- UNSUPPORTED_COMMAND (R72): An unknown, malformed or unsupported eSPI command is answered with the response that R72 gives and counted. -/
  | unsupportedCommand (x : Txn) (kind : Unsupported)
  /-- HOLD_EXPIRY (R61): A hold expires after tHOLD; at the next snapshot edge HOLD clears and HOLDEXP is set. -/
  | holdExpiry (t : Nat)
  /-- SINGLE_READ_FRAME (R79): An SPI-target frame with opcode 0x51 reads window bytes in single mode from its snapshot. -/
  | singleReadFrame (x : Txn) (addr : BitVec 24) (len : BitVec 16)
  /-- SINGLE_WRITE_FRAME (R79): An SPI-target frame with opcode 0x52 writes window bytes in single mode, committed if accepted. -/
  | singleWriteFrame (x : Txn) (addr : BitVec 24) (data : List Byte)
  /-- QUAD_READ_FRAME (R80): An SPI-target frame with opcode 0x55 reads window bytes in quad mode. -/
  | quadReadFrame (x : Txn) (addr : BitVec 24) (len : BitVec 16)
  /-- QUAD_WRITE_FRAME (R80): An SPI-target frame with opcode 0x56 writes window bytes in quad mode. -/
  | quadWriteFrame (x : Txn) (addr : BitVec 24) (data : List Byte)
  /-- UNKNOWN_OPCODE (R80): An SPI-target frame with another opcode is ignored, leaves IO1 released and counts FRAME. -/
  | unknownOpcode (x : Txn)
  /-- HOST_RESET (R87): ESPI_RESET_N is asserted and HOST state resets as R87 lists. -/
  | hostReset (t : Nat)
  /-- HOST_POWER_UP (R65): VIO_HOST rises, the host view is zero except the ID word, and HOST_EVT.HOSTUP is set. -/
  | hostPowerUp (t : Nat)
  /-- HOST_POWER_LOSS (R89): HOST power is lost with all HOST state, and posts are dropped. -/
  | hostPowerLoss (t : Nat)
  /-- POST_OPEN (R55): HOST_POST.OPEN opens a post, first closing or discarding an open one when CLOSE or ABORT is written with it. -/
  | postOpen (v : Word)
  /-- POST_CLOSE (R56): HOST_POST.CLOSE closes the open post; it merges into the pending post or is discarded for capacity. -/
  | postClose (v : Word)
  /-- POST_ABORT (R55): HOST_POST.ABORT discards the open post. -/
  | postAbort (v : Word)
  /-- APERTURE_WRITE (R55): A core write to the host-window aperture enters the post buffer, as a post of its own when no post is open. -/
  | apertureWrite (off : BitVec 14) (v : Word)
  /-- HOST_WINEN (R59): A write of HOST_WINEN changes the enabled pages at the snapshot edges that a post closed at that moment would reach. -/
  | hostWinen (v : Word)
  /-- OOB_REL (R75): A write of HOST_OOBRX.REL frees the inbound OOB slot. -/
  | oobRel (v : Word)
  /-- OOB_GO (R75): A write of HOST_OOBTX with GO offers the outbound message to the host through ALERT. -/
  | oobGo (v : Word)
  /-- HOST_VWOUT (R74): A write of HOST_VWOUT changes target-to-host wires, which are then offered to the host. -/
  | hostVwout (v : Word)
  /-- HOST_ERRCNT_READ (R72): A read returns the CRC and FRAME counters and clears them. -/
  | hostErrcntRead
  /-- MBX_TAKE (R99): Firmware takes a RUNG tag, which becomes OWNED with its buffer hidden. -/
  | mbxTake (v : Word)
  /-- FWREADY (R100): A write of MBX_CTRL.FWREADY changes whether the tag logic passes rung commands to firmware. -/
  | fwready (v : Word)
  /-- MBX_DONE (R101): Firmware writes MBX_DONE for an OWNED tag into a post, or sets DONEERR. -/
  | mbxDone (v : Word)
  /-- DIRECT_WINDOW_WRITE (R101): A core write to mailbox RAM stores response bytes of an OWNED buffer, or is dropped with WRERR. -/
  | directWindowWrite (off : BitVec 12) (v : Word)
  /-- RD_EC (R91): The HOST domain loads the output buffer with the EC image byte at the address that follows. -/
  | rdEc (x : Txn) (addr : Byte)
  /-- WR_EC (R91): An address and data pair enters the EC write queue. -/
  | wrEc (x : Txn) (addr data : Byte)
  /-- BE_EC (R91): Burst is enabled and the output buffer loads 0x90. -/
  | beEc (x : Txn)
  /-- BD_EC (R91): Burst is disabled. -/
  | bdEc (x : Txn)
  /-- QR_EC (R91): The output buffer loads the oldest query code, or 0x00. -/
  | qrEc (x : Txn)
  /-- EC_FORWARDED_COMMAND (R91): Another EC command byte and its data bytes enter the EC input queue for firmware. -/
  | ecForwardedCommand (x : Txn) (cmd : Byte) (data : List Byte)
  /-- MBX_ECOUT (R94): Firmware posts a byte that loads the EC output buffer at promotion. -/
  | mbxEcout (v : Word)
  /-- MBX_ECQPUSH (R94): Firmware posts a query code, discarded with QFULL when the queue is full. -/
  | mbxEcqpush (v : Word)
  /-- EC_IMAGE_WRITE (R94): Firmware posts bytes of the EC image through the aperture at 0x8000. -/
  | ecImageWrite (off : BitVec 8) (v : Word)
  /-- MBX_ECIN_READ (R92): A read returns and removes the oldest forwarded EC byte. -/
  | mbxEcinRead
  /-- MBX_ECWQ_READ (R92): A read returns and removes the oldest WR_EC pair. -/
  | mbxEcwqRead
  /-- MBX_CNT_READ (R11): A read returns the replay and hardware-answer counters and clears them. -/
  | mbxCntRead
  /-- BULK_MOVER_TRANSFER (R118): The bulk mover drains write-FIFO bytes into lighting memory, or drops them with RANGE. -/
  | bulkMoverTransfer (n t : Nat)
  /-- UNIT_CLOSE_COMPLETE (R119): The mover has placed every byte of a closed unit; CLOSED and INCOMPLETE are set and the outcome goes to the Rime engine. -/
  | unitCloseComplete (t : Nat)
  /-- MBX_BULKRD (R118): Firmware reads and removes 4 bytes of the write FIFO for a firmware target. -/
  | mbxBulkrd
  /-- MBX_BULKWR (R118): Firmware appends 4 bytes to the read FIFO. -/
  | mbxBulkwr (v : Word)
  /-- MBX_BULKACK (R119): Firmware completes the close of a firmware-target unit, complete or incomplete. -/
  | mbxBulkack (v : Word)
  /-- SLOT_ENABLE (R125): A write that sets EN in LPE_SCFGn enables the slot or is refused with CFGERR. -/
  | slotEnable (n : Fin 64) (v : Word)
  /-- SLOT_DISABLE (R131): EN=0 stops further releases while a started action finishes. -/
  | slotDisable (n : Fin 64) (v : Word)
  /-- LPE_RUN (R132): LPE_CTRL.RUN starts Icefall releasing slots. -/
  | lpeRun (v : Word)
  /-- LPE_LOCK (R132): LPE_CTRL.LOCK locks CATCHUP, CRIT bits and CRIT slot registers. -/
  | lpeLock (v : Word)
  /-- LPE_NOWLO_READ (R124): A read of LPE_NOWLO returns TBASE [31:0] and latches the upper half into LPE_NOWHI. -/
  | lpeNowloRead
  /-- LPE_SSTAT_READ (R129): A read returns the slot counters and clears them. -/
  | lpeSstatRead (n : Fin 64)
  /-- SLOT_RELEASE (R124): A slot reaches its release time and its action waits for its unit. -/
  | slotRelease (n : Fin 64) (t : Nat)
  /-- ACTION_START (R126): A released action starts when its hardware unit is free, lowest slot first. -/
  | actionStart (n : Fin 64) (t : Nat) (data : ActionData)
  /-- ACTION_FINISH (R128): A slot's action finishes; lateness is added to LAG and the next release is fixed. -/
  | actionFinish (n : Fin 64) (t : Nat)
  /-- RAIL_CLR (R137): A write of RAIL_CLR moves a FAULT channel to OFF. -/
  | railClr (upper : Bool) (v : Word)
  /-- FLTHOLD_CLEAR (R143): Firmware clears FLTHOLD and TSEL takes DECODED at once. -/
  | fltholdClear (v : Word)
  /-- POWER_GOOD_CHANGE (R134): An RCnn_PG level change counts after holding for PGFILT. -/
  | powerGoodChange (n : Fin 40) (level : Bool) (t : Nat)
  /-- INPUT_VALID (R150): An input becomes valid or invalid and its qualification timer starts or stops. -/
  | inputValid (n : Fin 3) (vin t : Nat)
  /-- QUALIFIED (R150): An input stays valid for 150 ms and is qualified. -/
  | qualified (n : Fin 3) (t : Nat)
  /-- DEAD_TIME_END (R153): After the 50 µs dead time the gates of the newly selected input turn on. -/
  | deadTimeEnd (t : Nat)
  /-- UNPLUG (R151): An input shows no Rp for 100 ms or DCIN stays below 1.0 V for 1 s, clearing UNSTABLE, BOUNCES, LASTGOOD and PDSEEN. -/
  | unplug (n : Fin 3) (t : Nat)
  /-- INPUT_LOSS (R168): The selected input's VIN stays below a loss threshold for 2 µs and the battery takes over. -/
  | inputLoss (n : Fin 3) (vin t : Nat)
  /-- TAKE (R156): PWR_CTRL.TAKE ends boot regulation and held values, and the PWR registers govern. -/
  | take (v : Word)
  /-- REPROBE (R167): Ten seconds after a settle or in CEILING, the tracker measures VOC again and probes from LASTGOOD. -/
  | reprobe (n : Fin 3) (t : Nat)
  /-- FLOOR_LOOP (R165): VIN reaches FLOOR and the analog loop reduces input current. -/
  | floorLoop (n : Fin 3) (t : Nat)
  /-- BATTERY_REMOVAL (R170): The AON supervisor latches a battery removal, stops charge and opens BATFET. -/
  | batteryRemoval (cond : Fin 3) (t : Nat)
  /-- REMOVAL_CLEAR (R171): Battery presence and thermistor hold in range for 500 ms; the latch clears and BATFET closes. -/
  | removalClear (t : Nat)
  /-- OVP (R172): An input over-voltage turns its gates off and makes the input invalid. -/
  | ovp (n : Fin 3) (vin t : Nat)
  /-- OCP (R172): Input current above 7.5 A for 2 µs turns the gates off for 100 ms. -/
  | ocp (n : Fin 3) (t : Nat)
  /-- REVERSE_CURRENT (R172): Input current below −100 mA for 5 µs turns the gates off for 100 ms. -/
  | reverseCurrent (n : Fin 3) (t : Nat)
  /-- VSYS_OVERVOLTAGE (R172): VSYS above 1.10 × target stops the stage switching. -/
  | vsysOvervoltage (vsys t : Nat)
  /-- VSYS_UNDERVOLTAGE (R172): VSYS below 0.90 × VSYSMIN for 100 µs sets VSYSUV and writes a Moraine record. -/
  | vsysUndervoltage (vsys t : Nat)
  /-- TYPEC_ATTACH (R157): A Type-C partner attaches in the sink or source role. -/
  | typecAttach (p : Fin 2) (source flipped : Bool) (rp : Fin 4) (t : Nat)
  /-- TYPEC_DETACH (R157): A Type-C partner detaches and the contract ends. -/
  | typecDetach (p : Fin 2) (t : Nat)
  /-- SOURCE_CAPABILITIES (R159): The sink policy engine selects and requests the fixed PDO with the highest power. -/
  | sourceCapabilities (p : Fin 2) (pdos : List Word) (eprOk : Bool) (t : Nat)
  /-- KEEP_ALIVE (R159): The engine sends an EPR keep-alive or PPS refresh at the interval the specification sets. -/
  | keepAlive (p : Fin 2) (t : Nat)
  /-- PD_REQ (R160): A firmware request with GO is sent, or not sent with REQREJ. -/
  | pdReq (p : Fin 2) (v : Word)
  /-- REQUEST_REPLY (R160): The source accepts and makes a contract, or rejects a request, which sets REQREJ. -/
  | requestReply (p : Fin 2) (accepted : Bool) (obj curr t : Nat)
  /-- VDM_RECEIVED (R161): A vendor-defined message fills the receive buffer, or is refused BUSY or dropped when it is full. -/
  | vdmReceived (p : Fin 2) (sop : Fin 3) (words : List Word) (t : Nat)
  /-- RXREL (R161): Firmware releases the VDM receive buffer. -/
  | rxrel (p : Fin 2) (v : Word)
  /-- TXGO (R161): Firmware sends the VDM transmit buffer. -/
  | txgo (p : Fin 2) (v : Word) (acked : Bool)
  /-- VDM_TIMEOUT (R161): A structured VDM request unanswered for 25 ms is answered BUSY by the PD block. -/
  | vdmTimeout (p : Fin 2) (t : Nat)
  /-- HARD_RESET (R162): A Hard Reset is sent or received and HRCNT counts it. -/
  | hardReset (p : Fin 2) (t : Nat)
  /-- PR_SWAP (R157): A PR_Swap to source is accepted only with PRSWAP=1. -/
  | prSwap (p : Fin 2) (toSource : Bool) (t : Nat)
  /-- DR_SWAP (R157): A DR_Swap is accepted towards DRPREF and rejected away from it. -/
  | drSwap (p : Fin 2) (toDfp : Bool) (t : Nat)
  /-- VCONN_SWAP (R157): A VCONN_Swap is accepted. -/
  | vconnSwap (p : Fin 2) (t : Nat)
  /-- ALERT_RECEIVED (R157): A PD Alert message is received and sets ALERTRX. -/
  | alertReceived (p : Fin 2) (t : Nat)
  /-- NOT_SUPPORTED_MESSAGE (R158): An unsupported PD message is answered Not_Supported. -/
  | notSupportedMessage (p : Fin 2) (t : Nat)
  /-- BAND_CHANGE (R178): A thermistor band takes effect after its code held for 100 ms. -/
  | bandChange (code : BitVec 12) (t : Nat)
  /-- THSHORT (R184): BATTH below 0.05 of bias for 200 µs latches fault THSHORT. -/
  | thshort (code : BitVec 12) (t : Nat)
  /-- BATOV (R184): Battery over-voltage holds charge off and latches at the third event in a cycle. -/
  | batov (vbat t : Nat)
  /-- CHGOCP (R184): Charge over-current for 100 µs stops charge and latches CHGOCP. -/
  | chgocp (ibat : Int) (t : Nat)
  /-- DIE_STOP (R180): The die exceeds 115 °C; the stage and reverse supply stop and TSHUT is set. -/
  | dieStop (t : Nat)
  /-- DIE_RESUME (R180): The die falls below 100 °C and the stage resumes. -/
  | dieResume (t : Nat)
  /-- SAFETY_TIMER_TICK (R181): The safety timer advances COUNT at full or half speed. -/
  | safetyTimerTick (t : Nat)
  /-- TIMER_FAULT (R183): COUNT reaches its phase limit and latches PRETMR or FASTTMR. -/
  | timerFault (t : Nat)
  /-- CYCLE_TIMEOUT (R181): Sixty minutes without charge current end the charge cycle. -/
  | cycleTimeout (t : Nat)
  /-- FLTCLR (R185): CHG_CTRL.FLTCLR clears a latched fault whose condition is absent, or sets CLRREF. -/
  | fltclr (v : Word)
  /-- QCLR (R188): CHG_CTRL.QCLR zeroes QACC. -/
  | qclr (v : Word)
  /-- CHG_LOCK (R175): CHG_CTRL.LOCK locks CHG_LIMIT. -/
  | chgLock (v : Word)
  /-- QACC_WRAP (R188): QACC wraps at 32 bits and sets QWRAP. -/
  | qaccWrap (charge : Int) (t : Nat)
  /-- REVERSE_STOP (R196): Reverse supply stops, the gates turn off, VBUS discharges and the port passes through ErrorRecovery. -/
  | reverseStop (t : Nat)
  /-- REVERSE_OCP (R195): VBUS below 0.8 of the contract voltage for 5 ms stops reverse supply; the third OCP in 60 s sets LOCKOUT. -/
  | reverseOcp (x : VbusReading)
  /-- REVERSE_VBAT_LOW (R196): VBAT below REVVMIN × CELLS for 100 ms stops reverse supply. -/
  | reverseVbatLow (vbat t : Nat)
  /-- KSC_DELIV0_READ (R203): A read of KSC_DELIV0 latches the last completed frame's results. -/
  | kscDeliv0Read
  /-- STUCK_MASK (R206): A key closed for STUCKTO seconds is masked unless exempt. -/
  | stuckMask (t : Nat)
  /-- SLEEP_SCAN (R207): Every 20 ms the AON sleep scanner samples the matrix. -/
  | sleepScan (keys : List (Fin 768)) (t : Nat)
  /-- SCANNER_HANDOVER (R209): Scanning passes between the frame scanner and the sleep scanner with the level-0 state carried over. -/
  | scannerHandover (v : Word)
  /-- KSC_LOCK (R210): KSC_LOCKCTL.LOCK locks the keyboard. -/
  | kscLock (v : Word)
  /-- KSC_UNLOCK (R210): KSC_LOCKCTL.UNLOCK unlocks the keyboard and makes closed keys held-over. -/
  | kscUnlock (v : Word)
  /-- SEQUENCE_WRITE (R211): A write of the unlock sequence registers, ignored with SEQERR while locked. -/
  | sequenceWrite (k : Fin 8) (upper : Bool) (v : Word)
  /-- STEP_TIMEOUT (R212): The step timer reaches STEPTO; the attempt fails and FAILS counts. -/
  | stepTimeout (t : Nat)
  /-- BACKOFF_END (R213): The back-off has elapsed; with the keys released the matcher returns to IDLE. -/
  | backoffEnd (t : Nat)
  /-- TIMER_SYNC (R221): The internal timer gives a sync every PERIOD. -/
  | timerSync (t : Nat)
  /-- LSYNC_IN_EDGE (R221): A rising edge on LSYNC_IN gives a sync under SRC=1. -/
  | lsyncInEdge (t : Nat)
  /-- SYNCNOW (R221): A write of LUX_CTRL.SYNCNOW gives a sync under SRC=2. -/
  | syncnow (v : Word)
  /-- SYNC_FALLBACK (R221): No LSYNC_IN edge for SYNCTO; the engine falls back to the timer and sets SYNCLOST. -/
  | syncFallback (t : Nat)
  /-- FWCLOSE (R223): LUX_CTRL.FWCLOSE closes the back frame as complete and sets PENDING. -/
  | fwclose (v : Word)
  /-- OCCLOSE (R223): LUX_CTRL.OCCLOSE closes the back on-chip frame and sets OCPENDING. -/
  | occlose (v : Word)
  /-- PRESENT (R224): The on-chip matrix takes the new values at a line boundary; BUSY clears and LUX_EVT.FRAME is set. -/
  | present (t : Nat)
  /-- LUX_EN_SET (R232): LUX_CTRL.EN is set; the matrix timing is checked and the engine runs. -/
  | luxEnSet (v : Word)
  /-- LUX_EN_CLEAR (R224): LUX_CTRL.EN is cleared; a running frame cycle ends at once and every output goes off. -/
  | luxEnClear (v : Word)
  /-- MATRIX_TIMING_WRITE (R232): A write of LUX_MTIM or LUX_MCFG is checked and starts, changes or stops the matrix. -/
  | matrixTimingWrite (cfg : Bool) (v : Word)
  /-- SCAN_END (R234): At the end of each scan the engine adjusts VSET from the sampled sink voltages. -/
  | scanEnd (r : ScanReading) (t : Nat)
  /-- VLED_OVERVOLTAGE (R235): VLED_FB above VLEDMAX + 1,000 mV for 10 µs stops the boost and the matrix. -/
  | vledOvervoltage (vled t : Nat)
  /-- LUX_DIAGCLR (R237): A write returns an OPEN or SHORT channel, or all, to UNTESTED. -/
  | luxDiagclr (v : Word)
  /-- LUX_CNT_READ (R221): A read returns the REPEAT, LATE and PAR counters and clears them. -/
  | luxCntRead
  /-- CHN_ENABLE (R246): CHN_CTRL.EN=1 starts enumeration with a STATUS to position 63. -/
  | chnEnable (v : Word)
  /-- CHN_DISABLE (R246): CHN_CTRL.EN=0 broadcasts CONFIG with BLANK and stops the chain. -/
  | chnDisable (v : Word)
  /-- ENUM_STATUS_RETURN (R246): The enumeration STATUS returns unanswered and NFOUND is taken from its HOPS. -/
  | enumStatusReturn (hops : Fin 64) (t : Nat)
  /-- STATUS_RESPONSE (R250): A driver's STATUS response fills its registers; when all are in, enumeration moves on or STATUSDONE is set. -/
  | statusResponse (r : ChainStatus) (t : Nat)
  /-- COMMIT (R246): CHN_CTRL.COMMIT advances the epoch and sends CONFIG to every included driver. -/
  | commit (v : Word)
  /-- REENUM (R246): CHN_CTRL.REENUM returns the chain to ENUM. -/
  | reenum (v : Word)
  /-- ENUM_RETRY (R246): Ten milliseconds after an enumeration break, enumeration is retried. -/
  | enumRetry (t : Nat)
  /-- RETURNED_SYNC (R249): The returned BROADCAST_SYNC records MMAP and DMAP and triggers CONFIG resends. -/
  | returnedSync (mmap dmap : BitVec 64) (crcOk : Bool) (t : Nat)
  /-- BREAK (R249): No return within RETTO counts BREAK and sets CHN_EVT.BREAK. -/
  | chainBreak (t : Nat)
  /-- CHN_DIAGREQ (R250): Firmware queues a DIAG request for step 6 of the next frame cycle, or it is refused with CFGERR. -/
  | chnDiagreq (v : Word)
  /-- DIAG_RESPONSE (R250): A DIAG response fills CHN_DIAGBUF and sets DIAGDONE. -/
  | diagResponse (first count : Nat) (states : List Byte) (t : Nat)
  /-- CHN_CNT_READ (R249): A read returns the CRCERR, BREAK and RESEND counters and clears them. -/
  | chnCntRead
  /-- CHN_DSTAT_READ (R249): A read returns a driver's status and clears MMCNT and DECNT. -/
  | chnDstatRead (j : Fin 64)
  /-- STALE (R258): An enabled input not converted for 10 × STALE ms becomes STALE. -/
  | stale (n : Fin 20) (t : Nat)
  /-- THM_LOCK (R261): THM_CTRL.LOCK locks the tables, input configurations, thresholds and THM_ACT. -/
  | thmLock (v : Word)
  /-- FAN_SPINUP_OK (R264): Two tach edges or ripple at 300 rpm for 100 ms move SPINUP to RUN. -/
  | fanSpinupOk (n : Fin 4) (edges : Bool) (r : FanReading) (t : Nat)
  /-- SPINUP_TIMEOUT (R264): Spin-up fails after 1.5 s: RETRYWAIT, or STALL with BLOCKED at TRIES=3. -/
  | spinupTimeout (n : Fin 4) (t : Nat)
  /-- RETRYWAIT_END (R264): After 2 s in RETRYWAIT the channel spins up again. -/
  | retrywaitEnd (n : Fin 4) (t : Nat)
  /-- FAN_STALL (R264): High current without ripple for 500 ms in RUN enters STALL. -/
  | fanStall (n : Fin 4) (r : FanReading) (t : Nat)
  /-- FAN_NOLOAD (R264): Low current, no tach and no ripple for 500 ms enter NOLOAD. -/
  | fanNoload (n : Fin 4) (r : FanReading) (t : Nat)
  /-- NOLOAD_RETRY (R264): After 10 s in NOLOAD the channel spins up again. -/
  | noloadRetry (n : Fin 4) (t : Nat)
  /-- TACHLOST (R265): A silent tach for 500 ms with ripple present sets TACHLOST. -/
  | tachlost (n : Fin 4) (r : FanReading) (t : Nat)
  /-- TACH_RETURN (R265): The next tach edge clears TACHLOST. -/
  | tachReturn (n : Fin 4) (t : Nat)
  /-- FANVIN_UV (R262): FANVIN below 4.3 V for 100 µs turns every fan output off. -/
  | fanvinUv (mv t : Nat)
  /-- FANVIN_RETURN (R262): FANVIN at 4.5 V for 100 ms restarts the running channels in SPINUP. -/
  | fanvinReturn (mv t : Nat)
  /-- FAN_CLR (R264): FAN_CTRLn.CLR moves a STALL channel to OFF. -/
  | fanClr (n : Fin 4) (v : Word)
  /-- FAN_MODE_OFF (R264): A write of MODE=OFF turns the channel off. -/
  | fanModeOff (n : Fin 4) (v : Word)
  /-- FRAME_RECEIVED (R281): A Floe frame is received, filtered, acknowledged or refused, and placed in the receive FIFO. -/
  | frameReceived (p : Fin 2) (f : FloeFrame) (x : FloeSignal) (t : Nat)
  /-- TXCTL_GO (R284): FLOEn_TXCTL.GO sends the frame, adding counter and MAC, or is refused. -/
  | txctlGo (p : Fin 2) (v : Word)
  /-- ATTEMPT_END (R277): A transmit attempt ends acknowledged, without ACK, with a bit error or with lost arbitration. -/
  | attemptEnd (p : Fin 2) (how : FloeEnd) (x : FloeSignal) (t : Nat)
  /-- RETRY_BACKOFF_END (R278): After the random backoff on an idle bus the sender tries again, or abandons with TXFAIL. -/
  | retryBackoffEnd (p : Fin 2) (t : Nat)
  /-- KCFG_VALID (R282): A write of VALID=1 binds a key entry and zeroes its counters, or is refused. -/
  | kcfgValid (e : Fin 32) (v : Word)
  /-- RXPOP (R281): Firmware removes the oldest frame from the receive FIFO. -/
  | rxpop (p : Fin 2) (v : Word)
  /-- PORT_ENABLE (R271): A write of FLOEn_PCFG.EN enables a port, or releases the wire and discards learnt values. -/
  | portEnable (p : Fin 2) (v : Word)
  /-- FLOE_PERR_READ (R281): A read returns a port's error counters and clears them. -/
  | floePerrRead (p : Fin 2) (k : Fin 3)
  /-- DISCOVER (R286): KPF sends DISCOVER every second, with RESTART once after each port enable. -/
  | discover (p : Fin 2) (t : Nat)
  /-- PRESENCE (R285): A newcomer or stranger announces its UID and class. -/
  | presence (p : Fin 2) (f : FloeFrame) (x : FloeSignal) (t : Nat)
  /-- QASSIGN (R285): KPF assigns a newcomer a quarantine identifier. -/
  | qassign (p : Fin 2) (uid t : Nat)
  /-- CERT_REQ (R288): KPF asks a stranger for its certificate. -/
  | certReq (p : Fin 2) (id t : Nat)
  /-- CERT (R290): A stranger delivers its certificate, which KPF checks. -/
  | cert (p : Fin 2) (f : FloeFrame) (x : FloeSignal) (t : Nat)
  /-- CHALLENGE (R288): KPF sends NONCE_C and its ephemeral public key. -/
  | challenge (p : Fin 2) (id t : Nat)
  /-- RESPONSE (R290): A stranger returns NONCE_M and CONF_M, which KPF checks. -/
  | response (p : Fin 2) (f : FloeFrame) (x : FloeSignal) (t : Nat)
  /-- ADMIT (R290): KPF admits a stranger with a new identifier and key entry. -/
  | moduleAdmit (p : Fin 2) (id t : Nat)
  /-- REJECT (R290): KPF rejects a stranger with a reason. -/
  | reject (p : Fin 2) (id t : Nat)
  /-- READ (R291): KPF reads a module object. -/
  | read (p : Fin 2) (id obj t : Nat)
  /-- WRITE (R291): KPF writes a module object. -/
  | write (p : Fin 2) (id obj : Nat) (value : List Byte) (t : Nat)
  /-- PING (R291): KPF pings every admitted module each second and removes one after three missed PONGs. -/
  | ping (p : Fin 2) (id t : Nat)
  /-- READ_RESP (R291): A module returns an object value. -/
  | readResp (p : Fin 2) (f : FloeFrame) (x : FloeSignal) (t : Nat)
  /-- WRITE_ACK (R291): A module reports the outcome of a write. -/
  | writeAck (p : Fin 2) (f : FloeFrame) (x : FloeSignal) (t : Nat)
  /-- PONG (R291): A module answers a PING; the first accepted PONG completes admission. -/
  | pong (p : Fin 2) (f : FloeFrame) (x : FloeSignal) (t : Nat)
  /-- NOTIFY (R291): A module sends an unsolicited object value. -/
  | notify (p : Fin 2) (f : FloeFrame) (x : FloeSignal) (t : Nat)
  /-- ERROR (R291): A module reports an unknown object or a bad value. -/
  | error (p : Fin 2) (f : FloeFrame) (x : FloeSignal) (t : Nat)
  /-- SEC_LCREQ (R297): A keyed request for a life-cycle transition is accepted or refused. -/
  | secLcreq (v : Word) (supply : Nat)
  /-- LIFE_CYCLE_CHANGE (R298): An accepted transition writes its record, burns both fuse halves and performs the life-cycle change reset. -/
  | lifeCycleChange (aOk bOk : Bool) (t : Nat)
  /-- GOFW (R303): SEC_ARBADV.GOFW advances FWARB to its target or is refused. -/
  | gofw (v : Word) (supply : Nat)
  /-- GOHOST (R303): SEC_ARBADV.GOHOST advances HOSTARB to its target or is refused. -/
  | gohost (v : Word) (supply : Nat)
  /-- OEM_PROG (R302): SEC_OEMPROG.PROG programs an OEM key slot hash. -/
  | oemProg (v : Word) (supply : Nat)
  /-- OEM_REVOKE (R302): SEC_OEMPROG.REVOKE revokes an OEM key slot. -/
  | oemRevoke (v : Word) (supply : Nat)
  /-- NEWNONCE (R306): SEC_TOKCTL.NEWNONCE replaces the live nonce from the TRNG. -/
  | newnonce (v : Word)
  /-- SUBMIT (R305): SEC_TOKCTL.SUBMIT starts the token check and consumes the nonce. -/
  | submit (v : Word)
  /-- TOKEN_CHECK_DONE (R305): The token check ends with RESULT, and a passing token acts by its KIND. -/
  | tokenCheckDone (supply t : Nat)
  /-- DEBUG_PORT_TOKEN (R317): A token submitted from the debug port's own register goes to the sequencer. -/
  | debugPortToken (tok : List Byte) (t : Nat)
  /-- HASH256 (R308): The crypto engine hashes input with SHA-256 between FIRST and LAST. -/
  | hash256 (v : Word)
  /-- HASH384 (R308): The crypto engine hashes input with SHA-384 between FIRST and LAST. -/
  | hash384 (v : Word)
  /-- GCM (R308): The crypto engine encrypts or decrypts with AES-256 GCM. -/
  | gcm (v : Word)
  /-- CMAC (R308): The crypto engine computes an AES-256 CMAC. -/
  | cmac (v : Word)
  /-- VERIFY256 (R308): The crypto engine verifies a P-256 signature. -/
  | verify256 (v : Word)
  /-- VERIFY384 (R308): The crypto engine verifies a P-384 signature. -/
  | verify384 (v : Word)
  /-- SIGN256 (R308): The crypto engine signs a digest with a P-256 slot key. -/
  | sign256 (v : Word)
  /-- SIGN384 (R308): The crypto engine signs a digest with a P-384 slot key. -/
  | sign384 (v : Word)
  /-- ECDH256 (R308): The crypto engine computes a P-256 shared secret. -/
  | ecdh256 (v : Word)
  /-- GENERATE (R308): The crypto engine generates a new key into a slot. -/
  | generate (v : Word)
  /-- DERIVE (R309): The key unit derives a key from the device secret into a slot. -/
  | derive (v : Word)
  /-- LOAD (R308): The crypto engine loads a key into a slot. -/
  | load (v : Word)
  /-- CRYPTO_ATTEST (R322): The crypto engine builds the attestation report and signs it with IK. -/
  | cryptoAttest (v : Word)
  /-- RANDOM (R308): The crypto engine writes DLEN bytes from the TRNG. -/
  | random (v : Word)
  /-- COMMAND_DONE (R307): A crypto command finishes, writes RESULT and sets CMDDONE. -/
  | commandDone (t : Nat)
  /-- KSLOT_CLR (R309): SEC_KSLOTk.CLR clears a key slot other than slot 15. -/
  | kslotClr (k : Fin 16) (v : Word)
  /-- TRNG_FAIL (R311): A TRNG health test fails and sets FAIL and TRNGFAIL. -/
  | trngFail (t : Nat)
  /-- TRNG_RECOVER (R311): The health tests pass for 1,024 samples and the TRNG delivers again. -/
  | trngRecover (t : Nat)
  /-- SEC_TRNG_READ (R311): A read of SEC_TRNG takes 32 random bits. -/
  | secTrngRead
  /-- IK_READY (R310): The key unit finishes computing IK and SEC_IKPUB and sets IKRDY. -/
  | ikReady (t : Nat)
  /-- UCODE_LOCK (R316): SEC_LOCK.UCODE locks the decode table and microcode RAM. -/
  | ucodeLock (v : Word)
  /-- BOOT_SLOT_START (R315): The boot ROM selects, verifies and starts a slot, writing the boot-control record. -/
  | bootSlotStart (t : Nat)
  /-- FGD_START (R338): FGD_CTRL.START begins discovery, manifest checks and streaming, or is refused. -/
  | fgdStart (v : Word) (dev0 dev1 : Sfdp)
  /-- VERIFICATION_DONE (R338): Streaming ends with the verdict PASS, RECOVERED or FAIL. -/
  | verificationDone (t : Nat)
  /-- RSMEN (R339): A write of FGD_CTRL.RSMEN releases or holds HOST_RSMRST_N according to the verdict. -/
  | rsmen (v : Word)
  /-- FGD_PLOCK (R329): FGD_CTRL.PLOCK locks the SPI configuration, manifest offsets and policy map. -/
  | fgdPlock (v : Word)
  /-- FLASH_READ (R332): FGD_FREQ queues a read. -/
  | flashRead (v : Word)
  /-- FLASH_WRITE (R332): FGD_FREQ queues a page-split write. -/
  | flashWrite (v : Word)
  /-- FLASH_ERASE (R332): FGD_FREQ queues a 4 KiB sector erase. -/
  | flashErase (v : Word)
  /-- FLASH_OPERATION_DONE (R332): A flash device operation completes; R330 marks copies DIRTY. -/
  | flashOperationDone (t : Nat)
  /-- DEVICE_TIMEOUT (R332): A flash device operation times out; it counts DEVERR and writes a Moraine record. -/
  | deviceTimeout (t : Nat)
  /-- FGD_CNT_READ (R332): A read returns the DENIED and DEVERR counters and clears them. -/
  | fgdCntRead
  /-- PROMO_GO (R342): FGD_PROMO.GO starts a promotion check of the spare manifest. -/
  | promoGo (v : Word)
  /-- PROMO_CANCEL (R344): FGD_PROMO.CANCEL returns PROMO to NONE. -/
  | promoCancel (v : Word)
  /-- PROMOTION_VERIFIED (R342): The promotion check ends PENDING or FAILED. -/
  | promotionVerified (t : Nat)
  /-- NVC_PROGRAM (R348): NVC programs Firn words from main SRAM, or refuses. -/
  | nvcProgram (v : Word)
  /-- NVC_ERASE (R349): NVC erases a Firn sector, or refuses. -/
  | nvcErase (v : Word)
  /-- NVC_READ (R350): NVC copies Firn words to main SRAM by checked read. -/
  | nvcRead (v : Word)
  /-- NVC_DONE (R350): An NVC command finishes with RESULT and sets DONE. -/
  | nvcDone (bad : Option Nat) (t : Nat)
  /-- CONF_ARM (R363): NVC_CONFCTL.ARM arms the 120 s confirmation window. -/
  | confArm (v : Word)
  /-- NVC_CONFIRM (R363): CONFIRM with KEY 0xC5 disarms the confirmation window. -/
  | nvcConfirm (v : Word)
  /-- CONFIRMATION_EXPIRY (R363): The confirmation window expires and a core reset with cause CONFEXP follows. -/
  | confirmationExpiry (t : Nat)
  /-- PIECE_DELIVERED (R358): KPF checks a delivered package piece and stores it. -/
  | pieceDelivered (t : Nat)
  /-- SESSION_IDLE_EXPIRY (R357): An open session ends after 72 h without a new piece. -/
  | sessionIdleExpiry (t : Nat)
  /-- AUTO_CONFIRM (R363): KPF confirms a trial slot after 10 s with FWREADY set and no watchdog first stage. -/
  | autoConfirm (t : Nat)
  /-- LOG_COMMIT (R373): LOG_WCOMMIT.GO enters a firmware record into the front end, or refuses it with DROPCORE. -/
  | logCommit (v : Word)
  /-- RECORD_WRITTEN (R374): The LOG block writes a front-end record into the ring at HEAD and erases ahead. -/
  | recordWritten (t : Nat)
  /-- LOG_FLUSH (R375): LOG_CTRL.FLUSH reads 1 until the front end is empty. -/
  | logFlush (v : Word)
  /-- LOG_CNT_READ (R373): A read returns DROPCORE and DROPHW and clears them. -/
  | logCntRead
  /-- ERR_ECCCNT_READ (R11): A read returns the Firn ECC counters and clears them. -/
  | errEcccntRead
  /-- SMART_BATTERY_POLL (R189): Every 2 s KPF reads the Smart Battery pack and sets ICHG and VREG. -/
  | smartBatteryPoll (r : Option PackReading) (t : Nat)
  /-- GAUGE_CHECK (R190): Every 10 minutes KPF compares the pack gauge with QACC. -/
  | gaugeCheck (t : Nat)
  /-- POLICY_RESTORE (R390): With no stall for 10 s KPF restores the profile and ICHG. -/
  | policyRestore (t : Nat)
  /-- GET_IDENTITY (R385): Returns the identity of the controller and firmware. -/
  | getIdentity (tag : Fin 8)
  /-- GET_CAPS (R385): Returns the command bitmap of a group. -/
  | getCaps (tag : Fin 8)
  /-- GET_EVENTS (R385): Returns queued event records. -/
  | getEvents (tag : Fin 8)
  /-- SEAL (R385): Seals the host. -/
  | sealHost (tag : Fin 8)
  /-- GET_TIME (R385): Returns TBASE and RESTARTS. -/
  | getTime (tag : Fin 8)
  /-- RESTART_FW (R385): Hands over to the running slot. -/
  | restartFw (tag : Fin 8)
  /-- GET_POWER_STATE (R386): Returns the rail target set and fault state. -/
  | getPowerState (tag : Fin 8)
  /-- GET_RAIL (R386): Returns one rail channel's state. -/
  | getRail (tag : Fin 8)
  /-- CLEAR_RAIL_FAULT (R386): Writes RAIL_CLR for one or all channels. -/
  | clearRailFault (tag : Fin 8)
  /-- RESUME_DECODER (R386): Clears FLTHOLD unless an FLTSET channel is in FAULT. -/
  | resumeDecoder (tag : Fin 8)
  /-- SET_WAKE (R386): Sets the wake enables and the alarm. -/
  | setWake (tag : Fin 8)
  /-- ENTER_SHIP (R386): After DELAY requests ship mode. -/
  | enterShip (tag : Fin 8)
  /-- GET_BATTERY (R387): Returns the battery data. -/
  | getBattery (tag : Fin 8)
  /-- GET_CHARGER (R387): Returns the charger state. -/
  | getCharger (tag : Fin 8)
  /-- GET_PACKS (R387): Returns the Floe battery modules. -/
  | getPacks (tag : Fin 8)
  /-- CLEAR_CHARGE_FAULT (R387): Writes FLTCLR. -/
  | clearChargeFault (tag : Fin 8)
  /-- SET_CHARGE_LIMITS (R387): Sets ICHG, VREG and EN, optionally persisting them. -/
  | setChargeLimits (tag : Fin 8)
  /-- GET_PORT (R388): Returns a port's PD and tracker state. -/
  | getPort (tag : Fin 8)
  /-- GET_SOURCE_CAPS (R388): Returns the last source PDOs. -/
  | getSourceCaps (tag : Fin 8)
  /-- REQUEST_PDO (R388): Writes PD_REQ and completes on contract, REQREJ or timeout. -/
  | requestPdo (tag : Fin 8)
  /-- SEND_VDM (R388): Sends a VDM. -/
  | sendVdm (tag : Fin 8) (acked : Bool)
  /-- GET_VDM (R388): Returns a received VDM. -/
  | getVdm (tag : Fin 8)
  /-- SET_PORT_POLICY (R388): Sets a port's role, PD and tracker policy. -/
  | setPortPolicy (tag : Fin 8)
  /-- SET_REVERSE (R388): Sets the reverse-supply parameters. -/
  | setReverse (tag : Fin 8)
  /-- GET_THERMAL (R389): Returns the thermal inputs and levels. -/
  | getThermal (tag : Fin 8)
  /-- GET_FANS (R389): Returns the fan channels. -/
  | getFans (tag : Fin 8)
  /-- SET_FAN (R389): Sets a fan's mode and value. -/
  | setFan (tag : Fin 8)
  /-- CLEAR_STALL (R389): Clears a fan stall. -/
  | clearStall (tag : Fin 8)
  /-- SET_PROFILE (R389): Loads a fan profile's curves. -/
  | setProfile (tag : Fin 8)
  /-- GET_KBD_CONFIG (R391): Returns the keyboard configuration. -/
  | getKbdConfig (tag : Fin 8)
  /-- SET_STUCK (R391): Sets STUCKTO and the exempt keys. -/
  | setStuck (tag : Fin 8)
  /-- LOCK (R391): Locks the keyboard. -/
  | lock (tag : Fin 8)
  /-- UNLOCK_SIGNED (R391): Submits a KEYUNLOCK token and unlocks the keyboard on success. -/
  | unlockSigned (tag : Fin 8)
  /-- SET_UNLOCK_SEQ (R391): Sets the unlock sequence. -/
  | setUnlockSeq (tag : Fin 8)
  /-- GET_LIGHTING (R392): Returns the lighting status. -/
  | getLighting (tag : Fin 8)
  /-- SET_LIGHTING (R392): Sets the engine controls. -/
  | setLighting (tag : Fin 8)
  /-- SET_LAMP_REGION (R392): Sets a lamp region. -/
  | setLampRegion (tag : Fin 8)
  /-- SET_CCM (R392): Sets a colour matrix. -/
  | setCcm (tag : Fin 8)
  /-- SET_CHAIN_DRIVER (R392): Sets a chain driver's registers. -/
  | setChainDriver (tag : Fin 8)
  /-- CHAIN_COMMIT (R392): Writes COMMIT and completes when the new epoch syncs. -/
  | chainCommit (tag : Fin 8)
  /-- GET_CHAIN (R392): Returns the chain drivers' status. -/
  | getChain (tag : Fin 8)
  /-- GET_DIAG (R392): Returns on-chip diagnosis states. -/
  | getDiag (tag : Fin 8)
  /-- CLEAR_DIAG (R392): Clears diagnosis states. -/
  | clearDiag (tag : Fin 8)
  /-- GET_MODULES (R393): Returns the Floe module list. -/
  | getModules (tag : Fin 8)
  /-- MODULE_READ (R393): Reads a module object. -/
  | moduleRead (tag : Fin 8)
  /-- MODULE_WRITE (R393): Writes a module object. -/
  | moduleWrite (tag : Fin 8)
  /-- REDISCOVER (R393): Sends DISCOVER with RESTART on a port. -/
  | rediscover (tag : Fin 8)
  /-- GET_NONCE (R394): Writes NEWNONCE and returns the nonce. -/
  | getNonce (tag : Fin 8)
  /-- SUBMIT_TOKEN (R394): Submits a token. -/
  | submitToken (tag : Fin 8)
  /-- ATTEST (R394): Builds an attestation report. -/
  | attest (tag : Fin 8)
  /-- GET_REPORT (R394): Returns a piece of the report. -/
  | getReport (tag : Fin 8)
  /-- GET_IDENTITY_KEY (R394): Returns DEVID and IKPUB. -/
  | getIdentityKey (tag : Fin 8)
  /-- GET_LIFE_CYCLE (R394): Returns the life-cycle and fuse state. -/
  | getLifeCycle (tag : Fin 8)
  /-- GET_FLASH_STATUS (R395): Returns the Serac status and regions. -/
  | getFlashStatus (tag : Fin 8)
  /-- PROMOTE (R395): Writes FGD_PROMO.GO and completes on PENDING or FAILED. -/
  | promote (tag : Fin 8)
  /-- CANCEL_PROMOTE (R395): Cancels a promotion. -/
  | cancelPromote (tag : Fin 8)
  /-- CONFIRM_BOOT (R395): Advances HOSTARB under R345. -/
  | confirmBoot (tag : Fin 8)
  /-- GET_DIGEST (R395): Returns a region digest. -/
  | getDigest (tag : Fin 8)
  /-- OPEN (R396): Opens or joins an update session. -/
  | sessionOpen (tag : Fin 8)
  /-- PIECE (R396): Carries a chunk of a package piece. -/
  | piece (tag : Fin 8)
  /-- STATUS (R396): Returns the session status. -/
  | status (tag : Fin 8)
  /-- ACTIVATE (R396): Activates an APPLIED package. -/
  | activate (tag : Fin 8)
  /-- CANCEL (R396): Cancels the session. -/
  | cancel (tag : Fin 8)
  /-- CONFIRM (R396): Confirms a trial slot. -/
  | confirm (tag : Fin 8)
  /-- GET_LOG_INFO (R397): Returns HEAD and the drop counts. -/
  | getLogInfo (tag : Fin 8)
  /-- READ_LOG (R397): Returns log records. -/
  | readLog (tag : Fin 8)
  /-- WRITE_LOG (R397): Commits a host log record. -/
  | writeLog (tag : Fin 8)
  /-- GET_SETTING (R398): Returns a setting. -/
  | getSetting (tag : Fin 8)
  /-- SET_SETTING (R398): Writes a setting. -/
  | setSetting (tag : Fin 8)
  /-- DELETE_SETTING (R398): Deletes a setting. -/
  | deleteSetting (tag : Fin 8)
  /-- ADD (R415): Dd = Ds + Dt with V on overflow. -/
  | add (p : Pred) (d s t : RegNo)
  /-- SUB (R415): Dd = Ds − Dt with V on overflow. -/
  | sub (p : Pred) (d s t : RegNo)
  /-- AND (R415): Bitwise AND. -/
  | and (p : Pred) (d s t : RegNo)
  /-- OR (R415): Bitwise OR. -/
  | or (p : Pred) (d s t : RegNo)
  /-- XOR (R415): Bitwise XOR. -/
  | xor (p : Pred) (d s t : RegNo)
  /-- ANDN (R415): Ds AND NOT Dt. -/
  | andn (p : Pred) (d s t : RegNo)
  /-- SHL (R415): Shift left by Dt[7:0]. -/
  | shl (p : Pred) (d s t : RegNo)
  /-- SHR (R415): Logical shift right by Dt[7:0]. -/
  | shr (p : Pred) (d s t : RegNo)
  /-- SAR (R415): Arithmetic shift right by Dt[7:0]. -/
  | sar (p : Pred) (d s t : RegNo)
  /-- ROL (R415): Rotate left by Dt[4:0]. -/
  | rol (p : Pred) (d s t : RegNo)
  /-- ROR (R415): Rotate right by Dt[4:0]. -/
  | ror (p : Pred) (d s t : RegNo)
  /-- MUL (R415): Low 32 bits of the product. -/
  | mul (p : Pred) (d s t : RegNo)
  /-- MULHS (R415): High 32 bits of the signed product. -/
  | mulhs (p : Pred) (d s t : RegNo)
  /-- MULHU (R415): High 32 bits of the unsigned product. -/
  | mulhu (p : Pred) (d s t : RegNo)
  /-- DIVS (R415): Signed division truncated towards zero. -/
  | divs (p : Pred) (d s t : RegNo)
  /-- DIVU (R415): Unsigned division. -/
  | divu (p : Pred) (d s t : RegNo)
  /-- REMS (R415): Signed remainder. -/
  | rems (p : Pred) (d s t : RegNo)
  /-- REMU (R415): Unsigned remainder. -/
  | remu (p : Pred) (d s t : RegNo)
  /-- MIN (R415): Signed minimum. -/
  | min (p : Pred) (d s t : RegNo)
  /-- MAX (R415): Signed maximum. -/
  | max (p : Pred) (d s t : RegNo)
  /-- MINU (R415): Unsigned minimum. -/
  | minu (p : Pred) (d s t : RegNo)
  /-- MAXU (R415): Unsigned maximum. -/
  | maxu (p : Pred) (d s t : RegNo)
  /-- ADDC (R415): Add with carry out to Pc. -/
  | addc (p : Pred) (d s t : RegNo) (c : PredNo)
  /-- ADDX (R415): Add with carry in and out. -/
  | addx (p : Pred) (d s t : RegNo) (c : PredNo)
  /-- SUBC (R415): Subtract with borrow out to Pc. -/
  | subc (p : Pred) (d s t : RegNo) (c : PredNo)
  /-- SUBX (R415): Subtract with borrow in and out. -/
  | subx (p : Pred) (d s t : RegNo) (c : PredNo)
  /-- NEG (R415): Negate. -/
  | neg (p : Pred) (d s : RegNo)
  /-- NOT (R415): Bitwise NOT. -/
  | not (p : Pred) (d s : RegNo)
  /-- ABS (R415): Absolute value. -/
  | abs (p : Pred) (d s : RegNo)
  /-- CLZ (R415): Count leading zeros. -/
  | clz (p : Pred) (d s : RegNo)
  /-- SEXTB (R415): Sign-extend a byte. -/
  | sextb (p : Pred) (d s : RegNo)
  /-- SEXTH (R415): Sign-extend a half-word. -/
  | sexth (p : Pred) (d s : RegNo)
  /-- ZEXTB (R415): Zero-extend a byte. -/
  | zextb (p : Pred) (d s : RegNo)
  /-- ZEXTH (R415): Zero-extend a half-word. -/
  | zexth (p : Pred) (d s : RegNo)
  /-- BSWAP (R415): Reverse the bytes. -/
  | bswap (p : Pred) (d s : RegNo)
  /-- MOV (R415): Dd = Ds. -/
  | mov (p : Pred) (d s : RegNo)
  /-- SEL (R415): Select Ds or Dt by Pc. -/
  | sel (p : Pred) (d s t : RegNo) (c : PredNo)
  /-- ADDI (R416): Add an immediate. -/
  | addi (p : Pred) (d s : RegNo) (imm : BitVec 14)
  /-- ANDI (R416): AND with an immediate. -/
  | andi (p : Pred) (d s : RegNo) (imm : BitVec 14)
  /-- ORI (R416): OR with an immediate. -/
  | ori (p : Pred) (d s : RegNo) (imm : BitVec 14)
  /-- XORI (R416): XOR with an immediate. -/
  | xori (p : Pred) (d s : RegNo) (imm : BitVec 14)
  /-- SHI (R416): Shift or rotate by an immediate of the selected kind. -/
  | shi (p : Pred) (d s : RegNo) (kind : Fin 8) (amt : Fin 32)
  /-- MOVI (R416): Load a sign-extended immediate. -/
  | movi (p : Pred) (d : RegNo) (imm : BitVec 16)
  /-- MOVHI (R416): Set the upper half of Dd. -/
  | movhi (p : Pred) (d : RegNo) (imm : BitVec 16)
  /-- MULI (R416): Multiply by an immediate. -/
  | muli (p : Pred) (d s : RegNo) (imm : BitVec 14)
  /-- ADDA (R417): Ad = As + immediate. -/
  | adda (p : Pred) (a s : RegNo) (imm : BitVec 14)
  /-- MOVA (R417): Ad = As. -/
  | mova (p : Pred) (d s : RegNo)
  /-- ADDAD (R417): Ad = As + Dt. -/
  | addad (p : Pred) (d s t : RegNo)
  /-- SUBAD (R417): Ad = As − Dt. -/
  | subad (p : Pred) (d s t : RegNo)
  /-- ADDAW (R417): Ad = As + 4 × Dt. -/
  | addaw (p : Pred) (d s t : RegNo)
  /-- ADDAH (R417): Ad = As + 2 × Dt. -/
  | addah (p : Pred) (d s t : RegNo)
  /-- MOVAD (R417): Ad = Ds. -/
  | movad (p : Pred) (d s : RegNo)
  /-- MOVDA (R417): Dd = As. -/
  | movda (p : Pred) (d s : RegNo)
  /-- SUBAA (R417): Dd = As − At. -/
  | subaa (p : Pred) (d s t : RegNo)
  /-- MOVIA (R417): Ad = IMM16 << 16. -/
  | movia (p : Pred) (a : RegNo) (imm : BitVec 16)
  /-- MOVLA (R417): Set the low half of Ad. -/
  | movla (p : Pred) (a : RegNo) (imm : BitVec 16)
  /-- LDW (R418): Load a word with load delay. -/
  | ldw (p : Pred) (t a : RegNo) (disp : BitVec 14)
  /-- LDH (R418): Load a sign-extended half-word. -/
  | ldh (p : Pred) (t a : RegNo) (disp : BitVec 14)
  /-- LDHU (R418): Load a zero-extended half-word. -/
  | ldhu (p : Pred) (t a : RegNo) (disp : BitVec 14)
  /-- LDB (R418): Load a sign-extended byte. -/
  | ldb (p : Pred) (t a : RegNo) (disp : BitVec 14)
  /-- LDBU (R418): Load a zero-extended byte. -/
  | ldbu (p : Pred) (t a : RegNo) (disp : BitVec 14)
  /-- STW (R418): Store a word. -/
  | stw (p : Pred) (t a : RegNo) (disp : BitVec 14)
  /-- STH (R418): Store a half-word. -/
  | sth (p : Pred) (t a : RegNo) (disp : BitVec 14)
  /-- STB (R418): Store a byte. -/
  | stb (p : Pred) (t a : RegNo) (disp : BitVec 14)
  /-- LDA (R418): Load an address register. -/
  | lda (p : Pred) (t a : RegNo) (disp : BitVec 14)
  /-- STA (R418): Store an address register. -/
  | sta (p : Pred) (t a : RegNo) (disp : BitVec 14)
  /-- LDD (R418): Load from a direct address. -/
  | ldd (p : Pred) (t : RegNo) (bank byte : Bool) (off : BitVec 16)
  /-- STD (R418): Store to a direct address. -/
  | std (p : Pred) (t : RegNo) (bank byte : Bool) (off : BitVec 16)
  /-- LDWP (R418): Load a word and post-increment the base. -/
  | ldwp (p : Pred) (t a : RegNo) (disp : BitVec 14)
  /-- STWP (R418): Store a word and post-increment the base. -/
  | stwp (p : Pred) (t a : RegNo) (disp : BitVec 14)
  /-- PUSH (R412): Decrement A7 and store a register. -/
  | push (p : Pred) (t : RegNo) (isA : Bool)
  /-- POP (R412): Load from A7 and increment it. -/
  | pop (p : Pred) (t : RegNo) (isA : Bool)
  /-- MACS (R419): Signed multiply-accumulate into Q. -/
  | macs (p : Pred) (q : Fin 2) (s t : RegNo)
  /-- MACU (R419): Unsigned multiply-accumulate into Q. -/
  | macu (p : Pred) (q : Fin 2) (s t : RegNo)
  /-- MSBS (R419): Signed multiply-subtract from Q. -/
  | msbs (p : Pred) (q : Fin 2) (s t : RegNo)
  /-- MULQ (R419): Q = Ds × Dt. -/
  | mulq (p : Pred) (q : Fin 2) (s t : RegNo)
  /-- MACSAT (R419): Saturating multiply-accumulate. -/
  | macsat (p : Pred) (q : Fin 2) (s t : RegNo)
  /-- CLRQ (R419): Clear Q. -/
  | clrq (p : Pred) (q : Fin 2)
  /-- RDQL (R419): Read the low half of Q. -/
  | rdql (p : Pred) (q : Fin 2) (d : RegNo)
  /-- RDQH (R419): Read the high half of Q. -/
  | rdqh (p : Pred) (q : Fin 2) (d : RegNo)
  /-- RDQS (R419): Read Q shifted and saturated. -/
  | rdqs (p : Pred) (q : Fin 2) (d : RegNo) (sh : Fin 64)
  /-- WRQL (R419): Write the low half of Q. -/
  | wrql (p : Pred) (q : Fin 2) (s : RegNo)
  /-- WRQH (R419): Write the high half of Q. -/
  | wrqh (p : Pred) (q : Fin 2) (s : RegNo)
  /-- SHQ (R419): Shift Q right arithmetically. -/
  | shq (p : Pred) (q : Fin 2) (sh : Fin 64)
  /-- CMP (R420): Compare two data registers into a predicate. -/
  | cmp (p : Pred) (d : PredNo) (cond : Fin 16) (s t : RegNo)
  /-- CMPI (R420): Compare with an immediate into a predicate. -/
  | cmpi (p : Pred) (d : PredNo) (cond : Fin 16) (s : RegNo) (imm : BitVec 11)
  /-- CMPA (R420): Compare two address registers into a predicate. -/
  | cmpa (p : Pred) (d : PredNo) (cond : Fin 16) (s t : RegNo)
  /-- PAND (R420): Pd = Pa AND Pb. -/
  | pand (p : Pred) (d a b : PredNo)
  /-- POR (R420): Pd = Pa OR Pb. -/
  | por (p : Pred) (d a b : PredNo)
  /-- PXOR (R420): Pd = Pa XOR Pb. -/
  | pxor (p : Pred) (d a b : PredNo)
  /-- PANDN (R420): Pd = Pa AND NOT Pb. -/
  | pandn (p : Pred) (d a b : PredNo)
  /-- PMOV (R420): Pd = Pa. -/
  | pmov (p : Pred) (d a : PredNo)
  /-- PNOT (R420): Pd = NOT Pa. -/
  | pnot (p : Pred) (d a : PredNo)
  /-- PSET (R420): Pd = 1. -/
  | pset (p : Pred) (d : PredNo)
  /-- PCLR (R420): Pd = 0. -/
  | pclr (p : Pred) (d : PredNo)
  /-- BR (R421): Relative branch. -/
  | br (p : Pred) (disp : BitVec 22)
  /-- CALL (R413): Push the return address and branch. -/
  | call (p : Pred) (disp : BitVec 22)
  /-- JMP (R421): Branch to As. -/
  | jmp (p : Pred) (a : RegNo)
  /-- CALLR (R413): Push the return address and branch to As. -/
  | callr (p : Pred) (a : RegNo)
  /-- RET (R413): Pop the return stack and branch. -/
  | ret (p : Pred)
  /-- DBNZ (R421): Decrement Dc and branch if it is non-zero. -/
  | dbnz (p : Pred) (c : RegNo) (disp : BitVec 18)
  /-- MFC (R422): Read a control register. -/
  | mfc (p : Pred) (t : RegNo) (creg : BitVec 6)
  /-- MTC (R422): Write a control register. -/
  | mtc (p : Pred) (t : RegNo) (creg : BitVec 6)
  /-- NOP (R422): No operation. -/
  | nop (p : Pred)
  /-- TRAP (R435): Raise the TRAP exception with IMM16. -/
  | trap (p : Pred) (imm : BitVec 16)
  /-- RFE (R438): Return from exception, restoring PC and PSR. -/
  | rfe (p : Pred)
  /-- WAIT (R444): Stop issuing until an interrupt or NMI is pending. -/
  | wait (p : Pred)
  /-- FENCE (R432): Wait for posted stores and refetch. -/
  | fence (p : Pred)
  /-- EI (R422): Enable interrupts. -/
  | ei (p : Pred)
  /-- DI (R422): Disable interrupts. -/
  | di (p : Pred)
  /-- BKPT (R435): Breakpoint: halt under a debugger or raise BKPT. -/
  | bkpt (p : Pred) (imm : BitVec 16)
  /-- RSSV (R446): Save return-stack entries to main SRAM. -/
  | rssv (p : Pred) (a : RegNo)
  /-- RSRS (R446): Restore return-stack entries from main SRAM. -/
  | rsrs (p : Pred) (a : RegNo)
  /-- BMOV (R426): Block copy, interruptible between elements. -/
  | bmov (p : Pred) (s d c : RegNo) (sz : Fin 4)
  /-- BFILL (R426): Block fill. -/
  | bfill (p : Pred) (d c v : RegNo) (sz : Fin 4)
  /-- BCMP (R426): Block compare. -/
  | bcmp (p : Pred) (s d c : RegNo) (sz : Fin 4)
  /-- BSCAN (R426): Block scan for a value. -/
  | bscan (p : Pred) (s c v : RegNo) (sz : Fin 4)
  /-- CUSTOM_INSTRUCTION (R454): A microcode sequence runs atomically and commits together. -/
  | customInstruction (p : Pred) (major : Fin 4) (idx d s t : RegNo) (imm : BitVec 6)
  /-- INTERRUPT_ENTRY (R443): A pending enabled line of highest priority is taken at an instruction boundary. -/
  | interruptEntry
  /-- NMI_ENTRY (R445): A pending NMI is taken once NMIACT and ERRACT are clear. -/
  | nmiEntry
  /-- WATCHDOG_STAGE1_EXPIRY (R447): The first watchdog stage expires, raises NMI and starts stage 2. -/
  | watchdogStage1Expiry (t : Nat)
  /-- WATCHDOG_STAGE2_EXPIRY (R447): The second watchdog stage expires and performs a core reset with WDOG2. -/
  | watchdogStage2Expiry (t : Nat)
  /-- TMR_WDKICK (R447): A write of the kick key restarts stage 1; any other value is a bad kick. -/
  | tmrWdkick (v : Word)
  /-- SYS_UCLO (R455): A write of SYS_UCLO commits a decode-table entry, or is ignored with LOCKERR. -/
  | sysUclo (v : Word)
  /-- SYS_UCHI (R455): A write of SYS_UCHI commits a microcode word, or is ignored with LOCKERR. -/
  | sysUchi (v : Word)
  /-- PLL_LOCK_REGAINED (R28): While the clocks run on OSC10 after a loss of lock, the PLL locks again and PLLLOCK is set. -/
  | pllLockRegained (t : Nat)
  /-- CRYSTAL_SOURCE_CHANGE (R26): The external 32.768 kHz crystal starts or stops running, LF passes between crystal and internal RC, and SYS_CLKCFG.XTAL32 changes. -/
  | crystalSourceChange (runs : Bool) (t : Nat)
  /-- HOST_SIGNAL_GPIO (R85): In SPI-target mode a sleep-state or platform-reset signal on its assigned GPIO pin changes and HOST_VWIN follows, with decoding, unsealing and promotion. -/
  | hostSignalGpio (t : Nat) (wire : Fin 10) (asserted : Bool)
  /-- ADDRESSED_REQUEST_RETURNED (R246): In RUN an addressed chain request returns to the engine unanswered on the return pair and the chain goes back to ENUM at the end of the frame cycle. -/
  | addressedRequestReturned (t : Nat)
  /-- DEBUG_PORT_HALT (R318): The debug port halts, steps or resumes the core, and the watchdog stops or restarts counting while the core is held halted. -/
  | debugPortHalt (op : DebugOp)
  deriving DecidableEq, Repr

end Sys2Proof
end

