-- ==== Sys2Proof/Decode.lean ====
section
/-! DEFINITION. Commands as words: no row of the command table gives bits, so that no word spells a command. -/

namespace Sys2Proof

/-- The command that a word of `nbits` bits spells by the command table: none, since the table gives no row any
bits. DESIGN CHOICE (log 17). -/
def decodeTableWord (_nbits _w : Nat) : Option Instr := none

end Sys2Proof
end

