-- ==== Sys2Proof/Config.lean ====
section
/-! DEFINITION. What the spec leaves open, as constants without a body: nothing in Lean can evaluate them or
prove a value of them, so a theorem holds whatever they are. Each is named in a row of the assumption log. -/

namespace Sys2Proof.Config

/-- The free values: `freeNat n` is the n-th value the spec leaves open in a run. The state's counter
`free` says which is drawn next; every use of one advances it. DESIGN CHOICE (log 8). -/
opaque freeNat : Nat → Nat

/-- The bytes of the boot ROM, whose contents the spec does not give. DESIGN CHOICE (log 27). -/
opaque bootRomByte : Nat → Byte

/-- DEVSECRET, the fused device secret that only the key unit reads (R301). DESIGN CHOICE (log 13). -/
opaque deviceSecret : BitVec 256

/-- DEVID as fused at manufacture (R301): the identifier of the part that comes out of reset.
DESIGN CHOICE (log 13). -/
opaque deviceId : BitVec 64

/-- The fan curves that KPF makes of setting 0x0040, whose format the spec does not give: the word of FAN_CPTn_p by
profile, channel and point. DESIGN CHOICE (log 56). -/
opaque fanCurve : List Byte → Nat → Nat → Nat → Nat

/-- What KPF makes of the thermal tables and thresholds in setting 0x0030: the value of a register field by its
cell. DESIGN CHOICE (log 56). -/
opaque thermalTable : List Byte → Nat → Nat

/-- What KPF reports for two battery modules in parallel, by quantity and the modules' values.
DESIGN CHOICE (log 46). -/
opaque combined : Nat → List Nat → Nat

/-- What KPF estimates with no full charge to reckon from, by quantity and QACC. DESIGN CHOICE (log 46). -/
opaque estimate : Nat → Int → Nat

/-- The temperature band that KPF takes a battery module's reported temperature for. DESIGN CHOICE (log 47). -/
opaque packBand : Nat → Nat

/-- The kind bytes of KPF's events 0x0050 and 0x0070. DESIGN CHOICE (log 87). -/
opaque eventKind : Nat → Nat

/-- SOURCE, SEV and CODE of the Moraine records that KPF writes on its own account. DESIGN CHOICE (log 87). -/
opaque recordField : Nat → Nat → Nat

/-- The module root keys that the firmware image carries (R287): X and Y, 64 bytes in big-endian order, by VERSION and
index. DESIGN CHOICE (log 60). -/
opaque rootKey : Nat → Nat → Option (BitVec 512)

/-- The format in which KPF of a VERSION keeps a key of its own, less one (R369): the spec names it for key 0x0213
alone. A free value: DESIGN CHOICE (log 113). -/
opaque settingFmt : Nat → Nat → Nat

/-- KPF of a VERSION can read a key of its own in an older format (R369). A free value: DESIGN CHOICE (log 113). -/
opaque settingRead : Nat → Nat → Nat → Bool

/-- A key's value as KPF of a VERSION converts it from one format to another (R369). A free value:
DESIGN CHOICE (log 113). -/
opaque settingConvert : Nat → Nat → Nat → Nat → List Byte → List Byte

/-- Idle symbols on the Rime chain beyond the least number, before packet `n` sent since a given free value was drawn:
R241 gives a least number alone. DESIGN CHOICE (log 119). -/
opaque idleGroups : Nat → Nat → Nat

end Sys2Proof.Config
end

