-- ==== Sys2Proof/Machine/Sparse.lean ====
section
/-! DEFINITION. Sparse tables: lists of (key, value) pairs with strictly rising keys and no entry equal to
what an unlisted key reads as. The field store, the memories and every indexed hidden state are
such tables, so that equal contents are equal data. -/

namespace Sys2Proof.Machine.Sparse

variable {α : Type}

/-- The value at key `k`; `d` where the table lists none. -/
def get (d : α) (k : Nat) : List (Nat × α) → α
  | [] => d
  | (j, v) :: rest => if j = k then v else get d k rest

/-- The table without key `k`. -/
def erase (k : Nat) : List (Nat × α) → List (Nat × α)
  | [] => []
  | (j, v) :: rest => if j = k then erase k rest else (j, v) :: erase k rest

/-- Put an entry before the first larger key. -/
def insert (k : Nat) (v : α) : List (Nat × α) → List (Nat × α)
  | [] => [(k, v)]
  | (j, w) :: rest => if k < j then (k, v) :: (j, w) :: rest else (j, w) :: insert k v rest

/-- Write `v` at key `k`; writing what an unlisted key reads as removes the entry. -/
def put [DecidableEq α] (d : α) (k : Nat) (v : α) (l : List (Nat × α)) : List (Nat × α) :=
  if v = d then erase k l else insert k v (erase k l)

/-- Drop every key from `lo` up to but not including `hi`. -/
def clearRange (lo hi : Nat) : List (Nat × α) → List (Nat × α)
  | [] => []
  | (j, v) :: rest =>
    if lo ≤ j ∧ j < hi then clearRange lo hi rest else (j, v) :: clearRange lo hi rest

/-- Write the values `vs` at consecutive keys from `k`. -/
def putMany [DecidableEq α] (d : α) (k : Nat) : List α → List (Nat × α) → List (Nat × α)
  | [], l => l
  | v :: vs, l => putMany d (k + 1) vs (put d k v l)

/-- The values at `n` consecutive keys from `k`. -/
def getMany (d : α) (k : Nat) (l : List (Nat × α)) : Nat → List α
  | 0 => []
  | n + 1 => get d k l :: getMany d (k + 1) l n

/-- Merge two tables with rising keys; the first prevails at a common key (fuel: the sum of the lengths). -/
def merge : Nat → List (Nat × α) → List (Nat × α) → List (Nat × α)
  | 0, a, _ => a
  | _ + 1, [], b => b
  | _ + 1, a, [] => a
  | n + 1, (j, v) :: a, (k, w) :: b =>
    if j < k then (j, v) :: merge n a ((k, w) :: b)
    else if k < j then (k, w) :: merge n ((j, v) :: a) b
    else (j, v) :: merge n a b

/-- Keys strictly rise. -/
def sorted : List (Nat × α) → Bool
  | [] => true
  | [_] => true
  | (j, _) :: (k, w) :: rest => j < k && sorted ((k, w) :: rest)

/-- The canonical form: rising keys, and no entry equal to what an unlisted key reads as. -/
def wf [DecidableEq α] (d : α) (l : List (Nat × α)) : Bool :=
  sorted l && l.all (fun p => p.2 != d)

end Sys2Proof.Machine.Sparse
end

