-- ==== Sys2Proof/Machine/Regs.lean ====
section
/-! DEFINITION. The names of the register fields: one `Field` (address, lowest bit, width) for every
field of every register map of the spec, under the map's own register and field names.  A register
that the spec indexes is a function of its index (or indices), in the order the spec's name gives
them.  The host-window registers stand at `hostWindow` plus their window offset, the eSPI
configuration pair's registers at `configPair` plus their index, and the EC status byte at `ecPort`:
three key ranges of the model beside the core's address space, where those registers have no address. -/

namespace Sys2Proof.Machine

/-- One register field: the address of its register, its lowest bit and its width. -/
structure Field where
  addr : Nat
  lo : Nat
  width : Nat
  deriving DecidableEq, Repr

/-- The cell of a field in the field store: 32 cells a register, one per lowest bit. -/
def Field.key (f : Field) : Nat := f.addr * 32 + f.lo

/-- Where the model keeps the host-window registers (window offset added). -/
def hostWindow : Nat := 0x100000000
/-- Where the model keeps the configuration pair's registers (index added). -/
def configPair : Nat := 0x100010000
/-- Where the model keeps the EC status byte. -/
def ecPort : Nat := 0x100020000

namespace Reg


/-! ### 01_architecture -/
def SYS_ID.PART : Field := ⟨0x40000000, 16, 16⟩
def SYS_ID.STEP : Field := ⟨0x40000000, 8, 8⟩
def SYS_DOMCTRL.LUXEN : Field := ⟨0x40000010, 0, 1⟩
def SYS_DOMCTRL.LUXRDY : Field := ⟨0x40000010, 1, 1⟩
def SYS_DOMCTRL.HOSTPWR : Field := ⟨0x40000010, 2, 1⟩
def SYS_DOMCTRL.COREOFF : Field := ⟨0x40000010, 8, 1⟩
def SYS_DOMCTRL.SHIP : Field := ⟨0x40000010, 9, 1⟩
def SYS_DOMCTRL.REFUSED : Field := ⟨0x40000010, 16, 1⟩
def SYS_DOMCTRL.KEY : Field := ⟨0x40000010, 24, 8⟩
def SYS_RSTREQ.CORE : Field := ⟨0x40000014, 0, 1⟩
def SYS_RSTREQ.DOMAIN : Field := ⟨0x40000014, 1, 1⟩
def SYS_RSTREQ.COLD : Field := ⟨0x40000014, 2, 1⟩
def SYS_RSTREQ.HANDOVER : Field := ⟨0x40000014, 3, 1⟩
def SYS_RSTREQ.KEY : Field := ⟨0x40000014, 24, 8⟩
def SYS_PADHOLD.HOLD : Field := ⟨0x40000018, 0, 1⟩
def SYS_RSTCAUSE.POR : Field := ⟨0x40000020, 0, 1⟩
def SYS_RSTCAUSE.AONBOR : Field := ⟨0x40000020, 1, 1⟩
def SYS_RSTCAUSE.SHIPWAKE : Field := ⟨0x40000020, 2, 1⟩
def SYS_RSTCAUSE.COLDREQ : Field := ⟨0x40000020, 3, 1⟩
def SYS_RSTCAUSE.CORESUP : Field := ⟨0x40000020, 4, 1⟩
def SYS_RSTCAUSE.DOMREQ : Field := ⟨0x40000020, 5, 1⟩
def SYS_RSTCAUSE.LCCHANGE : Field := ⟨0x40000020, 6, 1⟩
def SYS_RSTCAUSE.AONWAKE : Field := ⟨0x40000020, 7, 1⟩
def SYS_RSTCAUSE.COREREQ : Field := ⟨0x40000020, 8, 1⟩
def SYS_RSTCAUSE.HANDOVER : Field := ⟨0x40000020, 9, 1⟩
def SYS_RSTCAUSE.WDOG2 : Field := ⟨0x40000020, 10, 1⟩
def SYS_RSTCAUSE.FATAL : Field := ⟨0x40000020, 11, 1⟩
def SYS_RSTCAUSE.V18FAIL : Field := ⟨0x40000020, 12, 1⟩
def SYS_RSTCAUSE.CONFEXP : Field := ⟨0x40000020, 13, 1⟩
def SYS_CLKCFG.CORESEL : Field := ⟨0x40000030, 0, 4⟩
def SYS_CLKCFG.PLLLOCK : Field := ⟨0x40000030, 8, 1⟩
def SYS_CLKCFG.CLKBUSY : Field := ⟨0x40000030, 9, 1⟩
def SYS_CLKCFG.ONOSC10 : Field := ⟨0x40000030, 10, 1⟩
def SYS_CLKCFG.XTAL32 : Field := ⟨0x40000030, 16, 1⟩

/-! ### 04_loop_engine_and_rails -/
def SYS_WAKEEN.INPUT : Field := ⟨0x40000040, 0, 1⟩
def SYS_WAKEEN.BATT : Field := ⟨0x40000040, 1, 1⟩
def SYS_WAKEEN.PWRBTN : Field := ⟨0x40000040, 2, 1⟩
def SYS_WAKEEN.LID : Field := ⟨0x40000040, 3, 1⟩
def SYS_WAKEEN.KEY : Field := ⟨0x40000040, 4, 1⟩
def SYS_WAKEEN.UNLOCK : Field := ⟨0x40000040, 5, 1⟩
def SYS_WAKEEN.MODULE : Field := ⟨0x40000040, 6, 1⟩
def SYS_WAKEEN.ALARM : Field := ⟨0x40000040, 7, 1⟩
def SYS_WAKEEN.HOST : Field := ⟨0x40000040, 8, 1⟩
def SYS_WAKESTAT.INPUT : Field := ⟨0x40000044, 0, 1⟩
def SYS_WAKESTAT.BATT : Field := ⟨0x40000044, 1, 1⟩
def SYS_WAKESTAT.PWRBTN : Field := ⟨0x40000044, 2, 1⟩
def SYS_WAKESTAT.LID : Field := ⟨0x40000044, 3, 1⟩
def SYS_WAKESTAT.KEY : Field := ⟨0x40000044, 4, 1⟩
def SYS_WAKESTAT.UNLOCK : Field := ⟨0x40000044, 5, 1⟩
def SYS_WAKESTAT.MODULE : Field := ⟨0x40000044, 6, 1⟩
def SYS_WAKESTAT.ALARM : Field := ⟨0x40000044, 7, 1⟩
def SYS_WAKESTAT.HOST : Field := ⟨0x40000044, 8, 1⟩
def SYS_WAKEALARMLO.ALARMLO : Field := ⟨0x40000048, 0, 32⟩
def SYS_WAKEALARMHI.ALARMHI : Field := ⟨0x4000004C, 0, 32⟩

/-! ### 16_generdy_exceptions_and_microcode -/
def SYS_UCSEL.INDEX : Field := ⟨0x40000100, 0, 9⟩
def SYS_UCSEL.TABLE : Field := ⟨0x40000100, 9, 1⟩
def SYS_UCSEL.AUTOINC : Field := ⟨0x40000100, 10, 1⟩
def SYS_UCLO.DATA : Field := ⟨0x40000104, 0, 32⟩
def SYS_UCHI.CTL : Field := ⟨0x40000108, 0, 8⟩
def SYS_UCSTAT.LOCKERR : Field := ⟨0x4000010C, 0, 1⟩

/-! ### 04_loop_engine_and_rails -/
def LPE_CTRL.RUN : Field := ⟨0x40010000, 0, 1⟩
def LPE_CTRL.LOCK : Field := ⟨0x40010000, 1, 1⟩
def LPE_CTRL.CATCHUP : Field := ⟨0x40010000, 4, 4⟩
def LPE_STAT.RUNNING : Field := ⟨0x40010004, 0, 1⟩
def LPE_STAT.CFGERR : Field := ⟨0x40010004, 1, 1⟩
def LPE_STAT.LOCKERR : Field := ⟨0x40010004, 2, 1⟩
def LPE_STAT.ANYOVR : Field := ⟨0x40010004, 3, 1⟩
def LPE_STAT.ACTIVE : Field := ⟨0x40010004, 8, 7⟩
def LPE_NOWLO.NOWLO : Field := ⟨0x40010008, 0, 32⟩
def LPE_NOWHI.NOWHI : Field := ⟨0x4001000C, 0, 32⟩
def LPE_EVT.SLOT (h : Nat) : Field := ⟨0x40010010 + 4 * h, 0, 32⟩
def LPE_EVTEN.SLOT (h : Nat) : Field := ⟨0x40010018 + 4 * h, 0, 32⟩
def LPE_OVR.SLOT (h : Nat) : Field := ⟨0x40010020 + 4 * h, 0, 32⟩
def LPE_SCFG.EN (n : Nat) : Field := ⟨0x40011000 + 0x20 * n, 0, 1⟩
def LPE_SCFG.CRIT (n : Nat) : Field := ⟨0x40011000 + 0x20 * n, 1, 1⟩
def LPE_SCFG.EVT (n : Nat) : Field := ⟨0x40011000 + 0x20 * n, 2, 1⟩
def LPE_SCFG.ACTION (n : Nat) : Field := ⟨0x40011000 + 0x20 * n, 4, 3⟩
def LPE_SCFG.ARG (n : Nat) : Field := ⟨0x40011000 + 0x20 * n, 8, 8⟩
def LPE_SPER.PERIOD (n : Nat) : Field := ⟨0x40011004 + 0x20 * n, 0, 24⟩
def LPE_SPH.PHASE (n : Nat) : Field := ⟨0x40011008 + 0x20 * n, 0, 24⟩
def LPE_SMIN.MINPER (n : Nat) : Field := ⟨0x4001100C + 0x20 * n, 0, 24⟩
def LPE_SMAX.MAXLAG (n : Nat) : Field := ⟨0x40011010 + 0x20 * n, 0, 24⟩
def LPE_SBUD.BUDGET (n : Nat) : Field := ⟨0x40011014 + 0x20 * n, 0, 24⟩
def LPE_SLAG.LAG (n : Nat) : Field := ⟨0x40011018 + 0x20 * n, 0, 24⟩
def LPE_SSTAT.OVRCNT (n : Nat) : Field := ⟨0x4001101C + 0x20 * n, 0, 8⟩
def LPE_SSTAT.BUDGETX (n : Nat) : Field := ⟨0x4001101C + 0x20 * n, 8, 8⟩
def LPE_SSTAT.SKIPCNT (n : Nat) : Field := ⟨0x4001101C + 0x20 * n, 16, 8⟩
def LPE_SSTAT.BUSY (n : Nat) : Field := ⟨0x4001101C + 0x20 * n, 24, 1⟩
def LPE_SSTAT.NOBLK (n : Nat) : Field := ⟨0x4001101C + 0x20 * n, 25, 1⟩
def RAIL_CTRL.TSEL : Field := ⟨0x40020000, 0, 3⟩
def RAIL_CTRL.AUTO : Field := ⟨0x40020000, 3, 1⟩
def RAIL_CTRL.FLTSET : Field := ⟨0x40020000, 4, 3⟩
def RAIL_STAT.SETDONE : Field := ⟨0x40020004, 0, 1⟩
def RAIL_STAT.FLTHOLD : Field := ⟨0x40020004, 1, 1⟩
def RAIL_STAT.CYCLE : Field := ⟨0x40020004, 2, 1⟩
def RAIL_STAT.OPENSET : Field := ⟨0x40020004, 3, 1⟩
def RAIL_STAT.CFGERR : Field := ⟨0x40020004, 4, 1⟩
def RAIL_STAT.DECODED : Field := ⟨0x40020004, 5, 3⟩
def RAIL_EVT.FAULT : Field := ⟨0x40020008, 0, 1⟩
def RAIL_EVT.SETDONE : Field := ⟨0x40020008, 1, 1⟩
def RAIL_EVT.WARN : Field := ⟨0x40020008, 2, 1⟩
def RAIL_EVT.TSELCHG : Field := ⟨0x40020008, 3, 1⟩
def RAIL_EVTEN.FAULT : Field := ⟨0x4002000C, 0, 1⟩
def RAIL_EVTEN.SETDONE : Field := ⟨0x4002000C, 1, 1⟩
def RAIL_EVTEN.WARN : Field := ⟨0x4002000C, 2, 1⟩
def RAIL_EVTEN.TSELCHG : Field := ⟨0x4002000C, 3, 1⟩
def RAIL_FAULT0.CH : Field := ⟨0x40020010, 0, 32⟩
def RAIL_FAULT1.CH : Field := ⟨0x40020014, 0, 8⟩
def RAIL_CLR0.CH : Field := ⟨0x40020018, 0, 32⟩
def RAIL_CLR1.CH : Field := ⟨0x4002001C, 0, 8⟩
def RAIL_HELD0.CH : Field := ⟨0x40020020, 0, 32⟩
def RAIL_HELD1.CH : Field := ⟨0x40020024, 0, 8⟩
def RAIL_WARN0.CH : Field := ⟨0x40020028, 0, 32⟩
def RAIL_WARN1.CH : Field := ⟨0x4002002C, 0, 8⟩
def RAIL_SETLO.MEMLO (i : Nat) : Field := ⟨0x40020040 + 8 * i, 0, 32⟩
def RAIL_SETHI.MEMHI (i : Nat) : Field := ⟨0x40020044 + 8 * i, 0, 8⟩
def RAIL_CHDEP.DEP0 (n : Nat) : Field := ⟨0x40020100 + 0x20 * n, 0, 6⟩
def RAIL_CHDEP.DEP0EN (n : Nat) : Field := ⟨0x40020100 + 0x20 * n, 6, 1⟩
def RAIL_CHDEP.DEP1 (n : Nat) : Field := ⟨0x40020100 + 0x20 * n, 8, 6⟩
def RAIL_CHDEP.DEP1EN (n : Nat) : Field := ⟨0x40020100 + 0x20 * n, 14, 1⟩
def RAIL_CHDEP.DEP2 (n : Nat) : Field := ⟨0x40020100 + 0x20 * n, 16, 6⟩
def RAIL_CHDEP.DEP2EN (n : Nat) : Field := ⟨0x40020100 + 0x20 * n, 22, 1⟩
def RAIL_CHDEP.DEP3 (n : Nat) : Field := ⟨0x40020100 + 0x20 * n, 24, 6⟩
def RAIL_CHDEP.DEP3EN (n : Nat) : Field := ⟨0x40020100 + 0x20 * n, 30, 1⟩
def RAIL_CHCTL.MODE (n : Nat) : Field := ⟨0x40020104 + 0x20 * n, 0, 2⟩
def RAIL_CHCTL.PGSRC (n : Nat) : Field := ⟨0x40020104 + 0x20 * n, 2, 2⟩
def RAIL_CHCTL.VMONSEL (n : Nat) : Field := ⟨0x40020104 + 0x20 * n, 4, 3⟩
def RAIL_CHCTL.ENPOL (n : Nat) : Field := ⟨0x40020104 + 0x20 * n, 7, 1⟩
def RAIL_CHCTL.ENOD (n : Nat) : Field := ⟨0x40020104 + 0x20 * n, 8, 1⟩
def RAIL_CHCTL.PGPOL (n : Nat) : Field := ⟨0x40020104 + 0x20 * n, 9, 1⟩
def RAIL_CHCTL.POLICY (n : Nat) : Field := ⟨0x40020104 + 0x20 * n, 10, 2⟩
def RAIL_CHCTL.RETRIES (n : Nat) : Field := ⟨0x40020104 + 0x20 * n, 12, 4⟩
def RAIL_CHCTL.PGFILT (n : Nat) : Field := ⟨0x40020104 + 0x20 * n, 16, 8⟩
def RAIL_CHONDLY.ONDLY (n : Nat) : Field := ⟨0x40020108 + 0x20 * n, 0, 20⟩
def RAIL_CHPGTO.PGTO (n : Nat) : Field := ⟨0x4002010C + 0x20 * n, 0, 20⟩
def RAIL_CHOFFTO.OFFTO (n : Nat) : Field := ⟨0x40020110 + 0x20 * n, 0, 20⟩
def RAIL_CHDEPTO.DEPTO (n : Nat) : Field := ⟨0x40020114 + 0x20 * n, 0, 20⟩
def RAIL_CHRETRY.RETRYDLY (n : Nat) : Field := ⟨0x40020118 + 0x20 * n, 0, 20⟩
def RAIL_CHSTAT.STATE (n : Nat) : Field := ⟨0x4002011C + 0x20 * n, 0, 3⟩
def RAIL_CHSTAT.EN (n : Nat) : Field := ⟨0x4002011C + 0x20 * n, 3, 1⟩
def RAIL_CHSTAT.PG (n : Nat) : Field := ⟨0x4002011C + 0x20 * n, 4, 1⟩
def RAIL_CHSTAT.DEMANDED (n : Nat) : Field := ⟨0x4002011C + 0x20 * n, 5, 1⟩
def RAIL_CHSTAT.CAUSE (n : Nat) : Field := ⟨0x4002011C + 0x20 * n, 8, 4⟩
def RAIL_CHSTAT.TRIES (n : Nat) : Field := ⟨0x4002011C + 0x20 * n, 12, 4⟩
def RAIL_VMONCFG.UV (k : Nat) : Field := ⟨0x40020800 + 8 * k, 0, 12⟩
def RAIL_VMONCFG.OV (k : Nat) : Field := ⟨0x40020800 + 8 * k, 16, 12⟩
def RAIL_VMONVAL.VAL (k : Nat) : Field := ⟨0x40020804 + 8 * k, 0, 12⟩
def RAIL_VMONVAL.INWIN (k : Nat) : Field := ⟨0x40020804 + 8 * k, 12, 1⟩
def RAIL_VMONVAL.UVF (k : Nat) : Field := ⟨0x40020804 + 8 * k, 13, 1⟩
def RAIL_VMONVAL.OVF (k : Nat) : Field := ⟨0x40020804 + 8 * k, 14, 1⟩

/-! ### 05_power_path -/
def PWR_CTRL.PRIO0 : Field := ⟨0x40030000, 0, 2⟩
def PWR_CTRL.PRIO1 : Field := ⟨0x40030000, 2, 2⟩
def PWR_CTRL.PRIO2 : Field := ⟨0x40030000, 4, 2⟩
def PWR_CTRL.TAKE : Field := ⟨0x40030000, 8, 1⟩
def PWR_STAT.SEL : Field := ⟨0x40030004, 0, 2⟩
def PWR_STAT.BOOTREG : Field := ⟨0x40030004, 2, 1⟩
def PWR_STAT.HELD : Field := ⟨0x40030004, 3, 1⟩
def PWR_STAT.BATFET : Field := ⟨0x40030004, 4, 1⟩
def PWR_STAT.BATREM : Field := ⟨0x40030004, 5, 1⟩
def PWR_STAT.VSYSREG : Field := ⟨0x40030004, 6, 1⟩
def PWR_STAT.CELLSBAD : Field := ⟨0x40030004, 7, 1⟩
def PWR_STAT.CELLS : Field := ⟨0x40030004, 8, 3⟩
def PWR_EVT.HANDOVER : Field := ⟨0x40030008, 0, 1⟩
def PWR_EVT.QUAL : Field := ⟨0x40030008, 1, 1⟩
def PWR_EVT.SELCHG : Field := ⟨0x40030008, 2, 1⟩
def PWR_EVT.SETTLED : Field := ⟨0x40030008, 3, 1⟩
def PWR_EVT.UNSTABLE : Field := ⟨0x40030008, 4, 1⟩
def PWR_EVT.BATREM : Field := ⟨0x40030008, 5, 1⟩
def PWR_EVT.OVP : Field := ⟨0x40030008, 6, 1⟩
def PWR_EVT.OCP : Field := ⟨0x40030008, 7, 1⟩
def PWR_EVT.REVCUR : Field := ⟨0x40030008, 8, 1⟩
def PWR_EVT.VSYSUV : Field := ⟨0x40030008, 9, 1⟩
def PWR_EVTEN.HANDOVER : Field := ⟨0x4003000C, 0, 1⟩
def PWR_EVTEN.QUAL : Field := ⟨0x4003000C, 1, 1⟩
def PWR_EVTEN.SELCHG : Field := ⟨0x4003000C, 2, 1⟩
def PWR_EVTEN.SETTLED : Field := ⟨0x4003000C, 3, 1⟩
def PWR_EVTEN.UNSTABLE : Field := ⟨0x4003000C, 4, 1⟩
def PWR_EVTEN.BATREM : Field := ⟨0x4003000C, 5, 1⟩
def PWR_EVTEN.OVP : Field := ⟨0x4003000C, 6, 1⟩
def PWR_EVTEN.OCP : Field := ⟨0x4003000C, 7, 1⟩
def PWR_EVTEN.REVCUR : Field := ⟨0x4003000C, 8, 1⟩
def PWR_EVTEN.VSYSUV : Field := ⟨0x4003000C, 9, 1⟩
def PWR_VSYSMIN.VSYSMIN : Field := ⟨0x40030010, 0, 15⟩
def PWR_VMEAS.VSYS : Field := ⟨0x40030014, 0, 16⟩
def PWR_VMEAS.VBAT : Field := ⟨0x40030014, 16, 16⟩
def PWR_INCFG.EN (n : Nat) : Field := ⟨0x40030100 + 0x40 * n, 0, 1⟩
def PWR_INCFG.TRACK (n : Nat) : Field := ⟨0x40030100 + 0x40 * n, 1, 2⟩
def PWR_INCFG.BEYONDRP (n : Nat) : Field := ⟨0x40030100 + 0x40 * n, 3, 1⟩
def PWR_INCFG.ILIMMAX (n : Nat) : Field := ⟨0x40030100 + 0x40 * n, 16, 10⟩
def PWR_INOVP.OVP (n : Nat) : Field := ⟨0x40030104 + 0x40 * n, 0, 16⟩
def PWR_INSTAT.VALID (n : Nat) : Field := ⟨0x40030108 + 0x40 * n, 0, 1⟩
def PWR_INSTAT.QUAL (n : Nat) : Field := ⟨0x40030108 + 0x40 * n, 1, 1⟩
def PWR_INSTAT.ATTACHED (n : Nat) : Field := ⟨0x40030108 + 0x40 * n, 2, 1⟩
def PWR_INSTAT.UNSTABLE (n : Nat) : Field := ⟨0x40030108 + 0x40 * n, 3, 1⟩
def PWR_INSTAT.TRK (n : Nat) : Field := ⟨0x40030108 + 0x40 * n, 4, 3⟩
def PWR_INSTAT.FLOOR (n : Nat) : Field := ⟨0x40030108 + 0x40 * n, 7, 1⟩
def PWR_INSTAT.BOUNCES (n : Nat) : Field := ⟨0x40030108 + 0x40 * n, 8, 3⟩
def PWR_INSTAT.CONTRACT (n : Nat) : Field := ⟨0x40030108 + 0x40 * n, 11, 1⟩
def PWR_INVI.VIN (n : Nat) : Field := ⟨0x4003010C + 0x40 * n, 0, 16⟩
def PWR_INVI.IIN (n : Nat) : Field := ⟨0x4003010C + 0x40 * n, 16, 16⟩
def PWR_INVOC.VOC (n : Nat) : Field := ⟨0x40030110 + 0x40 * n, 0, 16⟩
def PWR_INVOC.KNEE (n : Nat) : Field := ⟨0x40030110 + 0x40 * n, 16, 16⟩
def PWR_INLIM.ILIM (n : Nat) : Field := ⟨0x40030114 + 0x40 * n, 0, 10⟩
def PWR_INLIM.IKNEE (n : Nat) : Field := ⟨0x40030114 + 0x40 * n, 16, 10⟩
def PWR_INGOOD.LASTGOOD (n : Nat) : Field := ⟨0x40030118 + 0x40 * n, 0, 10⟩
def PWR_INGOOD.CEIL (n : Nat) : Field := ⟨0x40030118 + 0x40 * n, 16, 10⟩

/-! ### 06_charging_and_reverse_supply -/
def CHG_CTRL.EN : Field := ⟨0x40040000, 0, 1⟩
def CHG_CTRL.LOCK : Field := ⟨0x40040000, 1, 1⟩
def CHG_CTRL.FLTCLR : Field := ⟨0x40040000, 2, 1⟩
def CHG_CTRL.QCLR : Field := ⟨0x40040000, 3, 1⟩
def CHG_STAT.STATE : Field := ⟨0x40040004, 0, 4⟩
def CHG_STAT.LOOP : Field := ⟨0x40040004, 4, 3⟩
def CHG_STAT.BAND : Field := ⟨0x40040004, 7, 3⟩
def CHG_STAT.HALF : Field := ⟨0x40040004, 10, 1⟩
def CHG_STAT.CYCLE : Field := ⟨0x40040004, 11, 1⟩
def CHG_STAT.TPHASE : Field := ⟨0x40040004, 12, 1⟩
def CHG_STAT.FCAUSE : Field := ⟨0x40040004, 16, 4⟩
def CHG_STAT.BATOVACT : Field := ⟨0x40040004, 20, 1⟩
def CHG_STAT.TSHUT : Field := ⟨0x40040004, 21, 1⟩
def CHG_EVT.STATECHG : Field := ⟨0x40040008, 0, 1⟩
def CHG_EVT.DONE : Field := ⟨0x40040008, 1, 1⟩
def CHG_EVT.FAULT : Field := ⟨0x40040008, 2, 1⟩
def CHG_EVT.BAND : Field := ⟨0x40040008, 3, 1⟩
def CHG_EVT.BATOV : Field := ⟨0x40040008, 4, 1⟩
def CHG_EVT.TSHUT : Field := ⟨0x40040008, 5, 1⟩
def CHG_EVT.CLRREF : Field := ⟨0x40040008, 6, 1⟩
def CHG_EVT.QWRAP : Field := ⟨0x40040008, 7, 1⟩
def CHG_EVT.REVSTART : Field := ⟨0x40040008, 8, 1⟩
def CHG_EVT.REVSTOP : Field := ⟨0x40040008, 9, 1⟩
def CHG_EVTEN.STATECHG : Field := ⟨0x4004000C, 0, 1⟩
def CHG_EVTEN.DONE : Field := ⟨0x4004000C, 1, 1⟩
def CHG_EVTEN.FAULT : Field := ⟨0x4004000C, 2, 1⟩
def CHG_EVTEN.BAND : Field := ⟨0x4004000C, 3, 1⟩
def CHG_EVTEN.BATOV : Field := ⟨0x4004000C, 4, 1⟩
def CHG_EVTEN.TSHUT : Field := ⟨0x4004000C, 5, 1⟩
def CHG_EVTEN.CLRREF : Field := ⟨0x4004000C, 6, 1⟩
def CHG_EVTEN.QWRAP : Field := ⟨0x4004000C, 7, 1⟩
def CHG_EVTEN.REVSTART : Field := ⟨0x4004000C, 8, 1⟩
def CHG_EVTEN.REVSTOP : Field := ⟨0x4004000C, 9, 1⟩
def CHG_VREG.VREG : Field := ⟨0x40040010, 0, 13⟩
def CHG_ICHG.ICHG : Field := ⟨0x40040014, 0, 10⟩
def CHG_ICHG.IPRE : Field := ⟨0x40040014, 16, 8⟩
def CHG_ICHG.ITERM : Field := ⟨0x40040014, 24, 8⟩
def CHG_VTHR.VPRE : Field := ⟨0x40040018, 0, 12⟩
def CHG_VTHR.VRECH : Field := ⟨0x40040018, 16, 5⟩
def CHG_LIMIT.VREGMAX : Field := ⟨0x4004001C, 0, 13⟩
def CHG_LIMIT.ICHGMAX : Field := ⟨0x4004001C, 16, 10⟩
def CHG_TMR.PRETMR : Field := ⟨0x40040020, 0, 8⟩
def CHG_TMR.FASTTMR : Field := ⟨0x40040020, 16, 12⟩
def CHG_TMRCNT.COUNT : Field := ⟨0x40040024, 0, 19⟩
def CHG_BAND0.COLD : Field := ⟨0x40040028, 0, 12⟩
def CHG_BAND0.COOL : Field := ⟨0x40040028, 16, 12⟩
def CHG_BAND1.WARM : Field := ⟨0x4004002C, 0, 12⟩
def CHG_BAND1.HOT : Field := ⟨0x4004002C, 16, 12⟩
def CHG_BANDACT.COOLFRAC : Field := ⟨0x40040030, 0, 3⟩
def CHG_BANDACT.WARMDV : Field := ⟨0x40040030, 8, 8⟩
def CHG_BANDACT.HYST : Field := ⟨0x40040030, 16, 8⟩
def CHG_BANDFW.BAND : Field := ⟨0x40040034, 0, 3⟩
def CHG_TDIE.TREG : Field := ⟨0x40040038, 0, 8⟩
def CHG_MEAS.IBAT : Field := ⟨0x4004003C, 0, 16⟩
def CHG_MEAS.BATTH : Field := ⟨0x4004003C, 16, 12⟩
def CHG_QACC.QACC : Field := ⟨0x40040040, 0, 32⟩
def CHG_LAMP.STAT0 : Field := ⟨0x40040044, 0, 2⟩
def CHG_LAMP.STAT1 : Field := ⟨0x40040044, 2, 2⟩
def CHG_LAMP.OVR : Field := ⟨0x40040044, 4, 1⟩
def CHG_REVCTL.REVEN : Field := ⟨0x40040080, 0, 1⟩
def CHG_REVCTL.VMASK : Field := ⟨0x40040080, 1, 3⟩
def CHG_REVCTL.PREF : Field := ⟨0x40040080, 4, 1⟩
def CHG_REVCTL.IMAX : Field := ⟨0x40040080, 8, 9⟩
def CHG_REVCTL.PMAX : Field := ⟨0x40040080, 24, 7⟩
def CHG_REVSTAT.ACTIVE : Field := ⟨0x40040084, 0, 1⟩
def CHG_REVSTAT.PORT : Field := ⟨0x40040084, 1, 1⟩
def CHG_REVSTAT.LOCKOUT0 : Field := ⟨0x40040084, 2, 1⟩
def CHG_REVSTAT.LOCKOUT1 : Field := ⟨0x40040084, 3, 1⟩
def CHG_REVSTAT.CAUSE : Field := ⟨0x40040084, 4, 4⟩
def CHG_REVSTAT.IOUT : Field := ⟨0x40040084, 16, 16⟩
def CHG_REVVMIN.REVVMIN : Field := ⟨0x40040088, 0, 12⟩

/-! ### 05_power_path -/
def PD_CFG.EN (p : Nat) : Field := ⟨0x40050100 + 0x100 * p, 0, 1⟩
def PD_CFG.ROLE (p : Nat) : Field := ⟨0x40050100 + 0x100 * p, 1, 2⟩
def PD_CFG.RPADV (p : Nat) : Field := ⟨0x40050100 + 0x100 * p, 3, 2⟩
def PD_CFG.PPSEN (p : Nat) : Field := ⟨0x40050100 + 0x100 * p, 5, 1⟩
def PD_CFG.EPREN (p : Nat) : Field := ⟨0x40050100 + 0x100 * p, 6, 1⟩
def PD_CFG.DRPREF (p : Nat) : Field := ⟨0x40050100 + 0x100 * p, 7, 1⟩
def PD_CFG.PRSWAP (p : Nat) : Field := ⟨0x40050100 + 0x100 * p, 8, 1⟩
def PD_CFG.VCONNEN (p : Nat) : Field := ⟨0x40050100 + 0x100 * p, 9, 1⟩
def PD_SNKPOL.VMAX (p : Nat) : Field := ⟨0x40050104 + 0x100 * p, 0, 9⟩
def PD_SNKPOL.IMAX (p : Nat) : Field := ⟨0x40050104 + 0x100 * p, 16, 7⟩
def PD_SNKPOL.PDP (p : Nat) : Field := ⟨0x40050104 + 0x100 * p, 24, 8⟩
def PD_STAT.ATTACHED (p : Nat) : Field := ⟨0x4005010C + 0x100 * p, 0, 1⟩
def PD_STAT.ORIENT (p : Nat) : Field := ⟨0x4005010C + 0x100 * p, 1, 1⟩
def PD_STAT.PROLE (p : Nat) : Field := ⟨0x4005010C + 0x100 * p, 2, 1⟩
def PD_STAT.DROLE (p : Nat) : Field := ⟨0x4005010C + 0x100 * p, 3, 1⟩
def PD_STAT.CONTRACT (p : Nat) : Field := ⟨0x4005010C + 0x100 * p, 4, 1⟩
def PD_STAT.EPR (p : Nat) : Field := ⟨0x4005010C + 0x100 * p, 5, 1⟩
def PD_STAT.PPS (p : Nat) : Field := ⟨0x4005010C + 0x100 * p, 6, 1⟩
def PD_STAT.MISMATCH (p : Nat) : Field := ⟨0x4005010C + 0x100 * p, 7, 1⟩
def PD_STAT.RPSEEN (p : Nat) : Field := ⟨0x4005010C + 0x100 * p, 8, 2⟩
def PD_STAT.VCONN (p : Nat) : Field := ⟨0x4005010C + 0x100 * p, 10, 1⟩
def PD_STAT.PDSEEN (p : Nat) : Field := ⟨0x4005010C + 0x100 * p, 11, 1⟩
def PD_STAT.NPDO (p : Nat) : Field := ⟨0x4005010C + 0x100 * p, 12, 4⟩
def PD_STAT.HRCNT (p : Nat) : Field := ⟨0x4005010C + 0x100 * p, 16, 8⟩
def PD_STAT.VDMDROP (p : Nat) : Field := ⟨0x4005010C + 0x100 * p, 24, 8⟩
def PD_CONTRACT.VOLT (p : Nat) : Field := ⟨0x40050110 + 0x100 * p, 0, 16⟩
def PD_CONTRACT.CURR (p : Nat) : Field := ⟨0x40050110 + 0x100 * p, 16, 10⟩
def PD_CONTRACT.OBJPOS (p : Nat) : Field := ⟨0x40050110 + 0x100 * p, 26, 4⟩
def PD_EVT.ATTACH (p : Nat) : Field := ⟨0x40050114 + 0x100 * p, 0, 1⟩
def PD_EVT.DETACH (p : Nat) : Field := ⟨0x40050114 + 0x100 * p, 1, 1⟩
def PD_EVT.CONTRACT (p : Nat) : Field := ⟨0x40050114 + 0x100 * p, 2, 1⟩
def PD_EVT.CAPCHG (p : Nat) : Field := ⟨0x40050114 + 0x100 * p, 3, 1⟩
def PD_EVT.HARDRESET (p : Nat) : Field := ⟨0x40050114 + 0x100 * p, 4, 1⟩
def PD_EVT.VDMRX (p : Nat) : Field := ⟨0x40050114 + 0x100 * p, 5, 1⟩
def PD_EVT.VDMTXDONE (p : Nat) : Field := ⟨0x40050114 + 0x100 * p, 6, 1⟩
def PD_EVT.VDMTXFAIL (p : Nat) : Field := ⟨0x40050114 + 0x100 * p, 7, 1⟩
def PD_EVT.ALERTRX (p : Nat) : Field := ⟨0x40050114 + 0x100 * p, 8, 1⟩
def PD_EVT.EPRFAIL (p : Nat) : Field := ⟨0x40050114 + 0x100 * p, 9, 1⟩
def PD_EVT.MISMATCH (p : Nat) : Field := ⟨0x40050114 + 0x100 * p, 10, 1⟩
def PD_EVT.SWAP (p : Nat) : Field := ⟨0x40050114 + 0x100 * p, 11, 1⟩
def PD_EVT.REQREJ (p : Nat) : Field := ⟨0x40050114 + 0x100 * p, 12, 1⟩
def PD_EVTEN.ATTACH (p : Nat) : Field := ⟨0x40050118 + 0x100 * p, 0, 1⟩
def PD_EVTEN.DETACH (p : Nat) : Field := ⟨0x40050118 + 0x100 * p, 1, 1⟩
def PD_EVTEN.CONTRACT (p : Nat) : Field := ⟨0x40050118 + 0x100 * p, 2, 1⟩
def PD_EVTEN.CAPCHG (p : Nat) : Field := ⟨0x40050118 + 0x100 * p, 3, 1⟩
def PD_EVTEN.HARDRESET (p : Nat) : Field := ⟨0x40050118 + 0x100 * p, 4, 1⟩
def PD_EVTEN.VDMRX (p : Nat) : Field := ⟨0x40050118 + 0x100 * p, 5, 1⟩
def PD_EVTEN.VDMTXDONE (p : Nat) : Field := ⟨0x40050118 + 0x100 * p, 6, 1⟩
def PD_EVTEN.VDMTXFAIL (p : Nat) : Field := ⟨0x40050118 + 0x100 * p, 7, 1⟩
def PD_EVTEN.ALERTRX (p : Nat) : Field := ⟨0x40050118 + 0x100 * p, 8, 1⟩
def PD_EVTEN.EPRFAIL (p : Nat) : Field := ⟨0x40050118 + 0x100 * p, 9, 1⟩
def PD_EVTEN.MISMATCH (p : Nat) : Field := ⟨0x40050118 + 0x100 * p, 10, 1⟩
def PD_EVTEN.SWAP (p : Nat) : Field := ⟨0x40050118 + 0x100 * p, 11, 1⟩
def PD_EVTEN.REQREJ (p : Nat) : Field := ⟨0x40050118 + 0x100 * p, 12, 1⟩
def PD_REQ.OBJPOS (p : Nat) : Field := ⟨0x4005011C + 0x100 * p, 0, 4⟩
def PD_REQ.VOLT (p : Nat) : Field := ⟨0x4005011C + 0x100 * p, 4, 12⟩
def PD_REQ.CURR (p : Nat) : Field := ⟨0x4005011C + 0x100 * p, 16, 7⟩
def PD_REQ.AUTO (p : Nat) : Field := ⟨0x4005011C + 0x100 * p, 30, 1⟩
def PD_REQ.GO (p : Nat) : Field := ⟨0x4005011C + 0x100 * p, 31, 1⟩
def PD_VDMCTL.RXFULL (p : Nat) : Field := ⟨0x40050120 + 0x100 * p, 0, 1⟩
def PD_VDMCTL.RXREL (p : Nat) : Field := ⟨0x40050120 + 0x100 * p, 1, 1⟩
def PD_VDMCTL.TXGO (p : Nat) : Field := ⟨0x40050120 + 0x100 * p, 2, 1⟩
def PD_VDMCTL.TXBUSY (p : Nat) : Field := ⟨0x40050120 + 0x100 * p, 3, 1⟩
def PD_VDMCTL.RXLEN (p : Nat) : Field := ⟨0x40050120 + 0x100 * p, 4, 4⟩
def PD_VDMCTL.TXLEN (p : Nat) : Field := ⟨0x40050120 + 0x100 * p, 8, 4⟩
def PD_VDMCTL.RXSOP (p : Nat) : Field := ⟨0x40050120 + 0x100 * p, 12, 2⟩
def PD_VDMCTL.TXSOP (p : Nat) : Field := ⟨0x40050120 + 0x100 * p, 14, 2⟩
def PD_RXPDO.PDO (p : Nat) (k : Nat) : Field := ⟨0x40050140 + 0x100 * p + 4 * k, 0, 32⟩
def PD_VDMRX.WORD (p : Nat) (k : Nat) : Field := ⟨0x40050180 + 0x100 * p + 4 * k, 0, 32⟩
def PD_VDMTX.WORD (p : Nat) (k : Nat) : Field := ⟨0x400501C0 + 0x100 * p + 4 * k, 0, 32⟩

/-! ### 07_keyboard -/
def KSC_CTRL.EN : Field := ⟨0x40060000, 0, 1⟩
def KSC_CTRL.SLEEP : Field := ⟨0x40060000, 1, 1⟩
def KSC_CTRL.SETTLE : Field := ⟨0x40060000, 8, 7⟩
def KSC_STAT.SCANNER : Field := ⟨0x40060004, 0, 2⟩
def KSC_STAT.GHOST : Field := ⟨0x40060004, 2, 1⟩
def KSC_STAT.STUCK : Field := ⟨0x40060004, 3, 1⟩
def KSC_STAT.LOCKED : Field := ⟨0x40060004, 4, 1⟩
def KSC_EVT.CHANGE : Field := ⟨0x40060008, 0, 1⟩
def KSC_EVT.GHOSTCHG : Field := ⟨0x40060008, 1, 1⟩
def KSC_EVT.STUCKCHG : Field := ⟨0x40060008, 2, 1⟩
def KSC_EVT.FAILED : Field := ⟨0x40060008, 3, 1⟩
def KSC_EVT.UNLOCKED : Field := ⟨0x40060008, 4, 1⟩
def KSC_EVT.SEQERR : Field := ⟨0x40060008, 5, 1⟩
def KSC_EVTEN.CHANGE : Field := ⟨0x4006000C, 0, 1⟩
def KSC_EVTEN.GHOSTCHG : Field := ⟨0x4006000C, 1, 1⟩
def KSC_EVTEN.STUCKCHG : Field := ⟨0x4006000C, 2, 1⟩
def KSC_EVTEN.FAILED : Field := ⟨0x4006000C, 3, 1⟩
def KSC_EVTEN.UNLOCKED : Field := ⟨0x4006000C, 4, 1⟩
def KSC_EVTEN.SEQERR : Field := ⟨0x4006000C, 5, 1⟩
def KSC_DEB.DBPRESS : Field := ⟨0x40060010, 0, 8⟩
def KSC_DEB.DBREL : Field := ⟨0x40060010, 8, 8⟩
def KSC_NODIODE.NODIODE : Field := ⟨0x40060014, 0, 32⟩
def KSC_GEOM.NDRV : Field := ⟨0x40060018, 0, 5⟩
def KSC_SENSEEN.SENSEEN : Field := ⟨0x4006001C, 0, 32⟩
def KSC_STUCKCFG.STUCKTO : Field := ⟨0x40060020, 0, 8⟩
def KSC_LOCKCTL.LOCK : Field := ⟨0x40060024, 0, 1⟩
def KSC_LOCKCTL.UNLOCK : Field := ⟨0x40060024, 1, 1⟩
def KSC_LOCKCTL.NSTEPS : Field := ⟨0x40060024, 8, 4⟩
def KSC_LOCKST.STATE : Field := ⟨0x40060028, 0, 2⟩
def KSC_LOCKST.MSTATE : Field := ⟨0x40060028, 2, 3⟩
def KSC_LOCKST.STEP : Field := ⟨0x40060028, 5, 3⟩
def KSC_LOCKST.FAILS : Field := ⟨0x40060028, 8, 8⟩
def KSC_LOCKST.BOREM : Field := ⟨0x40060028, 16, 13⟩
def KSC_WAKEKEY.INDEX : Field := ⟨0x4006002C, 0, 10⟩
def KSC_WAKEKEY.VALID : Field := ⟨0x4006002C, 10, 1⟩
def KSC_DELIV.DELIV (i : Nat) : Field := ⟨0x40060100 + 4 * i, 0, 32⟩
def KSC_RAW.RAW (i : Nat) : Field := ⟨0x40060180 + 4 * i, 0, 32⟩
def KSC_WHELD.WHELD (i : Nat) : Field := ⟨0x40060200 + 4 * i, 0, 32⟩
def KSC_STUCK.STUCK (i : Nat) : Field := ⟨0x40060280 + 4 * i, 0, 32⟩
def KSC_EXEMPT.EXEMPT (i : Nat) : Field := ⟨0x40060300 + 4 * i, 0, 32⟩
def KSC_SEQA.KEY0 (k : Nat) : Field := ⟨0x40060400 + 8 * k, 0, 10⟩
def KSC_SEQA.KEY1 (k : Nat) : Field := ⟨0x40060400 + 8 * k, 10, 10⟩
def KSC_SEQA.KEY2 (k : Nat) : Field := ⟨0x40060400 + 8 * k, 20, 10⟩
def KSC_SEQB.KEY3 (k : Nat) : Field := ⟨0x40060404 + 8 * k, 0, 10⟩
def KSC_SEQB.STEPTO (k : Nat) : Field := ⟨0x40060404 + 8 * k, 16, 8⟩

/-! ### 08_lighting -/
def LUX_CTRL.EN : Field := ⟨0x40070000, 0, 1⟩
def LUX_CTRL.DIRECT : Field := ⟨0x40070000, 1, 1⟩
def LUX_CTRL.DIAGPULSE : Field := ⟨0x40070000, 2, 1⟩
def LUX_CTRL.FWCLOSE : Field := ⟨0x40070000, 3, 1⟩
def LUX_CTRL.OCCLOSE : Field := ⟨0x40070000, 4, 1⟩
def LUX_CTRL.SYNCNOW : Field := ⟨0x40070000, 5, 1⟩
def LUX_CTRL.BLANK : Field := ⟨0x40070000, 6, 1⟩
def LUX_STAT.RUNNING : Field := ⟨0x40070004, 0, 1⟩
def LUX_STAT.BACK : Field := ⟨0x40070004, 1, 1⟩
def LUX_STAT.OCBACK : Field := ⟨0x40070004, 2, 1⟩
def LUX_STAT.PENDING : Field := ⟨0x40070004, 3, 1⟩
def LUX_STAT.OCPENDING : Field := ⟨0x40070004, 4, 1⟩
def LUX_STAT.BUSY : Field := ⟨0x40070004, 5, 1⟩
def LUX_STAT.SYNCLOST : Field := ⟨0x40070004, 6, 1⟩
def LUX_STAT.ATMAX : Field := ⟨0x40070004, 7, 1⟩
def LUX_STAT.VLEDOV : Field := ⟨0x40070004, 8, 1⟩
def LUX_STAT.CFGERR : Field := ⟨0x40070004, 9, 1⟩
def LUX_EVT.FRAME : Field := ⟨0x40070008, 0, 1⟩
def LUX_EVT.SWAP : Field := ⟨0x40070008, 1, 1⟩
def LUX_EVT.REPEAT : Field := ⟨0x40070008, 2, 1⟩
def LUX_EVT.LATE : Field := ⟨0x40070008, 3, 1⟩
def LUX_EVT.INCOMPLETE : Field := ⟨0x40070008, 4, 1⟩
def LUX_EVT.OPEN : Field := ⟨0x40070008, 5, 1⟩
def LUX_EVT.SHORT : Field := ⟨0x40070008, 6, 1⟩
def LUX_EVT.PARITY : Field := ⟨0x40070008, 7, 1⟩
def LUX_EVT.SYNCLOSS : Field := ⟨0x40070008, 8, 1⟩
def LUX_EVT.DIAGDONE : Field := ⟨0x40070008, 9, 1⟩
def LUX_EVT.VLEDOV : Field := ⟨0x40070008, 10, 1⟩
def LUX_EVT.CFGERR : Field := ⟨0x40070008, 11, 1⟩
def LUX_EVTEN.FRAME : Field := ⟨0x4007000C, 0, 1⟩
def LUX_EVTEN.SWAP : Field := ⟨0x4007000C, 1, 1⟩
def LUX_EVTEN.REPEAT : Field := ⟨0x4007000C, 2, 1⟩
def LUX_EVTEN.LATE : Field := ⟨0x4007000C, 3, 1⟩
def LUX_EVTEN.INCOMPLETE : Field := ⟨0x4007000C, 4, 1⟩
def LUX_EVTEN.OPEN : Field := ⟨0x4007000C, 5, 1⟩
def LUX_EVTEN.SHORT : Field := ⟨0x4007000C, 6, 1⟩
def LUX_EVTEN.PARITY : Field := ⟨0x4007000C, 7, 1⟩
def LUX_EVTEN.SYNCLOSS : Field := ⟨0x4007000C, 8, 1⟩
def LUX_EVTEN.DIAGDONE : Field := ⟨0x4007000C, 9, 1⟩
def LUX_EVTEN.VLEDOV : Field := ⟨0x4007000C, 10, 1⟩
def LUX_EVTEN.CFGERR : Field := ⟨0x4007000C, 11, 1⟩
def LUX_SYNC.SRC : Field := ⟨0x40070010, 0, 2⟩
def LUX_SYNC.SYNCTO : Field := ⟨0x40070010, 8, 8⟩
def LUX_PERIOD.PERIOD : Field := ⟨0x40070014, 0, 24⟩
def LUX_FRAME.FRAME : Field := ⟨0x40070018, 0, 32⟩
def LUX_CNT.REPEAT : Field := ⟨0x4007001C, 0, 8⟩
def LUX_CNT.LATE : Field := ⟨0x4007001C, 8, 8⟩
def LUX_CNT.PAR : Field := ⟨0x4007001C, 16, 16⟩
def LUX_BRIGHT.BRIGHT : Field := ⟨0x40070020, 0, 11⟩
def LUX_DERATE.SRC : Field := ⟨0x40070024, 0, 1⟩
def LUX_DERATE.NTC : Field := ⟨0x40070024, 1, 4⟩
def LUX_DERATE.KNEE : Field := ⟨0x40070024, 8, 8⟩
def LUX_DERATE.LIMIT : Field := ⟨0x40070024, 16, 8⟩
def LUX_DERSTAT.TEMP : Field := ⟨0x40070028, 0, 8⟩
def LUX_DERSTAT.FACTOR : Field := ⟨0x40070028, 16, 11⟩
def LUX_MTIM.LINE : Field := ⟨0x40070030, 0, 16⟩
def LUX_MTIM.BLANK : Field := ⟨0x40070030, 16, 16⟩
def LUX_MCFG.NSCAN : Field := ⟨0x40070034, 0, 5⟩
def LUX_MCFG.SCNPOL : Field := ⟨0x40070034, 5, 1⟩
def LUX_VLEDLIM.VLEDMIN : Field := ⟨0x40070038, 0, 11⟩
def LUX_VLEDLIM.VLEDMAX : Field := ⟨0x40070038, 16, 11⟩
def LUX_VLEDCFG.SLEW : Field := ⟨0x4007003C, 0, 8⟩
def LUX_VLEDCFG.OPENTH : Field := ⟨0x4007003C, 8, 8⟩
def LUX_VLEDCFG.SHORTTH : Field := ⟨0x4007003C, 16, 12⟩
def LUX_VLEDSTAT.VSET : Field := ⟨0x40070040, 0, 11⟩
def LUX_VLEDSTAT.VMEAS : Field := ⟨0x40070040, 16, 11⟩
def LUX_SINKI.ISINK0 (j : Nat) : Field := ⟨0x40070100 + 4 * j, 0, 8⟩
def LUX_SINKI.ISINK1 (j : Nat) : Field := ⟨0x40070100 + 4 * j, 8, 8⟩
def LUX_SINKI.ISINK2 (j : Nat) : Field := ⟨0x40070100 + 4 * j, 16, 8⟩
def LUX_SINKI.ISINK3 (j : Nat) : Field := ⟨0x40070100 + 4 * j, 24, 8⟩
def LUX_LAMPA.START (r : Nat) : Field := ⟨0x40070200 + 8 * r, 0, 15⟩
def LUX_LAMPA.WIDTH (r : Nat) : Field := ⟨0x40070200 + 8 * r, 16, 2⟩
def LUX_LAMPB.COUNT (r : Nat) : Field := ⟨0x40070204 + 8 * r, 0, 16⟩
def LUX_LAMPB.FADET (r : Nat) : Field := ⟨0x40070204 + 8 * r, 16, 10⟩
def LUX_LAMPB.CURVE (r : Nat) : Field := ⟨0x40070204 + 8 * r, 26, 1⟩
def LUX_DIAG.STATE (i : Nat) : Field := ⟨0x40070400 + 4 * i, 0, 32⟩
def LUX_DIAGCLR.CH : Field := ⟨0x40070500, 0, 10⟩
def LUX_DIAGCLR.ALL : Field := ⟨0x40070500, 15, 1⟩
def LUX_CCM.COEF (m : Nat) (k : Nat) : Field := ⟨0x40071000 + 0x40 * m + 4 * k, 0, 16⟩
def CHN_CTRL.EN : Field := ⟨0x40080000, 0, 1⟩
def CHN_CTRL.RATE : Field := ⟨0x40080000, 1, 2⟩
def CHN_CTRL.VMIN : Field := ⟨0x40080000, 4, 2⟩
def CHN_CTRL.COMMIT : Field := ⟨0x40080000, 6, 1⟩
def CHN_CTRL.REENUM : Field := ⟨0x40080000, 7, 1⟩
def CHN_STAT.STATE : Field := ⟨0x40080004, 0, 3⟩
def CHN_STAT.NFOUND : Field := ⟨0x40080004, 4, 7⟩
def CHN_STAT.CV : Field := ⟨0x40080004, 12, 2⟩
def CHN_STAT.EPOCH : Field := ⟨0x40080004, 16, 16⟩
def CHN_EVT.ENUMDONE : Field := ⟨0x40080008, 0, 1⟩
def CHN_EVT.COUNTCHG : Field := ⟨0x40080008, 1, 1⟩
def CHN_EVT.MISMATCH : Field := ⟨0x40080008, 2, 1⟩
def CHN_EVT.DATAERR : Field := ⟨0x40080008, 3, 1⟩
def CHN_EVT.BREAK : Field := ⟨0x40080008, 4, 1⟩
def CHN_EVT.EXCLUDED : Field := ⟨0x40080008, 5, 1⟩
def CHN_EVT.STATUSDONE : Field := ⟨0x40080008, 6, 1⟩
def CHN_EVT.DIAGDONE : Field := ⟨0x40080008, 7, 1⟩
def CHN_EVT.CRCERR : Field := ⟨0x40080008, 8, 1⟩
def CHN_EVT.CFGERR : Field := ⟨0x40080008, 9, 1⟩
def CHN_EVTEN.ENUMDONE : Field := ⟨0x4008000C, 0, 1⟩
def CHN_EVTEN.COUNTCHG : Field := ⟨0x4008000C, 1, 1⟩
def CHN_EVTEN.MISMATCH : Field := ⟨0x4008000C, 2, 1⟩
def CHN_EVTEN.DATAERR : Field := ⟨0x4008000C, 3, 1⟩
def CHN_EVTEN.BREAK : Field := ⟨0x4008000C, 4, 1⟩
def CHN_EVTEN.EXCLUDED : Field := ⟨0x4008000C, 5, 1⟩
def CHN_EVTEN.STATUSDONE : Field := ⟨0x4008000C, 6, 1⟩
def CHN_EVTEN.DIAGDONE : Field := ⟨0x4008000C, 7, 1⟩
def CHN_EVTEN.CRCERR : Field := ⟨0x4008000C, 8, 1⟩
def CHN_EVTEN.CFGERR : Field := ⟨0x4008000C, 9, 1⟩
def CHN_CNT.CRCERR : Field := ⟨0x40080010, 0, 8⟩
def CHN_CNT.BREAK : Field := ⟨0x40080010, 8, 8⟩
def CHN_CNT.RESEND : Field := ⟨0x40080010, 16, 16⟩
def CHN_MMAPLO.MAP : Field := ⟨0x40080018, 0, 32⟩
def CHN_MMAPHI.MAP : Field := ⟨0x4008001C, 0, 32⟩
def CHN_DMAPLO.MAP : Field := ⟨0x40080020, 0, 32⟩
def CHN_DMAPHI.MAP : Field := ⟨0x40080024, 0, 32⟩
def CHN_EXCLLO.MAP : Field := ⟨0x40080028, 0, 32⟩
def CHN_EXCLHI.MAP : Field := ⟨0x4008002C, 0, 32⟩
def CHN_DIAGREQ.DRV : Field := ⟨0x40080030, 0, 6⟩
def CHN_DIAGREQ.FIRST : Field := ⟨0x40080030, 8, 9⟩
def CHN_DIAGREQ.COUNT : Field := ⟨0x40080030, 17, 9⟩
def CHN_DIAGREQ.GO : Field := ⟨0x40080030, 31, 1⟩
def CHN_DIAGBUF.STATE (k : Nat) : Field := ⟨0x40080040 + 4 * k, 0, 32⟩
def CHN_DCFG.BASE (j : Nat) : Field := ⟨0x40081000 + 0x40 * j, 0, 15⟩
def CHN_DCFG.EN (j : Nat) : Field := ⟨0x40081000 + 0x40 * j, 15, 1⟩
def CHN_DCFG.NCH (j : Nat) : Field := ⟨0x40081000 + 0x40 * j, 16, 10⟩
def CHN_DPAR.PARAM (j : Nat) (k : Nat) : Field := ⟨0x40081004 + 0x40 * j + 4 * k, 0, 32⟩
def CHN_DINFO.VLOW (j : Nat) : Field := ⟨0x40081014 + 0x40 * j, 0, 8⟩
def CHN_DINFO.VHIGH (j : Nat) : Field := ⟨0x40081014 + 0x40 * j, 8, 8⟩
def CHN_DINFO.NCHMAX (j : Nat) : Field := ⟨0x40081014 + 0x40 * j, 16, 10⟩
def CHN_DINFO.PRESENT (j : Nat) : Field := ⟨0x40081014 + 0x40 * j, 26, 1⟩
def CHN_DINFO.EXCL (j : Nat) : Field := ⟨0x40081014 + 0x40 * j, 27, 1⟩
def CHN_DINFO.XCAUSE (j : Nat) : Field := ⟨0x40081014 + 0x40 * j, 28, 3⟩
def CHN_DID.DEVID (j : Nat) : Field := ⟨0x40081018 + 0x40 * j, 0, 32⟩
def CHN_DSTAT.FLAGS (j : Nat) : Field := ⟨0x4008101C + 0x40 * j, 0, 8⟩
def CHN_DSTAT.TEMP (j : Nat) : Field := ⟨0x4008101C + 0x40 * j, 8, 8⟩
def CHN_DSTAT.MMCNT (j : Nat) : Field := ⟨0x4008101C + 0x40 * j, 16, 8⟩
def CHN_DSTAT.DECNT (j : Nat) : Field := ⟨0x4008101C + 0x40 * j, 24, 8⟩
def CHN_DERR.NOPEN (j : Nat) : Field := ⟨0x40081020 + 0x40 * j, 0, 16⟩
def CHN_DERR.NSHORT (j : Nat) : Field := ⟨0x40081020 + 0x40 * j, 16, 16⟩
def CHN_DFRAME.LASTFRAME (j : Nat) : Field := ⟨0x40081024 + 0x40 * j, 0, 32⟩

/-! ### 09_thermal_and_fans -/
def FAN_STAT.FANVINUV : Field := ⟨0x40090004, 0, 1⟩
def FAN_STAT.STALLED : Field := ⟨0x40090004, 1, 4⟩
def FAN_EVT.STALL : Field := ⟨0x40090008, 0, 4⟩
def FAN_EVT.TACHLOST : Field := ⟨0x40090008, 4, 4⟩
def FAN_EVT.NOLOAD : Field := ⟨0x40090008, 8, 4⟩
def FAN_EVT.STARTOK : Field := ⟨0x40090008, 12, 4⟩
def FAN_EVT.FANVINUV : Field := ⟨0x40090008, 16, 1⟩
def FAN_EVTEN.STALL : Field := ⟨0x4009000C, 0, 4⟩
def FAN_EVTEN.TACHLOST : Field := ⟨0x4009000C, 4, 4⟩
def FAN_EVTEN.NOLOAD : Field := ⟨0x4009000C, 8, 4⟩
def FAN_EVTEN.STARTOK : Field := ⟨0x4009000C, 12, 4⟩
def FAN_EVTEN.FANVINUV : Field := ⟨0x4009000C, 16, 1⟩
def FAN_CTRL.MODE (n : Nat) : Field := ⟨0x40090100 + 0x40 * n, 0, 2⟩
def FAN_CTRL.BOOST (n : Nat) : Field := ⟨0x40090100 + 0x40 * n, 2, 1⟩
def FAN_CTRL.CLR (n : Nat) : Field := ⟨0x40090100 + 0x40 * n, 3, 1⟩
def FAN_CTRL.TACHEN (n : Nat) : Field := ⟨0x40090100 + 0x40 * n, 4, 1⟩
def FAN_CTRL.PPR (n : Nat) : Field := ⟨0x40090100 + 0x40 * n, 8, 3⟩
def FAN_CTRL.RPR (n : Nat) : Field := ⟨0x40090100 + 0x40 * n, 12, 4⟩
def FAN_VOLT.VSET (n : Nat) : Field := ⟨0x40090104 + 0x40 * n, 0, 14⟩
def FAN_VLIM.VMIN (n : Nat) : Field := ⟨0x40090108 + 0x40 * n, 0, 14⟩
def FAN_VLIM.VMAX (n : Nat) : Field := ⟨0x40090108 + 0x40 * n, 16, 14⟩
def FAN_TGT.TGT (n : Nat) : Field := ⟨0x4009010C + 0x40 * n, 0, 16⟩
def FAN_LOOP.KI (n : Nat) : Field := ⟨0x40090110 + 0x40 * n, 0, 12⟩
def FAN_LOOP.SLEW (n : Nat) : Field := ⟨0x40090110 + 0x40 * n, 16, 8⟩
def FAN_SRC.SRC (n : Nat) : Field := ⟨0x40090114 + 0x40 * n, 0, 20⟩
def FAN_CPT.TEMP (n : Nat) (p : Nat) : Field := ⟨0x40090118 + 0x40 * n + 4 * p, 0, 8⟩
def FAN_CPT.RPM (n : Nat) (p : Nat) : Field := ⟨0x40090118 + 0x40 * n + 4 * p, 16, 16⟩
def FAN_ILIM.ISTALL (n : Nat) : Field := ⟨0x40090128 + 0x40 * n, 0, 11⟩
def FAN_ILIM.INOLOAD (n : Nat) : Field := ⟨0x40090128 + 0x40 * n, 16, 11⟩
def FAN_STATn.STATE (n : Nat) : Field := ⟨0x4009012C + 0x40 * n, 0, 3⟩
def FAN_STATn.TRIES (n : Nat) : Field := ⟨0x4009012C + 0x40 * n, 4, 2⟩
def FAN_STATn.TACHLOST (n : Nat) : Field := ⟨0x4009012C + 0x40 * n, 6, 1⟩
def FAN_STATn.FORCED (n : Nat) : Field := ⟨0x4009012C + 0x40 * n, 7, 1⟩
def FAN_STATn.CAUSE (n : Nat) : Field := ⟨0x4009012C + 0x40 * n, 8, 2⟩
def FAN_SPD.TRPM (n : Nat) : Field := ⟨0x40090130 + 0x40 * n, 0, 16⟩
def FAN_SPD.RRPM (n : Nat) : Field := ⟨0x40090130 + 0x40 * n, 16, 16⟩
def FAN_OUT.VOUT (n : Nat) : Field := ⟨0x40090134 + 0x40 * n, 0, 14⟩
def FAN_OUT.IOUT (n : Nat) : Field := ⟨0x40090134 + 0x40 * n, 16, 11⟩
def THM_CTRL.EN : Field := ⟨0x400A0000, 0, 1⟩
def THM_CTRL.VBIASEN : Field := ⟨0x400A0000, 1, 1⟩
def THM_CTRL.LOCK : Field := ⟨0x400A0000, 2, 1⟩
def THM_CTRL.STALE : Field := ⟨0x400A0000, 8, 8⟩
def THM_STAT.LEVEL : Field := ⟨0x400A0004, 0, 2⟩
def THM_STAT.PROCHOT : Field := ⟨0x400A0004, 2, 1⟩
def THM_STAT.FAULT : Field := ⟨0x400A0004, 3, 1⟩
def THM_EVT.LEVELUP : Field := ⟨0x400A0008, 0, 1⟩
def THM_EVT.LEVELDN : Field := ⟨0x400A0008, 1, 1⟩
def THM_EVT.SENSFLT : Field := ⟨0x400A0008, 2, 1⟩
def THM_EVT.LOCKERR : Field := ⟨0x400A0008, 3, 1⟩
def THM_EVTEN.LEVELUP : Field := ⟨0x400A000C, 0, 1⟩
def THM_EVTEN.LEVELDN : Field := ⟨0x400A000C, 1, 1⟩
def THM_EVTEN.SENSFLT : Field := ⟨0x400A000C, 2, 1⟩
def THM_EVTEN.LOCKERR : Field := ⟨0x400A000C, 3, 1⟩
def THM_ACT.WFAN : Field := ⟨0x400A0010, 0, 4⟩
def THM_ACT.WHOT : Field := ⟨0x400A0010, 4, 1⟩
def THM_ACT.WRAIL : Field := ⟨0x400A0010, 5, 1⟩
def THM_ACT.HFAN : Field := ⟨0x400A0010, 8, 4⟩
def THM_ACT.HHOT : Field := ⟨0x400A0010, 12, 1⟩
def THM_ACT.HRAIL : Field := ⟨0x400A0010, 13, 1⟩
def THM_ACT.CFAN : Field := ⟨0x400A0010, 16, 4⟩
def THM_ACT.CHOT : Field := ⟨0x400A0010, 20, 1⟩
def THM_ACT.CRAIL : Field := ⟨0x400A0010, 21, 1⟩
def THM_SEQLO.MASKLO (j : Nat) : Field := ⟨0x400A0100 + 8 * j, 0, 32⟩
def THM_SEQHI.MASKHI (j : Nat) : Field := ⟨0x400A0104 + 8 * j, 0, 16⟩
def THM_RES.CODE (i : Nat) : Field := ⟨0x400A0200 + 4 * i, 0, 12⟩
def THM_RES.VALID (i : Nat) : Field := ⟨0x400A0200 + 4 * i, 12, 1⟩
def THM_TEMP.TEMP (n : Nat) : Field := ⟨0x400A0300 + 4 * n, 0, 16⟩
def THM_TEMP.LEVEL (n : Nat) : Field := ⟨0x400A0300 + 4 * n, 16, 2⟩
def THM_TEMP.FAULT (n : Nat) : Field := ⟨0x400A0300 + 4 * n, 18, 2⟩
def THM_TCFG.EN (n : Nat) : Field := ⟨0x400A0400 + 8 * n, 0, 1⟩
def THM_TCFG.LUT (n : Nat) : Field := ⟨0x400A0400 + 8 * n, 1, 1⟩
def THM_TCFG.UPCNT (n : Nat) : Field := ⟨0x400A0400 + 8 * n, 2, 2⟩
def THM_TCFG.FAULTAS (n : Nat) : Field := ⟨0x400A0400 + 8 * n, 4, 2⟩
def THM_TCFG.HYST (n : Nat) : Field := ⟨0x400A0400 + 8 * n, 8, 4⟩
def THM_TTHR.WARN (n : Nat) : Field := ⟨0x400A0404 + 8 * n, 0, 8⟩
def THM_TTHR.HIGH (n : Nat) : Field := ⟨0x400A0404 + 8 * n, 8, 8⟩
def THM_TTHR.CRIT (n : Nat) : Field := ⟨0x400A0404 + 8 * n, 16, 8⟩
def THM_LUT.TEMP (t : Nat) (e : Nat) : Field := ⟨0x400A0800 + 0x100 * t + 4 * e, 0, 16⟩

/-! ### 10_floe_bus -/
def FLOE_EVT.RX0 : Field := ⟨0x400B0000, 0, 1⟩
def FLOE_EVT.TXDONE0 : Field := ⟨0x400B0000, 1, 1⟩
def FLOE_EVT.TXFAIL0 : Field := ⟨0x400B0000, 2, 1⟩
def FLOE_EVT.QVIOL0 : Field := ⟨0x400B0000, 3, 1⟩
def FLOE_EVT.MACFAIL0 : Field := ⟨0x400B0000, 4, 1⟩
def FLOE_EVT.REPLAY0 : Field := ⟨0x400B0000, 5, 1⟩
def FLOE_EVT.CNTEXH0 : Field := ⟨0x400B0000, 6, 1⟩
def FLOE_EVT.SPOOF0 : Field := ⟨0x400B0000, 7, 1⟩
def FLOE_EVT.RX1 : Field := ⟨0x400B0000, 8, 1⟩
def FLOE_EVT.TXDONE1 : Field := ⟨0x400B0000, 9, 1⟩
def FLOE_EVT.TXFAIL1 : Field := ⟨0x400B0000, 10, 1⟩
def FLOE_EVT.QVIOL1 : Field := ⟨0x400B0000, 11, 1⟩
def FLOE_EVT.MACFAIL1 : Field := ⟨0x400B0000, 12, 1⟩
def FLOE_EVT.REPLAY1 : Field := ⟨0x400B0000, 13, 1⟩
def FLOE_EVT.CNTEXH1 : Field := ⟨0x400B0000, 14, 1⟩
def FLOE_EVT.SPOOF1 : Field := ⟨0x400B0000, 15, 1⟩
def FLOE_EVTEN.RX0 : Field := ⟨0x400B0004, 0, 1⟩
def FLOE_EVTEN.TXDONE0 : Field := ⟨0x400B0004, 1, 1⟩
def FLOE_EVTEN.TXFAIL0 : Field := ⟨0x400B0004, 2, 1⟩
def FLOE_EVTEN.QVIOL0 : Field := ⟨0x400B0004, 3, 1⟩
def FLOE_EVTEN.MACFAIL0 : Field := ⟨0x400B0004, 4, 1⟩
def FLOE_EVTEN.REPLAY0 : Field := ⟨0x400B0004, 5, 1⟩
def FLOE_EVTEN.CNTEXH0 : Field := ⟨0x400B0004, 6, 1⟩
def FLOE_EVTEN.SPOOF0 : Field := ⟨0x400B0004, 7, 1⟩
def FLOE_EVTEN.RX1 : Field := ⟨0x400B0004, 8, 1⟩
def FLOE_EVTEN.TXDONE1 : Field := ⟨0x400B0004, 9, 1⟩
def FLOE_EVTEN.TXFAIL1 : Field := ⟨0x400B0004, 10, 1⟩
def FLOE_EVTEN.QVIOL1 : Field := ⟨0x400B0004, 11, 1⟩
def FLOE_EVTEN.MACFAIL1 : Field := ⟨0x400B0004, 12, 1⟩
def FLOE_EVTEN.REPLAY1 : Field := ⟨0x400B0004, 13, 1⟩
def FLOE_EVTEN.CNTEXH1 : Field := ⟨0x400B0004, 14, 1⟩
def FLOE_EVTEN.SPOOF1 : Field := ⟨0x400B0004, 15, 1⟩
def FLOE_PCFG.EN (p : Nat) : Field := ⟨0x400B0100 + 0x100 * p, 0, 1⟩
def FLOE_PCFG.RATE (p : Nat) : Field := ⟨0x400B0100 + 0x100 * p, 1, 2⟩
def FLOE_PCFG.ADAPT (p : Nat) : Field := ⟨0x400B0100 + 0x100 * p, 3, 1⟩
def FLOE_PCFG.TXRETRY (p : Nat) : Field := ⟨0x400B0100 + 0x100 * p, 4, 4⟩
def FLOE_PCFG.FIXSP (p : Nat) : Field := ⟨0x400B0100 + 0x100 * p, 8, 4⟩
def FLOE_PCFG.FIXVTH (p : Nat) : Field := ⟨0x400B0100 + 0x100 * p, 16, 12⟩
def FLOE_PSTAT.IDLE (p : Nat) : Field := ⟨0x400B0104 + 0x100 * p, 0, 1⟩
def FLOE_PSTAT.ADAPTED (p : Nat) : Field := ⟨0x400B0104 + 0x100 * p, 1, 1⟩
def FLOE_PSTAT.SLOW (p : Nat) : Field := ⟨0x400B0104 + 0x100 * p, 2, 1⟩
def FLOE_PSTAT.SP (p : Nat) : Field := ⟨0x400B0104 + 0x100 * p, 4, 4⟩
def FLOE_PSTAT.DR (p : Nat) : Field := ⟨0x400B0104 + 0x100 * p, 8, 4⟩
def FLOE_PSTAT.VTH (p : Nat) : Field := ⟨0x400B0104 + 0x100 * p, 16, 12⟩
def FLOE_PLVL.VLOW (p : Nat) : Field := ⟨0x400B0108 + 0x100 * p, 0, 12⟩
def FLOE_PLVL.VHIGH (p : Nat) : Field := ⟨0x400B0108 + 0x100 * p, 16, 12⟩
def FLOE_PERRA.CRCERR (p : Nat) : Field := ⟨0x400B010C + 0x100 * p, 0, 8⟩
def FLOE_PERRA.STUFFERR (p : Nat) : Field := ⟨0x400B010C + 0x100 * p, 8, 8⟩
def FLOE_PERRA.FORMERR (p : Nat) : Field := ⟨0x400B010C + 0x100 * p, 16, 8⟩
def FLOE_PERRA.RXOVF (p : Nat) : Field := ⟨0x400B010C + 0x100 * p, 24, 8⟩
def FLOE_PERRB.BITERR (p : Nat) : Field := ⟨0x400B0110 + 0x100 * p, 0, 8⟩
def FLOE_PERRB.ARBLOST (p : Nat) : Field := ⟨0x400B0110 + 0x100 * p, 8, 8⟩
def FLOE_PERRB.NOACK (p : Nat) : Field := ⟨0x400B0110 + 0x100 * p, 16, 8⟩
def FLOE_PERRB.TXFAIL (p : Nat) : Field := ⟨0x400B0110 + 0x100 * p, 24, 8⟩
def FLOE_PERRC.MACFAIL (p : Nat) : Field := ⟨0x400B0114 + 0x100 * p, 0, 8⟩
def FLOE_PERRC.REPLAY (p : Nat) : Field := ⟨0x400B0114 + 0x100 * p, 8, 8⟩
def FLOE_PERRC.QVIOL (p : Nat) : Field := ⟨0x400B0114 + 0x100 * p, 16, 8⟩
def FLOE_PERRC.SPOOF (p : Nat) : Field := ⟨0x400B0114 + 0x100 * p, 24, 8⟩
def FLOE_TXHDR.DST (p : Nat) : Field := ⟨0x400B0118 + 0x100 * p, 0, 8⟩
def FLOE_TXHDR.TYPE (p : Nat) : Field := ⟨0x400B0118 + 0x100 * p, 8, 4⟩
def FLOE_TXHDR.SEC (p : Nat) : Field := ⟨0x400B0118 + 0x100 * p, 12, 1⟩
def FLOE_TXHDR.LEN (p : Nat) : Field := ⟨0x400B0118 + 0x100 * p, 16, 7⟩
def FLOE_TXCTL.GO (p : Nat) : Field := ⟨0x400B011C + 0x100 * p, 0, 1⟩
def FLOE_TXCTL.BUSY (p : Nat) : Field := ⟨0x400B011C + 0x100 * p, 1, 1⟩
def FLOE_TXCTL.FAILED (p : Nat) : Field := ⟨0x400B011C + 0x100 * p, 2, 1⟩
def FLOE_TXCTL.REFUSED (p : Nat) : Field := ⟨0x400B011C + 0x100 * p, 3, 1⟩
def FLOE_TXCTL.ATTEMPTS (p : Nat) : Field := ⟨0x400B011C + 0x100 * p, 4, 4⟩
def FLOE_RXSTAT.COUNT (p : Nat) : Field := ⟨0x400B0120 + 0x100 * p, 0, 4⟩
def FLOE_RXHDR.SRC (p : Nat) : Field := ⟨0x400B0124 + 0x100 * p, 0, 8⟩
def FLOE_RXHDR.DST (p : Nat) : Field := ⟨0x400B0124 + 0x100 * p, 8, 8⟩
def FLOE_RXHDR.TYPE (p : Nat) : Field := ⟨0x400B0124 + 0x100 * p, 16, 4⟩
def FLOE_RXHDR.SEC (p : Nat) : Field := ⟨0x400B0124 + 0x100 * p, 20, 1⟩
def FLOE_RXHDR.LEN (p : Nat) : Field := ⟨0x400B0124 + 0x100 * p, 24, 7⟩
def FLOE_RXHDR.VALID (p : Nat) : Field := ⟨0x400B0124 + 0x100 * p, 31, 1⟩
def FLOE_RXCNT.CNT (p : Nat) : Field := ⟨0x400B0128 + 0x100 * p, 0, 32⟩
def FLOE_RXPOP.POP (p : Nat) : Field := ⟨0x400B012C + 0x100 * p, 0, 1⟩
def FLOE_TXDATA.DATA (p : Nat) (k : Nat) : Field := ⟨0x400B0140 + 0x100 * p + 4 * k, 0, 32⟩
def FLOE_RXDATA.DATA (p : Nat) (k : Nat) : Field := ⟨0x400B0180 + 0x100 * p + 4 * k, 0, 32⟩
def FLOE_KCFG.ID (e : Nat) : Field := ⟨0x400B1000 + 0x40 * e, 0, 8⟩
def FLOE_KCFG.VALID (e : Nat) : Field := ⟨0x400B1000 + 0x40 * e, 8, 1⟩
def FLOE_KTX.KTX (e : Nat) : Field := ⟨0x400B1004 + 0x40 * e, 0, 32⟩
def FLOE_KRX.KRX (e : Nat) : Field := ⟨0x400B1008 + 0x40 * e, 0, 32⟩
def FLOE_KEY.KEY (e : Nat) (k : Nat) : Field := ⟨0x400B1020 + 0x40 * e + 4 * k, 0, 32⟩

/-! ### 02_host_link -/
def HOST_STAT.MODE : Field := ⟨0x400C0000, 0, 2⟩
def HOST_STAT.HOSTPWR : Field := ⟨0x400C0000, 2, 1⟩
def HOST_STAT.LINKUP : Field := ⟨0x400C0000, 3, 1⟩
def HOST_STAT.PLTRST : Field := ⟨0x400C0000, 4, 1⟩
def HOST_STAT.HOLD : Field := ⟨0x400C0000, 5, 1⟩
def HOST_STAT.ALERT : Field := ⟨0x400C0000, 6, 1⟩
def HOST_STAT.IOMODE : Field := ⟨0x400C0000, 8, 2⟩
def HOST_STAT.FREQ : Field := ⟨0x400C0000, 12, 3⟩
def HOST_WINEN.IDENT : Field := ⟨0x400C0004, 0, 1⟩
def HOST_WINEN.MBXCTL : Field := ⟨0x400C0004, 1, 1⟩
def HOST_WINEN.MBXBUF : Field := ⟨0x400C0004, 2, 1⟩
def HOST_WINEN.KEYWIN : Field := ⟨0x400C0004, 3, 1⟩
def HOST_WINEN.BULKCTL : Field := ⟨0x400C0004, 4, 1⟩
def HOST_WINEN.BULKDATA : Field := ⟨0x400C0004, 5, 1⟩
def HOST_CTRL.OOBADDR : Field := ⟨0x400C0008, 0, 7⟩
def HOST_POST.OPEN : Field := ⟨0x400C0010, 0, 1⟩
def HOST_POST.CLOSE : Field := ⟨0x400C0010, 1, 1⟩
def HOST_POST.ABORT : Field := ⟨0x400C0010, 2, 1⟩
def HOST_POST.PENDING : Field := ⟨0x400C0010, 8, 1⟩
def HOST_POST.FULL : Field := ⟨0x400C0010, 16, 1⟩
def HOST_POST.DROPPED : Field := ⟨0x400C0010, 17, 1⟩
def HOST_EVT.HWRITE : Field := ⟨0x400C0020, 0, 1⟩
def HOST_EVT.HRESET : Field := ⟨0x400C0020, 1, 1⟩
def HOST_EVT.VWCHG : Field := ⟨0x400C0020, 2, 1⟩
def HOST_EVT.OOBRX : Field := ⟨0x400C0020, 3, 1⟩
def HOST_EVT.HOLDEXP : Field := ⟨0x400C0020, 4, 1⟩
def HOST_EVT.PROMOTED : Field := ⟨0x400C0020, 5, 1⟩
def HOST_EVT.HOSTUP : Field := ⟨0x400C0020, 6, 1⟩
def HOST_EVT.HOSTDOWN : Field := ⟨0x400C0020, 7, 1⟩
def HOST_EVTEN.HWRITE : Field := ⟨0x400C0024, 0, 1⟩
def HOST_EVTEN.HRESET : Field := ⟨0x400C0024, 1, 1⟩
def HOST_EVTEN.VWCHG : Field := ⟨0x400C0024, 2, 1⟩
def HOST_EVTEN.OOBRX : Field := ⟨0x400C0024, 3, 1⟩
def HOST_EVTEN.HOLDEXP : Field := ⟨0x400C0024, 4, 1⟩
def HOST_EVTEN.PROMOTED : Field := ⟨0x400C0024, 5, 1⟩
def HOST_EVTEN.HOSTUP : Field := ⟨0x400C0024, 6, 1⟩
def HOST_EVTEN.HOSTDOWN : Field := ⟨0x400C0024, 7, 1⟩
def HOST_VWIN.SLPS3 : Field := ⟨0x400C0030, 0, 1⟩
def HOST_VWIN.SLPS4 : Field := ⟨0x400C0030, 1, 1⟩
def HOST_VWIN.SLPS5 : Field := ⟨0x400C0030, 2, 1⟩
def HOST_VWIN.SLPA : Field := ⟨0x400C0030, 3, 1⟩
def HOST_VWIN.SUSSTAT : Field := ⟨0x400C0030, 4, 1⟩
def HOST_VWIN.PLTRST : Field := ⟨0x400C0030, 5, 1⟩
def HOST_VWIN.SUSWARN : Field := ⟨0x400C0030, 6, 1⟩
def HOST_VWIN.HOSTC10 : Field := ⟨0x400C0030, 7, 1⟩
def HOST_VWIN.SLPLAN : Field := ⟨0x400C0030, 8, 1⟩
def HOST_VWIN.SLPWLAN : Field := ⟨0x400C0030, 9, 1⟩
def HOST_VWIN.OOBRSTWARN : Field := ⟨0x400C0030, 10, 1⟩
def HOST_VWIN.HOSTRSTWARN : Field := ⟨0x400C0030, 11, 1⟩
def HOST_VWOUT.SCI : Field := ⟨0x400C0034, 0, 1⟩
def HOST_VWOUT.SMI : Field := ⟨0x400C0034, 1, 1⟩
def HOST_VWOUT.WAKE : Field := ⟨0x400C0034, 2, 1⟩
def HOST_VWOUT.PME : Field := ⟨0x400C0034, 3, 1⟩
def HOST_VWOUT.SUSPWRDNACK : Field := ⟨0x400C0034, 4, 1⟩
def HOST_ERRCNT.CRC : Field := ⟨0x400C0040, 0, 16⟩
def HOST_ERRCNT.FRAME : Field := ⟨0x400C0040, 16, 16⟩
def HOST_OOBRX.LEN : Field := ⟨0x400C0050, 0, 7⟩
def HOST_OOBRX.FULL : Field := ⟨0x400C0050, 8, 1⟩
def HOST_OOBRX.REL : Field := ⟨0x400C0050, 9, 1⟩
def HOST_OOBTX.LEN : Field := ⟨0x400C0054, 0, 7⟩
def HOST_OOBTX.GO : Field := ⟨0x400C0054, 8, 1⟩
def HOST_OOBTX.BUSY : Field := ⟨0x400C0054, 9, 1⟩
def HOST_OOBTX.DISCARDED : Field := ⟨0x400C0054, 10, 1⟩
def HOST_OOBRXDATA.DATA (k : Nat) : Field := ⟨0x400C0080 + 4 * k, 0, 32⟩
def HOST_OOBTXDATA.DATA (k : Nat) : Field := ⟨0x400C00D0 + 4 * k, 0, 32⟩

/-! ### 03_mailboxes_and_bulk_port -/
def MBX_CTRL.FWREADY : Field := ⟨0x400D0000, 0, 1⟩
def MBX_CTRL.OBFSCI : Field := ⟨0x400D0000, 1, 1⟩
def MBX_STAT.WRERR : Field := ⟨0x400D0004, 0, 1⟩
def MBX_STAT.REQPAR : Field := ⟨0x400D0004, 1, 1⟩
def MBX_STAT.DONEERR : Field := ⟨0x400D0004, 2, 1⟩
def MBX_STAT.QFULL : Field := ⟨0x400D0004, 3, 1⟩
def MBX_STAT.ECOVR : Field := ⟨0x400D0004, 4, 1⟩
def MBX_EVT.RING : Field := ⟨0x400D0008, 0, 1⟩
def MBX_EVT.DUP : Field := ⟨0x400D0008, 1, 1⟩
def MBX_EVT.ECIN : Field := ⟨0x400D0008, 2, 1⟩
def MBX_EVT.ECWQ : Field := ⟨0x400D0008, 3, 1⟩
def MBX_EVT.BULKW : Field := ⟨0x400D0008, 4, 1⟩
def MBX_EVT.BULKRD : Field := ⟨0x400D0008, 5, 1⟩
def MBX_EVT.CREDITHALF : Field := ⟨0x400D0008, 6, 1⟩
def MBX_EVT.BULKCLOSE : Field := ⟨0x400D0008, 7, 1⟩
def MBX_EVT.MBXPAR : Field := ⟨0x400D0008, 8, 1⟩
def MBX_EVT.BULKPAR : Field := ⟨0x400D0008, 9, 1⟩
def MBX_EVTEN.RING : Field := ⟨0x400D000C, 0, 1⟩
def MBX_EVTEN.DUP : Field := ⟨0x400D000C, 1, 1⟩
def MBX_EVTEN.ECIN : Field := ⟨0x400D000C, 2, 1⟩
def MBX_EVTEN.ECWQ : Field := ⟨0x400D000C, 3, 1⟩
def MBX_EVTEN.BULKW : Field := ⟨0x400D000C, 4, 1⟩
def MBX_EVTEN.BULKRD : Field := ⟨0x400D000C, 5, 1⟩
def MBX_EVTEN.CREDITHALF : Field := ⟨0x400D000C, 6, 1⟩
def MBX_EVTEN.BULKCLOSE : Field := ⟨0x400D000C, 7, 1⟩
def MBX_EVTEN.MBXPAR : Field := ⟨0x400D000C, 8, 1⟩
def MBX_EVTEN.BULKPAR : Field := ⟨0x400D000C, 9, 1⟩
def MBX_RING.RUNG : Field := ⟨0x400D0010, 0, 8⟩
def MBX_TAKE.TAKE : Field := ⟨0x400D0014, 0, 8⟩
def MBX_DONE.TAG : Field := ⟨0x400D0018, 0, 3⟩
def MBX_DONE.NOSTORE : Field := ⟨0x400D0018, 8, 1⟩
def MBX_CNT.DUP : Field := ⟨0x400D001C, 0, 16⟩
def MBX_CNT.HWANS : Field := ⟨0x400D001C, 16, 16⟩
def MBX_TAGINFO.STATE (t : Nat) : Field := ⟨0x400D0020 + 8 * t, 0, 2⟩
def MBX_TAGINFO.RVALID (t : Nat) : Field := ⟨0x400D0020 + 8 * t, 2, 1⟩
def MBX_TAGINFO.RESEND (t : Nat) : Field := ⟨0x400D0020 + 8 * t, 3, 1⟩
def MBX_TAGINFO.CORRUPTED (t : Nat) : Field := ⟨0x400D0020 + 8 * t, 4, 1⟩
def MBX_TAGINFO.LASTSEQ (t : Nat) : Field := ⟨0x400D0020 + 8 * t, 16, 16⟩
def MBX_TAGCMD.LASTCMD (t : Nat) : Field := ⟨0x400D0024 + 8 * t, 0, 16⟩
def MBX_ECSTAT.OBF : Field := ⟨0x400D0080, 0, 1⟩
def MBX_ECSTAT.IBF : Field := ⟨0x400D0080, 1, 1⟩
def MBX_ECSTAT.BURST : Field := ⟨0x400D0080, 2, 1⟩
def MBX_ECSTAT.SCIEVT : Field := ⟨0x400D0080, 3, 1⟩
def MBX_ECSTAT.WQCNT : Field := ⟨0x400D0080, 4, 5⟩
def MBX_ECSTAT.QCNT : Field := ⟨0x400D0080, 9, 4⟩
def MBX_ECSTAT.INCNT : Field := ⟨0x400D0080, 13, 5⟩
def MBX_ECIN.DATA : Field := ⟨0x400D0084, 0, 8⟩
def MBX_ECIN.CMD : Field := ⟨0x400D0084, 8, 1⟩
def MBX_ECIN.VALID : Field := ⟨0x400D0084, 9, 1⟩
def MBX_ECWQ.ADDR : Field := ⟨0x400D0088, 0, 8⟩
def MBX_ECWQ.DATA : Field := ⟨0x400D0088, 8, 8⟩
def MBX_ECWQ.VALID : Field := ⟨0x400D0088, 16, 1⟩
def MBX_ECOUT.DATA : Field := ⟨0x400D008C, 0, 8⟩
def MBX_ECQPUSH.DATA : Field := ⟨0x400D0090, 0, 8⟩
def MBX_BULKSTAT.TARGET : Field := ⟨0x400D00A0, 0, 3⟩
def MBX_BULKSTAT.UNITOPEN : Field := ⟨0x400D00A0, 3, 1⟩
def MBX_BULKSTAT.CLOSEREQ : Field := ⟨0x400D00A0, 4, 1⟩
def MBX_BULKSTAT.WFILL : Field := ⟨0x400D00A0, 16, 13⟩
def MBX_BULKPOS.POS : Field := ⟨0x400D00A4, 0, 32⟩
def MBX_BULKRD.DATA : Field := ⟨0x400D00A8, 0, 32⟩
def MBX_BULKWR.DATA : Field := ⟨0x400D00AC, 0, 32⟩
def MBX_BULKACK.CLOSED : Field := ⟨0x400D00B0, 0, 1⟩
def MBX_BULKACK.INCOMPLETE : Field := ⟨0x400D00B0, 1, 1⟩
def MBX_BULKRFILL.RFILL : Field := ⟨0x400D00B4, 0, 13⟩

/-! ### 11_security_and_life_cycle -/
def SEC_LCS.STATE : Field := ⟨0x400E0000, 0, 3⟩
def SEC_LCS.IKRDY : Field := ⟨0x400E0000, 3, 1⟩
def SEC_LCS.SVCCNT : Field := ⟨0x400E0000, 4, 7⟩
def SEC_LCS.DBGOPEN : Field := ⟨0x400E0000, 11, 1⟩
def SEC_LCS.DBGLEVEL : Field := ⟨0x400E0000, 12, 2⟩
def SEC_LCS.DBGOPENED : Field := ⟨0x400E0000, 14, 1⟩
def SEC_LCS.REFCAUSE : Field := ⟨0x400E0000, 16, 4⟩
def SEC_FUSESTAT.OEMPROG : Field := ⟨0x400E0004, 0, 4⟩
def SEC_FUSESTAT.OEMREV : Field := ⟨0x400E0004, 4, 4⟩
def SEC_FUSESTAT.FWARB : Field := ⟨0x400E0004, 8, 7⟩
def SEC_FUSESTAT.HOSTARB : Field := ⟨0x400E0004, 16, 7⟩
def SEC_FUSESTAT.FUSEERR : Field := ⟨0x400E0004, 24, 1⟩
def SEC_FUSESTAT.SEQBUSY : Field := ⟨0x400E0004, 25, 1⟩
def SEC_DEVIDLO.DEVID : Field := ⟨0x400E0008, 0, 32⟩
def SEC_DEVIDHI.DEVID : Field := ⟨0x400E000C, 0, 32⟩
def SEC_LCREQ.TARGET : Field := ⟨0x400E0010, 0, 3⟩
def SEC_LCREQ.KEY : Field := ⟨0x400E0010, 24, 8⟩
def SEC_ARBADV.FWTGT : Field := ⟨0x400E0014, 0, 7⟩
def SEC_ARBADV.HOSTTGT : Field := ⟨0x400E0014, 8, 7⟩
def SEC_ARBADV.GOFW : Field := ⟨0x400E0014, 16, 1⟩
def SEC_ARBADV.GOHOST : Field := ⟨0x400E0014, 17, 1⟩
def SEC_OEMPROG.SLOT : Field := ⟨0x400E0018, 0, 2⟩
def SEC_OEMPROG.PROG : Field := ⟨0x400E0018, 4, 1⟩
def SEC_OEMPROG.REVOKE : Field := ⟨0x400E0018, 5, 1⟩
def SEC_OEMPROG.KEY : Field := ⟨0x400E0018, 24, 8⟩
def SEC_OEMADDR.ADDR : Field := ⟨0x400E001C, 2, 30⟩
def SEC_TOKCTL.NEWNONCE : Field := ⟨0x400E0020, 0, 1⟩
def SEC_TOKCTL.SUBMIT : Field := ⟨0x400E0020, 1, 1⟩
def SEC_TOKCTL.BUSY : Field := ⟨0x400E0020, 2, 1⟩
def SEC_TOKCTL.KEYOK : Field := ⟨0x400E0020, 3, 1⟩
def SEC_TOKCTL.RESULT : Field := ⟨0x400E0020, 8, 4⟩
def SEC_TOKADDR.ADDR : Field := ⟨0x400E0024, 2, 30⟩
def SEC_NONCE.NONCE (k : Nat) : Field := ⟨0x400E0028 + 4 * k, 0, 32⟩
def SEC_CMD.GO : Field := ⟨0x400E0040, 0, 1⟩
def SEC_DESC.ADDR : Field := ⟨0x400E0044, 2, 30⟩
def SEC_CMDSTAT.BUSY : Field := ⟨0x400E0048, 0, 1⟩
def SEC_CMDSTAT.HASHOPEN : Field := ⟨0x400E0048, 1, 1⟩
def SEC_CMDSTAT.CODE : Field := ⟨0x400E0048, 8, 8⟩
def SEC_EVT.CMDDONE : Field := ⟨0x400E0050, 0, 1⟩
def SEC_EVT.CMDERR : Field := ⟨0x400E0050, 1, 1⟩
def SEC_EVT.TOKDONE : Field := ⟨0x400E0050, 2, 1⟩
def SEC_EVT.REFUSED : Field := ⟨0x400E0050, 3, 1⟩
def SEC_EVT.TRNGFAIL : Field := ⟨0x400E0050, 4, 1⟩
def SEC_EVT.DBGOPEN : Field := ⟨0x400E0050, 5, 1⟩
def SEC_EVTEN.CMDDONE : Field := ⟨0x400E0054, 0, 1⟩
def SEC_EVTEN.CMDERR : Field := ⟨0x400E0054, 1, 1⟩
def SEC_EVTEN.TOKDONE : Field := ⟨0x400E0054, 2, 1⟩
def SEC_EVTEN.REFUSED : Field := ⟨0x400E0054, 3, 1⟩
def SEC_EVTEN.TRNGFAIL : Field := ⟨0x400E0054, 4, 1⟩
def SEC_EVTEN.DBGOPEN : Field := ⟨0x400E0054, 5, 1⟩
def SEC_TRNG.DATA : Field := ⟨0x400E0058, 0, 32⟩
def SEC_TRNGSTAT.VALID : Field := ⟨0x400E005C, 0, 1⟩
def SEC_TRNGSTAT.FAIL : Field := ⟨0x400E005C, 1, 1⟩
def SEC_BOOTINFO.SLOT : Field := ⟨0x400E0060, 0, 1⟩
def SEC_BOOTINFO.FALLBACK : Field := ⟨0x400E0060, 1, 1⟩
def SEC_BOOTINFO.UCODE : Field := ⟨0x400E0060, 2, 1⟩
def SEC_BOOTINFO.SVN : Field := ⟨0x400E0060, 8, 7⟩
def SEC_BOOTINFO.KEYSLOT : Field := ⟨0x400E0060, 16, 8⟩
def SEC_LOCK.MEAS : Field := ⟨0x400E0064, 0, 1⟩
def SEC_LOCK.UCODE : Field := ⟨0x400E0064, 1, 1⟩
def SEC_OEMHASH.HASH (s : Nat) (k : Nat) : Field := ⟨0x400E0100 + 0x40 * s + 4 * k, 0, 32⟩
def SEC_KSLOT.VALID (k : Nat) : Field := ⟨0x400E0200 + 4 * k, 0, 1⟩
def SEC_KSLOT.TYPE (k : Nat) : Field := ⟨0x400E0200 + 4 * k, 1, 2⟩
def SEC_KSLOT.USE (k : Nat) : Field := ⟨0x400E0200 + 4 * k, 4, 4⟩
def SEC_KSLOT.ORIGIN (k : Nat) : Field := ⟨0x400E0200 + 4 * k, 8, 2⟩
def SEC_KSLOT.CLR (k : Nat) : Field := ⟨0x400E0200 + 4 * k, 16, 1⟩
def SEC_MEASFW.DIGEST (k : Nat) : Field := ⟨0x400E0300 + 4 * k, 0, 32⟩
def SEC_IKPUB.IKPUB (k : Nat) : Field := ⟨0x400E0400 + 4 * k, 0, 32⟩
def SEC_MPUFADDR.ADDR : Field := ⟨0x400E0800, 0, 32⟩
def SEC_MPUFINFO.CAUSE : Field := ⟨0x400E0804, 0, 2⟩
def SEC_MPUFINFO.KIND : Field := ⟨0x400E0804, 2, 2⟩
def SEC_MPUBASE.EN (n : Nat) : Field := ⟨0x400E0840 + 8 * n, 0, 1⟩
def SEC_MPUBASE.TR (n : Nat) : Field := ⟨0x400E0840 + 8 * n, 1, 1⟩
def SEC_MPUBASE.TW (n : Nat) : Field := ⟨0x400E0840 + 8 * n, 2, 1⟩
def SEC_MPUBASE.TX (n : Nat) : Field := ⟨0x400E0840 + 8 * n, 3, 1⟩
def SEC_MPUBASE.PXN (n : Nat) : Field := ⟨0x400E0840 + 8 * n, 4, 1⟩
def SEC_MPUBASE.BASE (n : Nat) : Field := ⟨0x400E0840 + 8 * n, 5, 27⟩
def SEC_MPULIM.LIMIT (n : Nat) : Field := ⟨0x400E0844 + 8 * n, 5, 27⟩
def SEC_PATLO.PAT : Field := ⟨0x400E0900, 0, 32⟩
def SEC_PATHI.PAT : Field := ⟨0x400E0904, 0, 12⟩

/-! ### 12_host_flash_guard -/
def FGD_CTRL.EN : Field := ⟨0x400F0000, 0, 1⟩
def FGD_CTRL.START : Field := ⟨0x400F0000, 1, 1⟩
def FGD_CTRL.RSMEN : Field := ⟨0x400F0000, 2, 1⟩
def FGD_CTRL.PLOCK : Field := ⟨0x400F0000, 3, 1⟩
def FGD_STAT.PHASE : Field := ⟨0x400F0004, 0, 3⟩
def FGD_STAT.VERDICT : Field := ⟨0x400F0004, 3, 2⟩
def FGD_STAT.RSM : Field := ⟨0x400F0004, 5, 1⟩
def FGD_STAT.ACTMAN : Field := ⟨0x400F0004, 6, 1⟩
def FGD_STAT.SPAREVALID : Field := ⟨0x400F0004, 7, 1⟩
def FGD_STAT.FAILCAUSE : Field := ⟨0x400F0004, 8, 4⟩
def FGD_STAT.PROMO : Field := ⟨0x400F0004, 12, 2⟩
def FGD_STAT.BUSY : Field := ⟨0x400F0004, 14, 1⟩
def FGD_EVT.DONE : Field := ⟨0x400F0008, 0, 1⟩
def FGD_EVT.RECOVERED : Field := ⟨0x400F0008, 1, 1⟩
def FGD_EVT.FAIL : Field := ⟨0x400F0008, 2, 1⟩
def FGD_EVT.PROMODONE : Field := ⟨0x400F0008, 3, 1⟩
def FGD_EVT.PROMOTED : Field := ⟨0x400F0008, 4, 1⟩
def FGD_EVT.PROMOFAIL : Field := ⟨0x400F0008, 5, 1⟩
def FGD_EVT.DENIED : Field := ⟨0x400F0008, 6, 1⟩
def FGD_EVT.DEVERR : Field := ⟨0x400F0008, 7, 1⟩
def FGD_EVT.REFUSED : Field := ⟨0x400F0008, 8, 1⟩
def FGD_EVTEN.DONE : Field := ⟨0x400F000C, 0, 1⟩
def FGD_EVTEN.RECOVERED : Field := ⟨0x400F000C, 1, 1⟩
def FGD_EVTEN.FAIL : Field := ⟨0x400F000C, 2, 1⟩
def FGD_EVTEN.PROMODONE : Field := ⟨0x400F000C, 3, 1⟩
def FGD_EVTEN.PROMOTED : Field := ⟨0x400F000C, 4, 1⟩
def FGD_EVTEN.PROMOFAIL : Field := ⟨0x400F000C, 5, 1⟩
def FGD_EVTEN.DENIED : Field := ⟨0x400F000C, 6, 1⟩
def FGD_EVTEN.DEVERR : Field := ⟨0x400F000C, 7, 1⟩
def FGD_EVTEN.REFUSED : Field := ⟨0x400F000C, 8, 1⟩
def FGD_SPICFG.CLKSEL : Field := ⟨0x400F0010, 0, 2⟩
def FGD_SPICFG.MAXW : Field := ⟨0x400F0010, 2, 2⟩
def FGD_MANOFF.MANOFF0 : Field := ⟨0x400F0014, 0, 8⟩
def FGD_MANOFF.MANOFF1 : Field := ⟨0x400F0014, 8, 8⟩
def FGD_DEV.PRESENT (k : Nat) : Field := ⟨0x400F0020 + 4 * k, 0, 1⟩
def FGD_DEV.ADDR4 (k : Nat) : Field := ⟨0x400F0020 + 4 * k, 1, 1⟩
def FGD_DEV.RMODE (k : Nat) : Field := ⟨0x400F0020 + 4 * k, 2, 2⟩
def FGD_DEV.SIZELOG (k : Nat) : Field := ⟨0x400F0020 + 4 * k, 8, 5⟩
def FGD_DEV.ERASEOP (k : Nat) : Field := ⟨0x400F0020 + 4 * k, 16, 8⟩
def FGD_TOP.TOP : Field := ⟨0x400F0028, 0, 28⟩
def FGD_ACTSEQ.MSEQ : Field := ⟨0x400F002C, 0, 32⟩
def FGD_SPARESEQ.MSEQ : Field := ⟨0x400F0030, 0, 32⟩
def FGD_PROMO.GO : Field := ⟨0x400F0034, 0, 1⟩
def FGD_PROMO.CANCEL : Field := ⟨0x400F0034, 1, 1⟩
def FGD_FREQ.OP : Field := ⟨0x400F0040, 0, 2⟩
def FGD_FREQ.SRC : Field := ⟨0x400F0040, 2, 1⟩
def FGD_FREQ.GO : Field := ⟨0x400F0040, 3, 1⟩
def FGD_FREQ.BUSY : Field := ⟨0x400F0040, 4, 1⟩
def FGD_FREQ.RESULT : Field := ⟨0x400F0040, 8, 3⟩
def FGD_FADDR.ADDR : Field := ⟨0x400F0044, 0, 32⟩
def FGD_FLEN.LEN : Field := ⟨0x400F0048, 0, 13⟩
def FGD_FBUF.BUF : Field := ⟨0x400F004C, 2, 30⟩
def FGD_CNT.DENIED : Field := ⟨0x400F0050, 0, 16⟩
def FGD_CNT.DEVERR : Field := ⟨0x400F0050, 16, 16⟩
def FGD_REGSTAT.STATE (r : Nat) : Field := ⟨0x400F0100 + 0x10 * r, 0, 2⟩
def FGD_REGSTAT.RSTATE (r : Nat) : Field := ⟨0x400F0100 + 0x10 * r, 2, 2⟩
def FGD_REGSTAT.COPY (r : Nat) : Field := ⟨0x400F0100 + 0x10 * r, 4, 1⟩
def FGD_REGSTAT.REQ (r : Nat) : Field := ⟨0x400F0100 + 0x10 * r, 5, 1⟩
def FGD_REGSTAT.VALID (r : Nat) : Field := ⟨0x400F0100 + 0x10 * r, 6, 1⟩
def FGD_REGSTAT.REGION (r : Nat) : Field := ⟨0x400F0100 + 0x10 * r, 16, 16⟩
def FGD_REGHB.HBASE (r : Nat) : Field := ⟨0x400F0104 + 0x10 * r, 0, 32⟩
def FGD_REGLEN.LEN (r : Nat) : Field := ⟨0x400F0108 + 0x10 * r, 0, 32⟩
def FGD_REGPB.PBASE (r : Nat) : Field := ⟨0x400F010C + 0x10 * r, 0, 32⟩
def FGD_DIG.DIGEST (r : Nat) (k : Nat) : Field := ⟨0x400F0400 + 0x40 * r + 4 * k, 0, 32⟩
def FGD_POL.POL (k : Nat) : Field := ⟨0x400F2000 + 4 * k, 0, 32⟩

/-! ### 13_update_settings_log -/
def NVC_CTRL.CMD : Field := ⟨0x40100000, 0, 2⟩
def NVC_CTRL.GO : Field := ⟨0x40100000, 2, 1⟩
def NVC_CTRL.KEY : Field := ⟨0x40100000, 24, 8⟩
def NVC_ADDR.ADDR : Field := ⟨0x40100004, 0, 22⟩
def NVC_BUF.BUF : Field := ⟨0x40100008, 3, 29⟩
def NVC_LEN.LEN : Field := ⟨0x4010000C, 0, 13⟩
def NVC_STAT.BUSY : Field := ⟨0x40100010, 0, 1⟩
def NVC_STAT.RESULT : Field := ⟨0x40100010, 4, 3⟩
def NVC_EVT.DONE : Field := ⟨0x40100014, 0, 1⟩
def NVC_EVT.ERROR : Field := ⟨0x40100014, 1, 1⟩
def NVC_EVTEN.DONE : Field := ⟨0x40100018, 0, 1⟩
def NVC_EVTEN.ERROR : Field := ⟨0x40100018, 1, 1⟩
def NVC_ERRADDR.ADDR : Field := ⟨0x4010001C, 0, 22⟩
def NVC_BOOTST.HOVALID : Field := ⟨0x40100020, 0, 1⟩
def NVC_BOOTST.TRIAL : Field := ⟨0x40100020, 1, 1⟩
def NVC_BOOTST.ROMREC : Field := ⟨0x40100020, 2, 1⟩
def NVC_BOOTST.BCSEQ : Field := ⟨0x40100020, 16, 16⟩
def NVC_CONFCTL.ARM : Field := ⟨0x40100024, 0, 1⟩
def NVC_CONFCTL.CONFIRM : Field := ⟨0x40100024, 1, 1⟩
def NVC_CONFCTL.ARMED : Field := ⟨0x40100024, 2, 1⟩
def NVC_CONFCTL.EXPIRED : Field := ⟨0x40100024, 3, 1⟩
def NVC_CONFCTL.KEY : Field := ⟨0x40100024, 24, 8⟩
def NVC_CONFREM.REMAIN : Field := ⟨0x40100028, 0, 17⟩
def LOG_CTRL.FLUSH : Field := ⟨0x40110000, 0, 1⟩
def LOG_STAT.HEAD : Field := ⟨0x40110004, 0, 13⟩
def LOG_STAT.FILL : Field := ⟨0x40110004, 16, 7⟩
def LOG_STAT.READY : Field := ⟨0x40110004, 23, 1⟩
def LOG_STAT.REFUSED : Field := ⟨0x40110004, 24, 1⟩
def LOG_EVT.WRITTEN : Field := ⟨0x40110008, 0, 1⟩
def LOG_EVT.DROP : Field := ⟨0x40110008, 1, 1⟩
def LOG_EVT.HALF : Field := ⟨0x40110008, 2, 1⟩
def LOG_EVTEN.WRITTEN : Field := ⟨0x4011000C, 0, 1⟩
def LOG_EVTEN.DROP : Field := ⟨0x4011000C, 1, 1⟩
def LOG_EVTEN.HALF : Field := ⟨0x4011000C, 2, 1⟩
def LOG_CNT.DROPCORE : Field := ⟨0x40110010, 0, 16⟩
def LOG_CNT.DROPHW : Field := ⟨0x40110010, 16, 16⟩
def LOG_WHDR.SOURCE : Field := ⟨0x40110020, 0, 8⟩
def LOG_WHDR.SEV : Field := ⟨0x40110020, 8, 8⟩
def LOG_WHDR.CODE : Field := ⟨0x40110020, 16, 16⟩
def LOG_WDATA.DATA (k : Nat) : Field := ⟨0x40110024 + 4 * k, 0, 32⟩
def LOG_WCOMMIT.GO : Field := ⟨0x40110034, 0, 1⟩

/-! ### 16_generdy_exceptions_and_microcode -/
def TMR_WDCTL.EN : Field := ⟨0x40140100, 0, 1⟩
def TMR_WDCTL.LOCK : Field := ⟨0x40140100, 1, 1⟩
def TMR_WDCFG.T1 : Field := ⟨0x40140104, 0, 16⟩
def TMR_WDCFG.T2 : Field := ⟨0x40140104, 16, 16⟩
def TMR_WDKICK.KEY : Field := ⟨0x40140108, 0, 16⟩
def TMR_WDSTAT.STAGE : Field := ⟨0x4014010C, 0, 1⟩
def TMR_WDSTAT.BADKICK : Field := ⟨0x4014010C, 1, 1⟩
def TMR_WDSTAT.REMAIN : Field := ⟨0x4014010C, 16, 16⟩

/-! ### 01_architecture -/
def ERR_MEMSTAT.MSRAM : Field := ⟨0x40150010, 0, 1⟩
def ERR_MEMSTAT.LUXMEM : Field := ⟨0x40150010, 1, 1⟩
def ERR_MEMSTAT.RSTACK : Field := ⟨0x40150010, 2, 1⟩
def ERR_MEMSTAT.RETRAM : Field := ⟨0x40150010, 3, 1⟩
def ERR_MEMSTAT.MBXRAM : Field := ⟨0x40150010, 4, 1⟩
def ERR_MEMSTAT.BULKFIFO : Field := ⟨0x40150010, 5, 1⟩
def ERR_MEMSTAT.UCODE : Field := ⟨0x40150010, 6, 1⟩
def ERR_MEMSTAT.FIRNCOR : Field := ⟨0x40150010, 7, 1⟩
def ERR_MEMSTAT.FIRNDED : Field := ⟨0x40150010, 8, 1⟩
def ERR_MEMSTAT.PLLLOSS : Field := ⟨0x40150010, 9, 1⟩
def ERR_ECCCNT.CORR : Field := ⟨0x40150014, 0, 16⟩
def ERR_ECCCNT.DED : Field := ⟨0x40150014, 16, 16⟩
def ERR_FAULTADDR.ADDR : Field := ⟨0x40150018, 0, 32⟩

/-! ### 16_generdy_exceptions_and_microcode -/
def ERR_FATAL.FIRST : Field := ⟨0x40150020, 0, 6⟩
def ERR_FATAL.SECOND : Field := ⟨0x40150020, 8, 6⟩
def ERR_FATAL.VECFAIL : Field := ⟨0x40150020, 14, 1⟩
def ERR_FATAL.FATALCNT : Field := ⟨0x40150020, 16, 8⟩
def ERR_FATALADDR.ADDR : Field := ⟨0x40150024, 0, 32⟩

/-! ### 02_host_link -/
def HW_ID.LINK : Field := ⟨0x100000000, 0, 8⟩
def HW_ID.STEP : Field := ⟨0x100000000, 8, 8⟩
def HW_ID.PART : Field := ⟨0x100000000, 16, 16⟩
def HW_HOSTCTL.HOLD : Field := ⟨0x100000004, 0, 1⟩
def HW_HOSTCTL.HOLDEXP : Field := ⟨0x100000004, 1, 1⟩
def HW_EVSTAT.EVSTAT : Field := ⟨0x100000008, 0, 32⟩
def HW_EVMASK.EVMASK : Field := ⟨0x10000000C, 0, 32⟩

/-! ### 03_mailboxes_and_bulk_port -/
def HW_MBXCTL.DOORBELL : Field := ⟨0x100000800, 0, 8⟩
def HW_MBXCTL.COMPLETE : Field := ⟨0x100000800, 8, 8⟩
def HW_MBXCTL.FWREADY : Field := ⟨0x100000800, 16, 1⟩
def HW_TAGSTATE.STATE : Field := ⟨0x100000804, 0, 16⟩
def HW_BULK_TARGET.TARGET : Field := ⟨0x100003000, 0, 3⟩
def HW_BULK_ADDR.ADDR : Field := ⟨0x100003004, 0, 32⟩
def HW_BULK_CREDIT.CREDIT : Field := ⟨0x100003008, 0, 16⟩
def HW_BULK_CREDIT.RAVAIL : Field := ⟨0x100003008, 16, 16⟩
def HW_BULK_STAT.OVF : Field := ⟨0x10000300C, 0, 1⟩
def HW_BULK_STAT.PARERR : Field := ⟨0x10000300C, 1, 1⟩
def HW_BULK_STAT.RANGE : Field := ⟨0x10000300C, 2, 1⟩
def HW_BULK_STAT.UNDER : Field := ⟨0x10000300C, 3, 1⟩
def HW_BULK_STAT.UNITOPEN : Field := ⟨0x10000300C, 4, 1⟩
def HW_BULK_STAT.CLOSED : Field := ⟨0x10000300C, 5, 1⟩
def HW_BULK_STAT.INCOMPLETE : Field := ⟨0x10000300C, 6, 1⟩
def HW_BULK_NEXT.NEXT : Field := ⟨0x100003010, 0, 32⟩
def HW_BULK_CTL.CLOSE : Field := ⟨0x100003014, 0, 1⟩

/-! ### 02_host_link -/
def CFG_ID.IDHI : Field := ⟨0x100010020, 0, 8⟩
def CFG_ID.IDLO : Field := ⟨0x100010020, 8, 8⟩
def CFG_ID.STEP : Field := ⟨0x100010020, 16, 8⟩
def CFG_ENABLE.WINDEC : Field := ⟨0x100010030, 0, 1⟩
def CFG_ENABLE.ECDEC : Field := ⟨0x100010030, 1, 1⟩
def CFG_WINBASE.WINBASE : Field := ⟨0x100010060, 0, 32⟩
def CFG_ECDATA.ECDATA : Field := ⟨0x100010064, 0, 16⟩
def CFG_ECCMD.ECCMD : Field := ⟨0x100010066, 0, 16⟩
def CFG_IRQSEL.IRQSEL : Field := ⟨0x100010070, 0, 8⟩
def CFG_LOCK.LOCK : Field := ⟨0x10001007C, 0, 1⟩

/-! ### 03_mailboxes_and_bulk_port -/
def EC_STATUS.OBF : Field := ⟨0x100020000, 0, 1⟩
def EC_STATUS.IBF : Field := ⟨0x100020000, 1, 1⟩
def EC_STATUS.CMD : Field := ⟨0x100020000, 3, 1⟩
def EC_STATUS.BURST : Field := ⟨0x100020000, 4, 1⟩
def EC_STATUS.SCI_EVT : Field := ⟨0x100020000, 5, 1⟩
def EC_STATUS.SMI_EVT : Field := ⟨0x100020000, 6, 1⟩

end Reg

end Sys2Proof.Machine
end

