-- ==== Sys2Proof/Machine/RegMap.lean ====
section
/-! DEFINITION. The register map: one row per field of the spec's register maps, with its access code
(R9), reset value and reset depth (R12), the lock that governs it (R10) and whether its map marks it
privileged only; and what each reset depth covers. -/

namespace Sys2Proof.Machine

/-- The access codes of R9. -/
inductive Access where
  | rw | ro | wo | w1c | w1s | rc | rwl
  deriving DecidableEq, Repr

/-- One row of a register map.  `idx` lists (count, stride) for each index of the register. -/
structure RegRow where
  field : Field
  idx : List (Nat × Nat)
  acc : Access
  reset : Nat
  lock : Option Field
  priv : Bool
  deriving DecidableEq, Repr

/-- The row describes a field of the register at address `a`. -/
def RegRow.covers (r : RegRow) (a : Nat) : Bool :=
  if a < r.field.addr then false
  else
    match r.idx with
    | [] => a == r.field.addr
    | [(c, st)] => (a - r.field.addr) % st == 0 && (a - r.field.addr) / st < c
    | (c, st) :: (c', st') :: _ =>
      (a - r.field.addr) / st < c && (a - r.field.addr) % st % st' == 0
        && (a - r.field.addr) % st / st' < c'

/-- The field of the row in the register at address `a`. -/
def RegRow.fieldAt (r : RegRow) (a : Nat) : Field := ⟨a, r.field.lo, r.field.width⟩

namespace RegMap
open Reg

def block4000_0 : List RegRow := [
  ⟨SYS_ID.PART, [], .ro, 34880, none, false⟩,
  ⟨SYS_ID.STEP, [], .ro, 176, none, false⟩,
  ⟨SYS_DOMCTRL.LUXEN, [], .rw, 0, none, false⟩,
  ⟨SYS_DOMCTRL.LUXRDY, [], .ro, 0, none, false⟩,
  ⟨SYS_DOMCTRL.HOSTPWR, [], .ro, 0, none, false⟩,
  ⟨SYS_DOMCTRL.COREOFF, [], .wo, 0, none, false⟩,
  ⟨SYS_DOMCTRL.SHIP, [], .wo, 0, none, false⟩,
  ⟨SYS_DOMCTRL.REFUSED, [], .w1c, 0, none, false⟩,
  ⟨SYS_DOMCTRL.KEY, [], .wo, 0, none, false⟩,
  ⟨SYS_RSTREQ.CORE, [], .wo, 0, none, false⟩,
  ⟨SYS_RSTREQ.DOMAIN, [], .wo, 0, none, false⟩,
  ⟨SYS_RSTREQ.COLD, [], .wo, 0, none, false⟩,
  ⟨SYS_RSTREQ.HANDOVER, [], .wo, 0, none, false⟩,
  ⟨SYS_RSTREQ.KEY, [], .wo, 0, none, false⟩,
  ⟨SYS_PADHOLD.HOLD, [], .w1c, 0, none, false⟩,
  ⟨SYS_RSTCAUSE.POR, [], .w1c, 0, none, false⟩,
  ⟨SYS_RSTCAUSE.AONBOR, [], .w1c, 0, none, false⟩,
  ⟨SYS_RSTCAUSE.SHIPWAKE, [], .w1c, 0, none, false⟩,
  ⟨SYS_RSTCAUSE.COLDREQ, [], .w1c, 0, none, false⟩,
  ⟨SYS_RSTCAUSE.CORESUP, [], .w1c, 0, none, false⟩,
  ⟨SYS_RSTCAUSE.DOMREQ, [], .w1c, 0, none, false⟩,
  ⟨SYS_RSTCAUSE.LCCHANGE, [], .w1c, 0, none, false⟩,
  ⟨SYS_RSTCAUSE.AONWAKE, [], .w1c, 0, none, false⟩,
  ⟨SYS_RSTCAUSE.COREREQ, [], .w1c, 0, none, false⟩,
  ⟨SYS_RSTCAUSE.HANDOVER, [], .w1c, 0, none, false⟩,
  ⟨SYS_RSTCAUSE.WDOG2, [], .w1c, 0, none, false⟩,
  ⟨SYS_RSTCAUSE.FATAL, [], .w1c, 0, none, false⟩,
  ⟨SYS_RSTCAUSE.V18FAIL, [], .w1c, 0, none, false⟩,
  ⟨SYS_RSTCAUSE.CONFEXP, [], .w1c, 0, none, false⟩,
  ⟨SYS_CLKCFG.CORESEL, [], .rw, 7, none, false⟩,
  ⟨SYS_CLKCFG.PLLLOCK, [], .ro, 0, none, false⟩,
  ⟨SYS_CLKCFG.CLKBUSY, [], .ro, 0, none, false⟩,
  ⟨SYS_CLKCFG.ONOSC10, [], .ro, 0, none, false⟩,
  ⟨SYS_CLKCFG.XTAL32, [], .ro, 0, none, false⟩,
  ⟨SYS_WAKEEN.INPUT, [], .rw, 1, none, false⟩,
  ⟨SYS_WAKEEN.BATT, [], .rw, 1, none, false⟩,
  ⟨SYS_WAKEEN.PWRBTN, [], .rw, 1, none, false⟩,
  ⟨SYS_WAKEEN.LID, [], .rw, 1, none, false⟩,
  ⟨SYS_WAKEEN.KEY, [], .rw, 1, none, false⟩,
  ⟨SYS_WAKEEN.UNLOCK, [], .rw, 1, none, false⟩]

def block4000_1 : List RegRow := [
  ⟨SYS_WAKEEN.MODULE, [], .rw, 1, none, false⟩,
  ⟨SYS_WAKEEN.ALARM, [], .rw, 1, none, false⟩,
  ⟨SYS_WAKEEN.HOST, [], .rw, 1, none, false⟩,
  ⟨SYS_WAKESTAT.INPUT, [], .w1c, 0, none, false⟩,
  ⟨SYS_WAKESTAT.BATT, [], .w1c, 0, none, false⟩,
  ⟨SYS_WAKESTAT.PWRBTN, [], .w1c, 0, none, false⟩,
  ⟨SYS_WAKESTAT.LID, [], .w1c, 0, none, false⟩,
  ⟨SYS_WAKESTAT.KEY, [], .w1c, 0, none, false⟩,
  ⟨SYS_WAKESTAT.UNLOCK, [], .w1c, 0, none, false⟩,
  ⟨SYS_WAKESTAT.MODULE, [], .w1c, 0, none, false⟩,
  ⟨SYS_WAKESTAT.ALARM, [], .w1c, 0, none, false⟩,
  ⟨SYS_WAKESTAT.HOST, [], .w1c, 0, none, false⟩,
  ⟨SYS_WAKEALARMLO.ALARMLO, [], .rw, 4294967295, none, false⟩,
  ⟨SYS_WAKEALARMHI.ALARMHI, [], .rw, 4294967295, none, false⟩,
  ⟨SYS_UCSEL.INDEX, [], .rw, 0, none, true⟩,
  ⟨SYS_UCSEL.TABLE, [], .rw, 0, none, true⟩,
  ⟨SYS_UCSEL.AUTOINC, [], .rw, 0, none, true⟩,
  ⟨SYS_UCLO.DATA, [], .rw, 0, none, true⟩,
  ⟨SYS_UCHI.CTL, [], .rw, 0, none, true⟩,
  ⟨SYS_UCSTAT.LOCKERR, [], .w1c, 0, none, true⟩]

def block4000 : List RegRow := block4000_0 ++ block4000_1

def block4001 : List RegRow := [
  ⟨LPE_CTRL.RUN, [], .w1s, 0, none, false⟩,
  ⟨LPE_CTRL.LOCK, [], .w1s, 0, none, false⟩,
  ⟨LPE_CTRL.CATCHUP, [], .rwl, 4, (some LPE_CTRL.LOCK), false⟩,
  ⟨LPE_STAT.RUNNING, [], .ro, 0, none, false⟩,
  ⟨LPE_STAT.CFGERR, [], .w1c, 0, none, false⟩,
  ⟨LPE_STAT.LOCKERR, [], .w1c, 0, none, false⟩,
  ⟨LPE_STAT.ANYOVR, [], .ro, 0, none, false⟩,
  ⟨LPE_STAT.ACTIVE, [], .ro, 0, none, false⟩,
  ⟨LPE_NOWLO.NOWLO, [], .ro, 0, none, false⟩,
  ⟨LPE_NOWHI.NOWHI, [], .ro, 0, none, false⟩,
  ⟨LPE_EVT.SLOT 0, [(2, 0x4)], .w1c, 0, none, false⟩,
  ⟨LPE_EVTEN.SLOT 0, [(2, 0x4)], .rw, 0, none, false⟩,
  ⟨LPE_OVR.SLOT 0, [(2, 0x4)], .w1c, 0, none, false⟩,
  ⟨LPE_SCFG.EN 0, [(64, 0x20)], .rwl, 0, none, false⟩,
  ⟨LPE_SCFG.CRIT 0, [(64, 0x20)], .rwl, 0, none, false⟩,
  ⟨LPE_SCFG.EVT 0, [(64, 0x20)], .rwl, 0, none, false⟩,
  ⟨LPE_SCFG.ACTION 0, [(64, 0x20)], .rwl, 0, none, false⟩,
  ⟨LPE_SCFG.ARG 0, [(64, 0x20)], .rwl, 0, none, false⟩,
  ⟨LPE_SPER.PERIOD 0, [(64, 0x20)], .rwl, 0, none, false⟩,
  ⟨LPE_SPH.PHASE 0, [(64, 0x20)], .rwl, 0, none, false⟩,
  ⟨LPE_SMIN.MINPER 0, [(64, 0x20)], .rwl, 0, none, false⟩,
  ⟨LPE_SMAX.MAXLAG 0, [(64, 0x20)], .rwl, 0, none, false⟩,
  ⟨LPE_SBUD.BUDGET 0, [(64, 0x20)], .rwl, 0, none, false⟩,
  ⟨LPE_SLAG.LAG 0, [(64, 0x20)], .ro, 0, none, false⟩,
  ⟨LPE_SSTAT.OVRCNT 0, [(64, 0x20)], .rc, 0, none, false⟩,
  ⟨LPE_SSTAT.BUDGETX 0, [(64, 0x20)], .rc, 0, none, false⟩,
  ⟨LPE_SSTAT.SKIPCNT 0, [(64, 0x20)], .rc, 0, none, false⟩,
  ⟨LPE_SSTAT.BUSY 0, [(64, 0x20)], .ro, 0, none, false⟩,
  ⟨LPE_SSTAT.NOBLK 0, [(64, 0x20)], .ro, 0, none, false⟩]

def block4002_0 : List RegRow := [
  ⟨RAIL_CTRL.TSEL, [], .rw, 3, none, false⟩,
  ⟨RAIL_CTRL.AUTO, [], .rw, 0, none, false⟩,
  ⟨RAIL_CTRL.FLTSET, [], .rw, 3, none, false⟩,
  ⟨RAIL_STAT.SETDONE, [], .ro, 0, none, false⟩,
  ⟨RAIL_STAT.FLTHOLD, [], .w1c, 0, none, false⟩,
  ⟨RAIL_STAT.CYCLE, [], .w1c, 0, none, false⟩,
  ⟨RAIL_STAT.OPENSET, [], .w1c, 0, none, false⟩,
  ⟨RAIL_STAT.CFGERR, [], .w1c, 0, none, false⟩,
  ⟨RAIL_STAT.DECODED, [], .ro, 3, none, false⟩,
  ⟨RAIL_EVT.FAULT, [], .w1c, 0, none, false⟩,
  ⟨RAIL_EVT.SETDONE, [], .w1c, 0, none, false⟩,
  ⟨RAIL_EVT.WARN, [], .w1c, 0, none, false⟩,
  ⟨RAIL_EVT.TSELCHG, [], .w1c, 0, none, false⟩,
  ⟨RAIL_EVTEN.FAULT, [], .rw, 0, none, false⟩,
  ⟨RAIL_EVTEN.SETDONE, [], .rw, 0, none, false⟩,
  ⟨RAIL_EVTEN.WARN, [], .rw, 0, none, false⟩,
  ⟨RAIL_EVTEN.TSELCHG, [], .rw, 0, none, false⟩,
  ⟨RAIL_FAULT0.CH, [], .w1c, 0, none, false⟩,
  ⟨RAIL_FAULT1.CH, [], .w1c, 0, none, false⟩,
  ⟨RAIL_CLR0.CH, [], .wo, 0, none, false⟩,
  ⟨RAIL_CLR1.CH, [], .wo, 0, none, false⟩,
  ⟨RAIL_HELD0.CH, [], .ro, 0, none, false⟩,
  ⟨RAIL_HELD1.CH, [], .ro, 0, none, false⟩,
  ⟨RAIL_WARN0.CH, [], .w1c, 0, none, false⟩,
  ⟨RAIL_WARN1.CH, [], .w1c, 0, none, false⟩,
  ⟨RAIL_SETLO.MEMLO 0, [(8, 0x8)], .rw, 0, none, false⟩,
  ⟨RAIL_SETHI.MEMHI 0, [(8, 0x8)], .rw, 0, none, false⟩,
  ⟨RAIL_CHDEP.DEP0 0, [(40, 0x20)], .rw, 0, none, false⟩,
  ⟨RAIL_CHDEP.DEP0EN 0, [(40, 0x20)], .rw, 0, none, false⟩,
  ⟨RAIL_CHDEP.DEP1 0, [(40, 0x20)], .rw, 0, none, false⟩,
  ⟨RAIL_CHDEP.DEP1EN 0, [(40, 0x20)], .rw, 0, none, false⟩,
  ⟨RAIL_CHDEP.DEP2 0, [(40, 0x20)], .rw, 0, none, false⟩,
  ⟨RAIL_CHDEP.DEP2EN 0, [(40, 0x20)], .rw, 0, none, false⟩,
  ⟨RAIL_CHDEP.DEP3 0, [(40, 0x20)], .rw, 0, none, false⟩,
  ⟨RAIL_CHDEP.DEP3EN 0, [(40, 0x20)], .rw, 0, none, false⟩,
  ⟨RAIL_CHCTL.MODE 0, [(40, 0x20)], .rw, 0, none, false⟩,
  ⟨RAIL_CHCTL.PGSRC 0, [(40, 0x20)], .rw, 0, none, false⟩,
  ⟨RAIL_CHCTL.VMONSEL 0, [(40, 0x20)], .rw, 0, none, false⟩,
  ⟨RAIL_CHCTL.ENPOL 0, [(40, 0x20)], .rw, 1, none, false⟩,
  ⟨RAIL_CHCTL.ENOD 0, [(40, 0x20)], .rw, 0, none, false⟩]

def block4002_1 : List RegRow := [
  ⟨RAIL_CHCTL.PGPOL 0, [(40, 0x20)], .rw, 1, none, false⟩,
  ⟨RAIL_CHCTL.POLICY 0, [(40, 0x20)], .rw, 0, none, false⟩,
  ⟨RAIL_CHCTL.RETRIES 0, [(40, 0x20)], .rw, 0, none, false⟩,
  ⟨RAIL_CHCTL.PGFILT 0, [(40, 0x20)], .rw, 0, none, false⟩,
  ⟨RAIL_CHONDLY.ONDLY 0, [(40, 0x20)], .rw, 0, none, false⟩,
  ⟨RAIL_CHPGTO.PGTO 0, [(40, 0x20)], .rw, 0, none, false⟩,
  ⟨RAIL_CHOFFTO.OFFTO 0, [(40, 0x20)], .rw, 0, none, false⟩,
  ⟨RAIL_CHDEPTO.DEPTO 0, [(40, 0x20)], .rw, 0, none, false⟩,
  ⟨RAIL_CHRETRY.RETRYDLY 0, [(40, 0x20)], .rw, 0, none, false⟩,
  ⟨RAIL_CHSTAT.STATE 0, [(40, 0x20)], .ro, 0, none, false⟩,
  ⟨RAIL_CHSTAT.EN 0, [(40, 0x20)], .ro, 0, none, false⟩,
  ⟨RAIL_CHSTAT.PG 0, [(40, 0x20)], .ro, 0, none, false⟩,
  ⟨RAIL_CHSTAT.DEMANDED 0, [(40, 0x20)], .ro, 0, none, false⟩,
  ⟨RAIL_CHSTAT.CAUSE 0, [(40, 0x20)], .ro, 0, none, false⟩,
  ⟨RAIL_CHSTAT.TRIES 0, [(40, 0x20)], .ro, 0, none, false⟩,
  ⟨RAIL_VMONCFG.UV 0, [(8, 0x8)], .rw, 0, none, false⟩,
  ⟨RAIL_VMONCFG.OV 0, [(8, 0x8)], .rw, 4095, none, false⟩,
  ⟨RAIL_VMONVAL.VAL 0, [(8, 0x8)], .ro, 0, none, false⟩,
  ⟨RAIL_VMONVAL.INWIN 0, [(8, 0x8)], .ro, 0, none, false⟩,
  ⟨RAIL_VMONVAL.UVF 0, [(8, 0x8)], .w1c, 0, none, false⟩,
  ⟨RAIL_VMONVAL.OVF 0, [(8, 0x8)], .w1c, 0, none, false⟩]

def block4002 : List RegRow := block4002_0 ++ block4002_1

def block4003_0 : List RegRow := [
  ⟨PWR_CTRL.PRIO0, [], .rw, 2, none, false⟩,
  ⟨PWR_CTRL.PRIO1, [], .rw, 0, none, false⟩,
  ⟨PWR_CTRL.PRIO2, [], .rw, 1, none, false⟩,
  ⟨PWR_CTRL.TAKE, [], .w1s, 0, none, false⟩,
  ⟨PWR_STAT.SEL, [], .ro, 3, none, false⟩,
  ⟨PWR_STAT.BOOTREG, [], .ro, 0, none, false⟩,
  ⟨PWR_STAT.HELD, [], .ro, 0, none, false⟩,
  ⟨PWR_STAT.BATFET, [], .ro, 0, none, false⟩,
  ⟨PWR_STAT.BATREM, [], .ro, 0, none, false⟩,
  ⟨PWR_STAT.VSYSREG, [], .ro, 0, none, false⟩,
  ⟨PWR_STAT.CELLSBAD, [], .ro, 0, none, false⟩,
  ⟨PWR_STAT.CELLS, [], .ro, 0, none, false⟩,
  ⟨PWR_EVT.HANDOVER, [], .w1c, 0, none, false⟩,
  ⟨PWR_EVT.QUAL, [], .w1c, 0, none, false⟩,
  ⟨PWR_EVT.SELCHG, [], .w1c, 0, none, false⟩,
  ⟨PWR_EVT.SETTLED, [], .w1c, 0, none, false⟩,
  ⟨PWR_EVT.UNSTABLE, [], .w1c, 0, none, false⟩,
  ⟨PWR_EVT.BATREM, [], .w1c, 0, none, false⟩,
  ⟨PWR_EVT.OVP, [], .w1c, 0, none, false⟩,
  ⟨PWR_EVT.OCP, [], .w1c, 0, none, false⟩,
  ⟨PWR_EVT.REVCUR, [], .w1c, 0, none, false⟩,
  ⟨PWR_EVT.VSYSUV, [], .w1c, 0, none, false⟩,
  ⟨PWR_EVTEN.HANDOVER, [], .rw, 0, none, false⟩,
  ⟨PWR_EVTEN.QUAL, [], .rw, 0, none, false⟩,
  ⟨PWR_EVTEN.SELCHG, [], .rw, 0, none, false⟩,
  ⟨PWR_EVTEN.SETTLED, [], .rw, 0, none, false⟩,
  ⟨PWR_EVTEN.UNSTABLE, [], .rw, 0, none, false⟩,
  ⟨PWR_EVTEN.BATREM, [], .rw, 0, none, false⟩,
  ⟨PWR_EVTEN.OVP, [], .rw, 0, none, false⟩,
  ⟨PWR_EVTEN.OCP, [], .rw, 0, none, false⟩,
  ⟨PWR_EVTEN.REVCUR, [], .rw, 0, none, false⟩,
  ⟨PWR_EVTEN.VSYSUV, [], .rw, 0, none, false⟩,
  ⟨PWR_VSYSMIN.VSYSMIN, [], .rw, 3600, none, false⟩,
  ⟨PWR_VMEAS.VSYS, [], .ro, 0, none, false⟩,
  ⟨PWR_VMEAS.VBAT, [], .ro, 0, none, false⟩,
  ⟨PWR_INCFG.EN 0, [(3, 0x40)], .rw, 1, none, false⟩,
  ⟨PWR_INCFG.TRACK 0, [(3, 0x40)], .rw, 0, none, false⟩,
  ⟨PWR_INCFG.BEYONDRP 0, [(3, 0x40)], .rw, 0, none, false⟩,
  ⟨PWR_INCFG.ILIMMAX 0, [(3, 0x40)], .rw, 300, none, false⟩,
  ⟨PWR_INOVP.OVP 0, [(3, 0x40)], .rw, 25000, none, false⟩]

def block4003_1 : List RegRow := [
  ⟨PWR_INSTAT.VALID 0, [(3, 0x40)], .ro, 0, none, false⟩,
  ⟨PWR_INSTAT.QUAL 0, [(3, 0x40)], .ro, 0, none, false⟩,
  ⟨PWR_INSTAT.ATTACHED 0, [(3, 0x40)], .ro, 0, none, false⟩,
  ⟨PWR_INSTAT.UNSTABLE 0, [(3, 0x40)], .ro, 0, none, false⟩,
  ⟨PWR_INSTAT.TRK 0, [(3, 0x40)], .ro, 0, none, false⟩,
  ⟨PWR_INSTAT.FLOOR 0, [(3, 0x40)], .ro, 0, none, false⟩,
  ⟨PWR_INSTAT.BOUNCES 0, [(3, 0x40)], .ro, 0, none, false⟩,
  ⟨PWR_INSTAT.CONTRACT 0, [(3, 0x40)], .ro, 0, none, false⟩,
  ⟨PWR_INVI.VIN 0, [(3, 0x40)], .ro, 0, none, false⟩,
  ⟨PWR_INVI.IIN 0, [(3, 0x40)], .ro, 0, none, false⟩,
  ⟨PWR_INVOC.VOC 0, [(3, 0x40)], .ro, 0, none, false⟩,
  ⟨PWR_INVOC.KNEE 0, [(3, 0x40)], .ro, 0, none, false⟩,
  ⟨PWR_INLIM.ILIM 0, [(3, 0x40)], .ro, 0, none, false⟩,
  ⟨PWR_INLIM.IKNEE 0, [(3, 0x40)], .ro, 0, none, false⟩,
  ⟨PWR_INGOOD.LASTGOOD 0, [(3, 0x40)], .ro, 0, none, false⟩,
  ⟨PWR_INGOOD.CEIL 0, [(3, 0x40)], .ro, 0, none, false⟩]

def block4003 : List RegRow := block4003_0 ++ block4003_1

def block4004_0 : List RegRow := [
  ⟨CHG_CTRL.EN, [], .rw, 0, none, false⟩,
  ⟨CHG_CTRL.LOCK, [], .w1s, 0, none, false⟩,
  ⟨CHG_CTRL.FLTCLR, [], .wo, 0, none, false⟩,
  ⟨CHG_CTRL.QCLR, [], .wo, 0, none, false⟩,
  ⟨CHG_STAT.STATE, [], .ro, 0, none, false⟩,
  ⟨CHG_STAT.LOOP, [], .ro, 0, none, false⟩,
  ⟨CHG_STAT.BAND, [], .ro, 2, none, false⟩,
  ⟨CHG_STAT.HALF, [], .ro, 0, none, false⟩,
  ⟨CHG_STAT.CYCLE, [], .ro, 0, none, false⟩,
  ⟨CHG_STAT.TPHASE, [], .ro, 0, none, false⟩,
  ⟨CHG_STAT.FCAUSE, [], .ro, 0, none, false⟩,
  ⟨CHG_STAT.BATOVACT, [], .ro, 0, none, false⟩,
  ⟨CHG_STAT.TSHUT, [], .ro, 0, none, false⟩,
  ⟨CHG_EVT.STATECHG, [], .w1c, 0, none, false⟩,
  ⟨CHG_EVT.DONE, [], .w1c, 0, none, false⟩,
  ⟨CHG_EVT.FAULT, [], .w1c, 0, none, false⟩,
  ⟨CHG_EVT.BAND, [], .w1c, 0, none, false⟩,
  ⟨CHG_EVT.BATOV, [], .w1c, 0, none, false⟩,
  ⟨CHG_EVT.TSHUT, [], .w1c, 0, none, false⟩,
  ⟨CHG_EVT.CLRREF, [], .w1c, 0, none, false⟩,
  ⟨CHG_EVT.QWRAP, [], .w1c, 0, none, false⟩,
  ⟨CHG_EVT.REVSTART, [], .w1c, 0, none, false⟩,
  ⟨CHG_EVT.REVSTOP, [], .w1c, 0, none, false⟩,
  ⟨CHG_EVTEN.STATECHG, [], .rw, 0, none, false⟩,
  ⟨CHG_EVTEN.DONE, [], .rw, 0, none, false⟩,
  ⟨CHG_EVTEN.FAULT, [], .rw, 0, none, false⟩,
  ⟨CHG_EVTEN.BAND, [], .rw, 0, none, false⟩,
  ⟨CHG_EVTEN.BATOV, [], .rw, 0, none, false⟩,
  ⟨CHG_EVTEN.TSHUT, [], .rw, 0, none, false⟩,
  ⟨CHG_EVTEN.CLRREF, [], .rw, 0, none, false⟩,
  ⟨CHG_EVTEN.QWRAP, [], .rw, 0, none, false⟩,
  ⟨CHG_EVTEN.REVSTART, [], .rw, 0, none, false⟩,
  ⟨CHG_EVTEN.REVSTOP, [], .rw, 0, none, false⟩,
  ⟨CHG_VREG.VREG, [], .rw, 4200, none, false⟩,
  ⟨CHG_ICHG.ICHG, [], .rw, 100, none, false⟩,
  ⟨CHG_ICHG.IPRE, [], .rw, 20, none, false⟩,
  ⟨CHG_ICHG.ITERM, [], .rw, 10, none, false⟩,
  ⟨CHG_VTHR.VPRE, [], .rw, 3000, none, false⟩,
  ⟨CHG_VTHR.VRECH, [], .rw, 10, none, false⟩,
  ⟨CHG_LIMIT.VREGMAX, [], .rwl, 4200, (some CHG_CTRL.LOCK), false⟩]

def block4004_1 : List RegRow := [
  ⟨CHG_LIMIT.ICHGMAX, [], .rwl, 200, (some CHG_CTRL.LOCK), false⟩,
  ⟨CHG_TMR.PRETMR, [], .rw, 60, none, false⟩,
  ⟨CHG_TMR.FASTTMR, [], .rw, 600, none, false⟩,
  ⟨CHG_TMRCNT.COUNT, [], .ro, 0, none, false⟩,
  ⟨CHG_BAND0.COLD, [], .rw, 3038, none, false⟩,
  ⟨CHG_BAND0.COOL, [], .rw, 2654, none, false⟩,
  ⟨CHG_BAND1.WARM, [], .rw, 1337, none, false⟩,
  ⟨CHG_BAND1.HOT, [], .rw, 1059, none, false⟩,
  ⟨CHG_BANDACT.COOLFRAC, [], .rw, 4, none, false⟩,
  ⟨CHG_BANDACT.WARMDV, [], .rw, 10, none, false⟩,
  ⟨CHG_BANDACT.HYST, [], .rw, 40, none, false⟩,
  ⟨CHG_BANDFW.BAND, [], .rw, 2, none, false⟩,
  ⟨CHG_TDIE.TREG, [], .rw, 95, none, false⟩,
  ⟨CHG_MEAS.IBAT, [], .ro, 0, none, false⟩,
  ⟨CHG_MEAS.BATTH, [], .ro, 0, none, false⟩,
  ⟨CHG_QACC.QACC, [], .ro, 0, none, false⟩,
  ⟨CHG_LAMP.STAT0, [], .rw, 0, none, false⟩,
  ⟨CHG_LAMP.STAT1, [], .rw, 0, none, false⟩,
  ⟨CHG_LAMP.OVR, [], .rw, 0, none, false⟩,
  ⟨CHG_REVCTL.REVEN, [], .rw, 0, none, false⟩,
  ⟨CHG_REVCTL.VMASK, [], .rw, 7, none, false⟩,
  ⟨CHG_REVCTL.PREF, [], .rw, 0, none, false⟩,
  ⟨CHG_REVCTL.IMAX, [], .rw, 300, none, false⟩,
  ⟨CHG_REVCTL.PMAX, [], .rw, 60, none, false⟩,
  ⟨CHG_REVSTAT.ACTIVE, [], .ro, 0, none, false⟩,
  ⟨CHG_REVSTAT.PORT, [], .ro, 0, none, false⟩,
  ⟨CHG_REVSTAT.LOCKOUT0, [], .ro, 0, none, false⟩,
  ⟨CHG_REVSTAT.LOCKOUT1, [], .ro, 0, none, false⟩,
  ⟨CHG_REVSTAT.CAUSE, [], .ro, 0, none, false⟩,
  ⟨CHG_REVSTAT.IOUT, [], .ro, 0, none, false⟩,
  ⟨CHG_REVVMIN.REVVMIN, [], .rw, 3300, none, false⟩]

def block4004 : List RegRow := block4004_0 ++ block4004_1

def block4005_0 : List RegRow := [
  ⟨PD_CFG.EN 0, [(2, 0x100)], .rw, 1, none, false⟩,
  ⟨PD_CFG.ROLE 0, [(2, 0x100)], .rw, 0, none, false⟩,
  ⟨PD_CFG.RPADV 0, [(2, 0x100)], .rw, 2, none, false⟩,
  ⟨PD_CFG.PPSEN 0, [(2, 0x100)], .rw, 0, none, false⟩,
  ⟨PD_CFG.EPREN 0, [(2, 0x100)], .rw, 0, none, false⟩,
  ⟨PD_CFG.DRPREF 0, [(2, 0x100)], .rw, 1, none, false⟩,
  ⟨PD_CFG.PRSWAP 0, [(2, 0x100)], .rw, 0, none, false⟩,
  ⟨PD_CFG.VCONNEN 0, [(2, 0x100)], .rw, 1, none, false⟩,
  ⟨PD_SNKPOL.VMAX 0, [(2, 0x100)], .rw, 200, none, false⟩,
  ⟨PD_SNKPOL.IMAX 0, [(2, 0x100)], .rw, 50, none, false⟩,
  ⟨PD_SNKPOL.PDP 0, [(2, 0x100)], .rw, 65, none, false⟩,
  ⟨PD_STAT.ATTACHED 0, [(2, 0x100)], .ro, 0, none, false⟩,
  ⟨PD_STAT.ORIENT 0, [(2, 0x100)], .ro, 0, none, false⟩,
  ⟨PD_STAT.PROLE 0, [(2, 0x100)], .ro, 0, none, false⟩,
  ⟨PD_STAT.DROLE 0, [(2, 0x100)], .ro, 0, none, false⟩,
  ⟨PD_STAT.CONTRACT 0, [(2, 0x100)], .ro, 0, none, false⟩,
  ⟨PD_STAT.EPR 0, [(2, 0x100)], .ro, 0, none, false⟩,
  ⟨PD_STAT.PPS 0, [(2, 0x100)], .ro, 0, none, false⟩,
  ⟨PD_STAT.MISMATCH 0, [(2, 0x100)], .ro, 0, none, false⟩,
  ⟨PD_STAT.RPSEEN 0, [(2, 0x100)], .ro, 0, none, false⟩,
  ⟨PD_STAT.VCONN 0, [(2, 0x100)], .ro, 0, none, false⟩,
  ⟨PD_STAT.PDSEEN 0, [(2, 0x100)], .ro, 0, none, false⟩,
  ⟨PD_STAT.NPDO 0, [(2, 0x100)], .ro, 0, none, false⟩,
  ⟨PD_STAT.HRCNT 0, [(2, 0x100)], .ro, 0, none, false⟩,
  ⟨PD_STAT.VDMDROP 0, [(2, 0x100)], .ro, 0, none, false⟩,
  ⟨PD_CONTRACT.VOLT 0, [(2, 0x100)], .ro, 0, none, false⟩,
  ⟨PD_CONTRACT.CURR 0, [(2, 0x100)], .ro, 0, none, false⟩,
  ⟨PD_CONTRACT.OBJPOS 0, [(2, 0x100)], .ro, 0, none, false⟩,
  ⟨PD_EVT.ATTACH 0, [(2, 0x100)], .w1c, 0, none, false⟩,
  ⟨PD_EVT.DETACH 0, [(2, 0x100)], .w1c, 0, none, false⟩,
  ⟨PD_EVT.CONTRACT 0, [(2, 0x100)], .w1c, 0, none, false⟩,
  ⟨PD_EVT.CAPCHG 0, [(2, 0x100)], .w1c, 0, none, false⟩,
  ⟨PD_EVT.HARDRESET 0, [(2, 0x100)], .w1c, 0, none, false⟩,
  ⟨PD_EVT.VDMRX 0, [(2, 0x100)], .w1c, 0, none, false⟩,
  ⟨PD_EVT.VDMTXDONE 0, [(2, 0x100)], .w1c, 0, none, false⟩,
  ⟨PD_EVT.VDMTXFAIL 0, [(2, 0x100)], .w1c, 0, none, false⟩,
  ⟨PD_EVT.ALERTRX 0, [(2, 0x100)], .w1c, 0, none, false⟩,
  ⟨PD_EVT.EPRFAIL 0, [(2, 0x100)], .w1c, 0, none, false⟩,
  ⟨PD_EVT.MISMATCH 0, [(2, 0x100)], .w1c, 0, none, false⟩,
  ⟨PD_EVT.SWAP 0, [(2, 0x100)], .w1c, 0, none, false⟩]

def block4005_1 : List RegRow := [
  ⟨PD_EVT.REQREJ 0, [(2, 0x100)], .w1c, 0, none, false⟩,
  ⟨PD_EVTEN.ATTACH 0, [(2, 0x100)], .rw, 0, none, false⟩,
  ⟨PD_EVTEN.DETACH 0, [(2, 0x100)], .rw, 0, none, false⟩,
  ⟨PD_EVTEN.CONTRACT 0, [(2, 0x100)], .rw, 0, none, false⟩,
  ⟨PD_EVTEN.CAPCHG 0, [(2, 0x100)], .rw, 0, none, false⟩,
  ⟨PD_EVTEN.HARDRESET 0, [(2, 0x100)], .rw, 0, none, false⟩,
  ⟨PD_EVTEN.VDMRX 0, [(2, 0x100)], .rw, 0, none, false⟩,
  ⟨PD_EVTEN.VDMTXDONE 0, [(2, 0x100)], .rw, 0, none, false⟩,
  ⟨PD_EVTEN.VDMTXFAIL 0, [(2, 0x100)], .rw, 0, none, false⟩,
  ⟨PD_EVTEN.ALERTRX 0, [(2, 0x100)], .rw, 0, none, false⟩,
  ⟨PD_EVTEN.EPRFAIL 0, [(2, 0x100)], .rw, 0, none, false⟩,
  ⟨PD_EVTEN.MISMATCH 0, [(2, 0x100)], .rw, 0, none, false⟩,
  ⟨PD_EVTEN.SWAP 0, [(2, 0x100)], .rw, 0, none, false⟩,
  ⟨PD_EVTEN.REQREJ 0, [(2, 0x100)], .rw, 0, none, false⟩,
  ⟨PD_REQ.OBJPOS 0, [(2, 0x100)], .wo, 0, none, false⟩,
  ⟨PD_REQ.VOLT 0, [(2, 0x100)], .wo, 0, none, false⟩,
  ⟨PD_REQ.CURR 0, [(2, 0x100)], .wo, 0, none, false⟩,
  ⟨PD_REQ.AUTO 0, [(2, 0x100)], .wo, 0, none, false⟩,
  ⟨PD_REQ.GO 0, [(2, 0x100)], .wo, 0, none, false⟩,
  ⟨PD_VDMCTL.RXFULL 0, [(2, 0x100)], .ro, 0, none, false⟩,
  ⟨PD_VDMCTL.RXREL 0, [(2, 0x100)], .wo, 0, none, false⟩,
  ⟨PD_VDMCTL.TXGO 0, [(2, 0x100)], .wo, 0, none, false⟩,
  ⟨PD_VDMCTL.TXBUSY 0, [(2, 0x100)], .ro, 0, none, false⟩,
  ⟨PD_VDMCTL.RXLEN 0, [(2, 0x100)], .ro, 0, none, false⟩,
  ⟨PD_VDMCTL.TXLEN 0, [(2, 0x100)], .rw, 1, none, false⟩,
  ⟨PD_VDMCTL.RXSOP 0, [(2, 0x100)], .ro, 0, none, false⟩,
  ⟨PD_VDMCTL.TXSOP 0, [(2, 0x100)], .rw, 0, none, false⟩,
  ⟨PD_RXPDO.PDO 0 0, [(2, 0x100), (11, 0x4)], .ro, 0, none, false⟩,
  ⟨PD_VDMRX.WORD 0 0, [(2, 0x100), (8, 0x4)], .ro, 0, none, false⟩,
  ⟨PD_VDMTX.WORD 0 0, [(2, 0x100), (8, 0x4)], .rw, 0, none, false⟩]

def block4005 : List RegRow := block4005_0 ++ block4005_1

def block4006_0 : List RegRow := [
  ⟨KSC_CTRL.EN, [], .rw, 0, none, false⟩,
  ⟨KSC_CTRL.SLEEP, [], .rw, 0, none, false⟩,
  ⟨KSC_CTRL.SETTLE, [], .rw, 40, none, false⟩,
  ⟨KSC_STAT.SCANNER, [], .ro, 2, none, false⟩,
  ⟨KSC_STAT.GHOST, [], .ro, 0, none, false⟩,
  ⟨KSC_STAT.STUCK, [], .ro, 0, none, false⟩,
  ⟨KSC_STAT.LOCKED, [], .ro, 0, none, false⟩,
  ⟨KSC_EVT.CHANGE, [], .w1c, 0, none, false⟩,
  ⟨KSC_EVT.GHOSTCHG, [], .w1c, 0, none, false⟩,
  ⟨KSC_EVT.STUCKCHG, [], .w1c, 0, none, false⟩,
  ⟨KSC_EVT.FAILED, [], .w1c, 0, none, false⟩,
  ⟨KSC_EVT.UNLOCKED, [], .w1c, 0, none, false⟩,
  ⟨KSC_EVT.SEQERR, [], .w1c, 0, none, false⟩,
  ⟨KSC_EVTEN.CHANGE, [], .rw, 0, none, false⟩,
  ⟨KSC_EVTEN.GHOSTCHG, [], .rw, 0, none, false⟩,
  ⟨KSC_EVTEN.STUCKCHG, [], .rw, 0, none, false⟩,
  ⟨KSC_EVTEN.FAILED, [], .rw, 0, none, false⟩,
  ⟨KSC_EVTEN.UNLOCKED, [], .rw, 0, none, false⟩,
  ⟨KSC_EVTEN.SEQERR, [], .rw, 0, none, false⟩,
  ⟨KSC_DEB.DBPRESS, [], .rw, 8, none, false⟩,
  ⟨KSC_DEB.DBREL, [], .rw, 40, none, false⟩,
  ⟨KSC_NODIODE.NODIODE, [], .rw, 0, none, false⟩,
  ⟨KSC_GEOM.NDRV, [], .rw, 24, none, false⟩,
  ⟨KSC_SENSEEN.SENSEEN, [], .rw, 4294967295, none, false⟩,
  ⟨KSC_STUCKCFG.STUCKTO, [], .rw, 30, none, false⟩,
  ⟨KSC_LOCKCTL.LOCK, [], .w1s, 0, none, false⟩,
  ⟨KSC_LOCKCTL.UNLOCK, [], .wo, 0, none, false⟩,
  ⟨KSC_LOCKCTL.NSTEPS, [], .rw, 0, none, false⟩,
  ⟨KSC_LOCKST.STATE, [], .ro, 0, none, false⟩,
  ⟨KSC_LOCKST.MSTATE, [], .ro, 0, none, false⟩,
  ⟨KSC_LOCKST.STEP, [], .ro, 0, none, false⟩,
  ⟨KSC_LOCKST.FAILS, [], .rw, 0, none, false⟩,
  ⟨KSC_LOCKST.BOREM, [], .ro, 0, none, false⟩,
  ⟨KSC_WAKEKEY.INDEX, [], .ro, 0, none, false⟩,
  ⟨KSC_WAKEKEY.VALID, [], .w1c, 0, none, false⟩,
  ⟨KSC_DELIV.DELIV 0, [(24, 0x4)], .ro, 0, none, false⟩,
  ⟨KSC_RAW.RAW 0, [(24, 0x4)], .ro, 0, none, false⟩,
  ⟨KSC_WHELD.WHELD 0, [(24, 0x4)], .ro, 0, none, false⟩,
  ⟨KSC_STUCK.STUCK 0, [(24, 0x4)], .ro, 0, none, false⟩,
  ⟨KSC_EXEMPT.EXEMPT 0, [(24, 0x4)], .rw, 0, none, false⟩]

def block4006_1 : List RegRow := [
  ⟨KSC_SEQA.KEY0 0, [(8, 0x8)], .wo, 1023, none, false⟩,
  ⟨KSC_SEQA.KEY1 0, [(8, 0x8)], .wo, 1023, none, false⟩,
  ⟨KSC_SEQA.KEY2 0, [(8, 0x8)], .wo, 1023, none, false⟩,
  ⟨KSC_SEQB.KEY3 0, [(8, 0x8)], .wo, 1023, none, false⟩,
  ⟨KSC_SEQB.STEPTO 0, [(8, 0x8)], .wo, 0, none, false⟩]

def block4006 : List RegRow := block4006_0 ++ block4006_1

def block4007_0 : List RegRow := [
  ⟨LUX_CTRL.EN, [], .rw, 0, none, false⟩,
  ⟨LUX_CTRL.DIRECT, [], .rw, 0, none, false⟩,
  ⟨LUX_CTRL.DIAGPULSE, [], .rw, 0, none, false⟩,
  ⟨LUX_CTRL.FWCLOSE, [], .wo, 0, none, false⟩,
  ⟨LUX_CTRL.OCCLOSE, [], .wo, 0, none, false⟩,
  ⟨LUX_CTRL.SYNCNOW, [], .wo, 0, none, false⟩,
  ⟨LUX_CTRL.BLANK, [], .rw, 0, none, false⟩,
  ⟨LUX_STAT.RUNNING, [], .ro, 0, none, false⟩,
  ⟨LUX_STAT.BACK, [], .ro, 1, none, false⟩,
  ⟨LUX_STAT.OCBACK, [], .ro, 1, none, false⟩,
  ⟨LUX_STAT.PENDING, [], .ro, 0, none, false⟩,
  ⟨LUX_STAT.OCPENDING, [], .ro, 0, none, false⟩,
  ⟨LUX_STAT.BUSY, [], .ro, 0, none, false⟩,
  ⟨LUX_STAT.SYNCLOST, [], .ro, 0, none, false⟩,
  ⟨LUX_STAT.ATMAX, [], .ro, 0, none, false⟩,
  ⟨LUX_STAT.VLEDOV, [], .ro, 0, none, false⟩,
  ⟨LUX_STAT.CFGERR, [], .ro, 0, none, false⟩,
  ⟨LUX_EVT.FRAME, [], .w1c, 0, none, false⟩,
  ⟨LUX_EVT.SWAP, [], .w1c, 0, none, false⟩,
  ⟨LUX_EVT.REPEAT, [], .w1c, 0, none, false⟩,
  ⟨LUX_EVT.LATE, [], .w1c, 0, none, false⟩,
  ⟨LUX_EVT.INCOMPLETE, [], .w1c, 0, none, false⟩,
  ⟨LUX_EVT.OPEN, [], .w1c, 0, none, false⟩,
  ⟨LUX_EVT.SHORT, [], .w1c, 0, none, false⟩,
  ⟨LUX_EVT.PARITY, [], .w1c, 0, none, false⟩,
  ⟨LUX_EVT.SYNCLOSS, [], .w1c, 0, none, false⟩,
  ⟨LUX_EVT.DIAGDONE, [], .w1c, 0, none, false⟩,
  ⟨LUX_EVT.VLEDOV, [], .w1c, 0, none, false⟩,
  ⟨LUX_EVT.CFGERR, [], .w1c, 0, none, false⟩,
  ⟨LUX_EVTEN.FRAME, [], .rw, 0, none, false⟩,
  ⟨LUX_EVTEN.SWAP, [], .rw, 0, none, false⟩,
  ⟨LUX_EVTEN.REPEAT, [], .rw, 0, none, false⟩,
  ⟨LUX_EVTEN.LATE, [], .rw, 0, none, false⟩,
  ⟨LUX_EVTEN.INCOMPLETE, [], .rw, 0, none, false⟩,
  ⟨LUX_EVTEN.OPEN, [], .rw, 0, none, false⟩,
  ⟨LUX_EVTEN.SHORT, [], .rw, 0, none, false⟩,
  ⟨LUX_EVTEN.PARITY, [], .rw, 0, none, false⟩,
  ⟨LUX_EVTEN.SYNCLOSS, [], .rw, 0, none, false⟩,
  ⟨LUX_EVTEN.DIAGDONE, [], .rw, 0, none, false⟩,
  ⟨LUX_EVTEN.VLEDOV, [], .rw, 0, none, false⟩]

def block4007_1 : List RegRow := [
  ⟨LUX_EVTEN.CFGERR, [], .rw, 0, none, false⟩,
  ⟨LUX_SYNC.SRC, [], .rw, 0, none, false⟩,
  ⟨LUX_SYNC.SYNCTO, [], .rw, 100, none, false⟩,
  ⟨LUX_PERIOD.PERIOD, [], .rw, 16667, none, false⟩,
  ⟨LUX_FRAME.FRAME, [], .ro, 0, none, false⟩,
  ⟨LUX_CNT.REPEAT, [], .rc, 0, none, false⟩,
  ⟨LUX_CNT.LATE, [], .rc, 0, none, false⟩,
  ⟨LUX_CNT.PAR, [], .rc, 0, none, false⟩,
  ⟨LUX_BRIGHT.BRIGHT, [], .rw, 1024, none, false⟩,
  ⟨LUX_DERATE.SRC, [], .rw, 0, none, false⟩,
  ⟨LUX_DERATE.NTC, [], .rw, 0, none, false⟩,
  ⟨LUX_DERATE.KNEE, [], .rw, 85, none, false⟩,
  ⟨LUX_DERATE.LIMIT, [], .rw, 100, none, false⟩,
  ⟨LUX_DERSTAT.TEMP, [], .ro, 0, none, false⟩,
  ⟨LUX_DERSTAT.FACTOR, [], .ro, 1024, none, false⟩,
  ⟨LUX_MTIM.LINE, [], .rw, 2600, none, false⟩,
  ⟨LUX_MTIM.BLANK, [], .rw, 200, none, false⟩,
  ⟨LUX_MCFG.NSCAN, [], .rw, 16, none, false⟩,
  ⟨LUX_MCFG.SCNPOL, [], .rw, 0, none, false⟩,
  ⟨LUX_VLEDLIM.VLEDMIN, [], .rw, 360, none, false⟩,
  ⟨LUX_VLEDLIM.VLEDMAX, [], .rw, 1200, none, false⟩,
  ⟨LUX_VLEDCFG.SLEW, [], .rw, 10, none, false⟩,
  ⟨LUX_VLEDCFG.OPENTH, [], .rw, 10, none, false⟩,
  ⟨LUX_VLEDCFG.SHORTTH, [], .rw, 250, none, false⟩,
  ⟨LUX_VLEDSTAT.VSET, [], .ro, 360, none, false⟩,
  ⟨LUX_VLEDSTAT.VMEAS, [], .ro, 0, none, false⟩,
  ⟨LUX_SINKI.ISINK0 0, [(12, 0x4)], .rw, 0, none, false⟩,
  ⟨LUX_SINKI.ISINK1 0, [(12, 0x4)], .rw, 0, none, false⟩,
  ⟨LUX_SINKI.ISINK2 0, [(12, 0x4)], .rw, 0, none, false⟩,
  ⟨LUX_SINKI.ISINK3 0, [(12, 0x4)], .rw, 0, none, false⟩,
  ⟨LUX_LAMPA.START 0, [(16, 0x8)], .rw, 0, none, false⟩,
  ⟨LUX_LAMPA.WIDTH 0, [(16, 0x8)], .rw, 0, none, false⟩,
  ⟨LUX_LAMPB.COUNT 0, [(16, 0x8)], .rw, 0, none, false⟩,
  ⟨LUX_LAMPB.FADET 0, [(16, 0x8)], .rw, 0, none, false⟩,
  ⟨LUX_LAMPB.CURVE 0, [(16, 0x8)], .rw, 0, none, false⟩,
  ⟨LUX_DIAG.STATE 0, [(48, 0x4)], .ro, 0, none, false⟩,
  ⟨LUX_DIAGCLR.CH, [], .wo, 0, none, false⟩,
  ⟨LUX_DIAGCLR.ALL, [], .wo, 0, none, false⟩,
  ⟨LUX_CCM.COEF 0 0, [(64, 0x40), (9, 0x4)], .rw, 0, none, false⟩]

def block4007 : List RegRow := block4007_0 ++ block4007_1

def block4008_0 : List RegRow := [
  ⟨CHN_CTRL.EN, [], .rw, 0, none, false⟩,
  ⟨CHN_CTRL.RATE, [], .rw, 2, none, false⟩,
  ⟨CHN_CTRL.VMIN, [], .rw, 1, none, false⟩,
  ⟨CHN_CTRL.COMMIT, [], .wo, 0, none, false⟩,
  ⟨CHN_CTRL.REENUM, [], .wo, 0, none, false⟩,
  ⟨CHN_STAT.STATE, [], .ro, 0, none, false⟩,
  ⟨CHN_STAT.NFOUND, [], .ro, 0, none, false⟩,
  ⟨CHN_STAT.CV, [], .ro, 0, none, false⟩,
  ⟨CHN_STAT.EPOCH, [], .ro, 0, none, false⟩,
  ⟨CHN_EVT.ENUMDONE, [], .w1c, 0, none, false⟩,
  ⟨CHN_EVT.COUNTCHG, [], .w1c, 0, none, false⟩,
  ⟨CHN_EVT.MISMATCH, [], .w1c, 0, none, false⟩,
  ⟨CHN_EVT.DATAERR, [], .w1c, 0, none, false⟩,
  ⟨CHN_EVT.BREAK, [], .w1c, 0, none, false⟩,
  ⟨CHN_EVT.EXCLUDED, [], .w1c, 0, none, false⟩,
  ⟨CHN_EVT.STATUSDONE, [], .w1c, 0, none, false⟩,
  ⟨CHN_EVT.DIAGDONE, [], .w1c, 0, none, false⟩,
  ⟨CHN_EVT.CRCERR, [], .w1c, 0, none, false⟩,
  ⟨CHN_EVT.CFGERR, [], .w1c, 0, none, false⟩,
  ⟨CHN_EVTEN.ENUMDONE, [], .rw, 0, none, false⟩,
  ⟨CHN_EVTEN.COUNTCHG, [], .rw, 0, none, false⟩,
  ⟨CHN_EVTEN.MISMATCH, [], .rw, 0, none, false⟩,
  ⟨CHN_EVTEN.DATAERR, [], .rw, 0, none, false⟩,
  ⟨CHN_EVTEN.BREAK, [], .rw, 0, none, false⟩,
  ⟨CHN_EVTEN.EXCLUDED, [], .rw, 0, none, false⟩,
  ⟨CHN_EVTEN.STATUSDONE, [], .rw, 0, none, false⟩,
  ⟨CHN_EVTEN.DIAGDONE, [], .rw, 0, none, false⟩,
  ⟨CHN_EVTEN.CRCERR, [], .rw, 0, none, false⟩,
  ⟨CHN_EVTEN.CFGERR, [], .rw, 0, none, false⟩,
  ⟨CHN_CNT.CRCERR, [], .rc, 0, none, false⟩,
  ⟨CHN_CNT.BREAK, [], .rc, 0, none, false⟩,
  ⟨CHN_CNT.RESEND, [], .rc, 0, none, false⟩,
  ⟨CHN_MMAPLO.MAP, [], .ro, 0, none, false⟩,
  ⟨CHN_MMAPHI.MAP, [], .ro, 0, none, false⟩,
  ⟨CHN_DMAPLO.MAP, [], .ro, 0, none, false⟩,
  ⟨CHN_DMAPHI.MAP, [], .ro, 0, none, false⟩,
  ⟨CHN_EXCLLO.MAP, [], .ro, 0, none, false⟩,
  ⟨CHN_EXCLHI.MAP, [], .ro, 0, none, false⟩,
  ⟨CHN_DIAGREQ.DRV, [], .wo, 0, none, false⟩,
  ⟨CHN_DIAGREQ.FIRST, [], .wo, 0, none, false⟩]

def block4008_1 : List RegRow := [
  ⟨CHN_DIAGREQ.COUNT, [], .wo, 0, none, false⟩,
  ⟨CHN_DIAGREQ.GO, [], .wo, 0, none, false⟩,
  ⟨CHN_DIAGBUF.STATE 0, [(16, 0x4)], .ro, 0, none, false⟩,
  ⟨CHN_DCFG.BASE 0, [(64, 0x40)], .rw, 0, none, false⟩,
  ⟨CHN_DCFG.EN 0, [(64, 0x40)], .rw, 0, none, false⟩,
  ⟨CHN_DCFG.NCH 0, [(64, 0x40)], .rw, 512, none, false⟩,
  ⟨CHN_DPAR.PARAM 0 0, [(64, 0x40), (4, 0x4)], .rw, 0, none, false⟩,
  ⟨CHN_DINFO.VLOW 0, [(64, 0x40)], .ro, 0, none, false⟩,
  ⟨CHN_DINFO.VHIGH 0, [(64, 0x40)], .ro, 0, none, false⟩,
  ⟨CHN_DINFO.NCHMAX 0, [(64, 0x40)], .ro, 0, none, false⟩,
  ⟨CHN_DINFO.PRESENT 0, [(64, 0x40)], .ro, 0, none, false⟩,
  ⟨CHN_DINFO.EXCL 0, [(64, 0x40)], .ro, 0, none, false⟩,
  ⟨CHN_DINFO.XCAUSE 0, [(64, 0x40)], .ro, 0, none, false⟩,
  ⟨CHN_DID.DEVID 0, [(64, 0x40)], .ro, 0, none, false⟩,
  ⟨CHN_DSTAT.FLAGS 0, [(64, 0x40)], .ro, 0, none, false⟩,
  ⟨CHN_DSTAT.TEMP 0, [(64, 0x40)], .ro, 0, none, false⟩,
  ⟨CHN_DSTAT.MMCNT 0, [(64, 0x40)], .rc, 0, none, false⟩,
  ⟨CHN_DSTAT.DECNT 0, [(64, 0x40)], .rc, 0, none, false⟩,
  ⟨CHN_DERR.NOPEN 0, [(64, 0x40)], .ro, 0, none, false⟩,
  ⟨CHN_DERR.NSHORT 0, [(64, 0x40)], .ro, 0, none, false⟩,
  ⟨CHN_DFRAME.LASTFRAME 0, [(64, 0x40)], .ro, 0, none, false⟩]

def block4008 : List RegRow := block4008_0 ++ block4008_1

def block4009 : List RegRow := [
  ⟨FAN_STAT.FANVINUV, [], .ro, 0, none, false⟩,
  ⟨FAN_STAT.STALLED, [], .ro, 0, none, false⟩,
  ⟨FAN_EVT.STALL, [], .w1c, 0, none, false⟩,
  ⟨FAN_EVT.TACHLOST, [], .w1c, 0, none, false⟩,
  ⟨FAN_EVT.NOLOAD, [], .w1c, 0, none, false⟩,
  ⟨FAN_EVT.STARTOK, [], .w1c, 0, none, false⟩,
  ⟨FAN_EVT.FANVINUV, [], .w1c, 0, none, false⟩,
  ⟨FAN_EVTEN.STALL, [], .rw, 0, none, false⟩,
  ⟨FAN_EVTEN.TACHLOST, [], .rw, 0, none, false⟩,
  ⟨FAN_EVTEN.NOLOAD, [], .rw, 0, none, false⟩,
  ⟨FAN_EVTEN.STARTOK, [], .rw, 0, none, false⟩,
  ⟨FAN_EVTEN.FANVINUV, [], .rw, 0, none, false⟩,
  ⟨FAN_CTRL.MODE 0, [(4, 0x40)], .rw, 0, none, false⟩,
  ⟨FAN_CTRL.BOOST 0, [(4, 0x40)], .rw, 0, none, false⟩,
  ⟨FAN_CTRL.CLR 0, [(4, 0x40)], .wo, 0, none, false⟩,
  ⟨FAN_CTRL.TACHEN 0, [(4, 0x40)], .rw, 1, none, false⟩,
  ⟨FAN_CTRL.PPR 0, [(4, 0x40)], .rw, 2, none, false⟩,
  ⟨FAN_CTRL.RPR 0, [(4, 0x40)], .rw, 4, none, false⟩,
  ⟨FAN_VOLT.VSET 0, [(4, 0x40)], .rw, 0, none, false⟩,
  ⟨FAN_VLIM.VMIN 0, [(4, 0x40)], .rw, 3000, none, false⟩,
  ⟨FAN_VLIM.VMAX 0, [(4, 0x40)], .rw, 12000, none, false⟩,
  ⟨FAN_TGT.TGT 0, [(4, 0x40)], .rw, 0, none, false⟩,
  ⟨FAN_LOOP.KI 0, [(4, 0x40)], .rw, 256, none, false⟩,
  ⟨FAN_LOOP.SLEW 0, [(4, 0x40)], .rw, 50, none, false⟩,
  ⟨FAN_SRC.SRC 0, [(4, 0x40)], .rw, 0, none, false⟩,
  ⟨FAN_CPT.TEMP 0 0, [(4, 0x40), (4, 0x4)], .rw, 0, none, false⟩,
  ⟨FAN_CPT.RPM 0 0, [(4, 0x40), (4, 0x4)], .rw, 0, none, false⟩,
  ⟨FAN_ILIM.ISTALL 0, [(4, 0x40)], .rw, 800, none, false⟩,
  ⟨FAN_ILIM.INOLOAD 0, [(4, 0x40)], .rw, 20, none, false⟩,
  ⟨FAN_STATn.STATE 0, [(4, 0x40)], .ro, 0, none, false⟩,
  ⟨FAN_STATn.TRIES 0, [(4, 0x40)], .ro, 0, none, false⟩,
  ⟨FAN_STATn.TACHLOST 0, [(4, 0x40)], .ro, 0, none, false⟩,
  ⟨FAN_STATn.FORCED 0, [(4, 0x40)], .ro, 0, none, false⟩,
  ⟨FAN_STATn.CAUSE 0, [(4, 0x40)], .ro, 0, none, false⟩,
  ⟨FAN_SPD.TRPM 0, [(4, 0x40)], .ro, 0, none, false⟩,
  ⟨FAN_SPD.RRPM 0, [(4, 0x40)], .ro, 0, none, false⟩,
  ⟨FAN_OUT.VOUT 0, [(4, 0x40)], .ro, 0, none, false⟩,
  ⟨FAN_OUT.IOUT 0, [(4, 0x40)], .ro, 0, none, false⟩]

def block400A : List RegRow := [
  ⟨THM_CTRL.EN, [], .rw, 0, none, false⟩,
  ⟨THM_CTRL.VBIASEN, [], .rw, 0, none, false⟩,
  ⟨THM_CTRL.LOCK, [], .w1s, 0, none, false⟩,
  ⟨THM_CTRL.STALE, [], .rw, 0, none, false⟩,
  ⟨THM_STAT.LEVEL, [], .ro, 0, none, false⟩,
  ⟨THM_STAT.PROCHOT, [], .ro, 0, none, false⟩,
  ⟨THM_STAT.FAULT, [], .ro, 0, none, false⟩,
  ⟨THM_EVT.LEVELUP, [], .w1c, 0, none, false⟩,
  ⟨THM_EVT.LEVELDN, [], .w1c, 0, none, false⟩,
  ⟨THM_EVT.SENSFLT, [], .w1c, 0, none, false⟩,
  ⟨THM_EVT.LOCKERR, [], .w1c, 0, none, false⟩,
  ⟨THM_EVTEN.LEVELUP, [], .rw, 0, none, false⟩,
  ⟨THM_EVTEN.LEVELDN, [], .rw, 0, none, false⟩,
  ⟨THM_EVTEN.SENSFLT, [], .rw, 0, none, false⟩,
  ⟨THM_EVTEN.LOCKERR, [], .rw, 0, none, false⟩,
  ⟨THM_ACT.WFAN, [], .rwl, 0, (some THM_CTRL.LOCK), false⟩,
  ⟨THM_ACT.WHOT, [], .rwl, 0, (some THM_CTRL.LOCK), false⟩,
  ⟨THM_ACT.WRAIL, [], .rwl, 0, (some THM_CTRL.LOCK), false⟩,
  ⟨THM_ACT.HFAN, [], .rwl, 15, (some THM_CTRL.LOCK), false⟩,
  ⟨THM_ACT.HHOT, [], .rwl, 1, (some THM_CTRL.LOCK), false⟩,
  ⟨THM_ACT.HRAIL, [], .rwl, 0, (some THM_CTRL.LOCK), false⟩,
  ⟨THM_ACT.CFAN, [], .rwl, 15, (some THM_CTRL.LOCK), false⟩,
  ⟨THM_ACT.CHOT, [], .rwl, 1, (some THM_CTRL.LOCK), false⟩,
  ⟨THM_ACT.CRAIL, [], .rwl, 1, (some THM_CTRL.LOCK), false⟩,
  ⟨THM_SEQLO.MASKLO 0, [(32, 0x8)], .rw, 0, none, false⟩,
  ⟨THM_SEQHI.MASKHI 0, [(32, 0x8)], .rw, 0, none, false⟩,
  ⟨THM_RES.CODE 0, [(48, 0x4)], .ro, 0, none, false⟩,
  ⟨THM_RES.VALID 0, [(48, 0x4)], .ro, 0, none, false⟩,
  ⟨THM_TEMP.TEMP 0, [(20, 0x4)], .ro, 0, none, false⟩,
  ⟨THM_TEMP.LEVEL 0, [(20, 0x4)], .ro, 0, none, false⟩,
  ⟨THM_TEMP.FAULT 0, [(20, 0x4)], .ro, 0, none, false⟩,
  ⟨THM_TCFG.EN 0, [(20, 0x8)], .rwl, 0, (some THM_CTRL.LOCK), false⟩,
  ⟨THM_TCFG.LUT 0, [(20, 0x8)], .rwl, 0, (some THM_CTRL.LOCK), false⟩,
  ⟨THM_TCFG.UPCNT 0, [(20, 0x8)], .rwl, 1, (some THM_CTRL.LOCK), false⟩,
  ⟨THM_TCFG.FAULTAS 0, [(20, 0x8)], .rwl, 2, (some THM_CTRL.LOCK), false⟩,
  ⟨THM_TCFG.HYST 0, [(20, 0x8)], .rwl, 3, (some THM_CTRL.LOCK), false⟩,
  ⟨THM_TTHR.WARN 0, [(20, 0x8)], .rwl, 70, (some THM_CTRL.LOCK), false⟩,
  ⟨THM_TTHR.HIGH 0, [(20, 0x8)], .rwl, 90, (some THM_CTRL.LOCK), false⟩,
  ⟨THM_TTHR.CRIT 0, [(20, 0x8)], .rwl, 100, (some THM_CTRL.LOCK), false⟩,
  ⟨THM_LUT.TEMP 0 0, [(2, 0x100), (33, 0x4)], .rwl, 0, (some THM_CTRL.LOCK), false⟩]

def block400B_0 : List RegRow := [
  ⟨FLOE_EVT.RX0, [], .w1c, 0, none, false⟩,
  ⟨FLOE_EVT.TXDONE0, [], .w1c, 0, none, false⟩,
  ⟨FLOE_EVT.TXFAIL0, [], .w1c, 0, none, false⟩,
  ⟨FLOE_EVT.QVIOL0, [], .w1c, 0, none, false⟩,
  ⟨FLOE_EVT.MACFAIL0, [], .w1c, 0, none, false⟩,
  ⟨FLOE_EVT.REPLAY0, [], .w1c, 0, none, false⟩,
  ⟨FLOE_EVT.CNTEXH0, [], .w1c, 0, none, false⟩,
  ⟨FLOE_EVT.SPOOF0, [], .w1c, 0, none, false⟩,
  ⟨FLOE_EVT.RX1, [], .w1c, 0, none, false⟩,
  ⟨FLOE_EVT.TXDONE1, [], .w1c, 0, none, false⟩,
  ⟨FLOE_EVT.TXFAIL1, [], .w1c, 0, none, false⟩,
  ⟨FLOE_EVT.QVIOL1, [], .w1c, 0, none, false⟩,
  ⟨FLOE_EVT.MACFAIL1, [], .w1c, 0, none, false⟩,
  ⟨FLOE_EVT.REPLAY1, [], .w1c, 0, none, false⟩,
  ⟨FLOE_EVT.CNTEXH1, [], .w1c, 0, none, false⟩,
  ⟨FLOE_EVT.SPOOF1, [], .w1c, 0, none, false⟩,
  ⟨FLOE_EVTEN.RX0, [], .rw, 0, none, false⟩,
  ⟨FLOE_EVTEN.TXDONE0, [], .rw, 0, none, false⟩,
  ⟨FLOE_EVTEN.TXFAIL0, [], .rw, 0, none, false⟩,
  ⟨FLOE_EVTEN.QVIOL0, [], .rw, 0, none, false⟩,
  ⟨FLOE_EVTEN.MACFAIL0, [], .rw, 0, none, false⟩,
  ⟨FLOE_EVTEN.REPLAY0, [], .rw, 0, none, false⟩,
  ⟨FLOE_EVTEN.CNTEXH0, [], .rw, 0, none, false⟩,
  ⟨FLOE_EVTEN.SPOOF0, [], .rw, 0, none, false⟩,
  ⟨FLOE_EVTEN.RX1, [], .rw, 0, none, false⟩,
  ⟨FLOE_EVTEN.TXDONE1, [], .rw, 0, none, false⟩,
  ⟨FLOE_EVTEN.TXFAIL1, [], .rw, 0, none, false⟩,
  ⟨FLOE_EVTEN.QVIOL1, [], .rw, 0, none, false⟩,
  ⟨FLOE_EVTEN.MACFAIL1, [], .rw, 0, none, false⟩,
  ⟨FLOE_EVTEN.REPLAY1, [], .rw, 0, none, false⟩,
  ⟨FLOE_EVTEN.CNTEXH1, [], .rw, 0, none, false⟩,
  ⟨FLOE_EVTEN.SPOOF1, [], .rw, 0, none, false⟩,
  ⟨FLOE_PCFG.EN 0, [(2, 0x100)], .rw, 0, none, false⟩,
  ⟨FLOE_PCFG.RATE 0, [(2, 0x100)], .rw, 0, none, false⟩,
  ⟨FLOE_PCFG.ADAPT 0, [(2, 0x100)], .rw, 1, none, false⟩,
  ⟨FLOE_PCFG.TXRETRY 0, [(2, 0x100)], .rw, 3, none, false⟩,
  ⟨FLOE_PCFG.FIXSP 0, [(2, 0x100)], .rw, 10, none, false⟩,
  ⟨FLOE_PCFG.FIXVTH 0, [(2, 0x100)], .rw, 1200, none, false⟩,
  ⟨FLOE_PSTAT.IDLE 0, [(2, 0x100)], .ro, 0, none, false⟩,
  ⟨FLOE_PSTAT.ADAPTED 0, [(2, 0x100)], .ro, 0, none, false⟩]

def block400B_1 : List RegRow := [
  ⟨FLOE_PSTAT.SLOW 0, [(2, 0x100)], .ro, 0, none, false⟩,
  ⟨FLOE_PSTAT.SP 0, [(2, 0x100)], .ro, 10, none, false⟩,
  ⟨FLOE_PSTAT.DR 0, [(2, 0x100)], .ro, 0, none, false⟩,
  ⟨FLOE_PSTAT.VTH 0, [(2, 0x100)], .ro, 1200, none, false⟩,
  ⟨FLOE_PLVL.VLOW 0, [(2, 0x100)], .ro, 0, none, false⟩,
  ⟨FLOE_PLVL.VHIGH 0, [(2, 0x100)], .ro, 0, none, false⟩,
  ⟨FLOE_PERRA.CRCERR 0, [(2, 0x100)], .rc, 0, none, false⟩,
  ⟨FLOE_PERRA.STUFFERR 0, [(2, 0x100)], .rc, 0, none, false⟩,
  ⟨FLOE_PERRA.FORMERR 0, [(2, 0x100)], .rc, 0, none, false⟩,
  ⟨FLOE_PERRA.RXOVF 0, [(2, 0x100)], .rc, 0, none, false⟩,
  ⟨FLOE_PERRB.BITERR 0, [(2, 0x100)], .rc, 0, none, false⟩,
  ⟨FLOE_PERRB.ARBLOST 0, [(2, 0x100)], .rc, 0, none, false⟩,
  ⟨FLOE_PERRB.NOACK 0, [(2, 0x100)], .rc, 0, none, false⟩,
  ⟨FLOE_PERRB.TXFAIL 0, [(2, 0x100)], .rc, 0, none, false⟩,
  ⟨FLOE_PERRC.MACFAIL 0, [(2, 0x100)], .rc, 0, none, false⟩,
  ⟨FLOE_PERRC.REPLAY 0, [(2, 0x100)], .rc, 0, none, false⟩,
  ⟨FLOE_PERRC.QVIOL 0, [(2, 0x100)], .rc, 0, none, false⟩,
  ⟨FLOE_PERRC.SPOOF 0, [(2, 0x100)], .rc, 0, none, false⟩,
  ⟨FLOE_TXHDR.DST 0, [(2, 0x100)], .rw, 0, none, false⟩,
  ⟨FLOE_TXHDR.TYPE 0, [(2, 0x100)], .rw, 0, none, false⟩,
  ⟨FLOE_TXHDR.SEC 0, [(2, 0x100)], .rw, 0, none, false⟩,
  ⟨FLOE_TXHDR.LEN 0, [(2, 0x100)], .rw, 0, none, false⟩,
  ⟨FLOE_TXCTL.GO 0, [(2, 0x100)], .wo, 0, none, false⟩,
  ⟨FLOE_TXCTL.BUSY 0, [(2, 0x100)], .ro, 0, none, false⟩,
  ⟨FLOE_TXCTL.FAILED 0, [(2, 0x100)], .ro, 0, none, false⟩,
  ⟨FLOE_TXCTL.REFUSED 0, [(2, 0x100)], .ro, 0, none, false⟩,
  ⟨FLOE_TXCTL.ATTEMPTS 0, [(2, 0x100)], .ro, 0, none, false⟩,
  ⟨FLOE_RXSTAT.COUNT 0, [(2, 0x100)], .ro, 0, none, false⟩,
  ⟨FLOE_RXHDR.SRC 0, [(2, 0x100)], .ro, 0, none, false⟩,
  ⟨FLOE_RXHDR.DST 0, [(2, 0x100)], .ro, 0, none, false⟩,
  ⟨FLOE_RXHDR.TYPE 0, [(2, 0x100)], .ro, 0, none, false⟩,
  ⟨FLOE_RXHDR.SEC 0, [(2, 0x100)], .ro, 0, none, false⟩,
  ⟨FLOE_RXHDR.LEN 0, [(2, 0x100)], .ro, 0, none, false⟩,
  ⟨FLOE_RXHDR.VALID 0, [(2, 0x100)], .ro, 0, none, false⟩,
  ⟨FLOE_RXCNT.CNT 0, [(2, 0x100)], .ro, 0, none, false⟩,
  ⟨FLOE_RXPOP.POP 0, [(2, 0x100)], .wo, 0, none, false⟩,
  ⟨FLOE_TXDATA.DATA 0 0, [(2, 0x100), (16, 0x4)], .rw, 0, none, false⟩,
  ⟨FLOE_RXDATA.DATA 0 0, [(2, 0x100), (16, 0x4)], .ro, 0, none, false⟩,
  ⟨FLOE_KCFG.ID 0, [(32, 0x40)], .rw, 0, none, false⟩,
  ⟨FLOE_KCFG.VALID 0, [(32, 0x40)], .rw, 0, none, false⟩]

def block400B_2 : List RegRow := [
  ⟨FLOE_KTX.KTX 0, [(32, 0x40)], .ro, 0, none, false⟩,
  ⟨FLOE_KRX.KRX 0, [(32, 0x40)], .ro, 0, none, false⟩,
  ⟨FLOE_KEY.KEY 0 0, [(32, 0x40), (8, 0x4)], .wo, 0, none, false⟩]

def block400B : List RegRow := block400B_0 ++ block400B_1 ++ block400B_2

def block400C_0 : List RegRow := [
  ⟨HOST_STAT.MODE, [], .ro, 0, none, false⟩,
  ⟨HOST_STAT.HOSTPWR, [], .ro, 0, none, false⟩,
  ⟨HOST_STAT.LINKUP, [], .ro, 0, none, false⟩,
  ⟨HOST_STAT.PLTRST, [], .ro, 0, none, false⟩,
  ⟨HOST_STAT.HOLD, [], .ro, 0, none, false⟩,
  ⟨HOST_STAT.ALERT, [], .ro, 0, none, false⟩,
  ⟨HOST_STAT.IOMODE, [], .ro, 0, none, false⟩,
  ⟨HOST_STAT.FREQ, [], .ro, 0, none, false⟩,
  ⟨HOST_WINEN.IDENT, [], .ro, 1, none, true⟩,
  ⟨HOST_WINEN.MBXCTL, [], .rw, 0, none, true⟩,
  ⟨HOST_WINEN.MBXBUF, [], .rw, 0, none, true⟩,
  ⟨HOST_WINEN.KEYWIN, [], .rw, 0, none, true⟩,
  ⟨HOST_WINEN.BULKCTL, [], .rw, 0, none, true⟩,
  ⟨HOST_WINEN.BULKDATA, [], .rw, 0, none, true⟩,
  ⟨HOST_CTRL.OOBADDR, [], .rw, 76, none, false⟩,
  ⟨HOST_POST.OPEN, [], .w1s, 0, none, false⟩,
  ⟨HOST_POST.CLOSE, [], .w1s, 0, none, false⟩,
  ⟨HOST_POST.ABORT, [], .w1s, 0, none, false⟩,
  ⟨HOST_POST.PENDING, [], .ro, 0, none, false⟩,
  ⟨HOST_POST.FULL, [], .w1c, 0, none, false⟩,
  ⟨HOST_POST.DROPPED, [], .w1c, 0, none, false⟩,
  ⟨HOST_EVT.HWRITE, [], .w1c, 0, none, false⟩,
  ⟨HOST_EVT.HRESET, [], .w1c, 0, none, false⟩,
  ⟨HOST_EVT.VWCHG, [], .w1c, 0, none, false⟩,
  ⟨HOST_EVT.OOBRX, [], .w1c, 0, none, false⟩,
  ⟨HOST_EVT.HOLDEXP, [], .w1c, 0, none, false⟩,
  ⟨HOST_EVT.PROMOTED, [], .w1c, 0, none, false⟩,
  ⟨HOST_EVT.HOSTUP, [], .w1c, 0, none, false⟩,
  ⟨HOST_EVT.HOSTDOWN, [], .w1c, 0, none, false⟩,
  ⟨HOST_EVTEN.HWRITE, [], .rw, 0, none, false⟩,
  ⟨HOST_EVTEN.HRESET, [], .rw, 0, none, false⟩,
  ⟨HOST_EVTEN.VWCHG, [], .rw, 0, none, false⟩,
  ⟨HOST_EVTEN.OOBRX, [], .rw, 0, none, false⟩,
  ⟨HOST_EVTEN.HOLDEXP, [], .rw, 0, none, false⟩,
  ⟨HOST_EVTEN.PROMOTED, [], .rw, 0, none, false⟩,
  ⟨HOST_EVTEN.HOSTUP, [], .rw, 0, none, false⟩,
  ⟨HOST_EVTEN.HOSTDOWN, [], .rw, 0, none, false⟩,
  ⟨HOST_VWIN.SLPS3, [], .ro, 0, none, false⟩,
  ⟨HOST_VWIN.SLPS4, [], .ro, 0, none, false⟩,
  ⟨HOST_VWIN.SLPS5, [], .ro, 0, none, false⟩]

def block400C_1 : List RegRow := [
  ⟨HOST_VWIN.SLPA, [], .ro, 0, none, false⟩,
  ⟨HOST_VWIN.SUSSTAT, [], .ro, 0, none, false⟩,
  ⟨HOST_VWIN.PLTRST, [], .ro, 0, none, false⟩,
  ⟨HOST_VWIN.SUSWARN, [], .ro, 0, none, false⟩,
  ⟨HOST_VWIN.HOSTC10, [], .ro, 0, none, false⟩,
  ⟨HOST_VWIN.SLPLAN, [], .ro, 0, none, false⟩,
  ⟨HOST_VWIN.SLPWLAN, [], .ro, 0, none, false⟩,
  ⟨HOST_VWIN.OOBRSTWARN, [], .ro, 0, none, false⟩,
  ⟨HOST_VWIN.HOSTRSTWARN, [], .ro, 0, none, false⟩,
  ⟨HOST_VWOUT.SCI, [], .rw, 0, none, false⟩,
  ⟨HOST_VWOUT.SMI, [], .rw, 0, none, false⟩,
  ⟨HOST_VWOUT.WAKE, [], .rw, 0, none, false⟩,
  ⟨HOST_VWOUT.PME, [], .rw, 0, none, false⟩,
  ⟨HOST_VWOUT.SUSPWRDNACK, [], .rw, 0, none, false⟩,
  ⟨HOST_ERRCNT.CRC, [], .rc, 0, none, false⟩,
  ⟨HOST_ERRCNT.FRAME, [], .rc, 0, none, false⟩,
  ⟨HOST_OOBRX.LEN, [], .ro, 0, none, false⟩,
  ⟨HOST_OOBRX.FULL, [], .ro, 0, none, false⟩,
  ⟨HOST_OOBRX.REL, [], .wo, 0, none, false⟩,
  ⟨HOST_OOBTX.LEN, [], .rw, 0, none, false⟩,
  ⟨HOST_OOBTX.GO, [], .wo, 0, none, false⟩,
  ⟨HOST_OOBTX.BUSY, [], .ro, 0, none, false⟩,
  ⟨HOST_OOBTX.DISCARDED, [], .w1c, 0, none, false⟩,
  ⟨HOST_OOBRXDATA.DATA 0, [(17, 0x4)], .ro, 0, none, false⟩,
  ⟨HOST_OOBTXDATA.DATA 0, [(17, 0x4)], .rw, 0, none, false⟩]

def block400C : List RegRow := block400C_0 ++ block400C_1

def block400D_0 : List RegRow := [
  ⟨MBX_CTRL.FWREADY, [], .rw, 0, none, false⟩,
  ⟨MBX_CTRL.OBFSCI, [], .rw, 0, none, false⟩,
  ⟨MBX_STAT.WRERR, [], .w1c, 0, none, false⟩,
  ⟨MBX_STAT.REQPAR, [], .w1c, 0, none, false⟩,
  ⟨MBX_STAT.DONEERR, [], .w1c, 0, none, false⟩,
  ⟨MBX_STAT.QFULL, [], .w1c, 0, none, false⟩,
  ⟨MBX_STAT.ECOVR, [], .w1c, 0, none, false⟩,
  ⟨MBX_EVT.RING, [], .w1c, 0, none, false⟩,
  ⟨MBX_EVT.DUP, [], .w1c, 0, none, false⟩,
  ⟨MBX_EVT.ECIN, [], .w1c, 0, none, false⟩,
  ⟨MBX_EVT.ECWQ, [], .w1c, 0, none, false⟩,
  ⟨MBX_EVT.BULKW, [], .w1c, 0, none, false⟩,
  ⟨MBX_EVT.BULKRD, [], .w1c, 0, none, false⟩,
  ⟨MBX_EVT.CREDITHALF, [], .w1c, 0, none, false⟩,
  ⟨MBX_EVT.BULKCLOSE, [], .w1c, 0, none, false⟩,
  ⟨MBX_EVT.MBXPAR, [], .w1c, 0, none, false⟩,
  ⟨MBX_EVT.BULKPAR, [], .w1c, 0, none, false⟩,
  ⟨MBX_EVTEN.RING, [], .rw, 0, none, false⟩,
  ⟨MBX_EVTEN.DUP, [], .rw, 0, none, false⟩,
  ⟨MBX_EVTEN.ECIN, [], .rw, 0, none, false⟩,
  ⟨MBX_EVTEN.ECWQ, [], .rw, 0, none, false⟩,
  ⟨MBX_EVTEN.BULKW, [], .rw, 0, none, false⟩,
  ⟨MBX_EVTEN.BULKRD, [], .rw, 0, none, false⟩,
  ⟨MBX_EVTEN.CREDITHALF, [], .rw, 0, none, false⟩,
  ⟨MBX_EVTEN.BULKCLOSE, [], .rw, 0, none, false⟩,
  ⟨MBX_EVTEN.MBXPAR, [], .rw, 0, none, false⟩,
  ⟨MBX_EVTEN.BULKPAR, [], .rw, 0, none, false⟩,
  ⟨MBX_RING.RUNG, [], .ro, 0, none, false⟩,
  ⟨MBX_TAKE.TAKE, [], .wo, 0, none, false⟩,
  ⟨MBX_DONE.TAG, [], .wo, 0, none, false⟩,
  ⟨MBX_DONE.NOSTORE, [], .wo, 0, none, false⟩,
  ⟨MBX_CNT.DUP, [], .rc, 0, none, false⟩,
  ⟨MBX_CNT.HWANS, [], .rc, 0, none, false⟩,
  ⟨MBX_TAGINFO.STATE 0, [(8, 0x8)], .ro, 0, none, false⟩,
  ⟨MBX_TAGINFO.RVALID 0, [(8, 0x8)], .ro, 0, none, false⟩,
  ⟨MBX_TAGINFO.RESEND 0, [(8, 0x8)], .ro, 0, none, false⟩,
  ⟨MBX_TAGINFO.CORRUPTED 0, [(8, 0x8)], .ro, 0, none, false⟩,
  ⟨MBX_TAGINFO.LASTSEQ 0, [(8, 0x8)], .ro, 0, none, false⟩,
  ⟨MBX_TAGCMD.LASTCMD 0, [(8, 0x8)], .ro, 0, none, false⟩,
  ⟨MBX_ECSTAT.OBF, [], .ro, 0, none, false⟩]

def block400D_1 : List RegRow := [
  ⟨MBX_ECSTAT.IBF, [], .ro, 0, none, false⟩,
  ⟨MBX_ECSTAT.BURST, [], .ro, 0, none, false⟩,
  ⟨MBX_ECSTAT.SCIEVT, [], .ro, 0, none, false⟩,
  ⟨MBX_ECSTAT.WQCNT, [], .ro, 0, none, false⟩,
  ⟨MBX_ECSTAT.QCNT, [], .ro, 0, none, false⟩,
  ⟨MBX_ECSTAT.INCNT, [], .ro, 0, none, false⟩,
  ⟨MBX_ECIN.DATA, [], .rc, 0, none, false⟩,
  ⟨MBX_ECIN.CMD, [], .rc, 0, none, false⟩,
  ⟨MBX_ECIN.VALID, [], .rc, 0, none, false⟩,
  ⟨MBX_ECWQ.ADDR, [], .rc, 0, none, false⟩,
  ⟨MBX_ECWQ.DATA, [], .rc, 0, none, false⟩,
  ⟨MBX_ECWQ.VALID, [], .rc, 0, none, false⟩,
  ⟨MBX_ECOUT.DATA, [], .wo, 0, none, false⟩,
  ⟨MBX_ECQPUSH.DATA, [], .wo, 0, none, false⟩,
  ⟨MBX_BULKSTAT.TARGET, [], .ro, 0, none, false⟩,
  ⟨MBX_BULKSTAT.UNITOPEN, [], .ro, 0, none, false⟩,
  ⟨MBX_BULKSTAT.CLOSEREQ, [], .ro, 0, none, false⟩,
  ⟨MBX_BULKSTAT.WFILL, [], .ro, 0, none, false⟩,
  ⟨MBX_BULKPOS.POS, [], .ro, 0, none, false⟩,
  ⟨MBX_BULKRD.DATA, [], .rc, 0, none, false⟩,
  ⟨MBX_BULKWR.DATA, [], .wo, 0, none, false⟩,
  ⟨MBX_BULKACK.CLOSED, [], .wo, 0, none, false⟩,
  ⟨MBX_BULKACK.INCOMPLETE, [], .wo, 0, none, false⟩,
  ⟨MBX_BULKRFILL.RFILL, [], .ro, 0, none, false⟩]

def block400D : List RegRow := block400D_0 ++ block400D_1

def block400E_0 : List RegRow := [
  ⟨SEC_LCS.STATE, [], .ro, 0, none, true⟩,
  ⟨SEC_LCS.IKRDY, [], .ro, 0, none, true⟩,
  ⟨SEC_LCS.SVCCNT, [], .ro, 0, none, true⟩,
  ⟨SEC_LCS.DBGOPEN, [], .ro, 0, none, true⟩,
  ⟨SEC_LCS.DBGLEVEL, [], .ro, 0, none, true⟩,
  ⟨SEC_LCS.DBGOPENED, [], .ro, 0, none, true⟩,
  ⟨SEC_LCS.REFCAUSE, [], .ro, 0, none, true⟩,
  ⟨SEC_FUSESTAT.OEMPROG, [], .ro, 0, none, true⟩,
  ⟨SEC_FUSESTAT.OEMREV, [], .ro, 0, none, true⟩,
  ⟨SEC_FUSESTAT.FWARB, [], .ro, 0, none, true⟩,
  ⟨SEC_FUSESTAT.HOSTARB, [], .ro, 0, none, true⟩,
  ⟨SEC_FUSESTAT.FUSEERR, [], .w1c, 0, none, true⟩,
  ⟨SEC_FUSESTAT.SEQBUSY, [], .ro, 0, none, true⟩,
  ⟨SEC_DEVIDLO.DEVID, [], .ro, 0, none, true⟩,
  ⟨SEC_DEVIDHI.DEVID, [], .ro, 0, none, true⟩,
  ⟨SEC_LCREQ.TARGET, [], .wo, 0, none, true⟩,
  ⟨SEC_LCREQ.KEY, [], .wo, 0, none, true⟩,
  ⟨SEC_ARBADV.FWTGT, [], .wo, 0, none, true⟩,
  ⟨SEC_ARBADV.HOSTTGT, [], .wo, 0, none, true⟩,
  ⟨SEC_ARBADV.GOFW, [], .wo, 0, none, true⟩,
  ⟨SEC_ARBADV.GOHOST, [], .wo, 0, none, true⟩,
  ⟨SEC_OEMPROG.SLOT, [], .wo, 0, none, true⟩,
  ⟨SEC_OEMPROG.PROG, [], .wo, 0, none, true⟩,
  ⟨SEC_OEMPROG.REVOKE, [], .wo, 0, none, true⟩,
  ⟨SEC_OEMPROG.KEY, [], .wo, 0, none, true⟩,
  ⟨SEC_OEMADDR.ADDR, [], .rw, 0, none, true⟩,
  ⟨SEC_TOKCTL.NEWNONCE, [], .wo, 0, none, true⟩,
  ⟨SEC_TOKCTL.SUBMIT, [], .wo, 0, none, true⟩,
  ⟨SEC_TOKCTL.BUSY, [], .ro, 0, none, true⟩,
  ⟨SEC_TOKCTL.KEYOK, [], .w1c, 0, none, true⟩,
  ⟨SEC_TOKCTL.RESULT, [], .ro, 0, none, true⟩,
  ⟨SEC_TOKADDR.ADDR, [], .rw, 0, none, true⟩,
  ⟨SEC_NONCE.NONCE 0, [(4, 0x4)], .ro, 0, none, true⟩,
  ⟨SEC_CMD.GO, [], .wo, 0, none, true⟩,
  ⟨SEC_DESC.ADDR, [], .rw, 0, none, true⟩,
  ⟨SEC_CMDSTAT.BUSY, [], .ro, 0, none, true⟩,
  ⟨SEC_CMDSTAT.HASHOPEN, [], .ro, 0, none, true⟩,
  ⟨SEC_CMDSTAT.CODE, [], .ro, 0, none, true⟩,
  ⟨SEC_EVT.CMDDONE, [], .w1c, 0, none, true⟩,
  ⟨SEC_EVT.CMDERR, [], .w1c, 0, none, true⟩]

def block400E_1 : List RegRow := [
  ⟨SEC_EVT.TOKDONE, [], .w1c, 0, none, true⟩,
  ⟨SEC_EVT.REFUSED, [], .w1c, 0, none, true⟩,
  ⟨SEC_EVT.TRNGFAIL, [], .w1c, 0, none, true⟩,
  ⟨SEC_EVT.DBGOPEN, [], .w1c, 0, none, true⟩,
  ⟨SEC_EVTEN.CMDDONE, [], .rw, 0, none, true⟩,
  ⟨SEC_EVTEN.CMDERR, [], .rw, 0, none, true⟩,
  ⟨SEC_EVTEN.TOKDONE, [], .rw, 0, none, true⟩,
  ⟨SEC_EVTEN.REFUSED, [], .rw, 0, none, true⟩,
  ⟨SEC_EVTEN.TRNGFAIL, [], .rw, 0, none, true⟩,
  ⟨SEC_EVTEN.DBGOPEN, [], .rw, 0, none, true⟩,
  ⟨SEC_TRNG.DATA, [], .rc, 0, none, true⟩,
  ⟨SEC_TRNGSTAT.VALID, [], .ro, 0, none, true⟩,
  ⟨SEC_TRNGSTAT.FAIL, [], .ro, 0, none, true⟩,
  ⟨SEC_BOOTINFO.SLOT, [], .rwl, 0, (some SEC_LOCK.MEAS), true⟩,
  ⟨SEC_BOOTINFO.FALLBACK, [], .rwl, 0, (some SEC_LOCK.MEAS), true⟩,
  ⟨SEC_BOOTINFO.UCODE, [], .rwl, 0, (some SEC_LOCK.MEAS), true⟩,
  ⟨SEC_BOOTINFO.SVN, [], .rwl, 0, (some SEC_LOCK.MEAS), true⟩,
  ⟨SEC_BOOTINFO.KEYSLOT, [], .rwl, 0, (some SEC_LOCK.MEAS), true⟩,
  ⟨SEC_LOCK.MEAS, [], .w1s, 0, none, true⟩,
  ⟨SEC_LOCK.UCODE, [], .w1s, 0, none, true⟩,
  ⟨SEC_OEMHASH.HASH 0 0, [(4, 0x40), (12, 0x4)], .ro, 0, none, true⟩,
  ⟨SEC_KSLOT.VALID 0, [(16, 0x4)], .ro, 0, none, true⟩,
  ⟨SEC_KSLOT.TYPE 0, [(16, 0x4)], .ro, 0, none, true⟩,
  ⟨SEC_KSLOT.USE 0, [(16, 0x4)], .ro, 0, none, true⟩,
  ⟨SEC_KSLOT.ORIGIN 0, [(16, 0x4)], .ro, 0, none, true⟩,
  ⟨SEC_KSLOT.CLR 0, [(16, 0x4)], .wo, 0, none, true⟩,
  ⟨SEC_MEASFW.DIGEST 0, [(12, 0x4)], .rwl, 0, (some SEC_LOCK.MEAS), true⟩,
  ⟨SEC_IKPUB.IKPUB 0, [(24, 0x4)], .ro, 0, none, true⟩,
  ⟨SEC_MPUFADDR.ADDR, [], .ro, 0, none, true⟩,
  ⟨SEC_MPUFINFO.CAUSE, [], .ro, 0, none, true⟩,
  ⟨SEC_MPUFINFO.KIND, [], .ro, 0, none, true⟩,
  ⟨SEC_MPUBASE.EN 0, [(16, 0x8)], .rw, 0, none, true⟩,
  ⟨SEC_MPUBASE.TR 0, [(16, 0x8)], .rw, 0, none, true⟩,
  ⟨SEC_MPUBASE.TW 0, [(16, 0x8)], .rw, 0, none, true⟩,
  ⟨SEC_MPUBASE.TX 0, [(16, 0x8)], .rw, 0, none, true⟩,
  ⟨SEC_MPUBASE.PXN 0, [(16, 0x8)], .rw, 0, none, true⟩,
  ⟨SEC_MPUBASE.BASE 0, [(16, 0x8)], .rw, 0, none, true⟩,
  ⟨SEC_MPULIM.LIMIT 0, [(16, 0x8)], .rw, 0, none, true⟩,
  ⟨SEC_PATLO.PAT, [], .rw, 0, none, true⟩,
  ⟨SEC_PATHI.PAT, [], .rw, 0, none, true⟩]

def block400E : List RegRow := block400E_0 ++ block400E_1

def block400F_0 : List RegRow := [
  ⟨FGD_CTRL.EN, [], .rw, 0, none, false⟩,
  ⟨FGD_CTRL.START, [], .wo, 0, none, false⟩,
  ⟨FGD_CTRL.RSMEN, [], .rw, 0, none, false⟩,
  ⟨FGD_CTRL.PLOCK, [], .w1s, 0, none, false⟩,
  ⟨FGD_STAT.PHASE, [], .ro, 0, none, false⟩,
  ⟨FGD_STAT.VERDICT, [], .ro, 0, none, false⟩,
  ⟨FGD_STAT.RSM, [], .ro, 0, none, false⟩,
  ⟨FGD_STAT.ACTMAN, [], .ro, 0, none, false⟩,
  ⟨FGD_STAT.SPAREVALID, [], .ro, 0, none, false⟩,
  ⟨FGD_STAT.FAILCAUSE, [], .ro, 0, none, false⟩,
  ⟨FGD_STAT.PROMO, [], .ro, 0, none, false⟩,
  ⟨FGD_STAT.BUSY, [], .ro, 0, none, false⟩,
  ⟨FGD_EVT.DONE, [], .w1c, 0, none, false⟩,
  ⟨FGD_EVT.RECOVERED, [], .w1c, 0, none, false⟩,
  ⟨FGD_EVT.FAIL, [], .w1c, 0, none, false⟩,
  ⟨FGD_EVT.PROMODONE, [], .w1c, 0, none, false⟩,
  ⟨FGD_EVT.PROMOTED, [], .w1c, 0, none, false⟩,
  ⟨FGD_EVT.PROMOFAIL, [], .w1c, 0, none, false⟩,
  ⟨FGD_EVT.DENIED, [], .w1c, 0, none, false⟩,
  ⟨FGD_EVT.DEVERR, [], .w1c, 0, none, false⟩,
  ⟨FGD_EVT.REFUSED, [], .w1c, 0, none, false⟩,
  ⟨FGD_EVTEN.DONE, [], .rw, 0, none, false⟩,
  ⟨FGD_EVTEN.RECOVERED, [], .rw, 0, none, false⟩,
  ⟨FGD_EVTEN.FAIL, [], .rw, 0, none, false⟩,
  ⟨FGD_EVTEN.PROMODONE, [], .rw, 0, none, false⟩,
  ⟨FGD_EVTEN.PROMOTED, [], .rw, 0, none, false⟩,
  ⟨FGD_EVTEN.PROMOFAIL, [], .rw, 0, none, false⟩,
  ⟨FGD_EVTEN.DENIED, [], .rw, 0, none, false⟩,
  ⟨FGD_EVTEN.DEVERR, [], .rw, 0, none, false⟩,
  ⟨FGD_EVTEN.REFUSED, [], .rw, 0, none, false⟩,
  ⟨FGD_SPICFG.CLKSEL, [], .rwl, 0, (some FGD_CTRL.PLOCK), false⟩,
  ⟨FGD_SPICFG.MAXW, [], .rwl, 2, (some FGD_CTRL.PLOCK), false⟩,
  ⟨FGD_MANOFF.MANOFF0, [], .rwl, 1, (some FGD_CTRL.PLOCK), false⟩,
  ⟨FGD_MANOFF.MANOFF1, [], .rwl, 2, (some FGD_CTRL.PLOCK), false⟩,
  ⟨FGD_DEV.PRESENT 0, [(2, 0x4)], .ro, 0, none, false⟩,
  ⟨FGD_DEV.ADDR4 0, [(2, 0x4)], .ro, 0, none, false⟩,
  ⟨FGD_DEV.RMODE 0, [(2, 0x4)], .ro, 0, none, false⟩,
  ⟨FGD_DEV.SIZELOG 0, [(2, 0x4)], .ro, 0, none, false⟩,
  ⟨FGD_DEV.ERASEOP 0, [(2, 0x4)], .ro, 0, none, false⟩,
  ⟨FGD_TOP.TOP, [], .ro, 0, none, false⟩]

def block400F_1 : List RegRow := [
  ⟨FGD_ACTSEQ.MSEQ, [], .ro, 0, none, false⟩,
  ⟨FGD_SPARESEQ.MSEQ, [], .ro, 0, none, false⟩,
  ⟨FGD_PROMO.GO, [], .wo, 0, none, false⟩,
  ⟨FGD_PROMO.CANCEL, [], .wo, 0, none, false⟩,
  ⟨FGD_FREQ.OP, [], .wo, 0, none, true⟩,
  ⟨FGD_FREQ.SRC, [], .wo, 0, none, true⟩,
  ⟨FGD_FREQ.GO, [], .wo, 0, none, true⟩,
  ⟨FGD_FREQ.BUSY, [], .ro, 0, none, true⟩,
  ⟨FGD_FREQ.RESULT, [], .ro, 0, none, true⟩,
  ⟨FGD_FADDR.ADDR, [], .rw, 0, none, false⟩,
  ⟨FGD_FLEN.LEN, [], .rw, 0, none, false⟩,
  ⟨FGD_FBUF.BUF, [], .rw, 0, none, false⟩,
  ⟨FGD_CNT.DENIED, [], .rc, 0, none, false⟩,
  ⟨FGD_CNT.DEVERR, [], .rc, 0, none, false⟩,
  ⟨FGD_REGSTAT.STATE 0, [(16, 0x10)], .ro, 0, none, false⟩,
  ⟨FGD_REGSTAT.RSTATE 0, [(16, 0x10)], .ro, 0, none, false⟩,
  ⟨FGD_REGSTAT.COPY 0, [(16, 0x10)], .ro, 0, none, false⟩,
  ⟨FGD_REGSTAT.REQ 0, [(16, 0x10)], .ro, 0, none, false⟩,
  ⟨FGD_REGSTAT.VALID 0, [(16, 0x10)], .ro, 0, none, false⟩,
  ⟨FGD_REGSTAT.REGION 0, [(16, 0x10)], .ro, 0, none, false⟩,
  ⟨FGD_REGHB.HBASE 0, [(16, 0x10)], .ro, 0, none, false⟩,
  ⟨FGD_REGLEN.LEN 0, [(16, 0x10)], .ro, 0, none, false⟩,
  ⟨FGD_REGPB.PBASE 0, [(16, 0x10)], .ro, 0, none, false⟩,
  ⟨FGD_DIG.DIGEST 0 0, [(16, 0x40), (12, 0x4)], .ro, 0, none, false⟩,
  ⟨FGD_POL.POL 0, [(2048, 0x4)], .rwl, 0, (some FGD_CTRL.PLOCK), false⟩]

def block400F : List RegRow := block400F_0 ++ block400F_1

def block4010 : List RegRow := [
  ⟨NVC_CTRL.CMD, [], .wo, 0, none, false⟩,
  ⟨NVC_CTRL.GO, [], .wo, 0, none, false⟩,
  ⟨NVC_CTRL.KEY, [], .wo, 0, none, false⟩,
  ⟨NVC_ADDR.ADDR, [], .rw, 0, none, false⟩,
  ⟨NVC_BUF.BUF, [], .rw, 0, none, false⟩,
  ⟨NVC_LEN.LEN, [], .rw, 0, none, false⟩,
  ⟨NVC_STAT.BUSY, [], .ro, 0, none, false⟩,
  ⟨NVC_STAT.RESULT, [], .ro, 0, none, false⟩,
  ⟨NVC_EVT.DONE, [], .w1c, 0, none, false⟩,
  ⟨NVC_EVT.ERROR, [], .w1c, 0, none, false⟩,
  ⟨NVC_EVTEN.DONE, [], .rw, 0, none, false⟩,
  ⟨NVC_EVTEN.ERROR, [], .rw, 0, none, false⟩,
  ⟨NVC_ERRADDR.ADDR, [], .ro, 0, none, false⟩,
  ⟨NVC_BOOTST.HOVALID, [], .rwl, 0, (some SEC_LOCK.MEAS), false⟩,
  ⟨NVC_BOOTST.TRIAL, [], .rwl, 0, (some SEC_LOCK.MEAS), false⟩,
  ⟨NVC_BOOTST.ROMREC, [], .rwl, 0, (some SEC_LOCK.MEAS), false⟩,
  ⟨NVC_BOOTST.BCSEQ, [], .rwl, 0, (some SEC_LOCK.MEAS), false⟩,
  ⟨NVC_CONFCTL.ARM, [], .w1s, 0, none, false⟩,
  ⟨NVC_CONFCTL.CONFIRM, [], .wo, 0, none, false⟩,
  ⟨NVC_CONFCTL.ARMED, [], .ro, 0, none, false⟩,
  ⟨NVC_CONFCTL.EXPIRED, [], .w1c, 0, none, false⟩,
  ⟨NVC_CONFCTL.KEY, [], .wo, 0, none, false⟩,
  ⟨NVC_CONFREM.REMAIN, [], .ro, 0, none, false⟩]

def block4011 : List RegRow := [
  ⟨LOG_CTRL.FLUSH, [], .w1s, 0, none, false⟩,
  ⟨LOG_STAT.HEAD, [], .ro, 0, none, false⟩,
  ⟨LOG_STAT.FILL, [], .ro, 0, none, false⟩,
  ⟨LOG_STAT.READY, [], .ro, 0, none, false⟩,
  ⟨LOG_STAT.REFUSED, [], .ro, 0, none, false⟩,
  ⟨LOG_EVT.WRITTEN, [], .w1c, 0, none, false⟩,
  ⟨LOG_EVT.DROP, [], .w1c, 0, none, false⟩,
  ⟨LOG_EVT.HALF, [], .w1c, 0, none, false⟩,
  ⟨LOG_EVTEN.WRITTEN, [], .rw, 0, none, false⟩,
  ⟨LOG_EVTEN.DROP, [], .rw, 0, none, false⟩,
  ⟨LOG_EVTEN.HALF, [], .rw, 0, none, false⟩,
  ⟨LOG_CNT.DROPCORE, [], .rc, 0, none, false⟩,
  ⟨LOG_CNT.DROPHW, [], .rc, 0, none, false⟩,
  ⟨LOG_WHDR.SOURCE, [], .rw, 128, none, false⟩,
  ⟨LOG_WHDR.SEV, [], .rw, 0, none, false⟩,
  ⟨LOG_WHDR.CODE, [], .rw, 0, none, false⟩,
  ⟨LOG_WDATA.DATA 0, [(4, 0x4)], .rw, 0, none, false⟩,
  ⟨LOG_WCOMMIT.GO, [], .wo, 0, none, false⟩]

def block4014 : List RegRow := [
  ⟨TMR_WDCTL.EN, [], .rwl, 0, (some TMR_WDCTL.LOCK), false⟩,
  ⟨TMR_WDCTL.LOCK, [], .w1s, 0, none, false⟩,
  ⟨TMR_WDCFG.T1, [], .rwl, 1000, (some TMR_WDCTL.LOCK), false⟩,
  ⟨TMR_WDCFG.T2, [], .rwl, 1000, (some TMR_WDCTL.LOCK), false⟩,
  ⟨TMR_WDKICK.KEY, [], .wo, 0, none, false⟩,
  ⟨TMR_WDSTAT.STAGE, [], .ro, 0, none, false⟩,
  ⟨TMR_WDSTAT.BADKICK, [], .w1c, 0, none, false⟩,
  ⟨TMR_WDSTAT.REMAIN, [], .ro, 0, none, false⟩]

def block4015 : List RegRow := [
  ⟨ERR_MEMSTAT.MSRAM, [], .w1c, 0, none, false⟩,
  ⟨ERR_MEMSTAT.LUXMEM, [], .w1c, 0, none, false⟩,
  ⟨ERR_MEMSTAT.RSTACK, [], .w1c, 0, none, false⟩,
  ⟨ERR_MEMSTAT.RETRAM, [], .w1c, 0, none, false⟩,
  ⟨ERR_MEMSTAT.MBXRAM, [], .w1c, 0, none, false⟩,
  ⟨ERR_MEMSTAT.BULKFIFO, [], .w1c, 0, none, false⟩,
  ⟨ERR_MEMSTAT.UCODE, [], .w1c, 0, none, false⟩,
  ⟨ERR_MEMSTAT.FIRNCOR, [], .w1c, 0, none, false⟩,
  ⟨ERR_MEMSTAT.FIRNDED, [], .w1c, 0, none, false⟩,
  ⟨ERR_MEMSTAT.PLLLOSS, [], .w1c, 0, none, false⟩,
  ⟨ERR_ECCCNT.CORR, [], .rc, 0, none, false⟩,
  ⟨ERR_ECCCNT.DED, [], .rc, 0, none, false⟩,
  ⟨ERR_FAULTADDR.ADDR, [], .ro, 0, none, false⟩,
  ⟨ERR_FATAL.FIRST, [], .ro, 0, none, false⟩,
  ⟨ERR_FATAL.SECOND, [], .ro, 0, none, false⟩,
  ⟨ERR_FATAL.VECFAIL, [], .ro, 0, none, false⟩,
  ⟨ERR_FATAL.FATALCNT, [], .ro, 0, none, false⟩,
  ⟨ERR_FATALADDR.ADDR, [], .ro, 0, none, false⟩]

def hostWin : List RegRow := [
  ⟨HW_ID.LINK, [], .ro, 0, none, false⟩,
  ⟨HW_ID.STEP, [], .ro, 176, none, false⟩,
  ⟨HW_ID.PART, [], .ro, 34880, none, false⟩,
  ⟨HW_HOSTCTL.HOLD, [], .rw, 0, none, false⟩,
  ⟨HW_HOSTCTL.HOLDEXP, [], .w1c, 0, none, false⟩,
  ⟨HW_EVSTAT.EVSTAT, [], .w1c, 0, none, false⟩,
  ⟨HW_EVMASK.EVMASK, [], .rw, 0, none, false⟩,
  ⟨HW_MBXCTL.DOORBELL, [], .w1s, 0, none, false⟩,
  ⟨HW_MBXCTL.COMPLETE, [], .w1c, 0, none, false⟩,
  ⟨HW_MBXCTL.FWREADY, [], .ro, 0, none, false⟩,
  ⟨HW_TAGSTATE.STATE, [], .ro, 0, none, false⟩,
  ⟨HW_BULK_TARGET.TARGET, [], .rw, 0, none, false⟩,
  ⟨HW_BULK_ADDR.ADDR, [], .rw, 0, none, false⟩,
  ⟨HW_BULK_CREDIT.CREDIT, [], .ro, 4096, none, false⟩,
  ⟨HW_BULK_CREDIT.RAVAIL, [], .ro, 0, none, false⟩,
  ⟨HW_BULK_STAT.OVF, [], .ro, 0, none, false⟩,
  ⟨HW_BULK_STAT.PARERR, [], .ro, 0, none, false⟩,
  ⟨HW_BULK_STAT.RANGE, [], .ro, 0, none, false⟩,
  ⟨HW_BULK_STAT.UNDER, [], .ro, 0, none, false⟩,
  ⟨HW_BULK_STAT.UNITOPEN, [], .ro, 0, none, false⟩,
  ⟨HW_BULK_STAT.CLOSED, [], .ro, 0, none, false⟩,
  ⟨HW_BULK_STAT.INCOMPLETE, [], .ro, 0, none, false⟩,
  ⟨HW_BULK_NEXT.NEXT, [], .ro, 0, none, false⟩,
  ⟨HW_BULK_CTL.CLOSE, [], .wo, 0, none, false⟩]

def configPairRows : List RegRow := [
  ⟨CFG_ID.IDHI, [], .ro, 136, none, false⟩,
  ⟨CFG_ID.IDLO, [], .ro, 64, none, false⟩,
  ⟨CFG_ID.STEP, [], .ro, 176, none, false⟩,
  ⟨CFG_ENABLE.WINDEC, [], .rwl, 0, (some CFG_LOCK.LOCK), false⟩,
  ⟨CFG_ENABLE.ECDEC, [], .rwl, 1, (some CFG_LOCK.LOCK), false⟩,
  ⟨CFG_WINBASE.WINBASE, [], .rwl, 0, (some CFG_LOCK.LOCK), false⟩,
  ⟨CFG_ECDATA.ECDATA, [], .rwl, 98, (some CFG_LOCK.LOCK), false⟩,
  ⟨CFG_ECCMD.ECCMD, [], .rwl, 102, (some CFG_LOCK.LOCK), false⟩,
  ⟨CFG_IRQSEL.IRQSEL, [], .rwl, 0, (some CFG_LOCK.LOCK), false⟩,
  ⟨CFG_LOCK.LOCK, [], .w1s, 0, none, false⟩]

def ecPortRows : List RegRow := [
  ⟨EC_STATUS.OBF, [], .ro, 0, none, false⟩,
  ⟨EC_STATUS.IBF, [], .ro, 0, none, false⟩,
  ⟨EC_STATUS.CMD, [], .ro, 0, none, false⟩,
  ⟨EC_STATUS.BURST, [], .ro, 0, none, false⟩,
  ⟨EC_STATUS.SCI_EVT, [], .ro, 0, none, false⟩,
  ⟨EC_STATUS.SMI_EVT, [], .ro, 0, none, false⟩]

end RegMap

/-- The rows of the block whose 64 KiB hold address `a` (R8). -/
def blockRows (a : Nat) : List RegRow :=
  match a / 0x10000 with
  | 0x4000 => RegMap.block4000
  | 0x4001 => RegMap.block4001
  | 0x4002 => RegMap.block4002
  | 0x4003 => RegMap.block4003
  | 0x4004 => RegMap.block4004
  | 0x4005 => RegMap.block4005
  | 0x4006 => RegMap.block4006
  | 0x4007 => RegMap.block4007
  | 0x4008 => RegMap.block4008
  | 0x4009 => RegMap.block4009
  | 0x400A => RegMap.block400A
  | 0x400B => RegMap.block400B
  | 0x400C => RegMap.block400C
  | 0x400D => RegMap.block400D
  | 0x400E => RegMap.block400E
  | 0x400F => RegMap.block400F
  | 0x4010 => RegMap.block4010
  | 0x4011 => RegMap.block4011
  | 0x4014 => RegMap.block4014
  | 0x4015 => RegMap.block4015
  | 0x10000 => RegMap.hostWin
  | 0x10001 => RegMap.configPairRows
  | 0x10002 => RegMap.ecPortRows
  | _ => []

/-- The rows of the fields of the register at address `a`; none for an offset no map lists (R13). -/
def regRows (a : Nat) : List RegRow := (blockRows a).filter (fun r => r.covers a)

def resetCells_0 : List (Nat × Nat) := [
  (0x800000008, 176), (0x800000010, 34880), (0x800000600, 7), (0x800000800, 1), (0x800000801, 1), (0x800000802, 1),
  (0x800000803, 1), (0x800000804, 1), (0x800000805, 1), (0x800000806, 1), (0x800000807, 1), (0x800000808, 1),
  (0x800000900, 4294967295), (0x800000980, 4294967295), (0x800200004, 4), (0x800400000, 3), (0x800400004, 3), (0x800400085, 3),
  (0x800402087, 1), (0x800402089, 1), (0x800402487, 1), (0x800402489, 1), (0x800402887, 1), (0x800402889, 1),
  (0x800402C87, 1), (0x800402C89, 1), (0x800403087, 1), (0x800403089, 1), (0x800403487, 1), (0x800403489, 1),
  (0x800403887, 1), (0x800403889, 1), (0x800403C87, 1), (0x800403C89, 1), (0x800404087, 1), (0x800404089, 1),
  (0x800404487, 1), (0x800404489, 1), (0x800404887, 1), (0x800404889, 1), (0x800404C87, 1), (0x800404C89, 1),
  (0x800405087, 1), (0x800405089, 1), (0x800405487, 1), (0x800405489, 1), (0x800405887, 1), (0x800405889, 1),
  (0x800405C87, 1), (0x800405C89, 1), (0x800406087, 1), (0x800406089, 1), (0x800406487, 1), (0x800406489, 1),
  (0x800406887, 1), (0x800406889, 1), (0x800406C87, 1), (0x800406C89, 1), (0x800407087, 1), (0x800407089, 1)]

def resetCells_1 : List (Nat × Nat) := [
  (0x800407487, 1), (0x800407489, 1), (0x800407887, 1), (0x800407889, 1), (0x800407C87, 1), (0x800407C89, 1),
  (0x800408087, 1), (0x800408089, 1), (0x800408487, 1), (0x800408489, 1), (0x800408887, 1), (0x800408889, 1),
  (0x800408C87, 1), (0x800408C89, 1), (0x800409087, 1), (0x800409089, 1), (0x800409487, 1), (0x800409489, 1),
  (0x800409887, 1), (0x800409889, 1), (0x800409C87, 1), (0x800409C89, 1), (0x80040A087, 1), (0x80040A089, 1),
  (0x80040A487, 1), (0x80040A489, 1), (0x80040A887, 1), (0x80040A889, 1), (0x80040AC87, 1), (0x80040AC89, 1),
  (0x80040B087, 1), (0x80040B089, 1), (0x80040B487, 1), (0x80040B489, 1), (0x80040B887, 1), (0x80040B889, 1),
  (0x80040BC87, 1), (0x80040BC89, 1), (0x800410010, 4095), (0x800410110, 4095), (0x800410210, 4095), (0x800410310, 4095),
  (0x800410410, 4095), (0x800410510, 4095), (0x800410610, 4095), (0x800410710, 4095), (0x800600000, 2), (0x800600004, 1),
  (0x800600080, 3), (0x800600200, 3600), (0x800602000, 1), (0x800602010, 300), (0x800602080, 25000), (0x800602800, 1),
  (0x800602810, 300), (0x800602880, 25000), (0x800603000, 1), (0x800603010, 300), (0x800603080, 25000), (0x800800087, 2)]

def resetCells_2 : List (Nat × Nat) := [
  (0x800800200, 4200), (0x800800280, 100), (0x800800290, 20), (0x800800298, 10), (0x800800300, 3000), (0x800800310, 10),
  (0x800800380, 4200), (0x800800390, 200), (0x800800400, 60), (0x800800410, 600), (0x800800500, 3038), (0x800800510, 2654),
  (0x800800580, 1337), (0x800800590, 1059), (0x800800600, 4), (0x800800608, 10), (0x800800610, 40), (0x800800680, 2),
  (0x800800700, 95), (0x800801001, 7), (0x800801008, 300), (0x800801018, 60), (0x800801100, 3300), (0x800A02000, 1),
  (0x800A02003, 2), (0x800A02007, 1), (0x800A02009, 1), (0x800A02080, 200), (0x800A02090, 50), (0x800A02098, 65),
  (0x800A02408, 1), (0x800A04000, 1), (0x800A04003, 2), (0x800A04007, 1), (0x800A04009, 1), (0x800A04080, 200),
  (0x800A04090, 50), (0x800A04098, 65), (0x800A04408, 1), (0x800C00008, 40), (0x800C00080, 2), (0x800C00200, 8),
  (0x800C00208, 40), (0x800C00300, 24), (0x800C00380, 4294967295), (0x800C00400, 30), (0x800C08000, 1023), (0x800C0800A, 1023),
  (0x800C08014, 1023), (0x800C08080, 1023), (0x800C08100, 1023), (0x800C0810A, 1023), (0x800C08114, 1023), (0x800C08180, 1023),
  (0x800C08200, 1023), (0x800C0820A, 1023), (0x800C08214, 1023), (0x800C08280, 1023), (0x800C08300, 1023), (0x800C0830A, 1023)]

def resetCells_3 : List (Nat × Nat) := [
  (0x800C08314, 1023), (0x800C08380, 1023), (0x800C08400, 1023), (0x800C0840A, 1023), (0x800C08414, 1023), (0x800C08480, 1023),
  (0x800C08500, 1023), (0x800C0850A, 1023), (0x800C08514, 1023), (0x800C08580, 1023), (0x800C08600, 1023), (0x800C0860A, 1023),
  (0x800C08614, 1023), (0x800C08680, 1023), (0x800C08700, 1023), (0x800C0870A, 1023), (0x800C08714, 1023), (0x800C08780, 1023),
  (0x800E00081, 1), (0x800E00082, 1), (0x800E00208, 100), (0x800E00280, 16667), (0x800E00400, 1024), (0x800E00488, 85),
  (0x800E00490, 100), (0x800E00510, 1024), (0x800E00600, 2600), (0x800E00610, 200), (0x800E00680, 16), (0x800E00700, 360),
  (0x800E00710, 1200), (0x800E00780, 10), (0x800E00788, 10), (0x800E00790, 250), (0x800E00800, 360), (0x800E20000, 16384),
  (0x800E20200, 16384), (0x800E20400, 16384), (0x800E20800, 16384), (0x800E20A00, 16384), (0x800E20C00, 16384), (0x800E21000, 16384),
  (0x800E21200, 16384), (0x800E21400, 16384), (0x800E21800, 16384), (0x800E21A00, 16384), (0x800E21C00, 16384), (0x800E22000, 16384),
  (0x800E22200, 16384), (0x800E22400, 16384), (0x800E22800, 16384), (0x800E22A00, 16384), (0x800E22C00, 16384), (0x800E23000, 16384),
  (0x800E23200, 16384), (0x800E23400, 16384), (0x800E23800, 16384), (0x800E23A00, 16384), (0x800E23C00, 16384), (0x800E24000, 16384)]

def resetCells_4 : List (Nat × Nat) := [
  (0x800E24200, 16384), (0x800E24400, 16384), (0x800E24800, 16384), (0x800E24A00, 16384), (0x800E24C00, 16384), (0x800E25000, 16384),
  (0x800E25200, 16384), (0x800E25400, 16384), (0x800E25800, 16384), (0x800E25A00, 16384), (0x800E25C00, 16384), (0x800E26000, 16384),
  (0x800E26200, 16384), (0x800E26400, 16384), (0x800E26800, 16384), (0x800E26A00, 16384), (0x800E26C00, 16384), (0x800E27000, 16384),
  (0x800E27200, 16384), (0x800E27400, 16384), (0x800E27800, 16384), (0x800E27A00, 16384), (0x800E27C00, 16384), (0x800E28000, 16384),
  (0x800E28200, 16384), (0x800E28400, 16384), (0x800E28800, 16384), (0x800E28A00, 16384), (0x800E28C00, 16384), (0x800E29000, 16384),
  (0x800E29200, 16384), (0x800E29400, 16384), (0x800E29800, 16384), (0x800E29A00, 16384), (0x800E29C00, 16384), (0x800E2A000, 16384),
  (0x800E2A200, 16384), (0x800E2A400, 16384), (0x800E2A800, 16384), (0x800E2AA00, 16384), (0x800E2AC00, 16384), (0x800E2B000, 16384),
  (0x800E2B200, 16384), (0x800E2B400, 16384), (0x800E2B800, 16384), (0x800E2BA00, 16384), (0x800E2BC00, 16384), (0x800E2C000, 16384),
  (0x800E2C200, 16384), (0x800E2C400, 16384), (0x800E2C800, 16384), (0x800E2CA00, 16384), (0x800E2CC00, 16384), (0x800E2D000, 16384),
  (0x800E2D200, 16384), (0x800E2D400, 16384), (0x800E2D800, 16384), (0x800E2DA00, 16384), (0x800E2DC00, 16384), (0x800E2E000, 16384)]

def resetCells_5 : List (Nat × Nat) := [
  (0x800E2E200, 16384), (0x800E2E400, 16384), (0x800E2E800, 16384), (0x800E2EA00, 16384), (0x800E2EC00, 16384), (0x800E2F000, 16384),
  (0x800E2F200, 16384), (0x800E2F400, 16384), (0x800E2F800, 16384), (0x800E2FA00, 16384), (0x800E2FC00, 16384), (0x800E30000, 16384),
  (0x800E30200, 16384), (0x800E30400, 16384), (0x800E30800, 16384), (0x800E30A00, 16384), (0x800E30C00, 16384), (0x800E31000, 16384),
  (0x800E31200, 16384), (0x800E31400, 16384), (0x800E31800, 16384), (0x800E31A00, 16384), (0x800E31C00, 16384), (0x800E32000, 16384),
  (0x800E32200, 16384), (0x800E32400, 16384), (0x800E32800, 16384), (0x800E32A00, 16384), (0x800E32C00, 16384), (0x800E33000, 16384),
  (0x800E33200, 16384), (0x800E33400, 16384), (0x800E33800, 16384), (0x800E33A00, 16384), (0x800E33C00, 16384), (0x800E34000, 16384),
  (0x800E34200, 16384), (0x800E34400, 16384), (0x800E34800, 16384), (0x800E34A00, 16384), (0x800E34C00, 16384), (0x800E35000, 16384),
  (0x800E35200, 16384), (0x800E35400, 16384), (0x800E35800, 16384), (0x800E35A00, 16384), (0x800E35C00, 16384), (0x800E36000, 16384),
  (0x800E36200, 16384), (0x800E36400, 16384), (0x800E36800, 16384), (0x800E36A00, 16384), (0x800E36C00, 16384), (0x800E37000, 16384),
  (0x800E37200, 16384), (0x800E37400, 16384), (0x800E37800, 16384), (0x800E37A00, 16384), (0x800E37C00, 16384), (0x800E38000, 16384)]

def resetCells_6 : List (Nat × Nat) := [
  (0x800E38200, 16384), (0x800E38400, 16384), (0x800E38800, 16384), (0x800E38A00, 16384), (0x800E38C00, 16384), (0x800E39000, 16384),
  (0x800E39200, 16384), (0x800E39400, 16384), (0x800E39800, 16384), (0x800E39A00, 16384), (0x800E39C00, 16384), (0x800E3A000, 16384),
  (0x800E3A200, 16384), (0x800E3A400, 16384), (0x800E3A800, 16384), (0x800E3AA00, 16384), (0x800E3AC00, 16384), (0x800E3B000, 16384),
  (0x800E3B200, 16384), (0x800E3B400, 16384), (0x800E3B800, 16384), (0x800E3BA00, 16384), (0x800E3BC00, 16384), (0x800E3C000, 16384),
  (0x800E3C200, 16384), (0x800E3C400, 16384), (0x800E3C800, 16384), (0x800E3CA00, 16384), (0x800E3CC00, 16384), (0x800E3D000, 16384),
  (0x800E3D200, 16384), (0x800E3D400, 16384), (0x800E3D800, 16384), (0x800E3DA00, 16384), (0x800E3DC00, 16384), (0x800E3E000, 16384),
  (0x800E3E200, 16384), (0x800E3E400, 16384), (0x800E3E800, 16384), (0x800E3EA00, 16384), (0x800E3EC00, 16384), (0x800E3F000, 16384),
  (0x800E3F200, 16384), (0x800E3F400, 16384), (0x800E3F800, 16384), (0x800E3FA00, 16384), (0x800E3FC00, 16384), (0x801000001, 2),
  (0x801000004, 1), (0x801020010, 512), (0x801020810, 512), (0x801021010, 512), (0x801021810, 512), (0x801022010, 512),
  (0x801022810, 512), (0x801023010, 512), (0x801023810, 512), (0x801024010, 512), (0x801024810, 512), (0x801025010, 512)]

def resetCells_7 : List (Nat × Nat) := [
  (0x801025810, 512), (0x801026010, 512), (0x801026810, 512), (0x801027010, 512), (0x801027810, 512), (0x801028010, 512),
  (0x801028810, 512), (0x801029010, 512), (0x801029810, 512), (0x80102A010, 512), (0x80102A810, 512), (0x80102B010, 512),
  (0x80102B810, 512), (0x80102C010, 512), (0x80102C810, 512), (0x80102D010, 512), (0x80102D810, 512), (0x80102E010, 512),
  (0x80102E810, 512), (0x80102F010, 512), (0x80102F810, 512), (0x801030010, 512), (0x801030810, 512), (0x801031010, 512),
  (0x801031810, 512), (0x801032010, 512), (0x801032810, 512), (0x801033010, 512), (0x801033810, 512), (0x801034010, 512),
  (0x801034810, 512), (0x801035010, 512), (0x801035810, 512), (0x801036010, 512), (0x801036810, 512), (0x801037010, 512),
  (0x801037810, 512), (0x801038010, 512), (0x801038810, 512), (0x801039010, 512), (0x801039810, 512), (0x80103A010, 512),
  (0x80103A810, 512), (0x80103B010, 512), (0x80103B810, 512), (0x80103C010, 512), (0x80103C810, 512), (0x80103D010, 512),
  (0x80103D810, 512), (0x80103E010, 512), (0x80103E810, 512), (0x80103F010, 512), (0x80103F810, 512), (0x801202004, 1),
  (0x801202008, 2), (0x80120200C, 4), (0x801202100, 3000), (0x801202110, 12000), (0x801202200, 256), (0x801202210, 50)]

def resetCells_8 : List (Nat × Nat) := [
  (0x801202500, 800), (0x801202510, 20), (0x801202804, 1), (0x801202808, 2), (0x80120280C, 4), (0x801202900, 3000),
  (0x801202910, 12000), (0x801202A00, 256), (0x801202A10, 50), (0x801202D00, 800), (0x801202D10, 20), (0x801203004, 1),
  (0x801203008, 2), (0x80120300C, 4), (0x801203100, 3000), (0x801203110, 12000), (0x801203200, 256), (0x801203210, 50),
  (0x801203500, 800), (0x801203510, 20), (0x801203804, 1), (0x801203808, 2), (0x80120380C, 4), (0x801203900, 3000),
  (0x801203910, 12000), (0x801203A00, 256), (0x801203A10, 50), (0x801203D00, 800), (0x801203D10, 20), (0x801400208, 15),
  (0x80140020C, 1), (0x801400210, 15), (0x801400214, 1), (0x801400215, 1), (0x801408002, 1), (0x801408004, 2),
  (0x801408008, 3), (0x801408080, 70), (0x801408088, 90), (0x801408090, 100), (0x801408102, 1), (0x801408104, 2),
  (0x801408108, 3), (0x801408180, 70), (0x801408188, 90), (0x801408190, 100), (0x801408202, 1), (0x801408204, 2),
  (0x801408208, 3), (0x801408280, 70), (0x801408288, 90), (0x801408290, 100), (0x801408302, 1), (0x801408304, 2),
  (0x801408308, 3), (0x801408380, 70), (0x801408388, 90), (0x801408390, 100), (0x801408402, 1), (0x801408404, 2)]

def resetCells_9 : List (Nat × Nat) := [
  (0x801408408, 3), (0x801408480, 70), (0x801408488, 90), (0x801408490, 100), (0x801408502, 1), (0x801408504, 2),
  (0x801408508, 3), (0x801408580, 70), (0x801408588, 90), (0x801408590, 100), (0x801408602, 1), (0x801408604, 2),
  (0x801408608, 3), (0x801408680, 70), (0x801408688, 90), (0x801408690, 100), (0x801408702, 1), (0x801408704, 2),
  (0x801408708, 3), (0x801408780, 70), (0x801408788, 90), (0x801408790, 100), (0x801408802, 1), (0x801408804, 2),
  (0x801408808, 3), (0x801408880, 70), (0x801408888, 90), (0x801408890, 100), (0x801408902, 1), (0x801408904, 2),
  (0x801408908, 3), (0x801408980, 70), (0x801408988, 90), (0x801408990, 100), (0x801408A02, 1), (0x801408A04, 2),
  (0x801408A08, 3), (0x801408A80, 70), (0x801408A88, 90), (0x801408A90, 100), (0x801408B02, 1), (0x801408B04, 2),
  (0x801408B08, 3), (0x801408B80, 70), (0x801408B88, 90), (0x801408B90, 100), (0x801408C02, 1), (0x801408C04, 2),
  (0x801408C08, 3), (0x801408C80, 70), (0x801408C88, 90), (0x801408C90, 100), (0x801408D02, 1), (0x801408D04, 2),
  (0x801408D08, 3), (0x801408D80, 70), (0x801408D88, 90), (0x801408D90, 100), (0x801408E02, 1), (0x801408E04, 2)]

def resetCells_10 : List (Nat × Nat) := [
  (0x801408E08, 3), (0x801408E80, 70), (0x801408E88, 90), (0x801408E90, 100), (0x801408F02, 1), (0x801408F04, 2),
  (0x801408F08, 3), (0x801408F80, 70), (0x801408F88, 90), (0x801408F90, 100), (0x801409002, 1), (0x801409004, 2),
  (0x801409008, 3), (0x801409080, 70), (0x801409088, 90), (0x801409090, 100), (0x801409102, 1), (0x801409104, 2),
  (0x801409108, 3), (0x801409180, 70), (0x801409188, 90), (0x801409190, 100), (0x801409202, 1), (0x801409204, 2),
  (0x801409208, 3), (0x801409280, 70), (0x801409288, 90), (0x801409290, 100), (0x801409302, 1), (0x801409304, 2),
  (0x801409308, 3), (0x801409380, 70), (0x801409388, 90), (0x801409390, 100), (0x801602003, 1), (0x801602004, 3),
  (0x801602008, 10), (0x801602010, 1200), (0x801602084, 10), (0x801602090, 1200), (0x801604003, 1), (0x801604004, 3),
  (0x801604008, 10), (0x801604010, 1200), (0x801604084, 10), (0x801604090, 1200), (0x801800080, 1), (0x801800100, 76),
  (0x801E00202, 2), (0x801E00280, 1), (0x801E00288, 2), (0x802200400, 128), (0x802802080, 1000), (0x802802090, 1000),
  (0x2000000008, 176), (0x2000000010, 34880), (0x2000060100, 4096), (0x2000200400, 136), (0x2000200408, 64), (0x2000200410, 176)]

def resetCells_11 : List (Nat × Nat) := [
  (0x2000200601, 1), (0x2000200C80, 98), (0x2000200CC0, 102)]

/-- The Reset column: every field whose reset value is not 0 (R12), in the order of their cells.  A
"strap" or "fuse" value is put in by the reset itself. -/
def resetCells : List (Nat × Nat) := resetCells_0 ++ resetCells_1 ++ resetCells_2 ++ resetCells_3 ++ resetCells_4 ++ resetCells_5 ++ resetCells_6 ++ resetCells_7 ++ resetCells_8 ++ resetCells_9 ++ resetCells_10 ++ resetCells_11

/-- A cell lies in one of the given ranges (first and last cell). -/
def inCells (k : Nat) (rs : List (Nat × Nat)) : Bool := rs.any (fun r => r.1 ≤ k && k ≤ r.2)

/-- Fields that live in AON: only a cold reset resets them (R29 and the maps' own words). -/
def aonCells : List (Nat × Nat) :=
    [(0x800000300, 0x80000040D), (0x800000800, 0x800000980), (0x800400400, 0x800400480),
    (0x800600085, 0x800600085), (0x800800087, 0x800800090), (0x800800400, 0x800800610),
    (0x800800880, 0x800800882), (0x800C00300, 0x800C0058A), (0x800C05000, 0x800C08790),
    (0x801C0000E, 0x801C0000E), (0x802A00400, 0x802A00480)]

/-- Fields of the core's private state whose maps name the core reset (R32). -/
def coreCells : List (Nat × Nat) :=
    [(0x800002000, 0x800002180), (0x801C00C00, 0x801C00C81), (0x801C06000, 0x801C06580),
    (0x801C10000, 0x801C12080)]

/-- Fields that live in the HOST domain: HOST power-up resets them (R65, R87, R109). -/
def hostCells : List (Nat × Nat) :=
    [(0x801800A00, 0x801802200), (0x801A00400, 0x801A00B80), (0x2000000080, 0x2000060280),
    (0x2000200600, 0x2000400006)]

/-- Fields that live in LUX: each switching on of LUX and every domain reset resets them (R21). -/
def luxCells : List (Nat × Nat) :=
    [(0x800E00000, 0x80103FC80)]

end Sys2Proof.Machine
end

