-- ==== Sys2Proof/Machine/State.lean ====
section
/-! DEFINITION. The state of the block: plain data, holding every register, memory, queue, mode and
pin the spec gives it. A structure's field defaults are the values after the reset that resets it. -/

namespace Sys2Proof.Machine

/-! ### The Generdy-32 (15, 16) -/

/-- The destination of a load waiting for its slot (R424). -/
inductive LoadDest where
  | data (r : Fin 20) | addr (r : Fin 8)
  deriving DecidableEq, Repr

/-- The core's private state: R405, R408, the control registers of chapter 16, the decode table and the
microcode RAM.  Data registers 16 to 19 are T0 to T3 of a custom instruction (R405). -/
structure Cpu where
  d : Vector Word 20 := Vector.replicate 20 0
  a : Vector Word 8 := (Vector.replicate 8 0).set 7 0x20100000
  q : Vector (BitVec 64) 2 := Vector.replicate 2 0
  /-- P1 to P7; the entry of P0 is not used, P0 reads 1. -/
  p : Vector Bool 8 := Vector.replicate 8 false
  pc : Word := 0
  priv : Bool := true
  ie : Bool := false
  erract : Bool := false
  v : Bool := false
  dz : Bool := false
  qsat : Bool := false
  dztrap : Bool := false
  bkd : BitVec 16 := 0x2000
  bkp : BitVec 16 := 0x4000
  /-- RSP, RSB and RSL: byte offsets, bits [12:2]. -/
  rsp : BitVec 13 := 0
  rsb : BitVec 13 := 0
  rsl : BitVec 13 := 0x1000
  cyc : Nat := 0
  cychi : Word := 0
  /-- The load whose slot is the next instruction. -/
  slot : Option (LoadDest × Word) := none
  vbr : Word := 0
  epc : Word := 0
  epsr : Word := 0
  vec : BitVec 6 := 0
  code : BitVec 16 := 0
  eaddr : Word := 0
  ien : Word := 0
  ipri0 : Word := 0
  ipri1 : Word := 0
  nmiact : Bool := false
  nmipend : Bool := false
  isw : BitVec 8 := 0
  scr0 : Word := 0
  scr1 : Word := 0
  /-- Issue stopped by WAIT (R444). -/
  waiting : Bool := false
  /-- The decode table: entry number and word (R449). -/
  table : List (Nat × Nat) := []
  /-- The microcode RAM: word number and 40-bit word, INSN below CTL (R450). -/
  ucode : List (Nat × Nat) := []
  /-- Microcode words with a parity error (R43). -/
  ucodeBad : List Nat := []
  /-- The entry of the custom instruction decoded last (R457). -/
  lastCustom : Option Nat := none
  deriving DecidableEq, Repr

/-! ### Domains, resets, clocks (01) -/

/-- Requests of SYS_DOMCTRL that have been accepted and are being carried out (R23, R47). -/
inductive OffReq where
  | coreOff | ship
  deriving DecidableEq, Repr

/-- Resets that wait for the log front end to drain (R373). -/
inductive WaitingReset where
  | domain | cold
  deriving DecidableEq, Repr

/-- The AON sequencer: supplies, V18 handling, resets in progress (R18, R23, R29, R34, R36, R47, R476). -/
structure Sys where
  aonOn : Bool := true
  coreOn : Bool := true
  v18en : Bool := true
  v18pg : Bool := true
  /-- V18_EN is asserted and V18_PG is awaited (R36). -/
  waitPg : Bool := false
  /-- V18_EN is off between two attempts of a series (R36). -/
  retryWait : Bool := false
  /-- TBASE at which the wait for V18_PG or for the next attempt began. -/
  pgSince : Nat := 0
  /-- Failed attempts of the present series. -/
  attempts : Nat := 0
  /-- The hardware wipe runs and the core is held (R33). -/
  wiping : Bool := false
  offReq : Option OffReq := none
  /-- Ship mode: only the ship-wake comparator is powered (R48). -/
  shipMode : Bool := false
  /-- The brownout latch (R476). -/
  brownout : Bool := false
  /-- Causes that arrived for the reset in progress, as bits of SYS_RSTCAUSE (R30). -/
  causes : Nat := 0
  /-- Resets requested and waiting for the log front end, and the causes that asked for them. -/
  waiting : Option WaitingReset := none
  waitingCauses : Nat := 0
  /-- CORESEL of the frequency the core runs at (R27). -/
  selInEffect : Nat := 7
  /-- The effective wake alarm (R49, SYS_WAKEALARM). -/
  alarm : Nat := 0xFFFFFFFFFFFFFFFF
  /-- The alarm has fired since it was last written. -/
  alarmFired : Bool := false
  /-- The slot behind the active-slot window: false Slot A, true Slot B (R40). -/
  activeSlot : Bool := false
  /-- HOSTUP is due once CORE runs (R475). -/
  hostUp : Bool := false
  /-- A crystal runs (R26); the clock change that is pending returns the clocks to the PLL (R28). -/
  xtal : Bool := false
  pllBack : Bool := false
  /-- The debug port holds the core halted; it lets one instruction run; breakpoints are enabled (R318). -/
  dbgHalted : Bool := false
  dbgStep : Bool := false
  dbgBreak : Bool := false
  deriving DecidableEq, Repr

/-- What a ball of the part does, besides the levels that other functions give: released by an open drain, left at high
impedance, an input with a pull-down or a pull-up, or driven (R472). -/
inductive BallState where
  | released | highZ | pullDown | pullUp | low | high
  deriving DecidableEq, Repr

/-- The balls of the units whose registers the spec does not give: GPIO00 to GPIO31, SMB0_SCL to SMB2_SDA and the debug
port.  From cold reset each is as R472 has it, until firmware configures its unit, which no command does.
DESIGN CHOICE (log 121). -/
structure Balls where
  gpio : List BallState := List.replicate 32 .pullDown
  smb : List BallState := List.replicate 6 .released
  tck : BallState := .pullDown
  tms : BallState := .pullUp
  tdi : BallState := .pullUp
  tdo : BallState := .highZ
  deriving DecidableEq, Repr

/-- The straps and board facts the manual gives the machine as inputs (R50, R148). -/
structure Board where
  /-- HMODE straps: 0 and 1 eSPI, 2 SPI target, 3 no link, as HOST_STAT.MODE shows them. -/
  hmode : Nat := 0
  /-- Series cells, from the NCELL straps. -/
  ncell : Nat := 1
  /-- VIO_HOST is present (R18). -/
  vio : Bool := false
  /-- The AON supply in mV as last seen (R300). -/
  supply : Nat := 12000
  /-- The flash devices, as their tables last said (R324). -/
  flash0 : Sfdp := {}
  flash1 : Sfdp := {}
  /-- FEATURES of the model (R383), and whether the lid is closed. -/
  features : Nat := 0xFFF
  lid : Bool := false
  deriving DecidableEq, Repr

/-! ### Log front end (13) -/

/-- A Moraine record as it enters the front end (R372). -/
structure LogRec where
  tbase : Nat
  source : Nat
  sev : Nat
  code : Nat
  data : List Nat
  deriving DecidableEq, Repr

/-! ### Host link, mailboxes, EC ports, bulk port (02, 03) -/

/-- A post: bytes by target (window offset; 0x10000 + n for byte n of the EC image; 0x20000 for the EC
output buffer), query pushes, and the tags it completes with their NOSTORE (R55, R94, R101). -/
structure Post where
  bytes : List (Nat × Nat) := []
  pushes : List Byte := []
  dones : List (Nat × Bool) := []
  deriving DecidableEq, Repr

/-- What the link answered to the host. -/
inductive RespCode where
  | accept | nonFatal | fatal | noResponse | notFree | spi (status : Nat) | ignored
  deriving DecidableEq, Repr

/-- The last answer of the link: its code, WAIT_STATEs, data bytes and (SPI target) clocks: the model's own
observation (R72, R73, R82, R86). -/
structure LinkResp where
  code : RespCode := .accept
  waits : Nat := 0
  /-- An eSPI response: the packet header, the data, the status and the CRC (R71). -/
  head : List Byte := []
  data : List Byte := []
  status : List Byte := []
  crc : List Byte := []
  clocks : Nat := 0
  deriving DecidableEq, Repr

/-- The completion of a flash request that waits for the host (R331, R332). -/
structure FlashDone where
  tag : Nat
  ok : Bool
  data : List Byte
  deriving DecidableEq, Repr

/-- The link and the host view (R52 to R89). -/
structure Link where
  /-- Core-written bytes of the host view, by window offset. -/
  view : List (Nat × Byte) := []
  opened : Option Post := none
  /-- Closed posts that await promotion, merged. -/
  closed : Option Post := none
  /-- TBASE at which the first of them closed, and whether a snapshot edge has left them for the next (R56). -/
  closedAt : Nat := 0
  closedSure : Bool := false
  /-- Pages in effect, TBASE of the last change of HOST_WINEN, and the pages certain at the next edge (R59). -/
  pages : Nat := 1
  pagesAt : Nat := 0
  pagesSure : Nat := 1
  /-- TBASE of the commit that set HOLD, and whether that hold has expired (R61). -/
  holdAt : Nat := 0
  holdExpired : Bool := false
  /-- eSPI configuration registers 0x08, 0x10, 0x20, 0x30, 0x40: their writable bits (R478). -/
  cfgGeneral : Nat := 0
  cfgPeriph : Nat := 0
  cfgWire : Nat := 0
  cfgOob : Nat := 0
  cfgFlash : Nat := 0
  /-- The configuration pair's index port (R76). -/
  cfgIndex : Nat := 0
  /-- The virtual-wire channel has been enabled since HOST power-up or host reset (R74). -/
  wiresOffered : Bool := false
  /-- The host has sent a power-state wire since then (R143). DEDUCED (log 101). -/
  powerWires : Bool := false
  /-- SPI target: firmware has assigned the sleep and reset pins (R85). -/
  gpioMapped : Bool := false
  /-- Target-to-host groups with a change to fetch, rising, and IRQ wire changes (number, level). -/
  groups : List Nat := []
  irqChanges : List (Nat × Bool) := []
  /-- Levels: the window event's wire, SCI_N asserted, and the acknowledge and boot wires. -/
  eventOn : Bool := false
  sciOn : Bool := false
  oobRstAck : Bool := false
  hostRstAck : Bool := false
  susAck : Bool := false
  bootLoad : Bool := false
  /-- The outbound OOB message as it was at GO (R75). -/
  oobOut : List Byte := []
  flashDone : Option FlashDone := none
  /-- A flash request of the host is outstanding until its completion is fetched. -/
  flashBusy : Bool := false
  resp : LinkResp := {}
  deriving DecidableEq, Repr

/-- What the EC server waits for (R91). -/
inductive EcPhase where
  | idle | rdAddr | wrAddr | wrData (addr : Byte) | forward
  deriving DecidableEq, Repr

/-- The EC ports (R90 to R96). -/
structure Ec where
  out : Byte := 0
  phase : EcPhase := .idle
  held : Option (Byte × Byte) := none
  image : List (Nat × Byte) := []
  /-- Forwarded bytes with their command mark, WR_EC pairs, query codes: oldest first. -/
  inq : List (Byte × Bool) := []
  wq : List (Byte × Byte) := []
  qq : List Byte := []
  deriving DecidableEq, Repr

/-- One entry of the bulk write FIFO: a byte with the address it will take and whether its parity is bad,
or the end of a closed unit of a mover target with whether an error had struck it. -/
inductive BulkItem where
  | byte (b : Byte) (addr : Nat) (bad : Bool)
  | close (err : Bool)
  deriving DecidableEq, Repr

/-- The bulk port (R114 to R123). -/
structure Bulk where
  wfifo : List BulkItem := []
  /-- The read FIFO: bytes and whether their parity is bad. -/
  rfifo : List (Byte × Bool) := []
  /-- The address the next accepted byte of the open unit takes. -/
  next : Nat := 0
  /-- A firmware-target unit is closed and not acknowledged. -/
  closeReq : Bool := false
  /-- A placement error struck the unit being drained. -/
  placeErr : Bool := false
  deriving DecidableEq, Repr

/-- Mailbox tag logic: tags in REPLAY, and RUNG tags to be answered BUSY at the next snapshot edge (R99,
R104). -/
structure Mbx where
  replay : List Nat := []
  busy : List Nat := []
  /-- OWNED tags that firmware has not carried out, in the order in which it took them (R381). -/
  taken : List Nat := []
  deriving DecidableEq, Repr

/-- A slot's outstanding action: released, perhaps started (R126, R128, R131).  The values are those of its
release; `stale` says that the slot was disabled since. -/
structure SlotAct where
  action : Nat
  arg : Nat
  evt : Bool
  maxlag : Nat
  budget : Nat
  released : Nat
  started : Bool
  /-- TBASE at which a started action finishes at the earliest. -/
  due : Nat
  stale : Bool
  deriving DecidableEq, Repr

/-- An Icefall slot besides its registers (R124 to R131). -/
structure Slot where
  /-- TBASE of the write that set EN. -/
  enAt : Nat := 0
  /-- The next release; none while RUN is clear. -/
  next : Option Nat := none
  act : Option SlotAct := none
  deriving DecidableEq, Repr

/-- Icefall (R124 to R133): the slots by number, and TBASE at which RUN was set. -/
structure Icefall where
  slots : List (Nat × Slot) := []
  runAt : Nat := 0
  deriving DecidableEq, Repr

/-- The timers of a rail channel (R136, R137), as TBASE of their start. -/
structure RailCh where
  dep : Nat := 0
  since : Option Nat := none
  timer : Nat := 0
  faultAt : Nat := 0
  deriving DecidableEq, Repr

/-- What a pin does: drives a level, or is left to its pull. -/
inductive PinDrive where
  | low | high | released
  deriving DecidableEq, Repr

/-- The rail sequencer (R134 to R143): timers by channel, RAIL_CLR bits that await the next step, the levels of the
RCnn_PG pins with TBASE of each one's last change, their levels before the present one was held for PGFILT, the
polarity and open-drain masks with which AON holds the enables (none since the last cold reset), and the state last
decoded from the wires. -/
structure Rail where
  ch : List (Nat × RailCh) := []
  clr : Nat := 0
  pins : Nat := 0
  pinAt : List (Nat × Nat) := []
  passed : Nat := 0
  held : Option (Nat × Nat) := none
  decoded : Option Nat := none
  /-- The rail steps evaluated since the domain reset (R136, R142). -/
  steps : Nat := 0
  deriving DecidableEq, Repr

/-- An input of the power path (R150 to R169).  TRK: 0 OFF, 1 VOC, 2 PROBE, 3 SETTLED, 4 CEILING, 5 FIXED;
currents in mA, voltages in mV, times in TBASE. -/
structure PwrIn where
  /-- VIN as last seen. -/
  vinNow : Nat := 0
  attached : Bool := false
  valid : Bool := false
  validSince : Nat := 0
  /-- Valid for 150 ms without a break (R150). -/
  timed : Bool := false
  /-- Invalid after an over-voltage, and until this time after OCP or REVCUR (R172). -/
  ovp : Bool := false
  blockedUntil : Nat := 0
  unstable : Bool := false
  bounces : List Nat := []
  count : Nat := 0
  lastgood : Nat := 0
  /-- Half of LASTGOOD when the input became UNSTABLE, or 250 (R163). -/
  half : Nat := 0
  /-- A PD source has been seen since unplug. -/
  pdSeen : Bool := false
  trk : Nat := 0
  ilim : Nat := 0
  ceil : Nat := 0
  iknee : Nat := 0
  step : Nat := 100
  voc : Nat := 0
  knee : Nat := 0
  high : Nat := 0
  floor : Nat := 0
  reprobing : Bool := false
  vocAt : Nat := 0
  reprobeAt : Nat := 0
  /-- VOC measured since the input was selected; the reference of R168 without a contract. -/
  ref : Nat := 0
  /-- The reference threshold is masked until then (R168). -/
  maskUntil : Nat := 0
  vin : Nat := 0
  iin : Nat := 0
  floorNow : Bool := false
  floorFlag : Bool := false
  deriving DecidableEq, Repr

/-- Who governs the stage (R149, R156). -/
inductive PwrMode where
  | boot | held | run
  deriving DecidableEq, Repr

/-- The power path (R147 to R172). -/
structure Power where
  ins : List (Nat × PwrIn) := []
  sel : Option Nat := none
  /-- Dead time runs until then; no gate is on (R153). -/
  deadUntil : Option Nat := none
  mode : PwrMode := .boot
  heldIlim : Nat := 0
  heldFloor : Nat := 0
  heldVsys : Nat := 0
  /-- The contract voltage of the selected port as AON captured it; 0 without a contract. -/
  heldVolt : Nat := 0
  /-- A removal latch has cleared and VSYS is being moved to VBAT; BATFET is still open (R171). -/
  joining : Bool := false
  /-- The stage has stopped for a VSYS over-voltage (R172). -/
  vsysOv : Bool := false
  deriving DecidableEq, Repr

/-- What the PD block answered to its partner. -/
inductive PdReply where
  | none | accept | reject | busy | notSupported
  deriving DecidableEq, Repr

/-- A Request to the source: object position, voltage in mV, current in 10 mA, on an APDO. -/
structure PdRequest where
  obj : Nat
  volt : Nat
  curr : Nat
  apdo : Bool
  deriving DecidableEq, Repr

/-- A message that the PD block sends of its own: a request for an object, the capabilities of R194, a DR_Swap, a
Discover Identity on SOP', an EPR entry, a keep-alive or refresh, a Hard Reset (R157, R159, R162, R194). -/
inductive PdMsg where
  | request (obj volt curr : Nat) | sourceCaps (pdos : List Nat) | drSwap | discoverCable | eprEnter (pdp : Nat)
  | keepAlive | hardReset
  deriving DecidableEq, Repr

/-- What the CC pins of a port present: Rd, Rp as a source, or DRP, with Try.SNK or without. -/
inductive CcTerm where
  | rd | rp (adv : Nat) | drp (adv : Nat) (trySnk : Bool)
  deriving DecidableEq, Repr

/-- A Type-C port besides its registers (R157 to R162): AON holds the terminations. -/
structure PdPort where
  attached : Bool := false
  flipped : Bool := false
  source : Bool := false
  /-- RPADV as a source attached with it; the port is the VCONN source. -/
  adv : Nat := 0
  vconnSrc : Bool := false
  /-- The Rp seen as a sink: 0 none, 1 default, 2 1.5 A, 3 3.0 A. -/
  rp : Nat := 0
  request : Option PdRequest := none
  /-- A firmware override holds; the request in flight is firmware's (R160). -/
  override : Bool := false
  fwRequest : Bool := false
  /-- TBASE at which a structured VDM request came in that is not answered (R161). -/
  vdmAt : Option Nat := none
  keptAt : Nat := 0
  /-- What the PD block answered and sent last: the model's own observation of CC. -/
  reply : PdReply := .none
  sent : List PdMsg := []
  /-- What the port presented without a partner when AON took the terminations over (R162). -/
  heldTerm : CcTerm := .rd
  deriving DecidableEq, Repr

/-- The charger besides its registers (R174 to R197). -/
structure Charge where
  qualAt : Nat := 0
  preSince : Option Nat := none
  cvLowSince : Option Nat := none
  termSince : Option Nat := none
  rechSince : Option Nat := none
  /-- Start of the present timer tick, and the last time charge current was commanded (R181). -/
  tickAt : Nat := 0
  currentAt : Nat := 0
  batov : Nat := 0
  /-- Times of reverse over-currents in the last 60 s, by port (R195). -/
  ocp0 : List Nat := []
  ocp1 : List Nat := []
  deriving DecidableEq, Repr

/-! ### Keyboard (07) -/

/-- The unlock matcher's state (R212). -/
inductive MatchState where
  | idle | step (i : Nat) | waitRel (i : Nat) | failWait | backoff
  deriving DecidableEq, Repr

/-- What a frame leaves for the registers (R203). -/
structure KeyView where
  deliv : Nat := 0
  wheld : Nat := 0
  stuck : Nat := 0
  /-- KSC_STAT. -/
  stat : Nat := 2
  deriving DecidableEq, Repr

/-- The key scanner (R198 to R215).  A set of keys is a number whose bit k is key k. -/
structure Keyboard where
  /-- Level 0 of the scanner that runs, and the frames for which a key has read otherwise (R201). -/
  raw : Nat := 0
  deb : List (Nat × Nat) := []
  /-- TBASE at which a key's closure at level 0 began (R206). -/
  since : List (Nat × Nat) := []
  masked : Nat := 0
  /-- Level 1: the keys reported in the last frame, and the keys withheld. -/
  reported : Nat := 0
  wheld : Nat := 0
  /-- Held-over keys (R210). -/
  held : Nat := 0
  /-- The last completed frame, and what KSC_DELIV0 latched last. -/
  frame : KeyView := {}
  latched : KeyView := {}
  /-- The sleep scanner's last sample, and its samples modulo 50. -/
  sample : Nat := 0
  samples : Nat := 0
  /-- The keys that its last sample closed (R208). -/
  fresh : Nat := 0
  /-- The crosspoints that the frame under way reads closed (R200). -/
  reading : Option Nat := none
  matcher : MatchState := .idle
  /-- TBASE of the start of the step timer or of the back-off. -/
  timer : Nat := 0
  /-- The back-off in microseconds that the last failure brings (R213). -/
  backoff : Nat := 0
  deriving DecidableEq, Repr

/-! ### Rime engine and chain (08) -/

/-- A channel's fade state (R230): target, start, start time, and the value shown. -/
structure Fade where
  target : Nat := 0
  start : Nat := 0
  t0 : Nat := 0
  shown : Nat := 0
  deriving DecidableEq, Repr

/-- A verdict of a test scan (R236). -/
inductive Verdict where
  | good | opened | shorted
  deriving DecidableEq, Repr

/-- The results of a test scan: verdicts, and the channels with a non-zero on-time. -/
structure TestScan where
  verdicts : List (Nat × Verdict) := []
  lit : List Nat := []
  deriving DecidableEq, Repr

/-- The Rime engine besides its registers and memories (R217 to R239). -/
structure Lux where
  fades : List (Nat × Fade) := []
  /-- Channels whose fade state has a parity error. -/
  fadeBad : List Nat := []
  /-- Out codes computed last, and those the matrix takes at PRESENT. -/
  codes : List (Nat × Nat) := []
  shown : List (Nat × Nat) := []
  /-- TBASE of EN, of the next timer sync, of the last accepted sync and of the last LSYNC_IN edge. -/
  enAt : Nat := 0
  nextSync : Nat := 0
  lastSync : Option Nat := none
  edgeAt : Nat := 0
  /-- Frame cycle: step 5 has come; step 6 has ended or is empty. -/
  presented : Bool := true
  chainDone : Bool := true
  /-- Steps 2 to 4 of the frame cycle are still under way. -/
  computing : Bool := false
  /-- Scans since EN, the timing of the present scan, and whether it is a test scan. -/
  scans : Nat := 0
  line : Nat := 2600
  blank : Nat := 200
  nscan : Nat := 16
  scnpol : Bool := false
  /-- TBASE at which the present scan began, and up to which the line of a matrix that stops runs on (R232). -/
  scanAt : Nat := 0
  stopAt : Nat := 0
  testScan : Bool := false
  testReq : Bool := false
  /-- The last test scan completed since the previous pass. -/
  result : Option TestScan := none
  /-- Channels with an open, or a short, verdict in the last evaluated test scan. -/
  lastOpen : List Nat := []
  lastShort : List Nat := []
  /-- Evaluated test scans since the last verdict, and the diagnostic pulses due. -/
  silent : List (Nat × Nat) := []
  marks : List Nat := []
  /-- VSET in mV, and whether a slow raise was made since the last sync. -/
  vset : Nat := 3600
  slowRaised : Bool := false
  deriving DecidableEq, Repr

/-- The Rime chain's line before the packets of `Chain.sent` (R241): running disparity positive; the number of the free
value that the idle symbols go by; the least idle symbols before the first packet. -/
structure ChainLink where
  plus : Bool := false
  key : Nat := 0
  idle : Nat := 2
  deriving DecidableEq, Repr

/-- The Rime chain engine besides its registers (R240 to R250). -/
structure Chain where
  /-- Included drivers, rising. -/
  included : List Nat := []
  /-- A COMMIT waits for the next frame cycle; drivers due a CONFIG there. -/
  commit : Bool := false
  configDue : List Nat := []
  /-- ENUM: the STATUS to position 63 is out; positions whose STATUS is unanswered; TBASE of the retry; the
  NFOUND of the enumeration before. -/
  probing : Bool := false
  unanswered : List Nat := []
  retryAt : Option Nat := none
  foundBefore : Nat := 0
  /-- BROADCAST_SYNC is out; consecutive breaks; ENUM follows at the end of the frame cycle. -/
  awaitSync : Bool := false
  /-- EPOCH at the last returned sync, if its MMAP was empty (R392). -/
  returned : Option Nat := none
  breaks : Nat := 0
  toEnum : Bool := false
  /-- STATUS requests queued, due in step 6 of the present frame cycle, and sent; and so the DIAG request. -/
  statusQueue : List Nat := []
  statusDue : List Nat := []
  statusSent : List Nat := []
  diagQueue : Option (Nat × Nat × Nat) := none
  diagDue : Option (Nat × Nat × Nat) := none
  diagSent : Option (Nat × Nat × Nat) := none
  /-- The packets sent since the present frame cycle or enumeration began, as the bytes between K27.7 and
  K29.7: the model's own observation of LTXD, and the line before them. -/
  sent : List (List Byte) := []
  link : ChainLink := {}
  deriving DecidableEq, Repr

/-! ### Temperature sensing and fans (09) -/

/-- A thermal input besides its registers (R258, R259): the levels of the last samples, newest first, and the
TBASE of the last conversion. -/
structure ThermIn where
  hist : List Nat := []
  at_ : Nat := 0
  deriving DecidableEq, Repr

/-- A fan channel besides its registers (R264, R267): the loop voltage in mV and the start of the state's
timer. -/
structure FanCh where
  v : Nat := 0
  timer : Nat := 0
  deriving DecidableEq, Repr

/-- THM and FAN (R254 to R267); FANVIN in mV as last seen. -/
structure Thermal where
  ins : List (Nat × ThermIn) := []
  fans : List (Nat × FanCh) := []
  fanvin : Nat := 12000
  deriving DecidableEq, Repr

/-! ### Floe bus (10) -/

/-- What the transmitter of a port does: nothing, sends or waits for an idle bus, or backs off for some slots of 16 bit
times. -/
inductive FloePhase where
  | none | sending | backoff (slots : Nat)
  deriving DecidableEq, Repr

/-- A Floe port besides its registers (R270 to R284).  VLOW and VHIGH are held in 1/65,536 mV. -/
structure FloePort where
  vlow : Nat := 0
  vhigh : Nat := 0
  /-- Dominant and recessive bits, and rising edges, measured since EN, up to 16 and 8. -/
  nlow : Nat := 0
  nhigh : Nat := 0
  rises : List Nat := []
  /-- The bus is idle from then on (R275). -/
  idleAt : Nat := 0
  /-- Received frames, oldest first: SRC, DST, CTL, payload, CNT. -/
  fifo : List FloeFrame := []
  /-- The frame of the last GO, with the failed attempts made. -/
  phase : FloePhase := .none
  frame : FloeFrame := {}
  attempts : Nat := 0
  /-- The port drove the ACK bit of the last frame received: the model's own observation of the wire. -/
  acked : Bool := false
  deriving DecidableEq, Repr

/-! ### Security (11) -/

/-- The fuse array (R301) but for the device's secret, which never changes and which only the key unit reads
(`Config.deviceSecret`).  Parts leave Viulper in MANUFACTURE (R295), with an identifier that is a free value. -/
structure Fuses where
  /-- DEVID. -/
  devid : BitVec 64 := Config.deviceId
  mfg : Bool := true
  dep : Bool := false
  ret : Bool := false
  /-- Set bits of SVC, FWARB and HOSTARB. -/
  svc : Nat := 0
  fwarb : Nat := 0
  hostarb : Nat := 0
  /-- The slot hashes; a slot that is not listed is all zero. -/
  oemHash : List (Nat × List Byte) := []
  oemRev : Nat := 0
  deriving DecidableEq, Repr

/-- What the fuse and token sequencer is at (R300): a token check, or an accepted transition to a state. -/
inductive SeqOp where
  | token (bytes : List Byte)
  | transition (target : Nat)
  deriving DecidableEq, Repr

/-- A crypto command that runs: its descriptor's address, and the code and byte count it will end with. -/
structure CryptoCmd where
  desc : Nat
  code : Nat
  count : Nat
  deriving DecidableEq, Repr

/-- The SEC block besides its registers (R295 to R322). -/
structure Sec where
  fuses : Fuses := {}
  seq : Option SeqOp := none
  /-- Key material by slot (R309). -/
  keys : List (Nat × List Byte) := []
  cmd : Option CryptoCmd := none
  /-- The hash between FIRST and LAST: SHA-384, and the data so far. -/
  hash : Option (Bool × List Byte) := none
  /-- Fresh TRNG bits stand from then on (R311). -/
  trngAt : Nat := 1
  /-- Half B of a fuse failed: FUSEERR follows the reset (R298). -/
  halfBad : Bool := false
  /-- The boot ROM runs and has started no slot since the last reset of the core (R315). -/
  booting : Bool := true
  /-- The last reset was a core reset; it was requested by SYS_RSTREQ.HANDOVER (R365). -/
  coreOnly : Bool := false
  handover : Bool := false
  /-- The last reset came of FATAL or of the second watchdog stage, and KPF starts in its safe profile (R382). -/
  safe : Bool := false
  deriving DecidableEq, Repr

/-! ### Serac host flash guard (12) -/

/-- A manifest entry (R335) with the state of its copy: 0 UNVERIFIED, 1 PASS, 2 FAIL, 3 DIRTY, and the digest
computed at its last verification. -/
structure FlashRegion where
  region : Nat
  required : Bool
  copy : Nat
  hbase : Nat
  len : Nat
  pbase : Nat
  digest : List Byte
  state : Nat := 0
  computed : List Byte := []
  deriving DecidableEq, Repr

/-- A manifest as its sector holds it. -/
structure Manifest where
  mseq : Nat := 0
  hsvn : Nat := 0
  arbNow : Bool := false
  regions : List FlashRegion := []
  deriving DecidableEq, Repr

/-- A flash request (R332): from the host's flash channel with a tag, or from FGD_FREQ; `policy` says that its
address is a host address under R329. -/
structure FlashReq where
  host : Bool
  op : Nat
  policy : Bool
  addr : Nat
  len : Nat
  data : List Byte
  tag : Nat
  /-- The host was reset since: its completion is discarded (R334). -/
  orphan : Bool := false
  /-- The remap as it stood when the device operation began: HBASE, LEN and PBASE of each region (R332). -/
  remap : List (Nat × Nat × Nat) := []
  deriving DecidableEq, Repr

/-- The FGD block besides its registers (R323 to R347).  The contents of the flash devices are outside the
part and keep through every reset; an unlisted byte reads 0xFF. -/
structure Fgd where
  flash : List (Nat × Byte) := []
  /-- Requests in order of arrival, and the one whose device operation runs. -/
  queue : List FlashReq := []
  active : Option FlashReq := none
  /-- The active manifest with the region table as mapped, and the spare. -/
  act : Manifest := {}
  spare : Manifest := {}
  /-- The manifest of the promotion, and an application that waits for the end of a request (R343). -/
  promo : Manifest := {}
  applyDue : Bool := false
  /-- A firmware command that ran when verification began still has the verify unit (R337). -/
  sigWait : Bool := false
  deriving DecidableEq, Repr

/-- The LOG block (R373, R374): the front end, oldest first; AON records held while CORE is off, and those dropped
then. -/
structure Log where
  front : List LogRec := []
  aonHeld : List LogRec := []
  aonDrops : Nat := 0
  deriving DecidableEq, Repr

/-! ### NVC (13) -/

/-- A command of the NVC controller that runs (R349, R350): 1 PROGRAM, 2 ERASE, 3 READ; Firn offset, SRAM
address, bytes. -/
structure NvcCmd where
  cmd : Nat
  addr : Nat
  buf : Nat
  len : Nat
  deriving DecidableEq, Repr

/-- The NVC block besides its registers: the command that runs, and when the confirmation window was armed (R363). -/
structure Nvc where
  cmd : Option NvcCmd := none
  armedAt : Nat := 0
  deriving DecidableEq, Repr

/-! ### KPF (10, 13, 14) -/

/-- An event record (R400). -/
structure KpfEvent where
  code : Nat
  tag : Nat := 0xFF
  result : Nat := 0
  aux : Nat := 0
  data : List Nat := []
  deriving DecidableEq, Repr

/-- A long-running command that has been answered ACCEPTED (R380): its code, tag and cookie, the time of its limit,
and what it acts on. -/
structure KpfJob where
  code : Nat
  tag : Nat
  aux : Nat
  due : Nat := 0
  arg : Nat := 0
  data : List Byte := []
  deriving DecidableEq, Repr

/-- A command that KPF carries out and whose answer waits for a module or for LUX. -/
structure KpfWait where
  tag : Nat
  code : Nat
  port : Nat := 0
  id : Nat := 0
  obj : Nat := 0
  due : Nat := 0
  /-- Tries sent. -/
  tries : Nat := 0
  data : List Byte := []
  deriving DecidableEq, Repr

/-- How far a module's admission has come (R285 to R290). -/
inductive ModPhase where
  | newcomer | stranger | certWait | certGood | respWait | confGood | admitting | admitted | rejecting
  deriving DecidableEq, Repr

/-- A Floe module as KPF knows it. -/
structure KpfModule where
  port : Nat
  id : Nat
  uid : Nat
  cls : Nat
  phase : ModPhase := .newcomer
  reason : Nat := 0
  rejects : Nat := 0
  /-- TBASE from which the present wait counts, and of the last PING. -/
  since : Nat := 0
  pingAt : Nat := 0
  /-- Consecutive DISCOVERs or PINGs without an answer. -/
  missed : Nat := 0
  /-- The bytes of the message that comes in, by offset. -/
  msg : List (Nat × Byte) := []
  cert : List Byte := []
  nonceC : List Byte := []
  ephemeral : Nat := 0
  nonceM : List Byte := []
  key : List Byte := []
  /-- Parts of CHALLENGE sent. -/
  parts : Nat := 0
  newId : Nat := 0
  entry : Nat := 0
  /-- The values of its objects as last read (R292). -/
  objs : List (Nat × List Byte) := []
  /-- The output switch is commanded closed. -/
  closed : Bool := false
  /-- The order in which modules were admitted (R191). -/
  order : Nat := 0
  deriving DecidableEq, Repr

/-- The Smart Battery pack as last read (R189, R190). -/
structure KpfPack where
  answered : Bool := false
  at_ : Nat := 0
  pollAt : Nat := 0
  volt : Nat := 0
  curr : Nat := 0
  rsoc : Nat := 0
  remcap : Nat := 0
  fullcap : Nat := 0
  chgCurr : Nat := 0
  chgVolt : Nat := 0
  status : Nat := 0
  /-- The gauge check: QACC and RemainingCapacity at the start of the window, windows that differed in a row. -/
  gaugeAt : Nat := 0
  gaugeQ : Int := 0
  gaugeRem : Nat := 0
  /-- A window of the check has begun with a reading. -/
  gaugeOpen : Bool := false
  differed : Nat := 0
  distrusted : Bool := false
  /-- QACC and full capacity at the last full charge, and whether the charger was in DONE when KPF looked last. -/
  full : Option (Int × Nat) := none
  done : Bool := false
  deriving DecidableEq, Repr

/-- A held VDM (R388). -/
structure KpfVdm where
  port : Nat
  sop : Nat
  words : List Nat
  deriving DecidableEq, Repr

/-- KPF 4.0 as it runs on the core (R377 to R402): what its memory holds besides registers. -/
structure Kpf where
  /-- STATE of the identity page (R382); 0 while no image answers. -/
  state : Nat := 0
  sealed : Bool := false
  restarts : Nat := 0
  version : Nat := 0
  events : List KpfEvent := []
  ovf : Bool := false
  jobs : List KpfJob := []
  wait : Option KpfWait := none
  /-- The last response of each tag: RESULT, RLEN and payload (R106). -/
  stored : List (Nat × List Byte) := []
  /-- The identity page, the key window and the EC image as last posted. -/
  page : List Byte := []
  keyWin : List Byte := []
  /-- What KPF latched at each change of the key scanner's results and has not posted yet (R203). -/
  keyViews : List KeyView := []
  ecImage : List Byte := []
  queries : List Nat := []
  /-- The writable EC fields (R401). -/
  chgLimit : Nat := 0
  bright : Nat := 100
  /-- A brightness was written while LUX was off; it goes into LUX_BRIGHT when LUX comes on (R402). -/
  brightDue : Bool := false
  /-- What the events report on, as last seen. -/
  watch : List (Nat × Nat) := []
  lamps : List (Nat × Nat) := []
  report : Option (List Byte) := none
  vdms : List KpfVdm := []
  /-- Charging as KPF's commands want it: EN, ICHG, VREG; the pack asked for its end. -/
  wantEn : Bool := false
  ichg : Nat := 0
  vreg : Nat := 0
  terminated : Bool := false
  limitHold : Bool := false
  /-- The thermal policy (R390), the active fan profile, the time a fan was last in STALL. -/
  policy : Nat := 0
  profile : Nat := 1
  stallAt : Nat := 0
  /-- Sums of read-and-clear counters since KPF started. -/
  sums : List (Nat × Nat) := []
  pack : KpfPack := {}
  /-- QACC before the last domain reset (R188). -/
  qCarry : Int := 0
  /-- The piece assembled from chunks (R396), the bulk unit being received, the next log slot to send. -/
  pieceIndex : Nat := 0
  pieceCrc : Nat := 0
  piece : List (Nat × Byte) := []
  unit : List Byte := []
  /-- A flash request relayed through FGD_FREQ for bulk target 6: its TAG and OP (R333). -/
  relay : Option (Nat × Nat) := none
  logPos : Option Nat := none
  /-- Members of the open session by SRCKIND and SRCID, the idle reference, AUTOACT (R357). -/
  members : List (Nat × Nat) := []
  idleRef : Nat := 0
  autoAct : Bool := false
  /-- ARBNOW of the package that was activated last; none while it is not known (R364). -/
  arbNow : Option Bool := none
  /-- The chunks read from a service dongle (R360). -/
  dongle : List Byte := []
  donglePiece : Nat := 0
  modules : List KpfModule := []
  admissions : Nat := 0
  /-- The identifier that a UID last held: port, UID, identifier (R280). -/
  lastIds : List (Nat × Nat × Nat) := []
  /-- Ports that have had DISCOVER with RESTART since they were enabled; the last DISCOVER by port. -/
  restarted : List Nat := []
  discAt : List (Nat × Nat) := []
  /-- TBASE from which the 10 s of R363 count. -/
  readyAt : Nat := 0
  /-- The format of each key's settings record as read at start (R370). -/
  startFmts : List (Nat × Nat) := []
  /-- The request to a service dongle whose answer is awaited: port, identifier, object, TBASE; and the dongle whose CURSOR
  stands where the piece being assembled goes on (R360). -/
  dongleAsk : Option (Nat × Nat × Nat × Nat) := none
  dongleOf : Option (Nat × Nat) := none
  /-- The AON-only state that KPF is after with rail set 4 (R142): its last attempt, and the number of rail steps at
  RAIL_CLR, after the next of which it makes its request. -/
  offAt : Option Nat := none
  offStep : Option Nat := none
  deriving DecidableEq, Repr

/-- The watchdog's count (R447): when its stage began, the count it stood at when the debug port halted the core, and
the microsecond in which stage 1 last expired. -/
structure Wdog where
  start : Nat := 0
  held : Option Nat := none
  expiredAt : Option Nat := none
  deriving DecidableEq, Repr

/-! ### The whole machine -/

/-- The state of the KT8840. -/
structure State where
  /-- Register fields: cell (`Field.key`) and value; an unlisted field is 0. -/
  fields : List (Nat × Nat) := []
  /-- SRAM-type memory by core address; an unlisted byte is 0 (the hardware wipe, R33). -/
  mem : List Host.Cell := []
  /-- Bytes of SRAM-type memory with a parity error (R43). -/
  badBytes : List Nat := []
  /-- The Firn store: word number and 64-bit word; an unlisted word is erased, all ones. -/
  firn : List (Nat × Nat) := []
  /-- Firn words with a single-bit and with a double-bit error (R43, R44). -/
  firnCorr : List Nat := []
  firnDed : List Nat := []
  /-- TBASE in microseconds (R6). -/
  tbase : Nat := 0
  /-- The value the last read by the core returned: the model's own observation of a read. -/
  rdata : Nat := 0
  /-- The next free value to draw (`Config.freeNat`): the model's own counter. -/
  free : Nat := 0
  cpu : Cpu := {}
  board : Board := {}
  balls : Balls := {}
  sys : Sys := {}
  log : Log := {}
  link : Link := {}
  ec : Ec := {}
  bulk : Bulk := {}
  mbx : Mbx := {}
  lpe : Icefall := {}
  rail : Rail := {}
  pwr : Power := {}
  port0 : PdPort := {}
  port1 : PdPort := {}
  chg : Charge := {}
  kbd : Keyboard := {}
  lux : Lux := {}
  chn : Chain := {}
  thm : Thermal := {}
  floe0 : FloePort := {}
  floe1 : FloePort := {}
  sec : Sec := {}
  fgd : Fgd := {}
  nvc : Nvc := {}
  kpf : Kpf := {}
  wdog : Wdog := {}
  /-- The commands that are waiting, first in, first out. -/
  pending : List Instr := []
  deriving DecidableEq, Repr

/-- Reasons the machine stops with a fault: none of its commands does. -/
inductive Fault where
  /-- Raised by no command: every exception of the core is an entry, a next state (R435). Safe. -/
  | none
  deriving DecidableEq, Repr

/-- Reasons a command has no meaning here. -/
inductive Refusal where
  /-- Raised by the dispatch for a command without a meaning yet. Safe: nothing can be proved of its effect. -/
  | notModelled (mnemonic : String)
  deriving DecidableEq, Repr

/-- The register fields right after a cold reset: the maps' Reset column (R12), the power-up cause (R34,
SYS_RSTCAUSE.POR), the PLL locked at step 6 of R34, the life-cycle state of the fuses, and the debug port open as R317
has it in that state with no OEM slot programmed. -/
def resetFields : List (Nat × Nat) :=
  [(Reg.SYS_RSTCAUSE.POR, 1), (Reg.SYS_CLKCFG.PLLLOCK, 1), (Reg.HOST_STAT.PLTRST, 1),
    (Reg.SEC_LCS.STATE, 1), (Reg.SEC_LCS.DBGOPEN, 1), (Reg.SEC_LCS.DBGLEVEL, 2), (Reg.SEC_LCS.DBGOPENED, 1),
    (Reg.PWR_STAT.CELLS, 1)].foldl
    (fun l p => Sparse.put 0 p.1.key p.2 l) resetCells

/-- The machine right after a cold reset: AON and CORE powered, the wipe done and the core released to
the boot ROM (step 7 of R34), LUX and HOST off. -/
def State.reset : State := { fields := resetFields }

end Sys2Proof.Machine
end

