-- ==== Sys2Proof/Machine/Ops.lean ====
section
/-! DEFINITION. The named operations every meaning is built from: reading and writing register fields and
whole registers (R9, R10, R13), memory with its parity (R43) and the Firn store, TBASE, free values,
and the hardware log path (R372, R373). -/

namespace Sys2Proof.Machine

/-! ### Register fields -/

/-- The value of a register field. -/
def State.rd (s : State) (f : Field) : Nat := Sparse.get 0 f.key s.fields

/-- Set a register field; the value is cut to the field's width. -/
def State.wr (s : State) (f : Field) (v : Nat) : State :=
  { s with fields := Sparse.put 0 f.key (v % 2 ^ f.width) s.fields }

/-- A one-bit field is set. -/
def State.on (s : State) (f : Field) : Bool := s.rd f == 1

/-- Set a bit (R7, R11). -/
def State.set (s : State) (f : Field) : State := s.wr f 1

/-- Clear a bit. -/
def State.clr (s : State) (f : Field) : State := s.wr f 0

/-- Make a bit follow a condition. -/
def State.wrB (s : State) (f : Field) (b : Bool) : State := s.wr f b.toNat

/-- Add to a counter that saturates at the field's largest value. -/
def State.count (s : State) (f : Field) (n : Nat := 1) : State :=
  s.wr f (min (s.rd f + n) (2 ^ f.width - 1))

/-- Set bit `i` of a field that holds one bit per unit. -/
def State.setBit (s : State) (f : Field) (i : Nat) : State := s.wr f (s.rd f ||| 2 ^ i)

/-- Clear bit `i` of a field that holds one bit per unit. -/
def State.clrBit (s : State) (f : Field) (i : Nat) : State :=
  s.wr f (if (s.rd f).testBit i then s.rd f - 2 ^ i else s.rd f)

/-- Bit `i` of a field that holds one bit per unit. -/
def State.bit (s : State) (f : Field) (i : Nat) : Bool := (s.rd f).testBit i

/-! ### Whole registers -/

/-- Bits `lo` to `lo + w - 1` of a word. -/
def bitsOf (v lo w : Nat) : Nat := v / 2 ^ lo % 2 ^ w

/-- A field's bits in the word `v` of its register. -/
def Field.of (f : Field) (v : Nat) : Nat := bitsOf v f.lo f.width

/-- The word of the register at `a` as its fields hold it: WO fields and reserved bits read 0 (R9, R13). -/
def State.regWord (s : State) (a : Nat) : Nat :=
  (regRows a).foldl (fun acc r =>
    if r.acc = .wo then acc else acc + s.rd (r.fieldAt a) * 2 ^ r.field.lo) 0

/-- A row's RW/L field is locked (R10). -/
def State.locked (s : State) (r : RegRow) : Bool :=
  match r.lock with
  | some l => s.on l
  | none => false

/-- One field's part of a core write of `v` to the register at `a`, as its access code states (R9). The
lock is the one that stood before the write, `s0` (R10). -/
def writeRow (s0 : State) (a v : Nat) (s : State) (r : RegRow) : State :=
  let f := r.fieldAt a
  let x := f.of v
  match r.acc with
  | .rw => s.wr f x
  | .w1c => s.wr f (s.rd f - (s.rd f &&& x))
  | .w1s => s.wr f (s.rd f ||| x)
  | .rwl => if s0.locked r then s else s.wr f x
  | .ro | .wo | .rc => s

/-- A write of `v` to the register at `a`, every field as its access code states. -/
def State.regWrite (s : State) (a v : Nat) : State := (regRows a).foldl (writeRow s a v) s

/-- The write would change a locked field (R10). -/
def State.lockHit (s : State) (a v : Nat) : Bool :=
  (regRows a).any (fun r => r.acc == .rwl && s.locked r && s.rd (r.fieldAt a) != (r.fieldAt a).of v)

/-- Clear the RC fields of the register at `a` to their reset values: what a read does (R9, R11). -/
def State.clearRc (s : State) (a : Nat) : State :=
  (regRows a).foldl (fun t r => if r.acc = .rc then t.wr (r.fieldAt a) r.reset else t) s

/-! ### Time and free values -/

/-- A command that happens at TBASE time `t`: the timebase never runs back. DESIGN CHOICE (log 2). -/
def State.seen (s : State) (t : Nat) : State := { s with tbase := max s.tbase t }

/-- Draw the next free value. DESIGN CHOICE (log 8). -/
def State.drawn (s : State) : State := { s with free := s.free + 1 }

/-- The free value a draw gives. DESIGN CHOICE (log 8). -/
def State.freeVal (s : State) : Nat := Config.freeNat s.free

/-! ### Memory -/

/-- Base addresses of the core memory map (R38, R42). -/
def sramBase : Nat := 0x20000000
def retBase : Nat := 0x28000000
def rsBase : Nat := 0x2C000000
def luxBase : Nat := 0x30000000
def mbxBase : Nat := 0x400D1000
def firnBase : Nat := 0x10000000
def windowBase : Nat := 0x08000000

/-- The canonical form of a memory: addresses strictly rise, and no entry holds what an unlisted address reads as, 0.
DESIGN CHOICE (log 9). -/
abbrev Memory.wf (m : List Host.Cell) : Bool := Sparse.wf 0 m

/-- The byte at an address of the SRAM-type memories; an unlisted byte is 0. DESIGN CHOICE (log 9). -/
def State.byte (s : State) (a : Nat) : Byte := Sparse.get 0 a s.mem

/-- Store a byte with good parity (R43). -/
def State.setByte (s : State) (a : Nat) (b : Byte) : State :=
  { s with mem := Sparse.put 0 a b s.mem, badBytes := s.badBytes.filter (· != a) }

/-- Store bytes at consecutive addresses. -/
def State.setBytes (s : State) (a : Nat) : List Byte → State
  | [] => s
  | b :: bs => State.setBytes (s.setByte a b) (a + 1) bs

/-- The bytes at `n` consecutive addresses. -/
def State.bytes (s : State) (a n : Nat) : List Byte := Sparse.getMany 0 a s.mem n

/-- Little-endian value of bytes (R5). -/
def leNat : List Byte → Nat
  | [] => 0
  | b :: bs => b.toNat + 256 * leNat bs

/-- Big-endian value of bytes. -/
def beNat (bs : List Byte) : Nat := bs.foldl (fun acc b => acc * 256 + b.toNat) 0

/-- The `n` little-endian bytes of a value. -/
def leBytes : Nat → Nat → List Byte
  | 0, _ => []
  | n + 1, v => BitVec.ofNat 8 v :: leBytes n (v / 256)

/-- The `n` big-endian bytes of a value. -/
def beBytes (n v : Nat) : List Byte := (leBytes n v).reverse

/-- The value of `n` bytes at `a`, little-endian. -/
def State.loadNat (s : State) (a n : Nat) : Nat := leNat (s.bytes a n)

/-- Store a value as `n` little-endian bytes. -/
def State.storeNat (s : State) (a n v : Nat) : State := s.setBytes a (leBytes n v)

/-- Some byte of `n` from `a` has a parity error; the first of them. -/
def State.firstBad (s : State) (a : Nat) : Nat → Option Nat
  | 0 => none
  | n + 1 => if s.badBytes.contains a then some a else State.firstBad s (a + 1) n

/-- Zero a memory, with good parity (R33). -/
def State.wipe (s : State) (lo hi : Nat) : State :=
  { s with mem := Sparse.clearRange lo hi s.mem
           badBytes := s.badBytes.filter (fun a => !(lo ≤ a && a < hi)) }

/-! ### The Firn store -/

/-- An erased Firn word. DESIGN CHOICE (log 10). -/
def erasedWord : Nat := 0xFFFFFFFFFFFFFFFF

/-- The 64-bit Firn word at word number `w`; an unlisted word is erased. -/
def State.firnWord (s : State) (w : Nat) : Nat := Sparse.get erasedWord w s.firn

/-- Set a Firn word, with good ECC. -/
def State.setFirnWord (s : State) (w v : Nat) : State :=
  { s with firn := Sparse.put erasedWord w (v % 2 ^ 64) s.firn
           firnCorr := s.firnCorr.filter (· != w)
           firnDed := s.firnDed.filter (· != w) }

/-- The byte at a Firn offset. -/
def State.firnByte (s : State) (off : Nat) : Byte :=
  BitVec.ofNat 8 (s.firnWord (off / 8) / 2 ^ (8 * (off % 8)))

/-- `n` bytes from a Firn offset. -/
def State.firnBytes (s : State) (off : Nat) : Nat → List Byte
  | 0 => []
  | n + 1 => s.firnByte off :: State.firnBytes s (off + 1) n

/-- Erase the 4 KiB sectors that hold the offsets from `lo` to `hi - 1`. -/
def State.eraseFirn (s : State) (lo hi : Nat) : State :=
  { s with firn := Sparse.clearRange (lo / 8) (hi / 8) s.firn
           firnCorr := s.firnCorr.filter (fun w => !(lo / 8 ≤ w && w < hi / 8))
           firnDed := s.firnDed.filter (fun w => !(lo / 8 ≤ w && w < hi / 8)) }

/-- A checked read of a Firn word counts its error (R44): CORR for a single-bit error, DED for a
double-bit error. DEDUCED (log 25). -/
def State.firnChecked (s : State) (w : Nat) : State :=
  if s.firnDed.contains w then
    (s.set Reg.ERR_MEMSTAT.FIRNDED).count Reg.ERR_ECCCNT.DED
  else if s.firnCorr.contains w then
    (s.set Reg.ERR_MEMSTAT.FIRNCOR).count Reg.ERR_ECCCNT.CORR
  else s

/-- Checked reads of the words that hold the offsets from `off` to `off + n - 1`. DEDUCED (log 25). -/
def State.firnScan (off n : Nat) (s : State) : State :=
  ((s.firnCorr ++ s.firnDed).filter fun w => off < 8 * (w + 1) && 8 * w < off + n).foldl (fun s w => s.firnChecked w) s

/-- The NVC controller shows an error at Firn word `w`: RESULT, the event, and the address (R348, R350). -/
def State.nvcError (result w : Nat) (s : State) : State :=
  ((s.wr Reg.NVC_STAT.RESULT result).set Reg.NVC_EVT.ERROR).wr Reg.NVC_ERRADDR.ADDR (8 * w)

/-- Program a Firn word: only a word that reads erased is programmed; any other is refused with RESULT=NOTERASED
(R348). DESIGN CHOICE (log 71). -/
def State.programWord (w v : Nat) (s : State) : State :=
  if s.firnWord w = erasedWord then s.setFirnWord w v else s.nvcError 2 w

/-! ### The hardware log path -/

/-- 16 bytes of DATA from the given leading bytes (R372). -/
def logData (bs : List Nat) : List Nat := (bs ++ List.replicate 16 0).take 16

/-- Four bytes of a value, least significant first. -/
def bytes4 (v : Nat) : List Nat := [v % 256, v / 256 % 256, v / 65536 % 256, v / 16777216 % 256]

/-- A record enters the front end; FILL rising to 32 sets HALF (R373). -/
def State.logEnter (s : State) (r : LogRec) : State :=
  let s := { s with log := { s.log with front := s.log.front ++ [r] } }
  if s.log.front.length = 32 then s.set Reg.LOG_EVT.HALF else s

/-- A record is dropped. -/
def State.logDrop (s : State) : State := (s.count Reg.LOG_CNT.DROPHW).set Reg.LOG_EVT.DROP

/-- A hardware record: it enters the front end, or counts DROPHW when all 64 entries are full.  While CORE is
off only AON's records arise; they are held in AON, up to 4 of them (R373). -/
def State.hwLog (s : State) (source sev code : Nat) (data : List Nat) : State :=
  let r : LogRec := ⟨s.tbase, source, sev, code, logData data⟩
  if s.sys.coreOn then
    if s.log.front.length < 64 then s.logEnter r else s.logDrop
  else if source ≠ 0x12 ∧ (source, code) ≠ (0x05, 1) then s
  else if s.log.aonHeld.length < 4 then { s with log := { s.log with aonHeld := s.log.aonHeld ++ [r] } }
  else { s with log := { s.log with aonDrops := s.log.aonDrops + 1 } }

/-! ### Sealing (R379) -/

/-- An assertion of PLTRST_N unseals the host. -/
def hostUnseal (s : State) : State := { s with kpf := { s.kpf with sealed := false } }

/-! ### Whether the core runs -/

/-- CORE is powered and released from the wipe, so that its registers can be reached. -/
def State.coreUp (s : State) : Bool := s.sys.aonOn && s.sys.coreOn && !s.sys.wiping

end Sys2Proof.Machine
end

