-- ==== Sys2Proof/Machine/Power.lean ====
section
/-! DEFINITION. The power path: inputs, the selector, the source tracker, the battery-removal latch, and the
stop of reverse supply that a selection causes (R147 to R172, R192 to R196). -/

namespace Sys2Proof.Machine

/-- Input `n`: 0 and 1 the Type-C ports, 2 DC-in. -/
def pin (s : State) (n : Nat) : PwrIn := Sparse.get {} n s.pwr.ins

/-- Set it. -/
def setPin (n : Nat) (x : PwrIn) (s : State) : State :=
  { s with pwr := { s.pwr with ins := Sparse.put {} n x s.pwr.ins } }

/-- Type-C port `p`. -/
def port (s : State) (p : Nat) : PdPort := if p = 0 then s.port0 else s.port1

/-- Set it. -/
def setPort (p : Nat) (x : PdPort) (s : State) : State :=
  if p = 0 then { s with port0 := x } else { s with port1 := x }

/-- A battery is there: no removal is latched (R155, R170). -/
def batteryOn (s : State) : Bool := !s.on Reg.PWR_STAT.BATREM

/-- CELLS. -/
def cells (s : State) : Nat := s.rd Reg.PWR_STAT.CELLS

/-- VSYSMIN. -/
def vsysMin (s : State) : Nat := s.rd Reg.PWR_VSYSMIN.VSYSMIN

/-! ### Port ends, and the stop of reverse supply (R196) -/

/-- A port leaves its attached state: the contract ends. -/
def endContract (p : Nat) (s : State) : State :=
  let s := (s.clr (Reg.PD_STAT.CONTRACT p)).clr (Reg.PD_STAT.PPS p)
  let s := ((s.wr (Reg.PD_CONTRACT.VOLT p) 0).wr (Reg.PD_CONTRACT.CURR p) 0).wr (Reg.PD_CONTRACT.OBJPOS p) 0
  setPort p { port s p with request := none, fwRequest := false } s

/-- The PD block shows port `p` detached (DETACH, LOCKOUT clears: R195). -/
def portDetach (p : Nat) (s : State) : State :=
  let s := endContract p s
  let s := ((((s.clr (Reg.PD_STAT.ATTACHED p)).clr (Reg.PD_STAT.PROLE p)).clr (Reg.PD_STAT.DROLE p)).clr
    (Reg.PD_STAT.EPR p)).clr (Reg.PD_STAT.VCONN p)
  let s := (s.wr (Reg.PD_STAT.RPSEEN p) 0).set (Reg.PD_EVT.DETACH p)
  let s := s.clr (if p = 0 then Reg.CHG_REVSTAT.LOCKOUT0 else Reg.CHG_REVSTAT.LOCKOUT1)
  let x := port s p
  setPort p { x with attached := false, source := false, rp := 0, adv := 0, vconnSrc := false, override := false } s

/-- Causes of a reverse stop (CHG_REVSTAT.CAUSE). -/
def rvDetach : Nat := 1
def rvInput : Nat := 2
def rvVbatLow : Nat := 3
def rvOcp : Nat := 4
def rvBatrem : Nat := 5
def rvTshut : Nat := 6
def rvDisabled : Nat := 7
def rvDomain : Nat := 8
def rvFault : Nat := 9

/-- Reverse supply stops (R196): the stage and the gates go off, VBUS discharges, and the port passes through
ErrorRecovery. -/
def reverseStop (cause : Nat) (s : State) : State :=
  if s.on Reg.CHG_REVSTAT.ACTIVE then
    let p := s.rd Reg.CHG_REVSTAT.PORT
    let locked := s.on (if p = 0 then Reg.CHG_REVSTAT.LOCKOUT0 else Reg.CHG_REVSTAT.LOCKOUT1)
    let s := portDetach p s
    let s := if locked && cause != rvDetach then
        s.set (if p = 0 then Reg.CHG_REVSTAT.LOCKOUT0 else Reg.CHG_REVSTAT.LOCKOUT1) else s
    let s := ((s.clr Reg.CHG_REVSTAT.ACTIVE).wr Reg.CHG_REVSTAT.CAUSE cause).wr Reg.CHG_REVSTAT.IOUT 0
    s.set Reg.CHG_EVT.REVSTOP
  else s

/-- Port `p` presents Rd only: while an input is selected, or reverse supply runs on the other port (R192, R193). -/
def rdOnly (s : State) (p : Nat) : Bool :=
  s.pwr.sel.isSome || (s.on Reg.CHG_REVSTAT.ACTIVE && s.rd Reg.CHG_REVSTAT.PORT != p)

/-- A port that is a source where it may present Rd only passes through ErrorRecovery, and its partner detaches. -/
def rdEnforced (s : State) : State :=
  [0, 1].foldl (fun s p =>
    if (port s p).source && rdOnly s p && !(s.on Reg.CHG_REVSTAT.ACTIVE && s.rd Reg.CHG_REVSTAT.PORT == p)
    then portDetach p s else s) s

/-! ### Ceilings (R163) -/

/-- The Rp current of R163. -/
def rpCurrent (rp : Nat) : Nat :=
  match rp with
  | 1 => 500
  | 2 => 1500
  | 3 => 3000
  | _ => 0

/-- CEIL of input `n` in mA. -/
def ceilOf (s : State) (n : Nat) : Nat :=
  let most := min (s.rd (Reg.PWR_INCFG.ILIMMAX n)) 600 * 10
  let c :=
    if n = 2 then most
    else if s.on (Reg.PD_STAT.CONTRACT n) && !(port s n).source then min most (s.rd (Reg.PD_CONTRACT.CURR n) * 10)
    else if s.on (Reg.PWR_INCFG.BEYONDRP n) then most
    else min most (rpCurrent (port s n).rp)
  if (pin s n).unstable then min c (pin s n).half else c

/-- TRACK and the contract fix the limit at CEIL (R163). -/
def isFixed (s : State) (n : Nat) : Bool :=
  !(pin s n).unstable &&
    (s.rd (Reg.PWR_INCFG.TRACK n) == 2
      || (s.rd (Reg.PWR_INCFG.TRACK n) == 0 && n < 2 && s.on (Reg.PD_STAT.CONTRACT n)))

/-- CEIL follows its conditions; when it falls, ILIM follows at once. -/
def refreshCeil (n : Nat) (s : State) : State :=
  let x := pin s n
  let c := ceilOf s n
  let x := if x.trk = 5 then { x with ilim := c } else if c < x.ceil then { x with ilim := min x.ilim c } else x
  setPin n { x with ceil := c } s

/-! ### Qualification (R150) -/

/-- Input `n` is qualified: valid for 150 ms, and, where a PD source has been seen, under a contract. -/
def qualified (s : State) (n : Nat) : Bool :=
  let x := pin s n
  x.valid && x.timed && (n == 2 || !x.pdSeen || s.on (Reg.PD_STAT.CONTRACT n))

/-- The contract voltage of port `n`, 0 without a contract: the one that AON captured while it holds the gates (R156).
DEDUCED (log 109). -/
def contractVolt (s : State) (n : Nat) : Nat :=
  if s.pwr.mode = .held ∧ s.pwr.sel = some n then s.pwr.heldVolt
  else if n < 2 && s.on (Reg.PD_STAT.CONTRACT n) then s.rd (Reg.PD_CONTRACT.VOLT n)
  else 0

/-- The over-voltage threshold of R172. -/
def ovpThreshold (s : State) (n : Nat) : Nat :=
  if n = 2 then s.rd (Reg.PWR_INOVP.OVP 2) else max 6000 (contractVolt s n * 115 / 100)

/-- A Type-C port is in an attached sink state; DC-in needs none. -/
def sinkState (s : State) (n : Nat) : Bool := n == 2 || ((port s n).attached && !(port s n).source)

/-! ### The tracker (R164 to R167) -/

/-- Round down to a multiple of 10 mA. -/
def down10 (i : Nat) : Nat := i / 10 * 10

/-- The unloaded voltage is known: KNEE, HIGH and FLOOR follow, and the limit starts (R164, R166, R167). -/
def vocDone (n voc : Nat) (s : State) : State :=
  let x := pin s n
  let s := refreshCeil n (setPin n { x with
    voc := voc, ref := voc, knee := voc * 92 / 100, high := voc * 96 / 100, floor := voc * 88 / 100 } s)
  let y := pin s n
  if isFixed s n then setPin n { y with trk := 5, ilim := y.ceil, reprobing := false } s
  else
    let start := if y.reprobing ∧ y.lastgood ≠ 0 then y.lastgood else if batteryOn s then 100 else 500
    setPin n { y with trk := 2, step := 100, ilim := min start y.ceil, reprobing := false } s

/-- No VOC measurement is possible without a battery: the VOC in hand is kept, or VIN as it was before the gates closed
stands for it (R164, R170). -/
def skipVoc (n : Nat) (s : State) : State :=
  let x := pin s n
  vocDone n (if x.reprobing then x.voc else x.vinNow) s

/-- The VOC measurement starts: ILIM is 0 for 2 ms; with no battery it is skipped (R164). -/
def startVoc (n : Nat) (again : Bool) (s : State) : State :=
  let s := setPin n { pin s n with trk := 1, ilim := 0, vocAt := s.tbase, reprobing := again } s
  if batteryOn s then s else skipVoc n s

/-- The Icefall slot of input `n`'s tracker runs: a slot of the charger-supervision action with that tracker's ARG
(R127, R166, R167). -/
def trackerSlot (s : State) (n : Nat) : Bool :=
  s.on Reg.LPE_CTRL.RUN && (List.range 64).any fun k =>
    s.on (Reg.LPE_SCFG.EN k) && s.rd (Reg.LPE_SCFG.ACTION k) == 6 && s.rd (Reg.LPE_SCFG.ARG k) % 4 == n + 1

/-- FIXED or tracked as TRACK, the contract and UNSTABLE now say (R163); a tracker whose slot does not run starts no
measurement (R167). -/
def refreshTrack (n : Nat) (s : State) : State :=
  let s := refreshCeil n s
  let x := pin s n
  if 2 ≤ x.trk ∧ x.trk ≤ 4 ∧ isFixed s n then setPin n { x with trk := 5, ilim := x.ceil } s
  else if x.trk = 5 ∧ !isFixed s n ∧ trackerSlot s n then startVoc n true s
  else s

/-- settle(i) of R166. -/
def settleAt (n i : Nat) (s : State) : State :=
  let x := pin s n
  let k := down10 i
  let l := down10 (k * 95 / 100)
  (setPin n { x with iknee := k, ilim := l, lastgood := l, trk := 3, reprobeAt := s.tbase + 10000000 } s).set
    Reg.PWR_EVT.SETTLED

/-- A tracker step of the selected input with the averages of the last millisecond (R166). -/
def trackerRun (n vin iin : Nat) (s : State) : State :=
  let x := pin s n
  if x.floorFlag ∧ (x.trk = 3 ∨ x.trk = 4) then startVoc n true s
  else
    match x.trk with
    | 1 => if !batteryOn s then skipVoc n s else if x.vocAt + 2000 ≤ s.tbase then vocDone n vin s else s
    | 2 =>
      if vin < x.knee then settleAt n iin s
      else if x.ilim = x.ceil then
        (setPin n { x with trk := 4, lastgood := x.ilim, reprobeAt := s.tbase + 10000000 } s).set
          Reg.PWR_EVT.SETTLED
      else if iin + 50 < x.ilim then s
      else
        let step := if x.high ≤ vin then min (2 * x.step) 400 else max (down10 (x.step / 2)) 20
        setPin n { x with step := step, ilim := min (x.ilim + step) x.ceil } s
    | 3 | 4 => if vin < x.knee then settleAt n iin s else s
    | _ => s

/-! ### Selection (R152 to R154, R168) -/

/-- The inputs that PRIO names and EN permits, in order. -/
def named (s : State) : List Nat :=
  let l := [s.rd Reg.PWR_CTRL.PRIO0, s.rd Reg.PWR_CTRL.PRIO1, s.rd Reg.PWR_CTRL.PRIO2]
  (l.foldl (fun acc n => if n = 3 ∨ acc.contains n then acc else acc ++ [n]) []).filter
    fun n => s.on (Reg.PWR_INCFG.EN n)

/-- The ranking: stable qualified inputs first, then UNSTABLE ones. -/
def ranking (s : State) : List Nat :=
  let q := (named s).filter (qualified s)
  q.filter (fun n => !(pin s n).unstable) ++ q.filter (fun n => (pin s n).unstable)

/-- The tracker of input `n` is off. -/
def trackerOff (n : Nat) (s : State) : State :=
  setPin n { pin s n with trk := 0, ilim := 0, reprobing := false, ref := 0, floorNow := false } s

/-- The selected input gives way: its gates go off, the battery carries VSYS if there is one, and dead time
runs (R153, R168). -/
def handOver (s : State) : State :=
  match s.pwr.sel with
  | none => s
  | some n =>
    let s := trackerOff n s
    let s := { s with pwr := { s.pwr with
      sel := none, deadUntil := some (s.tbase + 50), joining := s.pwr.joining && !batteryOn s } }
    (if batteryOn s then s.set Reg.PWR_EVT.HANDOVER else s).set Reg.PWR_EVT.SELCHG

/-- Input `n` becomes selected.  Where reverse supply runs it ends first, and the input follows after the dead time
(R153, R154, R196); else every port presents Rd only (R192), and the tracker starts unless AON governs. -/
def select (n : Nat) (s : State) : State :=
  if s.on Reg.CHG_REVSTAT.ACTIVE then
    let s := reverseStop rvInput s
    { s with pwr := { s.pwr with deadUntil := some (s.tbase + 50) } }
  else
    let s := rdEnforced ({ s with pwr := { s.pwr with sel := some n } }.set Reg.PWR_EVT.SELCHG)
    let s := setPin n { pin s n with ref := 0 } s
    if s.pwr.mode = .run then startVoc n false s else s

/-- The selector re-ranks (R152, R153); it does not act without AON, on held gates or in dead time; a held input is
given up only when it is no longer valid, whatever has become of its contract (R156). DEDUCED (log 102). -/
def reselect (s : State) : State :=
  if !s.sys.aonOn then s
  else if s.pwr.mode = .held then
    match s.pwr.sel with
    | some n => if (pin s n).valid && (pin s n).timed then s else handOver s
    | none => s
  else if s.pwr.deadUntil.isSome then s
  else
    match s.pwr.sel, (ranking s).head? with
    | none, some n => select n s
    | none, none => s
    | some c, best =>
      if !(qualified s c && (named s).contains c) then handOver s
      else if best != some c && batteryOn s && s.pwr.mode == .run then handOver s
      else s

/-- QUAL may have changed from `before`: the event, then the selector. -/
def requalify (n : Nat) (before : Bool) (s : State) : State :=
  reselect (if qualified s n && !before then s.set Reg.PWR_EVT.QUAL else s)

/-- A bounce (R169): the fifth in 10 s makes the input UNSTABLE. -/
def bounce (n : Nat) (s : State) : State :=
  let x := pin s n
  let l := x.bounces.filter (fun t => s.tbase ≤ t + 10000000) ++ [s.tbase]
  let x := { x with bounces := l, count := min l.length 5 }
  if 5 ≤ l.length ∧ !x.unstable then
    let x := { x with unstable := true, half := if x.lastgood = 0 then 250 else down10 (x.lastgood / 2) }
    ((refreshCeil n (setPin n x s)).set Reg.PWR_EVT.UNSTABLE).hwLog 0x04 3 1 [n]
  else setPin n x s

/-- Input `n` becomes invalid; `counts` says whether that is a bounce. DEDUCED (log 102). -/
def invalidate (n : Nat) (counts : Bool) (s : State) : State :=
  let x := pin s n
  let s := if counts && x.valid then bounce n s else s
  let s := if s.pwr.sel = some n then s else trackerOff n s
  reselect (setPin n { pin s n with valid := false, timed := false } s)

/-- Gates off after OVP, OCP or reverse current; no bounce (R169, R172). DEDUCED (log 41). -/
def protectOff (n : Nat) (s : State) : State :=
  let s := setPin n { pin s n with valid := false, timed := false } s
  if s.pwr.sel = some n then handOver s else trackerOff n s

/-- An over-voltage on input `n`: invalid until VIN falls 5 % below the threshold (R172). -/
def overVoltage (n vin : Nat) (s : State) : State :=
  protectOff n ((setPin n { pin s n with ovp := true, vinNow := vin } s).set Reg.PWR_EVT.OVP)

/-- VIN of input `n` is `vin` (R150, R172): it becomes valid or invalid.  Without AON nothing is qualified (R19, R150). -/
def inputSeen (n vin : Nat) (s : State) : State :=
  let x := pin s n
  if !s.sys.aonOn then setPin n { x with vinNow := vin } s
  else
    let x := { x with vinNow := vin, attached := x.attached || (n == 2 && decide (1000 ≤ vin)) }
    let x := if x.ovp ∧ vin * 100 < ovpThreshold s n * 95 then { x with ovp := false } else x
    let s := setPin n x s
    if ovpThreshold s n ≤ vin then (if x.ovp then s else overVoltage n vin s)
    else if 3500 ≤ vin && !x.ovp && decide (x.blockedUntil ≤ s.tbase) && sinkState s n then
      (if x.valid then s else setPin n { x with valid := true, validSince := s.tbase, timed := false } s)
    else if x.valid then invalidate n true s
    else s

/-- Input `n` has stayed valid for 150 ms (R150). DEDUCED (log 41). -/
def inputTimed (n : Nat) (s : State) : State :=
  let x := pin s n
  if s.sys.aonOn && x.valid && !x.timed && x.validSince + 150000 ≤ s.tbase then
    requalify n (qualified s n) (setPin n { x with timed := true } s)
  else s

/-- The reference threshold of input `n` is masked: from a change of the contract's voltage until 5 ms after PS_RDY
(R168). DEDUCED (log 109). -/
def refMasked (s : State) (n : Nat) : Bool := decide (s.tbase < (pin s n).maskUntil)

/-- The reference of R168: the contract's voltage, or VOC. -/
def lossRef (s : State) (n : Nat) : Nat := if 0 < contractVolt s n then contractVolt s n else (pin s n).ref

/-- The selected input is lost (R168): VIN has stayed below a threshold for 2 µs. DEDUCED (log 41). -/
def inputLoss (n vin : Nat) (s : State) : State :=
  let low := vin < 3200 ∨ (!refMasked s n ∧ vin * 4 < lossRef s n * 3)
  if s.pwr.sel = some n ∧ low then
    let s := setPin n { pin s n with vinNow := vin } s
    handOver (setPin n { pin (bounce n s) n with valid := false, timed := false } (bounce n s))
  else s

/-- Unplug (R151): the only thing that clears UNSTABLE, BOUNCES, LASTGOOD and PDSEEN. -/
def unplug (n : Nat) (s : State) : State :=
  let s := if s.pwr.sel = some n then s else trackerOff n s
  let x := pin s n
  let s := setPin n { x with
    attached := false, unstable := false, bounces := [], count := 0, lastgood := 0, half := 0, pdSeen := false
    valid := false, timed := false } s
  let s := if n < 2 then s.clr (Reg.PD_STAT.PDSEEN n) else s
  reselect (refreshCeil n s)

/-! ### VSYS (R149, R155, R156) -/

/-- The VSYS target of R149, R155 and R156. -/
def vsysTarget (s : State) : Nat :=
  match s.pwr.mode with
  | .held => s.pwr.heldVsys
  | .boot => if batteryOn s then s.rd Reg.PWR_VMEAS.VBAT else 3600 * cells s
  | .run =>
    if !batteryOn s then vsysMin s
    else if s.pwr.sel.isNone || s.pwr.joining then s.rd Reg.PWR_VMEAS.VBAT
    else max (s.rd Reg.PWR_VMEAS.VBAT) (vsysMin s)

/-- BATFET is fully on: AON keeps it on while it holds the gates (R31, R149, R155, R156, R168, R170, R171); ship mode
opens it (R47). DEDUCED (log 112). -/
def batfetOn (s : State) : Bool :=
  batteryOn s && !s.sys.shipMode
    && (s.pwr.sel.isNone || (!s.pwr.joining && (s.pwr.mode != .run || decide (vsysMin s ≤ s.rd Reg.PWR_VMEAS.VBAT))))

/-- VSYS is regulated at VSYSMIN, BATFET linear or off. -/
def vsysRegulated (s : State) : Bool := s.pwr.sel.isSome && !batfetOn s

/-- A write of PWR_CTRL: TAKE ends boot regulation and held values, and the tracker starts every qualified input anew at
its VOC measurement (R156).  An input that is not selected stays there, unloaded. DEDUCED (log 109). -/
def takeRun (s : State) : State :=
  let s := { s with pwr := { s.pwr with mode := .run } }
  let s := (List.range 3).foldl (fun s n => refreshCeil n s) s
  reselect ((List.range 3).foldl (fun s n =>
    if qualified s n || s.pwr.sel == some n then startVoc n false s else s) s)

/-- The domain reset's part (R156): AON captures the limit, the floor and the VSYS target; the registers of
the inputs reset but for what only unplug clears (R151). DEDUCED (log 24). -/
def pwrDomainReset (s : State) : State :=
  let s := if s.pwr.mode = .run then
      let x := s.pwr.sel.map (pin s)
      { s with pwr := { s.pwr with
          mode := .held, heldIlim := (x.map (·.ilim)).getD 0, heldFloor := (x.map (·.floor)).getD 0
          heldVsys := vsysTarget s, heldVolt := (s.pwr.sel.map (contractVolt s)).getD 0 } }
    else s
  (List.range 3).foldl (fun s n => setPin n { pin s n with
    trk := 0, ilim := 0, ceil := 0, iknee := 0, step := 100, voc := 0, knee := 0, high := 0, floor := 0
    reprobing := false, ref := if s.pwr.sel = some n then (pin s n).ref else 0
    vin := 0, iin := 0, floorNow := false, floorFlag := false } s) s

/-! ### Registers -/

/-- PWR_STAT. -/
def pwrStatWord (s : State) : Nat :=
  let s := s.wr Reg.PWR_STAT.SEL (s.pwr.sel.getD 3)
  let s := (s.wrB Reg.PWR_STAT.BOOTREG (s.pwr.mode == .boot)).wrB Reg.PWR_STAT.HELD (s.pwr.mode == .held)
  ((s.wrB Reg.PWR_STAT.BATFET (batfetOn s)).wrB Reg.PWR_STAT.VSYSREG (vsysRegulated s)).regWord 0x40030004

/-- The limit in effect for input `n` (R149, R156). -/
def limitNow (s : State) (n : Nat) : Nat :=
  if s.pwr.sel ≠ some n then 0
  else
    match s.pwr.mode with
    | .boot => 500
    | .held => s.pwr.heldIlim
    | .run => (pin s n).ilim

/-- A register of input `n`. -/
def pwrInWord (s : State) (n off : Nat) : Nat :=
  let x := pin s n
  match off with
  | 0x08 =>
    x.valid.toNat + 2 * (qualified s n).toNat + 4 * x.attached.toNat + 8 * x.unstable.toNat + 16 * x.trk
      + 2 ^ 7 * x.floorFlag.toNat + 2 ^ 8 * x.count
      + 2 ^ 11 * (if n < 2 then s.rd (Reg.PD_STAT.CONTRACT n) else 0)
  | 0x0C => x.vin % 2 ^ 16 + 2 ^ 16 * (x.iin % 2 ^ 16)
  | 0x10 => x.voc % 2 ^ 16 + 2 ^ 16 * (x.knee % 2 ^ 16)
  | 0x14 => limitNow s n / 10 % 2 ^ 10 + 2 ^ 16 * (x.iknee / 10 % 2 ^ 10)
  | 0x18 => x.lastgood / 10 % 2 ^ 10 + 2 ^ 16 * (ceilOf s n / 10 % 2 ^ 10)
  | _ => s.regWord (0x40030100 + 0x40 * n + off)

/-- A core read of the PWR block. -/
def pwrRead (a : Nat) (s : State) : Nat × State :=
  if a = 0x40030004 then (pwrStatWord s, s)
  else if 0x40030100 ≤ a ∧ a < 0x400301C0 then
    (pwrInWord s ((a - 0x40030100) / 0x40) ((a - 0x40030100) % 0x40), s)
  else (s.regWord a, s.clearRc a)

/-- A field that clamps what is written to it. -/
def State.clamp (s : State) (f : Field) (lo hi : Nat) : State := s.wr f (max lo (min hi (s.rd f)))

/-- A core write to the PWR block; PRIO, EN, TRACK and the ceilings act at once. -/
def pwrWrite (a v : Nat) (s0 : State) : State :=
  let s := s0.regWrite a v
  if a = 0x40030000 then
    if s.on Reg.PWR_CTRL.TAKE && s0.pwr.mode != .run then takeRun s else reselect s
  else if a = 0x40030010 then s.clamp Reg.PWR_VSYSMIN.VSYSMIN 3000 24000
  else if 0x40030100 ≤ a ∧ a < 0x400301C0 then
    let n := (a - 0x40030100) / 0x40
    match (a - 0x40030100) % 0x40 with
    | 0x00 => reselect (if s.pwr.mode = .run then refreshTrack n s else s)
    | 0x04 => s.clamp (Reg.PWR_INOVP.OVP n) 6000 52800
    | _ => s
  else s

end Sys2Proof.Machine
end

