-- ==== Sys2Proof/Machine/Pd.lean ====
section
/-! DEFINITION. USB Type-C and Power Delivery: the port's state, the sink policy engine, firmware requests and
vendor-defined messages (R157 to R162), and what a port offers as a source (R194). -/

namespace Sys2Proof.Machine

/-- The PD block runs on port `p`: after TAKE, with the port enabled (R149, R156). -/
def pdRuns (s : State) (p : Nat) : Bool := s.pwr.mode == .run && s.on (Reg.PD_CFG.EN p)

/-- What the PD block answered. -/
def pdReply (p : Nat) (r : PdReply) (s : State) : State := setPort p { port s p with reply := r } s

/-- The contract state of port `p` changed: its limit and its qualification follow. -/
def contractMoved (p : Nat) (before : Bool) (s : State) : State :=
  requalify p before (if s.pwr.mode = .run then refreshTrack p s else s)

/-! ### Attach and detach (R157) -/

/-- What the PD block sent of its own. -/
def pdSend (p : Nat) (m : PdMsg) (s : State) : State := setPort p { port s p with sent := [m] } s

/-- What it sent after that, at the same command. -/
def pdSendMore (p : Nat) (m : PdMsg) (s : State) : State := setPort p { port s p with sent := (port s p).sent ++ [m] } s

/-- RPADV of port `p`: 0 default USB, 1 1.5 A, 2 3.0 A. -/
def rpAdv (s : State) (p : Nat) : Nat := min (s.rd (Reg.PD_CFG.RPADV p)) 2

/-- The terminations of port `p` (R149, R157, R162, R192): dead-battery Rd until PD runs, as they stood while AON holds
them through a domain reset, and then as ROLE, RPADV and R192 say. -/
def ccTerm (s : State) (p : Nat) : CcTerm :=
  if (port s p).attached then (if (port s p).source then .rp (port s p).adv else .rd)
  else if s.pwr.mode = .held then (port s p).heldTerm
  else if !pdRuns s p || rdOnly s p then .rd
  else
    match s.rd (Reg.PD_CFG.ROLE p) with
    | 1 => .drp (rpAdv s p) true
    | 2 => .drp (rpAdv s p) false
    | _ => .rd

/-- The port may attach as a source: DRP roles, PD running, not held to Rd. -/
def maySource (s : State) (p : Nat) : Bool :=
  pdRuns s p && (s.rd (Reg.PD_CFG.ROLE p) == 1 || s.rd (Reg.PD_CFG.ROLE p) == 2) && !rdOnly s p

/-- PD_STAT.VCONN: the port is the VCONN source and VCONNEN permits it (R157). -/
def showVconn (p : Nat) (s : State) : State :=
  s.wrB (Reg.PD_STAT.VCONN p) ((port s p).attached && (port s p).vconnSrc && s.on (Reg.PD_CFG.VCONNEN p))

/-- The registers show the attached port as its terminations stand. -/
def showAttach (p : Nat) (s : State) : State :=
  let x := port s p
  let s := ((s.set (Reg.PD_STAT.ATTACHED p)).wrB (Reg.PD_STAT.ORIENT p) x.flipped).wrB (Reg.PD_STAT.PROLE p) x.source
  let s := (s.wrB (Reg.PD_STAT.DROLE p) x.source).wr (Reg.PD_STAT.RPSEEN p) x.rp
  showVconn p s

/-- A partner attaches: as a source it shows Rp `rp` and the port is a sink, else the port is the source, after Try.SNK
where ROLE asks for it; a VCONN source asks the cable for its identity (R157). DEDUCED (log 110). -/
def attach (p : Nat) (source flipped : Bool) (rp : Nat) (s : State) : State :=
  if !s.sys.aonOn || (port s p).attached || (source && !maySource s p) then s
  else
    let s := setPort p { port s p with
      attached := true, source := source, flipped := flipped, rp := if source then 0 else rp
      adv := if source then rpAdv s p else 0, vconnSrc := source } s
    let s := if source && s.on (Reg.PD_CFG.VCONNEN p) then pdSend p .discoverCable s else s
    let s := if source then s else setPin p { pin s p with attached := true } s
    let s := (showAttach p (s.wr (Reg.PD_STAT.HRCNT p) 0)).set (Reg.PD_EVT.ATTACH p)
    if s.pwr.mode = .run then refreshTrack p s else s

/-- The partner detaches: the contract ends, and an input there becomes invalid. -/
def detach (p : Nat) (s : State) : State :=
  if (port s p).attached then
    let s := if s.on Reg.CHG_REVSTAT.ACTIVE && s.rd Reg.CHG_REVSTAT.PORT == p then reverseStop rvDetach s
             else portDetach p s
    invalidate p true s
  else s.clr (if p = 0 then Reg.CHG_REVSTAT.LOCKOUT0 else Reg.CHG_REVSTAT.LOCKOUT1)

/-! ### The sink policy engine (R159) -/

/-- A PDO is a fixed supply; its voltage in mV and current in 10 mA. -/
def pdoFixed (w : Nat) : Bool := bitsOf w 30 2 == 0
def pdoVolt (w : Nat) : Nat := bitsOf w 10 10 * 50
def pdoCurr (w : Nat) : Nat := bitsOf w 0 10

/-- A PDO is an augmented one (APDO). -/
def pdoApdo (w : Nat) : Bool := bitsOf w 30 2 == 3

/-- The highest voltage accepted in mV and the highest current in 10 mA (PD_SNKPOL). -/
def vMax (s : State) (p : Nat) : Nat := min (s.rd (Reg.PD_SNKPOL.VMAX p)) 480 * 100
def iMax (s : State) (p : Nat) : Nat := min (s.rd (Reg.PD_SNKPOL.IMAX p)) 50 * 10

/-- Power of a fixed PDO at the current that would be requested, in units of 10 µW. -/
def pdoPower (s : State) (p w : Nat) : Nat := pdoVolt w * min (pdoCurr w) (iMax s p)

/-- The better of two candidates, each an object position and PDO: the higher power, then the lower voltage.
PRESUMED (log 42). -/
def betterPdo (s : State) (p : Nat) (best : Option (Nat × Nat)) (c : Nat × Nat) : Option (Nat × Nat) :=
  match best with
  | none => some c
  | some b =>
    if pdoPower s p b.2 < pdoPower s p c.2
        ∨ (pdoPower s p b.2 = pdoPower s p c.2 ∧ pdoVolt c.2 < pdoVolt b.2) then some c else some b

/-- The objects received, with their positions from 1. -/
def objects (s : State) (p : Nat) : List (Nat × Nat) :=
  (List.range (s.rd (Reg.PD_STAT.NPDO p))).map fun k => (k + 1, s.rd (Reg.PD_RXPDO.PDO p k))

/-- The fixed PDOs the policy may choose: SPR ones (objects 1 to 7), and EPR ones while EPR mode is
active. -/
def candidates (s : State) (p : Nat) : List (Nat × Nat) :=
  (objects s p).filter fun c =>
    pdoFixed c.2 && pdoVolt c.2 != 0 && decide (pdoVolt c.2 ≤ vMax s p) && (decide (c.1 ≤ 7) || s.on (Reg.PD_STAT.EPR p))

/-- The request the policy makes. PRESUMED (log 42). -/
def policyRequest (p : Nat) (s : State) : State :=
  match (candidates s p).foldl (betterPdo s p) none with
  | none => s
  | some c =>
    let low := pdoPower s p c.2 < s.rd (Reg.PD_SNKPOL.PDP p) * 100000
    let s := setPort p { port s p with
      request := some ⟨c.1, pdoVolt c.2, min (pdoCurr c.2) (iMax s p), false⟩, fwRequest := false, override := false } s
    let s := pdSendMore p (.request c.1 (pdoVolt c.2) (min (pdoCurr c.2) (iMax s p))) s
    let s := s.wrB (Reg.PD_STAT.MISMATCH p) (decide low)
    if low then s.set (Reg.PD_EVT.MISMATCH p) else s

/-- Nothing has been sent at this command yet. -/
def pdQuiet (p : Nat) (s : State) : State := setPort p { port s p with sent := [] } s

/-- Source_Capabilities arrive (R159): the objects are stored, EPR mode is asked for with PDP where it is permitted and
the source is EPR capable, and the policy requests. -/
def sourceCaps (p : Nat) (pdos : List Word) (eprOk : Bool) (s : State) : State :=
  if !pdRuns s p || !(port s p).attached || (port s p).source || pdos.isEmpty then s
  else
    let l := pdos.take 11
    let s := (List.range 11).foldl (fun s k => s.wr (Reg.PD_RXPDO.PDO p k) (l.getD k 0).toNat) s
    let s := ((s.wr (Reg.PD_STAT.NPDO p) l.length).set (Reg.PD_STAT.PDSEEN p)).set (Reg.PD_EVT.CAPCHG p)
    let before := qualified s p
    let s := pdQuiet p (setPin p { pin s p with pdSeen := true } s)
    let s :=
      if s.on (Reg.PD_CFG.EPREN p) && !s.on (Reg.PD_STAT.EPR p) && (l.headD 0).getLsbD 23 then
        (if eprOk then s.set (Reg.PD_STAT.EPR p) else s.set (Reg.PD_EVT.EPRFAIL p))
          |> pdSendMore p (.eprEnter (s.rd (Reg.PD_SNKPOL.PDP p)))
      else s
    requalify p before (policyRequest p s)

/-- DR_Swap is sent after a contract if DRPREF differs; whether the partner accepts is a free value (R157).
DESIGN CHOICE (log 110). -/
def drSwapSent (p : Nat) (s : State) : State :=
  if s.on (Reg.PD_STAT.DROLE p) = s.on (Reg.PD_CFG.DRPREF p) then s
  else
    let t := pdSend p .drSwap s.drawn
    if s.freeVal % 2 = 1 then
      (t.wrB (Reg.PD_STAT.DROLE p) (s.on (Reg.PD_CFG.DRPREF p))).set (Reg.PD_EVT.SWAP p)
    else t

/-- The voltage of port `p`'s VBUS by its contract: 5 V, the default, without one. -/
def busVolt (s : State) (p : Nat) : Nat := if s.on (Reg.PD_STAT.CONTRACT p) then s.rd (Reg.PD_CONTRACT.VOLT p) else 5000

/-- A contract is made on port `p` (R159, R160, R168): where it changes the voltage, the reference threshold is masked
until 5 ms after PS_RDY; a DR_Swap follows if DRPREF differs. DEDUCED (log 109). -/
def makeContract (p : Nat) (r : PdRequest) (s : State) : State :=
  let before := qualified s p
  let moves := busVolt s p != r.volt
  let s := (s.set (Reg.PD_STAT.CONTRACT p)).wrB (Reg.PD_STAT.PPS p) r.apdo
  let s := ((s.wr (Reg.PD_CONTRACT.VOLT p) r.volt).wr (Reg.PD_CONTRACT.CURR p) r.curr).wr
    (Reg.PD_CONTRACT.OBJPOS p) r.obj
  let s := setPort p { port s p with request := none } (s.set (Reg.PD_EVT.CONTRACT p))
  let s := if moves then setPin p { pin s p with maskUntil := s.tbase + 5000 } s else s
  drSwapSent p (contractMoved p before s)

/-! ### The source side (R194) -/

/-- The voltages offered, in mV: 5 V, and those of VMASK. -/
def offeredVolts (s : State) : List Nat :=
  5000 :: (([0, 1, 2].filter fun i => s.bit Reg.CHG_REVCTL.VMASK i).map fun i => [9000, 15000, 20000].getD i 0)

/-- The current offered at a voltage, in 10 mA. -/
def offeredCurr (s : State) (mv : Nat) : Nat :=
  min 300 (min (min (s.rd Reg.CHG_REVCTL.IMAX) 300) (min (s.rd Reg.CHG_REVCTL.PMAX) 60 * 100000 / mv))

/-- The Dual-Role Power bit follows ROLE (R194). -/
def dualRole (s : State) (p : Nat) : Bool := s.rd (Reg.PD_CFG.ROLE p) == 1 || s.rd (Reg.PD_CFG.ROLE p) == 2

/-- The fixed PDOs advertised: 5 V, with the Dual-Role Power and Dual-Role Data bits, and those of VMASK (R194).
PRESUMED (log 42). -/
def sourcePdos (s : State) (p : Nat) : List Nat :=
  (offeredVolts s).map fun mv =>
    offeredCurr s mv + 2 ^ 10 * (mv / 50) + if mv = 5000 then 2 ^ 29 * (dualRole s p).toNat + 2 ^ 25 else 0

/-- The partner of a sourcing port requests object `obj` at `curr` (10 mA): accepted within what is offered. -/
def sourceRequest (p obj curr : Nat) (s : State) : State :=
  match (offeredVolts s)[obj - 1]? with
  | some mv =>
    if obj ≠ 0 ∧ curr ≤ offeredCurr s mv then makeContract p ⟨obj, mv, curr, false⟩ (pdReply p .accept s)
    else pdReply p .reject s
  | none => pdReply p .reject s

/-- REQUEST_REPLY: the source accepts and makes a contract, or rejects the request in flight, which sets
REQREJ (R160).  On a sourcing port the source is the port itself. -/
def requestReply (p : Nat) (accepted : Bool) (obj curr : Nat) (s : State) : State :=
  if !pdRuns s p || !(port s p).attached then s
  else if (port s p).source then
    if s.on Reg.CHG_REVSTAT.ACTIVE && s.rd Reg.CHG_REVSTAT.PORT == p then sourceRequest p obj curr s else s
  else
    match (port s p).request with
    | none => s
    | some r =>
      if accepted then makeContract p r s
      else
        setPort p { port s p with request := none, override := (port s p).override && !(port s p).fwRequest }
          (s.set (Reg.PD_EVT.REQREJ p))

/-! ### Firmware requests (R160) -/

/-- A write of PD_REQp. -/
def pdReqWrite (p v : Nat) (s : State) : State :=
  let obj := (Reg.PD_REQ.OBJPOS p).of v
  let s := if (Reg.PD_REQ.AUTO p).of v = 1 then
      (if pdRuns s p && s.on (Reg.PD_STAT.ATTACHED p) && !(port s p).source && (port s p).override
       then policyRequest p (pdQuiet p s) else setPort p { port s p with override := false } s)
    else s
  if (Reg.PD_REQ.GO p).of v = 0 then s
  else
    let w := s.rd (Reg.PD_RXPDO.PDO p (obj - 1))
    if !pdRuns s p || !(port s p).attached || (port s p).source || obj == 0
        || decide (s.rd (Reg.PD_STAT.NPDO p) < obj) || (pdoApdo w && !s.on (Reg.PD_CFG.PPSEN p)) then
      s.set (Reg.PD_EVT.REQREJ p)
    else
      let r : PdRequest :=
        if pdoApdo w then ⟨obj, (Reg.PD_REQ.VOLT p).of v * 20, (Reg.PD_REQ.CURR p).of v * 5, true⟩
        else ⟨obj, pdoVolt w, min (pdoCurr w) (iMax s p), false⟩
      setPort p { port s p with
        request := some r, fwRequest := true, override := true, sent := [.request r.obj r.volt r.curr] } s

/-! ### Vendor-defined messages (R161) -/

/-- A structured VDM request: bit 15 of the VDM header, command type 0. -/
def vdmRequest (words : List Word) : Bool :=
  (words.getD 1 0).getLsbD 15 && bitsOf (words.getD 1 0).toNat 6 2 == 0

/-- A VDM arrives on SOP number `sop`. -/
def vdmReceive (p sop : Nat) (words : List Word) (s : State) : State :=
  if !pdRuns s p || !(port s p).attached || words.isEmpty then s
  else if s.on (Reg.PD_VDMCTL.RXFULL p) then
    let s := s.count (Reg.PD_STAT.VDMDROP p)
    if vdmRequest words then pdReply p .busy s else s
  else
    let l := words.take 8
    let s := (List.range 8).foldl (fun s k =>
      s.wr (Reg.PD_VDMRX.WORD p k) (if k = 0 then (l.getD 0 0).toNat % 2 ^ 16 else (l.getD k 0).toNat)) s
    let s := ((s.set (Reg.PD_VDMCTL.RXFULL p)).wr (Reg.PD_VDMCTL.RXLEN p) l.length).wr (Reg.PD_VDMCTL.RXSOP p) sop
    setPort p { port s p with vdmAt := if vdmRequest words then some s.tbase else none }
      (s.set (Reg.PD_EVT.VDMRX p))

/-- A structured request in the buffer that firmware has not answered within 25 ms is answered BUSY. -/
def vdmTimeout (p : Nat) (s : State) : State :=
  match (port s p).vdmAt with
  | some t => if t + 25000 ≤ s.tbase then setPort p { port s p with vdmAt := none, reply := .busy } s else s
  | none => s

/-- A write of PD_VDMCTLp: RXREL frees the receive buffer, TXGO sends the transmit buffer; `acked` says that
the partner answers with GoodCRC. DESIGN CHOICE (log 43). -/
def vdmCtlWrite (p v : Nat) (acked : Bool) (s : State) : State :=
  let s := s.regWrite (0x40050120 + 0x100 * p) v
  let s := if (Reg.PD_VDMCTL.RXREL p).of v = 1 then
      setPort p { port s p with vdmAt := none } ((s.clr (Reg.PD_VDMCTL.RXFULL p)).wr (Reg.PD_VDMCTL.RXLEN p) 0)
    else s
  if (Reg.PD_VDMCTL.TXGO p).of v = 1 && pdRuns s p && (port s p).attached then
    setPort p { port s p with vdmAt := none }
      (if acked then s.set (Reg.PD_EVT.VDMTXDONE p) else s.set (Reg.PD_EVT.VDMTXFAIL p))
  else s

/-! ### Hard Reset and swaps (R157, R162) -/

/-- A Hard Reset: it counts, and the contract ends.  While PD does not run there is none to send or receive (R156). -/
def hardReset (p : Nat) (s : State) : State :=
  if pdRuns s p && (port s p).attached then
    let before := qualified s p
    let s := (s.count (Reg.PD_STAT.HRCNT p)).set (Reg.PD_EVT.HARDRESET p)
    let s := pdSend p .hardReset ((endContract p s).clr (Reg.PD_STAT.EPR p))
    contractMoved p before (setPort p { port s p with override := false } s)
  else s

/-- PD starts after TAKE: every attached port begins in the sink role with a Hard Reset (R162). -/
def pdStart (s : State) : State :=
  [0, 1].foldl (fun s p =>
    if (port s p).attached then hardReset p (showAttach p (setPort p { port s p with source := false } s))
    else s) s

/-- PR_Swap: to source only with PRSWAP=1, and where the port need not present Rd only (R192); the port is then no
input. DEDUCED (log 110). -/
def prSwap (p : Nat) (toSource : Bool) (s : State) : State :=
  if !pdRuns s p || !(port s p).attached then s
  else if toSource && !(port s p).source && s.on (Reg.PD_CFG.PRSWAP p) && !rdOnly s p then
    let s := (endContract p (pdReply p .accept s)).clr (Reg.PD_STAT.EPR p)
    let s := setPort p { port s p with source := true, rp := 0, adv := rpAdv s p, override := false } s
    let s := ((s.set (Reg.PD_STAT.PROLE p)).wr (Reg.PD_STAT.RPSEEN p) 0).set (Reg.PD_EVT.SWAP p)
    invalidate p false s
  else pdReply p .reject s

/-- DR_Swap: accepted towards DRPREF, rejected away from it. -/
def drSwap (p : Nat) (toDfp : Bool) (s : State) : State :=
  if !pdRuns s p || !(port s p).attached then s
  else if toDfp == s.on (Reg.PD_CFG.DRPREF p) then
    ((pdReply p .accept s).wrB (Reg.PD_STAT.DROLE p) toDfp).set (Reg.PD_EVT.SWAP p)
  else pdReply p .reject s

/-- VCONN_Swap is accepted; the VCONN source sources VCONN only with VCONNEN=1, and asks the cable for its identity. -/
def vconnSwap (p : Nat) (s : State) : State :=
  if !pdRuns s p || !(port s p).attached then s
  else
    let on := !(port s p).vconnSrc
    let s := showVconn p (setPort p { port s p with reply := .accept, vconnSrc := on } s)
    (if on && s.on (Reg.PD_CFG.VCONNEN p) then pdSend p .discoverCable s else s).set (Reg.PD_EVT.SWAP p)

/-! ### Registers -/

/-- PD_CFG has been written: VCONN follows VCONNEN; a port with EN=0 presents Rd only, so that it sources no more and has
no contract (R157). DEDUCED (log 110). -/
def pdConfigured (p : Nat) (s : State) : State :=
  let s := showVconn p s
  let s :=
    if s.on (Reg.PD_CFG.EN p) || !(port s p).attached then s
    else if !(port s p).source then (let before := qualified s p; contractMoved p before (endContract p s))
    else if s.on Reg.CHG_REVSTAT.ACTIVE && s.rd Reg.CHG_REVSTAT.PORT == p then reverseStop rvDetach s
    else portDetach p s
  reselect (if s.pwr.mode = .run then refreshTrack p s else s)

/-- A core write to the PD block.  A transmission started here is acknowledged or not as a free value says;
the command TXGO names the outcome. DESIGN CHOICE (log 43). -/
def pdWrite (a v : Nat) (s : State) : State :=
  let p := (a - 0x40050100) / 0x100
  match (a - 0x40050100) % 0x100 with
  | 0x1C => pdReqWrite p v s
  | 0x20 =>
    if (Reg.PD_VDMCTL.TXGO p).of v = 1 then vdmCtlWrite p v (s.freeVal % 2 == 1) s.drawn
    else vdmCtlWrite p v true s
  | 0x00 => pdConfigured p (s.regWrite a v)
  | _ => s.regWrite a v

/-- A core write to the PWR block; PD starts when TAKE is set (R162). -/
def pwrBlockWrite (a v : Nat) (s : State) : State :=
  let t := pwrWrite a v s
  if t.pwr.mode == .run && s.pwr.mode != .run then pdStart t else t

/-- AON takes over the terminations of each port as they stand, unless it holds them already (R162).
DEDUCED (log 109). -/
def holdTerms (s : State) : State :=
  if s.pwr.mode = .held then s
  else [0, 1].foldl (fun s p => setPort p { port s p with heldTerm := ccTerm s p } s) s

/-- The PD block after a domain reset: every contract is gone (R162). -/
def pdDomainReset (s : State) : State :=
  [0, 1].foldl (fun s p => setPort p { port s p with
    request := none, override := false, fwRequest := false, vdmAt := none } s) s

end Sys2Proof.Machine
end

