-- ==== Sys2Proof/Machine/Charge.lean ====
section
/-! DEFINITION. The charger: bands, targets, the charge state machine, the safety timer, charge faults, the
status lamps, the charge counter, and reverse supply (R174 to R196). -/

namespace Sys2Proof.Machine

/-! ### Bands (R178, R179) -/

def bdCold : Nat := 0
def bdCool : Nat := 1
def bdNormal : Nat := 2
def bdWarm : Nat := 3
def bdHot : Nat := 4
def bdOpen : Nat := 5
def bdShort : Nat := 6

/-- The band a thermistor code points to, with the boundaries of the cold side lowered by `hc` and those of
the hot side raised by `hh`. -/
def rawBand (s : State) (code hc hh : Nat) : Nat :=
  if 3891 < code + hc then bdOpen
  else if code < 205 + hh then bdShort
  else if s.rd Reg.CHG_BAND0.COLD ≤ code + hc then bdCold
  else if s.rd Reg.CHG_BAND0.COOL ≤ code + hc then bdCool
  else if s.rd Reg.CHG_BAND1.WARM + hh < code then bdNormal
  else if s.rd Reg.CHG_BAND1.HOT + hh < code then bdWarm
  else bdHot

/-- Steps of a band from NORMAL. -/
def bandDistance (b : Nat) : Nat :=
  match b with
  | 0 | 4 => 2
  | 1 | 3 => 1
  | 2 => 0
  | _ => 3

/-- A band lies on the cold side. -/
def coldSide (b : Nat) : Bool := b == 0 || b == 1 || b == 5

/-- The band that a code points to from band `cur`: one nearer NORMAL only HYST codes inside the boundary. -/
def bandPoint (s : State) (code cur : Nat) : Nat :=
  let raw := rawBand s code 0 0
  let h := s.rd Reg.CHG_BANDACT.HYST
  if bandDistance raw < bandDistance cur then
    let inner := if coldSide cur then rawBand s code h 0 else rawBand s code 0 h
    if bandDistance inner < bandDistance cur then inner else cur
  else raw

/-- The band that acts: the more severe of the supervisor's and firmware's. -/
def effBand (s : State) : Nat :=
  let fw := if s.rd Reg.CHG_BANDFW.BAND ≤ 4 then s.rd Reg.CHG_BANDFW.BAND else 2
  if bandDistance (s.rd Reg.CHG_STAT.BAND) < bandDistance fw then fw else s.rd Reg.CHG_STAT.BAND

/-! ### Targets (R175) -/

/-- VREGEFF in mV per cell. -/
def vregEff (s : State) : Nat :=
  let v := min (s.rd Reg.CHG_VREG.VREG) (s.rd Reg.CHG_LIMIT.VREGMAX)
  if effBand s = bdWarm then v - 10 * s.rd Reg.CHG_BANDACT.WARMDV else v

/-- min(ICHG, ICHGMAX) in mA. -/
def ichgBase (s : State) : Nat :=
  10 * min (min (s.rd Reg.CHG_ICHG.ICHG) 1000) (min (s.rd Reg.CHG_LIMIT.ICHGMAX) 1000)

/-- ICHGEFF in mA. -/
def ichgEff (s : State) : Nat :=
  if effBand s = bdCool then ichgBase s * max 1 (s.rd Reg.CHG_BANDACT.COOLFRAC) / 8 else ichgBase s

/-! ### States -/

def csIdle : Nat := 0
def csQualify : Nat := 1
def csPre : Nat := 2
def csCc : Nat := 3
def csCv : Nat := 4
def csDone : Nat := 5
def csSuspend : Nat := 6
def csFault : Nat := 7
def csPaused : Nat := 8

/-- The charge state. -/
def chgState (s : State) : Nat := s.rd Reg.CHG_STAT.STATE

/-- The charge target in mA in the present state; band COOL leaves the precharge target unchanged (R175, R179).
DEDUCED (log 111). -/
def chgTarget (s : State) : Nat :=
  if chgState s = csPre then min (10 * s.rd Reg.CHG_ICHG.IPRE) (ichgBase s)
  else if chgState s = csCc ∨ chgState s = csCv then ichgEff s
  else 0

/-- The tracker of the selected input probes. -/
def probing (s : State) : Bool := s.pwr.mode == .run && (s.pwr.sel.map fun n => (pin s n).trk == 2).getD false

/-- The demand that the charger loads the input with: ICHGEFF while a tracker probes, else the target (R166, R175). -/
def chgDemand (s : State) : Nat := if probing s && chgTarget s != 0 then ichgEff s else chgTarget s

/-- A latched fault stands. -/
def chgFaulted (s : State) : Bool := s.rd Reg.CHG_STAT.FCAUSE != 0

/-- Charge current is 0. -/
def noCurrent (s : State) : State := s.wr Reg.CHG_STAT.LOOP 0

/-- The charge cycle ends (R181). -/
def endCycle (s : State) : State :=
  { (s.clr Reg.CHG_STAT.CYCLE).wr Reg.CHG_TMRCNT.COUNT 0 with chg := { s.chg with batov := 0 } }

/-! ### Faults (R183 to R185) -/

/-- A charge fault latches in AON; a removal latch governs. -/
def latchFault (cause : Nat) (s : State) : State :=
  if chgFaulted s || s.on Reg.PWR_STAT.BATREM then s
  else
    let s := (noCurrent (s.wr Reg.CHG_STAT.FCAUSE cause)).set Reg.CHG_EVT.FAULT
    let s := s.hwLog 0x05 4 1 ([cause, 0, 0, 0] ++ bytes4 (s.rd Reg.CHG_TMRCNT.COUNT))
    reverseStop rvFault s

/-- The limit of the safety timer's phase (R181). -/
def timerLimit (s : State) : Nat :=
  120 * max 1 (if s.on Reg.CHG_STAT.TPHASE then s.rd Reg.CHG_TMR.FASTTMR else s.rd Reg.CHG_TMR.PRETMR)

/-- COUNT at its limit latches PRETMR or FASTTMR (R183). -/
def timerCheck (s : State) : State :=
  if timerLimit s ≤ s.rd Reg.CHG_TMRCNT.COUNT then
    latchFault (if s.on Reg.CHG_STAT.TPHASE then 2 else 1) s
  else s

/-- The timer runs in PRECHARGE, CC and CV. -/
def timerRuns (s : State) : Bool := chgState s == csPre || chgState s == csCc || chgState s == csCv

/-- The tick is at half speed: the current is held below its programmed value (R182). -/
def halfSpeed (s : State) : Bool :=
  let l := s.rd Reg.CHG_STAT.LOOP
  4 ≤ l

/-- A tick of the safety timer once its half second or second has passed (R181, R182). -/
def timerTick (s : State) : State :=
  if timerRuns s && !chgFaulted s && s.chg.tickAt + (if halfSpeed s then 1000000 else 500000) ≤ s.tbase then
    let s := (s.count Reg.CHG_TMRCNT.COUNT).wrB Reg.CHG_STAT.HALF (halfSpeed s)
    timerCheck { s with chg := { s.chg with tickAt := s.tbase } }
  else s

/-- The over-current limit of R184 in mA. -/
def ocpLimit (s : State) : Nat := min (chgDemand s * 125 / 100 + 200) 11000

/-- The signed value of CHG_MEAS.IBAT. -/
def ibatOf (s : State) : Int :=
  let v := s.rd Reg.CHG_MEAS.IBAT
  if v < 2 ^ 15 then v else (v : Int) - 2 ^ 16

/-- The detecting condition of a latched fault is present (R185).  A timer's limit counts as absent: clearing
ends the cycle and its count. -/
def faultPresent (s : State) : Bool :=
  match s.rd Reg.CHG_STAT.FCAUSE with
  | 3 => s.rd Reg.CHG_MEAS.BATTH < 205 || 3891 < s.rd Reg.CHG_MEAS.BATTH
  | 4 => (vregEff s + 100) * cells s < s.rd Reg.PWR_VMEAS.VBAT
  | 5 => decide ((ocpLimit s : Int) < ibatOf s)
  | _ => false

/-- FLTCLR (R185). -/
def faultClear (s : State) : State :=
  if !chgFaulted s then s
  else if faultPresent s then s.set Reg.CHG_EVT.CLRREF
  else
    let c := s.rd Reg.CHG_STAT.FCAUSE
    let s := s.wr Reg.CHG_STAT.FCAUSE 0
    if c ≤ 2 then endCycle s
    else if c = 4 then { s with chg := { s.chg with batov := 0 } }
    else s

/-- A battery over-voltage event (R184). -/
def batovEvent (s : State) : State :=
  let s := noCurrent ((s.set Reg.CHG_EVT.BATOV).set Reg.CHG_STAT.BATOVACT)
  if s.on Reg.CHG_STAT.CYCLE then
    let s := { s with chg := { s.chg with batov := s.chg.batov + 1 } }
    if 3 ≤ s.chg.batov then latchFault 4 s else s
  else s

/-- The removal latch (R170): charge stops, BATFET opens, the cycle and any fault end, reverse supply stops. -/
def removalLatch (cond : Nat) (s : State) : State :=
  if s.on Reg.PWR_STAT.BATREM then s
  else
    let s := (s.set Reg.PWR_STAT.BATREM).set Reg.PWR_EVT.BATREM
    let s := endCycle (noCurrent (s.wr Reg.CHG_STAT.FCAUSE 0))
    let s := { s with pwr := { s.pwr with joining := false } }
    let s := match s.pwr.sel with
      | some n => if (pin s n).trk = 1 then skipVoc n s else s
      | none => s
    reverseStop rvBatrem (s.hwLog 0x12 4 1 [cond])

/-- BATTH as AON last sampled it lies within its range (R171, R178). -/
def batthOk (s : State) : Bool := s.rd Reg.CHG_STAT.BAND ≤ 4

/-- The latch clears (R171).  Where an input is selected, BATFET waits until VSYS is near VBAT. DEDUCED (log 112). -/
def removalClear (s : State) : State :=
  if s.sys.aonOn && s.on Reg.PWR_STAT.BATREM && batthOk s then
    { s.clr Reg.PWR_STAT.BATREM with pwr := { s.pwr with joining := s.pwr.sel.isSome } }
  else s

/-- VBAT is seen at `v` mV; a rise above CELLS × 4.70 V latches a removal (R170). -/
def vbatSeen (v : Nat) (s : State) : State :=
  let s := s.wr Reg.PWR_VMEAS.VBAT v
  if cells s * 4700 < v then removalLatch 2 s else s

/-- The die stop (R180). -/
def dieStop (s : State) : State :=
  if s.on Reg.CHG_STAT.TSHUT then s
  else reverseStop rvTshut (noCurrent ((s.set Reg.CHG_STAT.TSHUT).set Reg.CHG_EVT.TSHUT))

/-! ### The charge counter (R188) -/

/-- Charge of `q` mC enters QACC, which wraps at 32 bits. -/
def qaccAdd (q : Int) (s : State) : State :=
  let v : Int := if s.rd Reg.CHG_QACC.QACC < 2 ^ 31 then s.rd Reg.CHG_QACC.QACC else (s.rd Reg.CHG_QACC.QACC : Int) - 2 ^ 32
  let t := v + q
  let s := s.wr Reg.CHG_QACC.QACC (t % 2 ^ 32).toNat
  if t < -(2 ^ 31) ∨ 2 ^ 31 ≤ t then s.set Reg.CHG_EVT.QWRAP else s

/-! ### The state machine (R174) -/

/-- A filter: how long a condition has held, as the time it began. -/
def since (s : State) (old : Option Nat) (c : Bool) : Option Nat := if c then some (old.getD s.tbase) else none

/-- A filter has run for `d` microseconds. -/
def ranFor (s : State) (x : Option Nat) (d : Nat) : Bool :=
  match x with
  | some t => decide (t + d ≤ s.tbase)
  | none => false

/-- The filters of the present state, with the measurements of this step. -/
def chgFilters (s : State) : State :=
  let vb := s.rd Reg.PWR_VMEAS.VBAT
  let c := s.chg
  let st := chgState s
  { s with chg := { c with
      preSince := since s c.preSince (st == csPre && decide ((s.rd Reg.CHG_VTHR.VPRE + 100) * cells s ≤ vb))
      cvLowSince := since s c.cvLowSince (st == csCv && decide (vb < (vregEff s - 50) * cells s))
      termSince := since s c.termSince (st == csCv && s.rd Reg.CHG_STAT.LOOP == 2
        && decide (ibatOf s < (10 * s.rd Reg.CHG_ICHG.ITERM : Nat)))
      rechSince := since s c.rechSince (st == csDone && s.pwr.sel.isSome
        && decide (vb < (vregEff s - 10 * s.rd Reg.CHG_VTHR.VRECH) * cells s)) } }

/-- Battery present: BATTH neither open nor shorted, and no removal latched. -/
def batteryPresent (s : State) : Bool := batteryOn s && s.rd Reg.CHG_STAT.BAND ≤ 4

/-- The state that the first condition that holds leads to (R174). -/
def chgNext (s : State) : Nat :=
  let st := chgState s
  let en := s.on Reg.CHG_CTRL.EN
  let fed := s.pwr.sel.isSome && !s.on Reg.CHG_REVSTAT.ACTIVE
  let extreme := effBand s == bdCold || effBand s == bdHot
  let vb := s.rd Reg.PWR_VMEAS.VBAT
  if s.on Reg.PWR_STAT.BATREM then csIdle
  else if chgFaulted s && st != csFault then csFault
  else if !en && st != csIdle && st != csFault then csIdle
  else if !fed && (1 ≤ st && st ≤ 4) then csPaused
  else if !fed && st == csDone then csDone
  else if extreme && (1 ≤ st && st ≤ 4) then csSuspend
  else
    match st with
    | 0 | 6 | 8 => if en && batteryPresent s && fed && !extreme then csQualify else st
    | 1 =>
      if s.chg.qualAt + 500000 ≤ s.tbase then
        (if vb < s.rd Reg.CHG_VTHR.VPRE * cells s then csPre else csCc)
      else st
    | 2 => if ranFor s s.chg.preSince 100000 then csCc else st
    | 3 => if vregEff s * cells s ≤ vb then csCv else st
    | 4 =>
      if ranFor s s.chg.cvLowSince 100000 then csCc
      else if ranFor s s.chg.termSince 1000000 then csDone
      else st
    | 5 => if ranFor s s.chg.rechSince 1000000 then csQualify else st
    | 7 => if chgFaulted s then st else csIdle
    | _ => st

/-- A transition of the charger (R174, R181). -/
def chgEnter (new : Nat) (s : State) : State :=
  let old := chgState s
  if new = old then s
  else
    let s := (noCurrent (s.wr Reg.CHG_STAT.STATE new)).set Reg.CHG_EVT.STATECHG
    let c := { s.chg with preSince := none, cvLowSince := none, termSince := none, rechSince := none }
    let s := { s with chg := c }
    match new with
    | 0 => if s.on Reg.PWR_STAT.BATREM then endCycle s else s
    | 1 =>
      let s := { s with chg := { s.chg with qualAt := s.tbase } }
      if s.on Reg.CHG_STAT.CYCLE then s
      else { (endCycle s).set Reg.CHG_STAT.CYCLE with chg := { s.chg with batov := 0, currentAt := s.tbase } }
    | 2 => { s.clr Reg.CHG_STAT.TPHASE with chg := { s.chg with tickAt := s.tbase } }
    | 3 =>
      if old = csPre then
        { (s.set Reg.CHG_STAT.TPHASE).wr Reg.CHG_TMRCNT.COUNT 0 with chg := { s.chg with tickAt := s.tbase } }
      else if old = csQualify then { s.set Reg.CHG_STAT.TPHASE with chg := { s.chg with tickAt := s.tbase } }
      else s
    | 5 => (endCycle s).set Reg.CHG_EVT.DONE
    | _ => s

/-- The control that holds IBAT; 0 while no charge current is commanded (R176). -/
def chgLoop (hold : ChargeHold) (s : State) : State :=
  let st := chgState s
  let own := if st = csPre then 3 else if st = csCc then (if effBand s = bdCool then 7 else 1)
    else if st = csCv then 2 else 0
  let l :=
    if own = 0 ∨ chgTarget s = 0 ∨ s.pwr.mode ≠ .run ∨ s.on Reg.CHG_STAT.BATOVACT ∨ s.on Reg.CHG_STAT.TSHUT ∨ chgFaulted s then 0
    else
      match hold with
      | .none => own
      | .ilim => 4
      | .demand => 5
      | .tdie => 6
  let s := s.wr Reg.CHG_STAT.LOOP l
  if l = 0 then s else { s with chg := { s.chg with currentAt := s.tbase } }

/-! ### Reverse supply (R192, R193) -/

/-- Port `p` meets every condition of R192 but that reverse supply runs on no port. -/
def reverseReady (s : State) (p : Nat) : Bool :=
  s.on Reg.CHG_REVCTL.REVEN && pdRuns s p && (port s p).attached && (port s p).source && s.pwr.sel.isNone
    && batteryPresent s && !chgFaulted s && !s.on Reg.CHG_STAT.TSHUT
    && decide ((s.rd Reg.CHG_REVVMIN.REVVMIN + 200) * cells s ≤ s.rd Reg.PWR_VMEAS.VBAT)
    && !s.on (if p = 0 then Reg.CHG_REVSTAT.LOCKOUT0 else Reg.CHG_REVSTAT.LOCKOUT1)

/-- Reverse supply starts on port `p` at vSafe5V; the capabilities follow (R194), and the other port presents Rd only
(R192). -/
def reverseStart (p : Nat) (s : State) : State :=
  let s := ((s.set Reg.CHG_REVSTAT.ACTIVE).wr Reg.CHG_REVSTAT.PORT p).set Reg.CHG_EVT.REVSTART
  rdEnforced (pdSend p (.sourceCaps (sourcePdos s p)) s)

/-- The supervisor step's part of reverse supply: it may start, on one port (R192, R193). -/
def reverseStep (s : State) : State :=
  if s.on Reg.CHG_REVSTAT.ACTIVE then rdEnforced s
  else
    match reverseReady s 0, reverseReady s 1 with
    | true, true => reverseStart (s.rd Reg.CHG_REVCTL.PREF) s
    | true, false => reverseStart 0 s
    | false, true => reverseStart 1 s
    | false, false => s

/-- A cause that stops reverse supply stands (R196). -/
def reverseCause (s : State) : Option Nat :=
  if !(port s (s.rd Reg.CHG_REVSTAT.PORT)).attached then some rvDetach
  else if s.pwr.sel.isSome then some rvInput
  else if s.on Reg.PWR_STAT.BATREM then some rvBatrem
  else if s.on Reg.CHG_STAT.TSHUT then some rvTshut
  else if chgFaulted s then some rvFault
  else if !s.on Reg.CHG_REVCTL.REVEN then some rvDisabled
  else none

/-- The voltage of the sourcing port's contract; vSafe5V before one. -/
def reverseVolt (s : State) : Nat :=
  let p := s.rd Reg.CHG_REVSTAT.PORT
  if s.on (Reg.PD_STAT.CONTRACT p) then s.rd (Reg.PD_CONTRACT.VOLT p) else 5000

/-- The output current limit in mA: 1.1 × the contract current + 100 mA; before a contract the current offered at 5 V
stands for the contract's (R195). DEDUCED (log 111). -/
def reverseLimit (s : State) : Nat :=
  let p := s.rd Reg.CHG_REVSTAT.PORT
  11 * (if s.on (Reg.PD_STAT.CONTRACT p) then s.rd (Reg.PD_CONTRACT.CURR p) else offeredCurr s 5000) + 100

/-- A reverse over-current (R195): the third on a port within 60 s locks it out. -/
def reverseOcp (s : State) : State :=
  let p := s.rd Reg.CHG_REVSTAT.PORT
  let old := if p = 0 then s.chg.ocp0 else s.chg.ocp1
  let l := old.filter (fun t => s.tbase ≤ t + 60000000) ++ [s.tbase]
  let s := { s with chg := if p = 0 then { s.chg with ocp0 := l } else { s.chg with ocp1 := l } }
  let s := if 3 ≤ l.length then s.set (if p = 0 then Reg.CHG_REVSTAT.LOCKOUT0 else Reg.CHG_REVSTAT.LOCKOUT1) else s
  reverseStop rvOcp s

/-! ### The supervisor step -/

/-- The measurements of a supervisor step. DEDUCED (log 44). -/
def chgMeasure (d : ActionData) (s : State) : State :=
  let s := (vbatSeen d.vbat s).wr Reg.PWR_VMEAS.VSYS d.vsys
  let s := (s.wr Reg.CHG_MEAS.IBAT (d.ibat % 2 ^ 16).toNat).wr Reg.CHG_MEAS.BATTH d.batth.toNat
  let s := s.wr Reg.CHG_REVSTAT.IOUT (if s.on Reg.CHG_REVSTAT.ACTIVE then min d.iout (reverseLimit s) else 0)
  let near := d.vsys ≤ d.vbat + 200 && d.vbat ≤ d.vsys + 200
  qaccAdd d.charge { s with pwr := { s.pwr with joining := s.pwr.joining && !near } }

/-- The charger supervision step (R174 to R176, R192). DEDUCED (log 44). -/
def chgStep (d : ActionData) (s : State) : State :=
  let s := chgMeasure d s
  let s := if s.on Reg.CHG_STAT.BATOVACT && decide (d.vbat < vregEff s * cells s) then s.clr Reg.CHG_STAT.BATOVACT
           else s
  let s := { s with pwr := { s.pwr with vsysOv := s.pwr.vsysOv && decide (vsysTarget s < d.vsys) } }
  let s := chgFilters s
  let s := chgLoop d.hold (chgEnter (chgNext s) s)
  reverseStep s

/-- A tracker step of input `n` (R165, R166). -/
def trackerStep (n : Nat) (d : ActionData) (s : State) : State :=
  if s.pwr.mode ≠ .run then s
  else
    let x := pin s n
    let s := setPin n { x with
      vin := d.vin, vinNow := d.vin, iin := d.iin, floorFlag := x.floorNow, floorNow := false } s
    let s := refreshTrack n s
    if s.pwr.sel = some n then reselect (trackerRun n d.vin d.iin s) else s

/-! ### Lamps (R186, R187) -/

/-- The patterns of STAT0_N and STAT1_N, from the first row that holds. -/
def lamps (s : State) : Nat × Nat :=
  let st := chgState s
  let sel := s.pwr.sel.isSome
  if !s.sys.aonOn then (0, 0)
  else if s.sys.retryWait || 0 < s.sys.attempts then (3, 3)
  else if chgFaulted s then (3, 0)
  else if s.on Reg.CHG_LAMP.OVR then (s.rd Reg.CHG_LAMP.STAT0, s.rd Reg.CHG_LAMP.STAT1)
  else if sel && !batteryOn s then (0, 3)
  else if st == csSuspend then (2, 0)
  else if 1 ≤ st && st ≤ 4 then (1, 0)
  else if s.on Reg.CHG_REVSTAT.ACTIVE then (0, 2)
  else if st == csDone && sel then (0, 1)
  else (0, 0)

/-! ### Registers -/

/-- A write of CHG_CTRL. -/
def chgCtrlWrite (v : Nat) (s : State) : State :=
  let s := s.regWrite 0x40040000 v
  let s := if Reg.CHG_CTRL.QCLR.of v = 1 then s.wr Reg.CHG_QACC.QACC 0 else s
  if Reg.CHG_CTRL.FLTCLR.of v = 1 then faultClear s else s

/-- A core write to the CHG block; clamped fields hold what they act as. -/
def chgWrite (a v : Nat) (s0 : State) : State :=
  if a = 0x40040000 then chgCtrlWrite v s0
  else
    let s := s0.regWrite a v
    match a with
    | 0x40040010 => s.clamp Reg.CHG_VREG.VREG 3500 (s.rd Reg.CHG_LIMIT.VREGMAX)
    | 0x40040014 => (s.clamp Reg.CHG_ICHG.IPRE 5 200).clamp Reg.CHG_ICHG.ITERM 5 100
    | 0x40040018 => (s.clamp Reg.CHG_VTHR.VPRE 2500 3500).clamp Reg.CHG_VTHR.VRECH 5 30
    | 0x4004001C => s.clamp Reg.CHG_LIMIT.VREGMAX 3500 4450
    | 0x40040020 => timerCheck s
    | 0x40040038 => s.clamp Reg.CHG_TDIE.TREG 60 100
    | 0x40040080 => if s.on Reg.CHG_REVCTL.REVEN then s else reverseStop rvDisabled s
    | 0x40040088 => s.clamp Reg.CHG_REVVMIN.REVVMIN 3000 3800
    | _ => s

/-- The hidden part of the charger after a domain reset (R177); the register fields reset with the block. -/
def chgDomainReset (s : State) : State :=
  { s with chg := { currentAt := s.chg.currentAt, batov := s.chg.batov } }

end Sys2Proof.Machine
end

