-- ==== Sys2Proof/Machine/Wake.lean ====
section
/-! DEFINITION. Waking from the AON-only state (R24, R36, R49). -/

namespace Sys2Proof.Machine

/-- CORE is off in the AON-only state, with no start in progress. -/
def aonOnly (s : State) : Bool :=
  s.sys.aonOn && !s.sys.coreOn && !s.sys.shipMode && !s.sys.waitPg && !s.sys.retryWait

/-- A wake source fires: its bit sets, and, if enabled, V18_EN is asserted from the AON-only state; the domain
reset that follows has cause AONWAKE, and holds the rail enables inactive (R24). DEDUCED (log 23). -/
def wakeFire (stat en : Field) (s : State) : State :=
  if !s.sys.aonOn || s.sys.shipMode then s
  else
    let s := s.set stat
    if s.on en && aonOnly s then
      let s := ((s.set Reg.SYS_PADHOLD.HOLD).wr Reg.RAIL_HELD0.CH 0).wr Reg.RAIL_HELD1.CH 0
      { s with sys := { s.sys with
          v18en := true, waitPg := true, pgSince := s.tbase, attempts := 0
          causes := s.sys.causes ||| 2 ^ Reg.SYS_RSTCAUSE.AONWAKE.lo } }
    else s

end Sys2Proof.Machine
end

