-- ==== Sys2Proof/Machine/Keys.lean ====
section
/-! DEFINITION. The key scanners, the ghost filter, stuck keys, the key lock and its matcher (R198 to R215).
A set of keys is a number whose bit k is key k. -/

namespace Sys2Proof.Machine

/-- The set of listed keys. -/
def keySet (l : List (Fin 768)) : Nat := l.foldl (fun m k => m ||| 2 ^ k.val) 0

/-- The keys of a set, rising. -/
def keysOf (m : Nat) : List Nat := (List.range 768).filter m.testBit

/-- Keys of `a` that are not in `b`. -/
def keysLess (a b : Nat) : Nat := a ^^^ (a &&& b)

/-- Word `i` of a bitmap register (R199). -/
def keyWord (m i : Nat) : Nat := bitsOf m (32 * i) 32

/-- NDRV. -/
def driveLines (s : State) : Nat :=
  let n := s.rd Reg.KSC_GEOM.NDRV
  if n = 0 ∨ 24 < n then 24 else n

/-- The crosspoints that can read closed: lines that are scanned and read (R199). -/
def geomMask (s : State) : Nat :=
  (List.range (driveLines s)).foldl (fun m d => m + s.rd Reg.KSC_SENSEEN.SENSEEN * 2 ^ (32 * d)) 0

/-- The frame scanner runs. -/
def frameOn (s : State) : Bool := s.on Reg.KSC_CTRL.EN && !s.on Reg.KSC_CTRL.SLEEP

/-- The keyboard is locked. -/
def kbdLocked (s : State) : Bool := s.on Reg.KSC_LOCKCTL.LOCK

/-- Level 2 of the scanner that runs: the matcher's key set (R211). -/
def keyLevel2 (s : State) : Nat := keysLess (if frameOn s then s.kbd.reported else s.kbd.raw) s.kbd.masked

/-! ### Level 0 and stuck keys (R201, R206) -/

/-- Key `k` reads other than its level-0 state: the frames it has done so, and those that are needed. -/
def debounceOf (s : State) (k : Nat) (closed : Bool) : Nat × Nat :=
  (Sparse.get 0 k s.kbd.deb + 1,
    max 1 (if closed then s.rd Reg.KSC_DEB.DBPRESS else s.rd Reg.KSC_DEB.DBREL))

/-- Debounce by a frame's reading: level 0 and the counts. -/
def debounce (reading : Nat) (s : State) : State :=
  let moving := keysOf (reading ^^^ s.kbd.raw)
  let done := moving.filter fun k => (debounceOf s k (reading.testBit k)).2 ≤ (debounceOf s k (reading.testBit k)).1
  let kept := (moving.filter fun k => !done.contains k).map fun k => (k, Sparse.get 0 k s.kbd.deb + 1)
  { s with kbd := { s.kbd with raw := done.foldl (fun m k => m ^^^ 2 ^ k) s.kbd.raw, deb := kept } }

/-- Closure times after a scan with `reading`: a key that is open and reads open restarts its count. -/
def closures (reading : Nat) (s : State) : State :=
  let keep := keysOf (s.kbd.raw ||| reading ||| s.kbd.masked)
  let l := keep.filterMap fun k =>
    match s.kbd.since.lookup k with
    | some t => some (k, t)
    | none => if s.kbd.raw.testBit k then some (k, s.tbase) else none
  { s with kbd := { s.kbd with since := l } }

/-- Masked keys outside `closed` are unmasked. -/
def unmask (closed : Nat) (s : State) : State :=
  let m := s.kbd.masked &&& closed
  if m = s.kbd.masked then s else { s.set Reg.KSC_EVT.STUCKCHG with kbd := { s.kbd with masked := m } }

/-- A key is exempt from masking. -/
def exempt (s : State) (k : Nat) : Bool := (s.rd (Reg.KSC_EXEMPT.EXEMPT (k / 32))).testBit (k % 32)

/-- Keys that have been closed for STUCKTO whole seconds are masked (R206). -/
def stuckMask (s : State) : State :=
  let dst := s.rd Reg.KSC_STUCKCFG.STUCKTO
  let due := s.kbd.since.filter fun p =>
    dst != 0 && decide (dst * 1000000 + p.2 ≤ s.tbase) && !exempt s p.1 && !s.kbd.masked.testBit p.1
  if due.isEmpty then s
  else { s.set Reg.KSC_EVT.STUCKCHG with
    kbd := { s.kbd with masked := due.foldl (fun m p => m ||| 2 ^ p.1) s.kbd.masked } }

/-! ### The ghost filter (R204, R205) -/

/-- Key `k` is a corner of a complete guarded rectangle of the closed set `m`. -/
def corner (s : State) (m k : Nat) : Bool :=
  let d := k / 32
  let g := s.rd Reg.KSC_NODIODE.NODIODE
  let row := keyWord m d
  (List.range 32).any fun s2 =>
    row.testBit s2 && s2 != k % 32 && (g.testBit s2 || g.testBit (k % 32)) &&
      (List.range 24).any fun d2 => d2 != d && m.testBit (32 * d2 + k % 32) && m.testBit (32 * d2 + s2)

/-- Level 1 of a frame. -/
def ghostFilter (s : State) : State :=
  let old := s.kbd.raw &&& s.kbd.reported
  let new := keysOf (keysLess s.kbd.raw s.kbd.reported)
  let w := (new.filter (corner s s.kbd.raw)).foldl (fun m k => m ||| 2 ^ k) 0
  let s := if (w == 0) != (s.kbd.wheld == 0) then s.set Reg.KSC_EVT.GHOSTCHG else s
  { s with kbd := { s.kbd with reported := old ||| keysLess (keysLess s.kbd.raw s.kbd.reported) w, wheld := w } }

/-! ### The lock and its matcher (R210 to R213) -/

/-- NSTEPS. -/
def seqSteps (s : State) : Nat :=
  let n := s.rd Reg.KSC_LOCKCTL.NSTEPS
  if 8 < n then 0 else n

/-- The key fields of chord `i`. -/
def chordFields (s : State) (i : Nat) : List Nat :=
  [s.rd (Reg.KSC_SEQA.KEY0 i), s.rd (Reg.KSC_SEQA.KEY1 i), s.rd (Reg.KSC_SEQA.KEY2 i), s.rd (Reg.KSC_SEQB.KEY3 i)]

/-- Chord `i` can match: a used key, and no index from 768 to 1,022. -/
def chordValid (s : State) (i : Nat) : Bool :=
  let l := (chordFields s i).filter (· != 0x3FF)
  !l.isEmpty && l.all (· < 768)

/-- The keys of chord `i`. -/
def chord (s : State) (i : Nat) : Nat := ((chordFields s i).filter (· < 768)).foldl (fun m k => m ||| 2 ^ k) 0

/-- The time-out of step `i` in microseconds. -/
def stepTimeout (s : State) (i : Nat) : Nat := 100000 * max 1 (s.rd (Reg.KSC_SEQB.STEPTO i))

/-- The back-off in microseconds for FAILS as counted after a failure (R213). -/
def backoffTime (fails : Nat) : Nat := 1000000 * min 4096 (2 ^ (fails - 10))

/-- Set the matcher, and start its timer. -/
def setMatcher (m : MatchState) (s : State) : State := { s with kbd := { s.kbd with matcher := m, timer := s.tbase } }

/-- An unlock: keys closed at level 2 become held-over, FAILS clears, the matcher returns to IDLE. -/
def kbdUnlock (s : State) : State :=
  let held := keyLevel2 s
  let s := setMatcher .idle ((s.clr Reg.KSC_LOCKCTL.LOCK).wr Reg.KSC_LOCKST.FAILS 0)
  { s with kbd := { s.kbd with held := held } }

/-- The matcher unlocks, which is a wake source. -/
def matcherUnlock (s : State) : State :=
  wakeFire Reg.SYS_WAKESTAT.UNLOCK Reg.SYS_WAKEEN.UNLOCK ((kbdUnlock s).set Reg.KSC_EVT.UNLOCKED)

/-- An attempt fails; the count sets the length of the back-off (R213). -/
def matcherFail (s : State) : State :=
  let s := setMatcher .failWait ((s.count Reg.KSC_LOCKST.FAILS).set Reg.KSC_EVT.FAILED)
  { s with kbd := { s.kbd with backoff := backoffTime (s.rd Reg.KSC_LOCKST.FAILS) } }

/-- One move of the matcher (R212). -/
def matcherMove (s : State) : State :=
  let set := keyLevel2 s
  if !kbdLocked s || seqSteps s == 0 then s
  else
    match s.kbd.matcher with
    | .idle => if set = 0 then s else setMatcher (.step 0) s
    | .step i =>
      if chordValid s i && set == chord s i then
        if seqSteps s ≤ i + 1 then matcherUnlock s else setMatcher (.waitRel i) s
      else if keysLess set (chord s i) != 0 then matcherFail s
      else s
    | .waitRel i =>
      if set = 0 then setMatcher (.step (i + 1)) s
      else if keysLess set (chord s i) != 0 then matcherFail s
      else s
    | .failWait =>
      if set = 0 then setMatcher (if s.rd Reg.KSC_LOCKST.FAILS < 10 then .idle else .backoff) s else s
    | .backoff =>
      if set = 0 ∧ s.kbd.timer + s.kbd.backoff ≤ s.tbase then setMatcher .idle s else s

/-- The matcher moves until it rests. -/
def matcherRun (s : State) : State := matcherMove (matcherMove (matcherMove s))

/-- The step timer reaches STEPTO. -/
def stepTimedOut (s : State) : State :=
  match s.kbd.matcher with
  | .step i => if kbdLocked s && decide (s.kbd.timer + stepTimeout s i ≤ s.tbase) then matcherRun (matcherFail s) else s
  | _ => s

/-! ### Scans -/

/-- KPF, if it runs, latches a frame whose results differ from the last frame's (R203): the latched registers take
them, and its window is to be posted.  KPF latches with the frame, though the spec gives it no time.
DESIGN CHOICE (log 86). -/
def kpfLatch (v : KeyView) (s : State) : State :=
  if v = s.kbd.frame ∨ !s.coreUp ∨ s.kpf.state = 0 ∨ s.kpf.state = 3 ∨ s.sys.dbgHalted then s
  else { s with kbd := { s.kbd with latched := v }, kpf := { s.kpf with keyViews := s.kpf.keyViews ++ [v] } }

/-- The frame's result for the registers, and CHANGE (R202, R203). -/
def deliver (s : State) : State :=
  let held := s.kbd.held &&& s.kbd.raw
  let d := if kbdLocked s then 0 else keysLess (keyLevel2 s) held
  let s := if d = s.kbd.frame.deliv then s else s.set Reg.KSC_EVT.CHANGE
  let stat := 1 + 4 * (s.kbd.wheld != 0).toNat + 8 * (s.kbd.masked != 0).toNat + 16 * (kbdLocked s).toNat
  let s := kpfLatch ⟨d, s.kbd.wheld, s.kbd.masked, stat⟩ s
  { s with kbd := { s.kbd with held := held, frame := ⟨d, s.kbd.wheld, s.kbd.masked, stat⟩ } }

/-- A frame of the frame scanner begins: the crosspoints that read closed in it (R200). -/
def frameBegins (keys : List (Fin 768)) (s : State) : State :=
  { s with kbd := { s.kbd with reading := some (keySet keys &&& geomMask s) } }

/-- The four levels and the matcher take a frame's reading (R201 to R206). -/
def keyFrame (reading : Nat) (s : State) : State :=
  let s := debounce reading s
  let s := closures reading (unmask (s.kbd.raw ||| reading) s)
  matcherRun (deliver (ghostFilter s))

/-- The frame ends: the levels are applied, once (R200).  A frame that the sleep scanner's takeover cut off has none. -/
def frameEnds (s : State) : State :=
  match s.kbd.reading with
  | some r => keyFrame r { s with kbd := { s.kbd with reading := none } }
  | none => s

/-- The duration of a frame in microseconds, rounded up (R200). -/
def frameTime (s : State) : Nat := (driveLines s * (s.rd Reg.KSC_CTRL.SETTLE + 2) + 19) / 10

/-- A key wake (R208). -/
def keyWake (fresh : Nat) (s : State) : State :=
  match (keysOf fresh).head? with
  | some k =>
    if !kbdLocked s && s.on Reg.SYS_WAKEEN.KEY then
      wakeFire Reg.SYS_WAKESTAT.KEY Reg.SYS_WAKEEN.KEY ((s.wr Reg.KSC_WAKEKEY.INDEX k).set Reg.KSC_WAKEKEY.VALID)
    else s
  | none => s

/-- The key wake source as a command names it: it fires only with the sleep scanner running, for an unmasked key that
its last sample changed from open to closed (R208). DEDUCED (log 23). -/
def keySource (s : State) : State :=
  if frameOn s || !s.sys.aonOn || s.sys.shipMode then s else keyWake (keysLess s.kbd.fresh s.kbd.masked) s

/-- A sample of the sleep scanner (R207, R208).  Masked crosspoints are read once per second, every fiftieth
sample. -/
def sleepScan (keys : List (Fin 768)) (s : State) : State :=
  if frameOn s || !s.sys.aonOn || s.sys.shipMode then s
  else
    let all := keySet keys &&& geomMask s
    let m := s.kbd.masked
    let now := keysLess all m
    let both := now &&& s.kbd.sample
    let either := now ||| s.kbd.sample
    let raw := (both ||| (keysLess s.kbd.raw m &&& either)) ||| (s.kbd.raw &&& m)
    let fresh := keysLess (keysLess both s.kbd.raw) m
    let n := (s.kbd.samples + 1) % 50
    let s := { s with kbd := { s.kbd with raw := raw, sample := now, samples := n, fresh := fresh } }
    let s := if n = 0 then
        let open_ := keysLess m all
        unmask all { s with kbd := { s.kbd with raw := keysLess s.kbd.raw open_ } }
      else s
    let s := closures all s
    let s := { s with kbd := { s.kbd with held := s.kbd.held &&& s.kbd.raw } }
    matcherRun (keyWake fresh s)

/-- Scanning passes between the scanners, the level-0 state carried over (R208, R209); `was` says that the
frame scanner ran before. -/
def handover (was : Bool) (s : State) : State :=
  if frameOn s && !was then { s with kbd := { s.kbd with deb := [], reported := 0, wheld := 0 } }
  else if was && !frameOn s then
    { s with kbd := { s.kbd with
      deb := [], sample := keysLess s.kbd.raw s.kbd.masked, samples := 0, fresh := 0, reading := none } }
  else s

/-! ### Resets (R215) -/

/-- CORE is lost or reset: the frame scanner stops; `keep` says that the sleep scanner takes its level 0 as
the baseline (R208).  A sleep scanner that runs keeps its state. -/
def kbdCoreLost (was keep : Bool) (s : State) : State :=
  let k := s.kbd
  let k := if was then { k with
      raw := if keep then k.raw else 0, sample := if keep then keysLess k.raw k.masked else 0, samples := 0, fresh := 0 }
    else k
  { s with kbd := { k with
      deb := [], reading := none, reported := 0, wheld := 0, frame := {}, latched := { stuck := k.latched.stuck } } }

/-- A life-cycle change unlocks, clears FAILS and the sequence. -/
def kbdLifeCycle (s : State) : State :=
  let s := ((s.clr Reg.KSC_LOCKCTL.LOCK).wr Reg.KSC_LOCKCTL.NSTEPS 0).wr Reg.KSC_LOCKST.FAILS 0
  let s := (List.range 8).foldl (fun s i =>
    ((((s.wr (Reg.KSC_SEQA.KEY0 i) 0x3FF).wr (Reg.KSC_SEQA.KEY1 i) 0x3FF).wr (Reg.KSC_SEQA.KEY2 i) 0x3FF).wr
      (Reg.KSC_SEQB.KEY3 i) 0x3FF).wr (Reg.KSC_SEQB.STEPTO i) 0) s
  { setMatcher .idle s with kbd := { s.kbd with matcher := .idle, held := 0 } }

/-! ### Registers -/

/-- KSC_LOCKST besides FAILS. -/
def lockStWord (s : State) : Nat :=
  let b := s.kbd.matcher == .backoff
  let m := match s.kbd.matcher with
    | .idle => 0
    | .step i => 1 + 8 * i
    | .waitRel i => 2 + 8 * i
    | .failWait => 3
    | .backoff => 4
  (if !kbdLocked s then 0 else if b then 2 else 1) + 4 * m + s.rd Reg.KSC_LOCKST.FAILS * 2 ^ 8
    + (if b then (s.kbd.timer + s.kbd.backoff - s.tbase) / 1000000 else 0) * 2 ^ 16

/-- A core read of the KSC block. -/
def kscRead (a : Nat) (s : State) : Nat × State :=
  let k := s.kbd
  if a = 0x40060100 then (keyWord k.frame.deliv 0, { s with kbd := { k with latched := k.frame } })
  else if 0x40060104 ≤ a ∧ a < 0x40060160 then (keyWord k.latched.deliv ((a - 0x40060100) / 4), s)
  else if 0x40060180 ≤ a ∧ a < 0x400601E0 then (keyWord k.raw ((a - 0x40060180) / 4), s)
  else if 0x40060200 ≤ a ∧ a < 0x40060260 then (keyWord k.latched.wheld ((a - 0x40060200) / 4), s)
  else if 0x40060280 ≤ a ∧ a < 0x400602E0 then (keyWord k.latched.stuck ((a - 0x40060280) / 4), s)
  else if a = 0x40060004 then (k.latched.stat, s)
  else if a = 0x40060028 then (lockStWord s, s)
  else (s.regWord a, s.clearRc a)

/-- A write of KSC_LOCKCTL (R210, R211). -/
def lockCtlWrite (v : Nat) (s0 : State) : State :=
  let s := if kbdLocked s0 then s0 else s0.wr Reg.KSC_LOCKCTL.NSTEPS (Reg.KSC_LOCKCTL.NSTEPS.of v)
  let s := if Reg.KSC_LOCKCTL.LOCK.of v = 1 ∧ !kbdLocked s then setMatcher .idle (s.set Reg.KSC_LOCKCTL.LOCK) else s
  let s := if Reg.KSC_LOCKCTL.UNLOCK.of v = 1 ∧ kbdLocked s then kbdUnlock s else s
  matcherRun s

/-- A write of the unlock sequence (R211). -/
def seqWrite (a v : Nat) (s : State) : State :=
  if kbdLocked s then s.set Reg.KSC_EVT.SEQERR
  else
    let k := (a - 0x40060400) / 8
    let s := if a % 8 = 0 then
        ((s.wr (Reg.KSC_SEQA.KEY0 k) ((Reg.KSC_SEQA.KEY0 k).of v)).wr (Reg.KSC_SEQA.KEY1 k)
          ((Reg.KSC_SEQA.KEY1 k).of v)).wr (Reg.KSC_SEQA.KEY2 k) ((Reg.KSC_SEQA.KEY2 k).of v)
      else (s.wr (Reg.KSC_SEQB.KEY3 k) ((Reg.KSC_SEQB.KEY3 k).of v)).wr (Reg.KSC_SEQB.STEPTO k)
        ((Reg.KSC_SEQB.STEPTO k).of v)
    if chordValid s k then s else s.set Reg.KSC_EVT.SEQERR

/-- A core write to the KSC block. -/
def kscWrite (a v : Nat) (s : State) : State :=
  if a = 0x40060000 then
    let t := s.regWrite a v
    let x := t.rd Reg.KSC_CTRL.SETTLE
    handover (frameOn s) (t.wr Reg.KSC_CTRL.SETTLE (max 5 (min 100 x)))
  else if a = 0x40060024 then lockCtlWrite v s
  else if 0x40060400 ≤ a ∧ a < 0x40060440 then seqWrite a v s
  else s.regWrite a v

end Sys2Proof.Machine
end

