-- ==== Sys2Proof/Machine/Lpe.lean ====
section
/-! DEFINITION. Icefall's slots: releases, starts, finishes, lateness and overruns (R124 to R133). -/

namespace Sys2Proof.Machine

/-- Slot `n` besides its registers. -/
def slotOf (s : State) (n : Nat) : Slot := Sparse.get {} n s.lpe.slots

/-- Set it. -/
def setSlot (n : Nat) (x : Slot) (s : State) : State :=
  { s with lpe := { s.lpe with slots := Sparse.put {} n x s.lpe.slots } }

/-- The first grid point at or after `x` (R124). -/
def gridFrom (period phase x : Nat) : Nat :=
  if x ≤ phase then phase else phase + (x - phase + period - 1) / period * period

/-- Set bit `n` of a pair of registers indexed by half. -/
def setHalf (f : Nat → Field) (n : Nat) (s : State) : State := s.setBit (f (n / 32)) (n % 32)

/-- The first release (R125): the first grid point at least 2 µs after the later of the EN write and RUN. -/
def firstRelease (n : Nat) (s : State) : State :=
  let x := slotOf s n
  setSlot n { x with next := some (gridFrom (s.rd (Reg.LPE_SPER.PERIOD n)) (s.rd (Reg.LPE_SPH.PHASE n))
    (max (max x.enAt s.lpe.runAt + 2) s.tbase)) } s

/-- Icefall runs. -/
def lpeRuns (s : State) : Bool := s.on Reg.LPE_CTRL.RUN

/-- A slot is enabled (R125). -/
def slotEnable (n : Nat) (s : State) : State :=
  let s := setSlot n { slotOf s n with enAt := s.tbase, next := none } s
  if (slotOf s n).act.isNone then
    let s := s.wr (Reg.LPE_SLAG.LAG n) 0
    if lpeRuns s then firstRelease n s else s
  else s

/-- A slot is disabled (R131): no further release; a release not yet started is withdrawn, a started action
finishes, and LAG becomes 0 then. DESIGN CHOICE (log 126). -/
def slotDisable (n : Nat) (s : State) : State :=
  let x := slotOf s n
  match x.act with
  | some a =>
    if a.started then setSlot n { x with next := none, act := some { a with stale := true } } s
    else ((setSlot n { x with next := none, act := none } s).clr (Reg.LPE_SSTAT.BUSY n)).wr (Reg.LPE_SLAG.LAG n) 0
  | none => (setSlot n { x with next := none } s).wr (Reg.LPE_SLAG.LAG n) 0

/-- The write conditions of R125: EN is refused. -/
def enRefused (s : State) (n : Nat) : Bool :=
  let per := s.rd (Reg.LPE_SPER.PERIOD n)
  per < 10 || per ≤ s.rd (Reg.LPE_SPH.PHASE n) || s.rd (Reg.LPE_SCFG.ACTION n) == 7
    || per < s.rd (Reg.LPE_SMIN.MINPER n)

/-- LOCK holds the RW/L registers of slot `n` (R132). -/
def slotLocked (s : State) (n : Nat) : Bool := s.on Reg.LPE_CTRL.LOCK && s.on (Reg.LPE_SCFG.CRIT n)

/-- A write of one field that may be locked: kept, or written; a refused change sets LOCKERR. -/
def lockedField (locked : Bool) (f : Field) (v : Nat) (s : State) : State :=
  if locked then (if s.rd f = f.of v then s else s.set Reg.LPE_STAT.LOCKERR) else s.wr f (f.of v)

/-- A write of LPE_SCFGn (R125, R131, R132): with EN=1 a changed ACTION alone sets CFGERR. DESIGN CHOICE (log 126). -/
def scfgWrite (n v : Nat) (s0 : State) : State :=
  let l := slotLocked s0 n
  let was := s0.on (Reg.LPE_SCFG.EN n)
  let s := lockedField (s0.on Reg.LPE_CTRL.LOCK) (Reg.LPE_SCFG.CRIT n) v s0
  let s := lockedField l (Reg.LPE_SCFG.EVT n) v s
  let s := lockedField l (Reg.LPE_SCFG.ARG n) v s
  let s := if was && !l then
      (if s0.rd (Reg.LPE_SCFG.ACTION n) = (Reg.LPE_SCFG.ACTION n).of v then s else s.set Reg.LPE_STAT.CFGERR)
    else lockedField l (Reg.LPE_SCFG.ACTION n) v s
  let s := lockedField l (Reg.LPE_SCFG.EN n) v s
  let now := s.on (Reg.LPE_SCFG.EN n)
  if now && !was then
    if enRefused s n then (s.clr (Reg.LPE_SCFG.EN n)).set Reg.LPE_STAT.CFGERR else slotEnable n s
  else if was && !now then slotDisable n s
  else s

/-- A write of another slot register: PERIOD and PHASE are ignored with CFGERR while EN=1 (R131), and in a locked slot
a change sets LOCKERR alone. DESIGN CHOICE (log 126). -/
def slotWrite (n : Nat) (f : Field) (fixed : Bool) (v : Nat) (s : State) : State :=
  if slotLocked s n then lockedField true f v s
  else if fixed && s.on (Reg.LPE_SCFG.EN n) then s.set Reg.LPE_STAT.CFGERR
  else s.wr f (f.of v)

/-- A write of LPE_CTRL: setting RUN starts the enabled slots; a locked CATCHUP is kept with LOCKERR
(R132). -/
def lpeCtrlWrite (v : Nat) (s0 : State) : State :=
  let s := if s0.lockHit 0x40010000 v then s0.set Reg.LPE_STAT.LOCKERR else s0
  let s := s.regWrite 0x40010000 v
  if lpeRuns s && !lpeRuns s0 then
    let s := { s with lpe := { s.lpe with runAt := s.tbase } }
    (List.range 64).foldl (fun s n =>
      if s.on (Reg.LPE_SCFG.EN n) && (slotOf s n).act.isNone then firstRelease n s else s) s
  else s

/-! ### Release, start and finish -/

/-- A release at its time r (R128): d is fixed from LAG, CATCHUP and MINPER, and the values of the slot's
registers are taken (R131). -/
def release (n r : Nat) (s : State) : State :=
  let per := s.rd (Reg.LPE_SPER.PERIOD n)
  let lag := s.rd (Reg.LPE_SLAG.LAG n)
  let d := min lag (min (per * s.rd Reg.LPE_CTRL.CATCHUP / 16) (per - max 10 (s.rd (Reg.LPE_SMIN.MINPER n))))
  let a : SlotAct :=
    { action := s.rd (Reg.LPE_SCFG.ACTION n), arg := s.rd (Reg.LPE_SCFG.ARG n), evt := s.on (Reg.LPE_SCFG.EVT n)
      maxlag := s.rd (Reg.LPE_SMAX.MAXLAG n), budget := s.rd (Reg.LPE_SBUD.BUDGET n), released := r
      started := false, due := 0, stale := false }
  ((setSlot n { slotOf s n with next := some (r + per - d), act := some a } s).wr (Reg.LPE_SLAG.LAG n)
    (lag - d)).set (Reg.LPE_SSTAT.BUSY n)

/-- SLOT_RELEASE: slot `n` is released once TBASE reaches its release time and its last action has
finished. DESIGN CHOICE (log 37). -/
def slotRelease (n : Nat) (s : State) : State :=
  match (slotOf s n).next, (slotOf s n).act with
  | some r, none => if r ≤ s.tbase && lpeRuns s && s.on (Reg.LPE_SCFG.EN n) then release n r s else s
  | _, _ => s

/-- The hardware unit of an action (R126, R127): none for a core event. -/
def unitOf (a : SlotAct) : Option (Nat × Nat) :=
  match a.action with
  | 0 => none
  | 2 => some (2, a.arg % 4)
  | 6 => some (6, a.arg % 4)
  | k => some (k, 0)

/-- Slot `m`'s action stands in the way of slot `n`'s, which wants unit `u`: it runs there, or it waits there
and is the lower-numbered one. -/
def blocksStart (s : State) (u : Nat × Nat) (n m : Nat) : Bool :=
  match (slotOf s m).act with
  | some a => m != n && unitOf a == some u && (a.started || m < n)
  | none => false

/-- The released action of slot `n` may start now (R126). DESIGN CHOICE (log 37). -/
def canStart (s : State) (n : Nat) : Option SlotAct :=
  match (slotOf s n).act with
  | some a =>
    if a.started then none
    else
      match unitOf a with
      | none => some a
      | some u => if (List.range 64).any (blocksStart s u n) then none else some a
  | none => none

/-- The action of slot `n` starts and takes `dur` microseconds. -/
def markStarted (n : Nat) (a : SlotAct) (dur : Nat) (s : State) : State :=
  setSlot n { slotOf s n with act := some { a with started := true, due := s.tbase + dur } } s

/-- An overrun (R129): `lag` is the lag with the lateness added, `stood` the grid point that the missed
release stood for. -/
def overrun (n f lag stood : Nat) (s : State) : State :=
  let per := s.rd (Reg.LPE_SPER.PERIOD n)
  let s := (setHalf Reg.LPE_OVR.SLOT n s).count (Reg.LPE_SSTAT.OVRCNT n)
  let s := s.count (Reg.LPE_SSTAT.SKIPCNT n) ((f - stood + per - 1) / per)
  (s.hwLog 0x02 3 1 ([n, 0, 0, 0] ++ bytes4 lag)).wr (Reg.LPE_SLAG.LAG n) 0

/-- The next release after a finish at time `f` (R128). -/
def reschedule (n f next maxlag : Nat) (s : State) : State :=
  if f ≤ next then s
  else
    let before := s.rd (Reg.LPE_SLAG.LAG n)
    let lag := before + (f - next)
    if maxlag < lag then
      let s := overrun n f lag (next - before) s
      setSlot n { slotOf s n with
        next := some (gridFrom (s.rd (Reg.LPE_SPER.PERIOD n)) (s.rd (Reg.LPE_SPH.PHASE n)) f) } s
    else setSlot n { slotOf s n with next := some f } (s.wr (Reg.LPE_SLAG.LAG n) lag)

/-- The action `a` of slot `n` finishes now; `noblk` says that its block was off (R127 to R131). -/
def finishSlot (n : Nat) (a : SlotAct) (noblk : Bool) (s : State) : State :=
  let f := s.tbase
  let s := (s.clr (Reg.LPE_SSTAT.BUSY n)).wrB (Reg.LPE_SSTAT.NOBLK n) noblk
  let s := if a.budget ≠ 0 ∧ a.budget < f - a.released then s.count (Reg.LPE_SSTAT.BUDGETX n) else s
  let s := if a.evt || a.action == 0 then setHalf Reg.LPE_EVT.SLOT n s else s
  let s := setSlot n { slotOf s n with act := none } s
  if a.stale then
    let s := s.wr (Reg.LPE_SLAG.LAG n) 0
    if s.on (Reg.LPE_SCFG.EN n) && lpeRuns s then firstRelease n s else s
  else
    match (slotOf s n).next with
    | some next => reschedule n f next a.maxlag s
    | none => s

/-! ### Registers -/

/-- LPE_STAT. -/
def lpeStatWord (s : State) : Nat :=
  let s := s.wrB Reg.LPE_STAT.RUNNING (lpeRuns s)
  let s := s.wrB Reg.LPE_STAT.ANYOVR (s.rd (Reg.LPE_OVR.SLOT 0) != 0 || s.rd (Reg.LPE_OVR.SLOT 1) != 0)
  (s.wr Reg.LPE_STAT.ACTIVE (((List.range 64).filter fun n => s.on (Reg.LPE_SCFG.EN n)).length)).regWord 0x40010004

/-- A read of LPE_NOWLO returns TBASE [31:0] and latches the upper half (R124). -/
def nowLoRead (s : State) : Nat × State :=
  (s.tbase % 2 ^ 32, s.wr Reg.LPE_NOWHI.NOWHI (s.tbase / 2 ^ 32))

/-- A core read of the LPE block. -/
def lpeRead (a : Nat) (s : State) : Nat × State :=
  match a with
  | 0x40010004 => (lpeStatWord s, s)
  | 0x40010008 => nowLoRead s
  | _ => (s.regWord a, s.clearRc a)

/-- A core write to the LPE block. -/
def lpeWrite (a v : Nat) (s : State) : State :=
  if a = 0x40010000 then lpeCtrlWrite v s
  else if a < 0x40011000 ∨ 0x40011800 ≤ a then s.regWrite a v
  else
    let n := (a - 0x40011000) / 0x20
    match a % 0x20 with
    | 0x00 => scfgWrite n v s
    | 0x04 => slotWrite n (Reg.LPE_SPER.PERIOD n) true v s
    | 0x08 => slotWrite n (Reg.LPE_SPH.PHASE n) true v s
    | 0x0C => slotWrite n (Reg.LPE_SMIN.MINPER n) false v s
    | 0x10 => slotWrite n (Reg.LPE_SMAX.MAXLAG n) false v s
    | 0x14 => slotWrite n (Reg.LPE_SBUD.BUDGET n) false v s
    | _ => s

end Sys2Proof.Machine
end

