-- ==== Sys2Proof/Machine/Link.lean ====
section
/-! DEFINITION. The HOST domain: posts, promotion and the host view (R52 to R70), the EC server (R90 to R96),
the mailbox tag logic (R97 to R111), the bulk port (R114 to R123), and the target-to-host wires. -/

namespace Sys2Proof.Machine

/-- HOST is powered. -/
def State.hostOn (s : State) : Bool := s.on Reg.HOST_STAT.HOSTPWR

/-! ### Levels of the window event and SCI_N (R67 to R70, R95) -/

/-- Put a group on the list of those to fetch, in rising order. -/
def addGroup (g : Nat) (l : List Nat) : List Nat :=
  if l.contains g then l else l.filter (· < g) ++ [g] ++ l.filter (g < ·)

/-- EVSTAT bits that a post carries. -/
def Post.evBits (p : Post) : Nat :=
  Sparse.get 0 8 p.bytes + 2 ^ 8 * Sparse.get 0 9 p.bytes + 2 ^ 16 * Sparse.get 0 10 p.bytes
    + 2 ^ 24 * Sparse.get 0 11 p.bytes

/-- The pending posts are promoted at the next snapshot edge for certain: one of them closed at least tPSU before, or
an edge has left them (R56). DESIGN CHOICE (log 31). -/
def postSure (s : State) : Bool := s.link.closedSure || s.link.closedAt < s.tbase

/-- A hold is active, or has been committed and begins at the next snapshot edge (R60). DEDUCED (log 105). -/
def holdStands (s : State) : Bool := s.on Reg.HOST_STAT.HOLD || s.on Reg.HW_HOSTCTL.HOLD

/-- EVSTAT in the view that the next snapshot edge will present; posts that are held, or that need not be ready at that
edge, do not count (R67, R69, R70). DEDUCED (log 105). -/
def nextEvstat (s : State) : Nat :=
  match s.link.closed with
  | some p => if holdStands s || !postSure s then s.rd Reg.HW_EVSTAT.EVSTAT
              else s.rd Reg.HW_EVSTAT.EVSTAT ||| p.evBits
  | none => s.rd Reg.HW_EVSTAT.EVSTAT

/-- The window event (R67). -/
def windowEvent (s : State) : Bool := s.hostOn && (nextEvstat s &&& s.rd Reg.HW_EVMASK.EVMASK) != 0

/-- A change of the window event's wire on interrupt `n`; wire 0 is no wire (R68).  A change that is undone before the
host fetches it is sent all the same, both levels in their order. DESIGN CHOICE (log 106). -/
def irqChange (n : Nat) (level : Bool) (l : Link) : Link :=
  if n = 0 then l else { l with irqChanges := l.irqChanges ++ [(n, level)] }

/-- SCI_N is asserted while any of the three conditions of R95 holds. -/
def sciLevel (s : State) : Bool :=
  s.hostOn && (!s.ec.qq.isEmpty || (s.on Reg.EC_STATUS.OBF && s.on Reg.MBX_CTRL.OBFSCI)
    || s.on Reg.HOST_VWOUT.SCI)

/-- The wires follow their conditions, every change offered to the host (R68, R74, R95). -/
def settle (s : State) : State :=
  let ev := windowEvent s
  let sci := sciLevel s
  let l := s.link
  let l := if ev = l.eventOn then l else { irqChange (s.rd Reg.CFG_IRQSEL.IRQSEL) ev l with eventOn := ev }
  let l := if sci = l.sciOn then l else { l with sciOn := sci, groups := addGroup 6 l.groups }
  { s with link := l }

/-- A target-to-host wire changed: its group is offered (R74). -/
def offer (g : Nat) (s : State) : State := { s with link := { s.link with groups := addGroup g s.link.groups } }

/-! ### Posts (R55, R56, R64, R65) -/

/-- Later bytes prevail, but EVSTAT's bits are ORed (R56). -/
def mergeByte (bs : List (Nat × Nat)) (p : Nat × Nat) : List (Nat × Nat) :=
  if 8 ≤ p.1 ∧ p.1 ≤ 11 then Sparse.put 256 p.1 (Sparse.get 0 p.1 bs ||| p.2) bs
  else Sparse.put 256 p.1 p.2 bs

/-- One post from an earlier and a later one. -/
def Post.merge (p q : Post) : Post :=
  { bytes := q.bytes.foldl mergeByte p.bytes, pushes := p.pushes ++ q.pushes, dones := p.dones ++ q.dones }

/-- Distinct bytes a post takes in the post buffer; MBX_DONE takes none (R56, R101).  A query code and a byte of the EC
output buffer take one each. DESIGN CHOICE (log 106). -/
def Post.size (p : Post) : Nat := p.bytes.length + p.pushes.length

/-- Close a post: discarded while HOST is off, discarded for capacity, or merged into the pending one, with which it is
promoted (R56, R65). -/
def closePost (p : Post) (s : State) : State :=
  if !s.hostOn then s.set Reg.HOST_POST.DROPPED
  else
    let q := (s.link.closed.getD {}).merge p
    if 512 < q.size then s.set Reg.HOST_POST.FULL
    else
      let l := if s.link.closed.isSome then { s.link with closed := some q }
               else { s.link with closed := some q, closedAt := s.tbase, closedSure := false }
      settle ({ s with link := l }.set Reg.HOST_POST.PENDING)

/-- HOST_POST.CLOSE. -/
def postClose (s : State) : State :=
  match s.link.opened with
  | none => s
  | some p => closePost p ({ s with link := { s.link with opened := none } }.clr Reg.HOST_POST.OPEN)

/-- HOST_POST.ABORT, and the discards that set nothing (R64). -/
def postAbort (s : State) : State :=
  { s with link := { s.link with opened := none } }.clr Reg.HOST_POST.OPEN

/-- HOST_POST.OPEN: an empty post is open; one already open stays as it is. -/
def postOpen (s : State) : State :=
  match s.link.opened with
  | some _ => s
  | none => { s with link := { s.link with opened := some {} } }.set Reg.HOST_POST.OPEN

/-- A write of HOST_POST: CLOSE or ABORT act first, then OPEN; FULL and DROPPED are W1C (R55).  With CLOSE and ABORT both
set the post is closed. DESIGN CHOICE (log 106). -/
def hostPostWrite (v : Nat) (s : State) : State :=
  let s := if Reg.HOST_POST.FULL.of v = 1 then s.clr Reg.HOST_POST.FULL else s
  let s := if Reg.HOST_POST.DROPPED.of v = 1 then s.clr Reg.HOST_POST.DROPPED else s
  let s := if Reg.HOST_POST.CLOSE.of v = 1 then postClose s
           else if Reg.HOST_POST.ABORT.of v = 1 then postAbort s else s
  if Reg.HOST_POST.OPEN.of v = 1 then postOpen s else s

/-- Something to post joins the open post, or is a post of its own, closed at once (R55, R101).  Within one open post
EVSTAT's bits are ORed, as those of merged posts are. DESIGN CHOICE (log 106). -/
def postItem (q : Post) (s : State) : State :=
  match s.link.opened with
  | some p => { s with link := { s.link with opened := some (p.merge q) } }
  | none => closePost q s

/-- The four bytes of a word at consecutive keys. -/
def wordBytes (k v : Nat) : List (Nat × Nat) :=
  [(k, v % 256), (k + 1, v / 2 ^ 8 % 256), (k + 2, v / 2 ^ 16 % 256), (k + 3, v / 2 ^ 24 % 256)]

/-- A core write to the host-window aperture at window offset `off` (R55). -/
def apertureWrite (off v : Nat) (s : State) : State := postItem { bytes := wordBytes off v } s

/-! ### Mailbox tag logic (R97 to R107) -/

/-- Address of byte `i` of mailbox `t` in mailbox RAM. -/
def boxAddr (t i : Nat) : Nat := mbxBase + 0x200 * t + i

/-- Tag states. -/
def tagFree : Nat := 0
def tagRung : Nat := 1
def tagOwned : Nat := 2
def tagDone : Nat := 3

/-- The state of tag `t`. -/
def tagState (s : State) (t : Nat) : Nat := s.rd (Reg.MBX_TAGINFO.STATE t)

/-- SEQ and CMD in the header of tag `t`. -/
def boxSeq (s : State) (t : Nat) : Nat := s.loadNat (boxAddr t 0) 2
def boxCmd (s : State) (t : Nat) : Nat := s.loadNat (boxAddr t 2) 2
def boxLen (s : State) (t : Nat) : Nat := s.loadNat (boxAddr t 4) 2

/-- FLAGS.DUP of tag `t`. -/
def setDup (t : Nat) (b : Bool) (s : State) : State :=
  s.setByte (boxAddr t 6) (BitVec.ofNat 8 ((s.byte (boxAddr t 6)).toNat % 16 + 16 * b.toNat))

/-- Tag `t` leaves REPLAY. -/
def endReplay (t : Nat) (s : State) : State :=
  { s with mbx := { s.mbx with replay := s.mbx.replay.filter (· != t) } }

/-- Tag `t` is in REPLAY. -/
def inReplay (s : State) (t : Nat) : Bool := s.mbx.replay.contains t

/-- RVALID cleared; REPLAY ends with it (R104). -/
def clearRvalid (t : Nat) (s : State) : State := endReplay t (s.clr (Reg.MBX_TAGINFO.RVALID t))

/-- A result given by the tag logic: RESULT, RLEN 0, DUP and RVALID clear, HWANS counts (R99, R105). -/
def hwAnswer (t result : Nat) (s : State) : State :=
  let s := (s.setByte (boxAddr t 7) (BitVec.ofNat 8 result)).storeNat (boxAddr t 8) 2 0
  (clearRvalid t (setDup t false s)).count Reg.MBX_CNT.HWANS |>.wr (Reg.MBX_TAGINFO.STATE t) tagDone

/-- A RUNG tag answered BUSY because FWREADY fell; a resend keeps its mark (R99, R107). -/
def busyRung (t : Nat) (s : State) : State :=
  if tagState s t = tagRung then
    let s := hwAnswer t 2 s
    if s.on (Reg.MBX_TAGINFO.RESEND t) then
      (s.set (Reg.MBX_TAGINFO.CORRUPTED t)).clr (Reg.MBX_TAGINFO.RESEND t)
    else s
  else s

/-- The doorbell of tag `t` (R99), its conditions in the order of the table. -/
def ring (t : Nat) (s : State) : State :=
  if tagState s t = tagFree ∨ tagState s t = tagDone then
    if inReplay s t then
      (((endReplay t (setDup t true s)).count Reg.MBX_CNT.DUP).set Reg.MBX_EVT.DUP).wr
        (Reg.MBX_TAGINFO.STATE t) tagDone
    else if 496 < boxLen s t then hwAnswer t 4 s
    else if !s.on Reg.HW_MBXCTL.FWREADY then hwAnswer t 2 s
    else
      let s := (setDup t false s).wrB (Reg.MBX_TAGINFO.RESEND t) (s.on (Reg.MBX_TAGINFO.CORRUPTED t))
      ((s.clr (Reg.MBX_TAGINFO.CORRUPTED t)).wr (Reg.MBX_TAGINFO.STATE t) tagRung).set Reg.MBX_EVT.RING
  else s

/-- The host clears COMPLETE of tag `t`: a DONE tag becomes FREE. -/
def clearComplete (t : Nat) (s : State) : State :=
  if tagState s t = tagDone then s.wr (Reg.MBX_TAGINFO.STATE t) tagFree else s

/-- The comparison at a commit that writes header bytes 0 to 3 of tag `t` (R104, R107). -/
def compareHeader (t : Nat) (s : State) : State :=
  let same := boxSeq s t == s.rd (Reg.MBX_TAGINFO.LASTSEQ t) && boxCmd s t == s.rd (Reg.MBX_TAGCMD.LASTCMD t)
  let s := if same then s else s.clr (Reg.MBX_TAGINFO.CORRUPTED t)
  if same && s.on (Reg.MBX_TAGINFO.RVALID t) then
    { s with mbx := { s.mbx with replay := t :: s.mbx.replay.filter (· != t) } }
  else clearRvalid t s

/-- A header byte of a request that the host writes: SEQ, CMD, LEN, FLAGS[3:0], AUX (R97). -/
def headerWrite (t i : Nat) (b : Byte) (s : State) : State :=
  if i < 6 ∨ (12 ≤ i ∧ i < 16) then s.setByte (boxAddr t i) b
  else if i = 6 then
    s.setByte (boxAddr t 6) (BitVec.ofNat 8 ((s.byte (boxAddr t 6)).toNat / 16 * 16 + b.toNat % 16))
  else s

/-- Host writes to buffer `t` in one commit (window offset and byte): header bytes, the comparison, then
payload bytes (R98, R104). -/
def boxWrites (t : Nat) (ws : List (Nat × Byte)) (s : State) : State :=
  if tagState s t = tagFree ∨ tagState s t = tagDone then
    let hs := ws.filter (fun w => w.1 % 0x200 < 16)
    let ps := ws.filter (fun w => 16 ≤ w.1 % 0x200)
    let s := hs.foldl (fun s w => headerWrite t (w.1 % 0x200) w.2 s) s
    let s := if hs.any (fun w => w.1 % 0x200 < 4) then compareHeader t s else s
    if ps.isEmpty || inReplay s t then s
    else ps.foldl (fun s w => s.setByte (boxAddr t (w.1 % 0x200)) w.2) (clearRvalid t s)
  else s

/-- Completion of tag `t` at the promotion of its MBX_DONE (R99, R101). -/
def completeTag (d : Nat × Bool) (s : State) : State :=
  let t := d.1
  if tagState s t = tagOwned then
    let s := (s.wr (Reg.MBX_TAGINFO.LASTSEQ t) (boxSeq s t)).wr (Reg.MBX_TAGCMD.LASTCMD t) (boxCmd s t)
    ((s.wrB (Reg.MBX_TAGINFO.RVALID t) (!d.2)).clr (Reg.MBX_TAGINFO.RESEND t)).wr
      (Reg.MBX_TAGINFO.STATE t) tagDone
  else s.set Reg.MBX_STAT.DONEERR

/-- A write of MBX_DONE: tested at the write, joined to a post (R101). -/
def mbxDone (t : Nat) (nostore : Bool) (s : State) : State :=
  if tagState s t = tagOwned then postItem { dones := [(t, nostore)] } s else s.set Reg.MBX_STAT.DONEERR

/-- A write of MBX_TAKE: RUNG tags named by a 1 become OWNED (R99), in ascending order (R381). -/
def mbxTake (v : Nat) (s : State) : State :=
  (List.range 8).foldl (fun s t =>
    if v.testBit t && tagState s t == tagRung then
      { s.wr (Reg.MBX_TAGINFO.STATE t) tagOwned with mbx := { s.mbx with taken := s.mbx.taken ++ [t] } }
    else s) s

/-- The FWREADY that the tag logic uses falls: RUNG tags become DONE at the next snapshot edge (R99). -/
def fwReadyDown (s : State) : State :=
  { s with mbx := { s.mbx with busy := (List.range 8).filter (fun t => tagState s t == tagRung) } }.clr
    Reg.HW_MBXCTL.FWREADY

/-- A write of MBX_CTRL: the tag logic follows FWREADY (R100), and OBFSCI acts on SCI_N. -/
def mbxCtrlWrite (v : Nat) (s : State) : State :=
  let s' := s.regWrite 0x400D0000 v
  let s' := if s'.on Reg.MBX_CTRL.FWREADY then
              (if s.hostOn then s'.set Reg.HW_MBXCTL.FWREADY else s')
            else if s.on Reg.HW_MBXCTL.FWREADY then fwReadyDown s' else s'
  settle s'

/-- A core write to mailbox RAM: RESULT, RLEN and payload bytes of an OWNED buffer (R101). -/
def directWrite (off v : Nat) (s : State) : State :=
  let t := off / 0x200
  if tagState s t = tagOwned then
    (wordBytes (off % 0x200) v).foldl (fun s w =>
      if w.1 = 7 ∨ w.1 = 8 ∨ w.1 = 9 ∨ 16 ≤ w.1 then s.setByte (boxAddr t w.1) (BitVec.ofNat 8 w.2) else s) s
  else s.set Reg.MBX_STAT.WRERR

/-- A core read of mailbox RAM; a parity error is flagged and raises nothing (R108). -/
def directRead (off : Nat) (s : State) : Nat × State :=
  (s.loadNat (mbxBase + off) 4,
    match s.firstBad (mbxBase + off) 4 with
    | some _ => (s.set Reg.MBX_STAT.REQPAR).set Reg.ERR_MEMSTAT.MBXRAM
    | none => s)

/-! ### EC server (R90 to R96) -/

/-- Load the output buffer; OBF is set. -/
def ecLoad (b : Byte) (s : State) : State := { s with ec := { s.ec with out := b } }.set Reg.EC_STATUS.OBF

/-- A pair enters the EC write queue, or is held while the queue is full (R91, R92). -/
def ecQueueWrite (a d : Byte) (s : State) : State :=
  if s.ec.wq.length < 16 then
    let s' := { s with ec := { s.ec with wq := s.ec.wq ++ [(a, d)], held := none } }
    if s.ec.wq.isEmpty then s'.set Reg.MBX_EVT.ECWQ else s'
  else { s with ec := { s.ec with held := some (a, d) } }.set Reg.EC_STATUS.IBF

/-- A byte is forwarded to firmware (R91, R92). -/
def ecForward (b : Byte) (cmd : Bool) (s : State) : State :=
  let s' := { s with ec := { s.ec with inq := s.ec.inq ++ [(b, cmd)] } }.set Reg.EC_STATUS.IBF
  if s.ec.inq.isEmpty then s'.set Reg.MBX_EVT.ECIN else s'

/-- A committed write to the EC command port (R91). -/
def ecCommand (b : Byte) (s : State) : State :=
  let ph (p : EcPhase) (s : State) : State := { s with ec := { s.ec with phase := p } }
  match b.toNat with
  | 0x80 => ph .rdAddr s
  | 0x81 => ph .wrAddr s
  | 0x82 => (ecLoad 0x90 (ph .idle s)).set Reg.EC_STATUS.BURST
  | 0x83 => (ph .idle s).clr Reg.EC_STATUS.BURST
  | 0x84 =>
    match s.ec.qq with
    | [] => ecLoad 0 (ph .idle s)
    | q :: qs => ecLoad q (ph .idle { s with ec := { s.ec with qq := qs } })
  | _ => ecForward b true (ph .forward s)

/-- A committed write to the EC data port (R91).  A byte that no command awaits is consumed and has no effect.
DESIGN CHOICE (log 106). -/
def ecData (b : Byte) (s : State) : State :=
  match s.ec.phase with
  | .idle => s
  | .rdAddr => ecLoad (Sparse.get 0 b.toNat s.ec.image) { s with ec := { s.ec with phase := .idle } }
  | .wrAddr => { s with ec := { s.ec with phase := .wrData b } }
  | .wrData a => ecQueueWrite a b { s with ec := { s.ec with phase := .idle } }
  | .forward => ecForward b false s

/-- A committed host write to an EC port; a byte written while IBF=1 is dropped (R90, R92). -/
def ecPortWrite (isCmd : Bool) (b : Byte) (s : State) : State :=
  if s.on Reg.EC_STATUS.IBF then s.set Reg.MBX_STAT.ECOVR
  else
    let s := s.wrB Reg.EC_STATUS.CMD isCmd
    settle (if isCmd then ecCommand b s else ecData b s)

/-- The EC status byte (R90). -/
def ecStatus (s : State) : Nat :=
  s.rd Reg.EC_STATUS.OBF + 2 * s.rd Reg.EC_STATUS.IBF + 8 * s.rd Reg.EC_STATUS.CMD
    + 16 * s.rd Reg.EC_STATUS.BURST + 32 * (!s.ec.qq.isEmpty).toNat

/-- A core read of MBX_ECIN takes the oldest forwarded byte. -/
def ecInRead (s : State) : Nat × State :=
  match s.ec.inq with
  | [] => (0, s)
  | (b, c) :: rest => (b.toNat + 256 * c.toNat + 512, { s with ec := { s.ec with inq := rest } })

/-- A core read of MBX_ECWQ takes the oldest pair; a held pair then enters the queue. -/
def ecWqRead (s : State) : Nat × State :=
  match s.ec.wq with
  | [] => (0, s)
  | (a, d) :: rest =>
    let s := { s with ec := { s.ec with wq := rest } }
    (a.toNat + 256 * d.toNat + 65536,
      match s.ec.held with
      | some (a', d') => ecQueueWrite a' d' s
      | none => s)

/-! ### Bulk port (R114 to R122) -/

/-- Bytes in the write FIFO. -/
def wfill (s : State) : Nat := (s.bulk.wfifo.filter (fun i => match i with | .byte .. => true | .close _ => false)).length

/-- Free bytes of the write FIFO. -/
def bulkCredit (s : State) : Nat := 4096 - wfill s

/-- The selected target; 7 acts as 0 (R114). -/
def bulkTarget (s : State) : Nat := if s.rd Reg.HW_BULK_TARGET.TARGET = 7 then 0 else s.rd Reg.HW_BULK_TARGET.TARGET

/-- Targets 1 to 3 are drained by the bulk mover. -/
def moverTarget (t : Nat) : Bool := 1 ≤ t && t ≤ 3

/-- Firmware targets: 4 to 6. -/
def fwTarget (t : Nat) : Bool := 4 ≤ t && t ≤ 6

/-- First address beyond the target's range, where the hardware checks one (R114). -/
def bulkLimit (t : Nat) : Option Nat :=
  match t with
  | 1 | 2 => some 65536
  | 3 => some 1536
  | 5 => some 524288
  | _ => none

/-- OVF, PARERR or RANGE is set (R120). -/
def bulkErr (s : State) : Bool :=
  s.on Reg.HW_BULK_STAT.OVF || s.on Reg.HW_BULK_STAT.PARERR || s.on Reg.HW_BULK_STAT.RANGE

/-- The free space rose to half or more from below (R122). -/
def creditHalf (before : Nat) (s : State) : State :=
  if before < 2048 ∧ 2048 ≤ bulkCredit s then s.set Reg.MBX_EVT.CREDITHALF else s

/-- Flush both FIFOs and cancel any unit not closed (R87, R120). -/
def bulkFlush (s : State) : State :=
  creditHalf (bulkCredit s)
    ({ s with bulk := { s.bulk with wfifo := [], rfifo := [], closeReq := false, placeErr := false } }.clr
      Reg.HW_BULK_STAT.UNITOPEN)

/-- Clear the bulk overflow and error bits (R87, R120). -/
def bulkClearErr (s : State) : State :=
  (((s.clr Reg.HW_BULK_STAT.OVF).clr Reg.HW_BULK_STAT.PARERR).clr Reg.HW_BULK_STAT.RANGE).clr Reg.HW_BULK_STAT.UNDER

/-- Clear the bulk error and outcome bits (R120). -/
def bulkClearStat (s : State) : State :=
  ((bulkClearErr s).clr Reg.HW_BULK_STAT.CLOSED).clr Reg.HW_BULK_STAT.INCOMPLETE

/-- The unit that firmware was serving is over: its part of it is forgotten (R375). -/
def unitOver (s : State) : State := { s with kpf := { s.kpf with unit := [], logPos := none } }

/-- A commit that writes BULK_TARGET (R120). -/
def bulkSetTarget (v : Nat) (s : State) : State :=
  (bulkClearStat (bulkFlush (unitOver s))).wr Reg.HW_BULK_TARGET.TARGET v

/-- A commit that writes BULK_ADDR: accepted only while the write FIFO is empty; it cancels an open unit, and no other,
and a readout begins anew at it (R114, R120). -/
def bulkSetAddr (v : Nat) (s : State) : State :=
  if wfill s = 0 then
    let s := if s.on Reg.HW_BULK_STAT.UNITOPEN then unitOver s
             else { s with kpf := { s.kpf with logPos := none } }
    (s.wr Reg.HW_BULK_ADDR.ADDR v).clr Reg.HW_BULK_STAT.UNITOPEN
  else s.set Reg.HW_BULK_STAT.OVF

/-- One accepted byte enters the write FIFO, opening a unit at BULK_ADDR if none is open; a byte beyond the
target's range is dropped and sets RANGE (R114, R115, R119). -/
def bulkByte (b : Byte) (s : State) : State :=
  let t := bulkTarget s
  if t = 0 then s
  else
    let s := if s.on Reg.HW_BULK_STAT.UNITOPEN then s
             else { s with bulk := { s.bulk with next := s.rd Reg.HW_BULK_ADDR.ADDR } }.set Reg.HW_BULK_STAT.UNITOPEN
    let a := s.bulk.next
    if (bulkLimit t).any (fun n => decide (n ≤ a)) then s.set Reg.HW_BULK_STAT.RANGE
    else
      let s := { s with bulk := { s.bulk with wfifo := s.bulk.wfifo ++ [.byte b a false], next := (a + 1) % 2 ^ 32 } }
      if fwTarget t then s.set Reg.MBX_EVT.BULKW else s

/-- Data-window bytes of one commit: accepted whole up to `credit`, the CREDIT of the transaction's snapshot edge,
dropped whole otherwise (R116, R120). -/
def bulkData (credit : Nat) (bs : List Byte) (s : State) : State :=
  if bs.isEmpty || bulkErr s then s
  else if credit < bs.length then s.set Reg.HW_BULK_STAT.OVF
  else bs.foldl (fun s b => bulkByte b s) s

/-- A commit with 1 in BULK_CTL.CLOSE ends the open unit (R119); CLOSED falls until this close has completed.
DEDUCED (log 100). -/
def bulkClose (s : State) : State :=
  if s.on Reg.HW_BULK_STAT.UNITOPEN then
    let s := (s.clr Reg.HW_BULK_STAT.UNITOPEN).clr Reg.HW_BULK_STAT.CLOSED
    if moverTarget (bulkTarget s) then
      { s with bulk := { s.bulk with wfifo := s.bulk.wfifo ++ [.close (bulkErr s)] } }
    else { s with bulk := { s.bulk with closeReq := true } }.set Reg.MBX_EVT.BULKCLOSE
  else s

/-- A byte with bad parity leaves a FIFO (R121). -/
def bulkParity (s : State) : State :=
  ((s.set Reg.HW_BULK_STAT.PARERR).set Reg.MBX_EVT.BULKPAR).set Reg.ERR_MEMSTAT.BULKFIFO

/-- Address of the next byte to be placed. -/
def bulkNext (s : State) : Nat :=
  match s.bulk.wfifo.find? (fun i => match i with | .byte .. => true | .close _ => false) with
  | some (.byte _ a _) => a
  | _ => if s.on Reg.HW_BULK_STAT.UNITOPEN then s.bulk.next else s.rd Reg.HW_BULK_ADDR.ADDR

/-- Take up to `n` bytes of the write FIFO for firmware, stopping at a parity error (R118, R121). -/
def bulkTake (s : State) : Nat → List Byte × State
  | 0 => ([], s)
  | n + 1 =>
    match s.bulk.wfifo with
    | .byte b _ bad :: rest =>
      if bad then ([], bulkParity { s with bulk := { s.bulk with wfifo := [] } })
      else
        let r := bulkTake { s with bulk := { s.bulk with wfifo := rest } } n
        (b :: r.1, r.2)
    | _ => ([], s)

/-- A core read of MBX_BULKRD: the next 4 bytes for a firmware target; missing bytes read 0x00.  With another target
selected it reads 0 and removes nothing. DESIGN CHOICE (log 124). -/
def bulkRd (s : State) : Nat × State :=
  if fwTarget (bulkTarget s) then
    let r := bulkTake s 4
    (leNat r.1, creditHalf (bulkCredit s) r.2)
  else (0, s)

/-- A core write of MBX_BULKWR: 4 bytes into the read FIFO, dropped when fewer than 4 are free. -/
def bulkWr (v : Nat) (s : State) : State :=
  if s.hostOn && s.bulk.rfifo.length + 4 ≤ 4096 then
    { s with bulk := { s.bulk with rfifo := s.bulk.rfifo ++ (leBytes 4 v).map (fun b => (b, false)) } }
  else s

/-- A core write of MBX_BULKACK: firmware completes the close of a firmware-target unit (R119). -/
def bulkAck (closed incomplete : Bool) (s : State) : State :=
  if closed && s.bulk.closeReq then
    ({ s with bulk := { s.bulk with closeReq := false } }.set Reg.HW_BULK_STAT.CLOSED).wrB
      Reg.HW_BULK_STAT.INCOMPLETE (incomplete || bulkErr s)
  else s

/-- A completed data-window read of `n` bytes removes what it returned; beyond RAVAIL it sets UNDER, and a
byte with bad parity sets PARERR and flushes the FIFO (R117, R121). -/
def bulkReadCommit (n : Nat) (s : State) : State :=
  let taken := s.bulk.rfifo.take n
  let under := decide (s.bulk.rfifo.length < n)
  let s := if taken.any (·.2) then bulkParity { s with bulk := { s.bulk with rfifo := [] } }
           else { s with bulk := { s.bulk with rfifo := s.bulk.rfifo.drop n } }
  let s := if taken.isEmpty then s else s.set Reg.MBX_EVT.BULKRD
  if under then s.set Reg.HW_BULK_STAT.UNDER else s

/-! ### The host view (R53, R57, R477) -/

/-- The page in effect for a window offset. -/
def pageOn (s : State) (off : Nat) : Bool :=
  if off < 0x800 then s.link.pages.testBit 0
  else if off < 0x1000 then s.link.pages.testBit 1
  else if off < 0x2000 then s.link.pages.testBit 2
  else if off < 0x3000 then s.link.pages.testBit 3
  else if off < 0x3100 then s.link.pages.testBit 4
  else if off < 0x3140 then s.link.pages.testBit 5
  else false

/-- Sum of `f t` over the tags. -/
def overTags (f : Nat → Nat) : Nat := (List.range 8).foldl (fun acc t => acc + f t) 0

/-- The mailbox control word: doorbells of RUNG and OWNED tags, completions of DONE tags, FWREADY (R98). -/
def mbxControl (s : State) : Nat :=
  overTags (fun t => if tagState s t = tagRung ∨ tagState s t = tagOwned then 2 ^ t else 0)
    + 2 ^ 8 * overTags (fun t => if tagState s t = tagDone then 2 ^ t else 0)
    + 2 ^ 16 * s.rd Reg.HW_MBXCTL.FWREADY

/-- TAGSTATE. -/
def tagStates (s : State) : Nat := overTags (fun t => tagState s t * 4 ^ t)

/-- The words of the bulk port control page. -/
def bulkWord (s : State) (off : Nat) : Nat :=
  match off with
  | 0x3000 => s.rd Reg.HW_BULK_TARGET.TARGET
  | 0x3004 => s.rd Reg.HW_BULK_ADDR.ADDR
  | 0x3008 => bulkCredit s + 2 ^ 16 * s.bulk.rfifo.length
  | 0x300C => s.regWord (hostWindow + 0x300C)
  | 0x3010 => bulkNext s
  | _ => 0

/-- Byte `off % 4` of a word. -/
def byteOf (w off : Nat) : Byte := BitVec.ofNat 8 (w / 2 ^ (8 * (off % 4)))

/-- Byte `k` of the read FIFO as the data window shows it: with no target it reads 0x00 (R114, R117). -/
def dataByte (s : State) (k : Nat) : Byte :=
  if bulkTarget s = 0 then 0 else ((s.bulk.rfifo[k]?).map (·.1)).getD 0

/-- A byte of the window as it stands, pages aside; `owned` shows the buffers that firmware owns (R55,
R58). -/
def viewByte (owned : Bool) (s : State) (off : Nat) : Byte :=
  if !s.hostOn then 0
  else if off < 16 then byteOf (s.regWord (hostWindow + off / 4 * 4)) off
  else if off < 0x800 then Sparse.get 0 off s.link.view
  else if off < 0x804 then byteOf (mbxControl s) off
  else if off < 0x808 then byteOf (tagStates s) off
  else if off < 0x1000 then 0
  else if off < 0x2000 then
    if !owned && tagState s ((off - 0x1000) / 0x200) == tagOwned then 0 else s.byte (mbxBase + (off - 0x1000))
  else if off < 0x20D4 then Sparse.get 0 off s.link.view
  else if off < 0x3000 then 0
  else if off < 0x3018 then byteOf (bulkWord s (off / 4 * 4)) off
  else if 0x3100 ≤ off ∧ off < 0x3140 then dataByte s (off - 0x3100)
  else 0

/-- A byte the host reads (R15, R477). -/
def hostByte (s : State) (off : Nat) : Byte := if pageOn s off then viewByte false s off else 0

/-- The window offsets of a transaction's `n` bytes from `off`: they rise, but an SPI-target frame that starts
in the data window does not advance (R84). -/
def txnOffsets (fixed : Bool) (off n : Nat) : List Nat :=
  (List.range n).map fun i => if fixed && 0x3100 ≤ off && off < 0x3140 then off else off + i

/-- An offset of the data window. -/
def inData (off : Nat) : Bool := 0x3100 ≤ off && off < 0x3140

/-- The bytes at a transaction's offsets; data-window bytes come from the read FIFO in order, `k` of them
already taken (R117). -/
def hostBytesFrom (s : State) : Nat → List Nat → List Byte
  | _, [] => []
  | k, o :: os =>
    if inData o then
      (if pageOn s o then dataByte s k else 0) :: hostBytesFrom s (k + 1) os
    else hostByte s o :: hostBytesFrom s k os

/-- The bytes a transaction returns. -/
def hostBytes (s : State) (fixed : Bool) (off n : Nat) : List Byte := hostBytesFrom s 0 (txnOffsets fixed off n)

/-- How many data-window bytes a transaction reads. -/
def dataCount (s : State) (fixed : Bool) (off n : Nat) : Nat :=
  if pageOn s 0x3100 then ((txnOffsets fixed off n).filter inData).length else 0

/-- A read of a DONE buffer met a parity error (R106): CORRUPT, and the tag forgets its response. -/
def corruptTag (t : Nat) (s : State) : State :=
  let s := (clearRvalid t (s.setByte (boxAddr t 7) 9)).set (Reg.MBX_TAGINFO.CORRUPTED t)
  (s.set Reg.MBX_EVT.MBXPAR).set Reg.ERR_MEMSTAT.MBXRAM

/-- What a host read of `n` bytes from `off` leaves in the tags (R106). -/
def readParity (off n : Nat) (s : State) : State :=
  (List.range 8).foldl (fun s t =>
    let lo := max off (0x1000 + 0x200 * t)
    let hi := min (off + n) (0x1200 + 0x200 * t)
    if pageOn s 0x1000 && tagState s t == tagDone && (s.firstBad (mbxBase + (lo - 0x1000)) (hi - lo)).isSome
    then corruptTag t s else s) s

/-! ### Snapshot edges: promotion (R53, R56 to R62) -/

/-- A byte of a post reaches a core-written field: the identity page's own offsets and the key window
(R57). -/
def coreWritten (off : Nat) : Bool := (0x10 ≤ off && off < 0x800) || (0x2000 ≤ off && off < 0x20D4)

/-- Promote one byte of a post. -/
def promoteByte (s : State) (p : Nat × Nat) : State :=
  if coreWritten p.1 then
    { s with link := { s.link with view := Sparse.put 0 p.1 (BitVec.ofNat 8 p.2) s.link.view } }
  else if 8 ≤ p.1 ∧ p.1 ≤ 11 then
    s.wr Reg.HW_EVSTAT.EVSTAT (s.rd Reg.HW_EVSTAT.EVSTAT ||| p.2 * 2 ^ (8 * (p.1 - 8)))
  else if 0x10000 ≤ p.1 ∧ p.1 < 0x10100 then
    { s with ec := { s.ec with image := Sparse.put 0 (p.1 - 0x10000) (BitVec.ofNat 8 p.2) s.ec.image } }
  else if p.1 = 0x20000 then ecLoad (BitVec.ofNat 8 p.2) s
  else s

/-- A query code enters the query queue, or is discarded when it is full (R94). -/
def pushQuery (s : State) (b : Byte) : State :=
  if s.ec.qq.length < 8 then { s with ec := { s.ec with qq := s.ec.qq ++ [b] } }
  else s.set Reg.MBX_STAT.QFULL

/-- Promote a post whole (R56). -/
def promote (p : Post) (s : State) : State :=
  let s := p.bytes.foldl promoteByte s
  let s := p.pushes.foldl pushQuery s
  let s := p.dones.foldl (fun s d => completeTag d s) s
  ({ s with link := { s.link with closed := none, closedSure := false } }.clr Reg.HOST_POST.PENDING).set
    Reg.HOST_EVT.PROMOTED

/-- The hold's part of a snapshot edge: an expired hold clears; HOST_STAT.HOLD follows HOSTCTL.HOLD (R60,
R61). -/
def holdEdge (s : State) : State :=
  let s := if s.on Reg.HW_HOSTCTL.HOLD && (s.link.holdExpired || s.link.holdAt + 2100 ≤ s.tbase) then
             ((s.clr Reg.HW_HOSTCTL.HOLD).set Reg.HW_HOSTCTL.HOLDEXP).set Reg.HOST_EVT.HOLDEXP
           else s
  { s with link := { s.link with holdExpired := s.link.holdExpired && s.on Reg.HW_HOSTCTL.HOLD } }.wrB
    Reg.HOST_STAT.HOLD (s.on Reg.HW_HOSTCTL.HOLD)

/-- The EC's part: IBF clears once firmware has removed the entries concerned (R92). -/
def ecEdge (s : State) : State :=
  if s.ec.inq.isEmpty && s.ec.held.isNone then s.clr Reg.EC_STATUS.IBF else s

/-- The pages that are certain at the next snapshot edge: those of the last change of HOST_WINEN made at least tPSU
before it, or that an edge has left (R59). -/
def pagesCertain (s : State) : Nat :=
  if s.link.pagesAt < s.tbase then s.regWord 0x400C0004 else s.link.pagesSure

/-- HOST_WINEN has been changed from what it was in `s0` (R59). -/
def pagesChanged (s0 s : State) : State :=
  { s with link := { s.link with pagesAt := s.tbase, pagesSure := pagesCertain s0 } }

/-- The pages' part of a snapshot edge; a hold delays no change of them (R59, R60). -/
def pagesEdge (recent : Bool) (s : State) : State :=
  { s with link := { s.link with
      pages := if recent then s.regWord 0x400C0004 else pagesCertain s, pagesSure := s.regWord 0x400C0004 } }

/-- The pending posts' part: promoted whole, unless held or left for the next edge (R56, R60). -/
def postsEdge (recent : Bool) (s : State) : State :=
  match s.link.closed with
  | some p => if !s.on Reg.HOST_STAT.HOLD && (recent || postSure s) then promote p s else s
  | none => s

/-- A snapshot edge.  `recent` says whether posts closed and page changes made less than tPSU before are taken at this
edge or left for the next (R56, R59). DESIGN CHOICE (log 31). -/
def snapshotEdge (recent : Bool) (s : State) : State :=
  let s := pagesEdge recent (holdEdge s)
  let s := s.mbx.busy.foldl (fun s t => busyRung t s) s
  let s := settle (postsEdge recent (ecEdge { s with mbx := { s.mbx with busy := [] } }))
  { s with link := { s.link with closedSure := s.link.closed.isSome } }

/-! ### Commits of window writes (R54, R57, R63) -/

/-- Overwrite the bytes of a register word that a commit writes at `off` to `off + 3`. -/
def patchWord (w off : Nat) (ws : List (Nat × Byte)) : Nat :=
  ws.foldl (fun acc p =>
    if off ≤ p.1 ∧ p.1 < off + 4 then
      acc - acc / 2 ^ (8 * (p.1 - off)) % 256 * 2 ^ (8 * (p.1 - off)) + p.2.toNat * 2 ^ (8 * (p.1 - off))
    else acc) w

/-- A commit writes some byte of the word at `off`. -/
def touches (off : Nat) (ws : List (Nat × Byte)) : Bool := ws.any fun p => off ≤ p.1 && p.1 < off + 4

/-- The identity page's host-written fields (R57, R60, R61). -/
def identWrites (ws : List (Nat × Byte)) (s : State) : State :=
  let s := match ws.find? (fun p => p.1 == 4) with
    | none => s
    | some (_, b) =>
      let was := s.on Reg.HW_HOSTCTL.HOLD
      let s := (s.wrB Reg.HW_HOSTCTL.HOLD (b.getLsbD 0))
      let s := if b.getLsbD 1 then s.clr Reg.HW_HOSTCTL.HOLDEXP else s
      if b.getLsbD 0 && !was then { s with link := { s.link with holdAt := s.tbase, holdExpired := false } }
      else if !b.getLsbD 0 then { s with link := { s.link with holdExpired := false } } else s
  let clear := patchWord 0 8 ws
  let s := s.wr Reg.HW_EVSTAT.EVSTAT (s.rd Reg.HW_EVSTAT.EVSTAT - (s.rd Reg.HW_EVSTAT.EVSTAT &&& clear))
  s.wr Reg.HW_EVMASK.EVMASK (patchWord (s.rd Reg.HW_EVMASK.EVMASK) 12 ws)

/-- The bulk pages' writes in the order of R120. -/
def bulkWrites (ws : List (Nat × Byte)) (s : State) : State :=
  let credit := bulkCredit s
  let s := if pageOn s 0x3000 then
      let s := match ws.find? (fun p => p.1 == 0x3000) with
        | some (_, b) => bulkSetTarget b.toNat s
        | none => s
      if touches 0x3004 ws then bulkSetAddr (patchWord (s.rd Reg.HW_BULK_ADDR.ADDR) 0x3004 ws) s else s
    else s
  let s := if pageOn s 0x3100 then
      bulkData credit ((ws.filter fun p => 0x3100 ≤ p.1 && p.1 < 0x3140).map (·.2)) s else s
  match ws.find? (fun p => p.1 == 0x3014) with
  | some (_, b) => if pageOn s 0x3000 && b.getLsbD 0 then bulkClose s else s
  | none => s

/-- The commit wrote a host-written field that took it (R63): the identity page, the mailbox control word,
an open buffer's request bytes, or the bulk control registers.  Data-window bytes are data for the write FIFO and no
field. DEDUCED (log 105). -/
def wroteHostField (s : State) (ws : List (Nat × Byte)) : Bool :=
  ws.any fun p =>
    pageOn s p.1 &&
      ((p.1 == 4) || (8 ≤ p.1 && p.1 < 16) || (p.1 == 0x800) || (p.1 == 0x801)
        || p.1 == 0x3000 || (0x3004 ≤ p.1 && p.1 < 0x3008) || p.1 == 0x3014
        || (0x1000 ≤ p.1 && p.1 < 0x2000 &&
            (let t := (p.1 - 0x1000) / 0x200
             let i := p.1 % 0x200
             (tagState s t == tagFree || tagState s t == tagDone) &&
               (i < 7 || (12 ≤ i && i < 16) || (16 ≤ i && !inReplay s t)))))

/-- The writes of one transaction take effect together at its commit (R54, R99, R120). -/
def commitWrites (ws : List (Nat × Byte)) (s : State) : State :=
  let wrote := wroteHostField s ws
  let s := if pageOn s 0 then identWrites ws s else s
  let s := if pageOn s 0x1000 then
      (List.range 8).foldl (fun s t =>
        boxWrites t (ws.filter fun p => 0x1000 + 0x200 * t ≤ p.1 && p.1 < 0x1200 + 0x200 * t) s) s
    else s
  let s := if pageOn s 0x800 then
      let cl := (ws.find? (fun p => p.1 == 0x801)).map (·.2.toNat)
      let db := (ws.find? (fun p => p.1 == 0x800)).map (·.2.toNat)
      let s := (List.range 8).foldl (fun s t => if (cl.getD 0).testBit t then clearComplete t s else s) s
      (List.range 8).foldl (fun s t => if (db.getD 0).testBit t then ring t s else s) s
    else s
  let s := bulkWrites ws s
  settle (if wrote then s.set Reg.HOST_EVT.HWRITE else s)

/-- The window writes of a transaction. -/
def writesAt (fixed : Bool) (off : Nat) (bs : List Byte) : List (Nat × Byte) :=
  (txnOffsets fixed off bs.length).zip bs

/-! ### HOST reset and power (R65, R87 to R89, R96, R109) -/

/-- Give every field of the ranges its reset value. -/
def resetRanges (rs : List (Nat × Nat)) (s : State) : State :=
  let kept := s.fields.filter (fun p => !inCells p.1 rs)
  let fresh := resetCells.filter (fun p => inCells p.1 rs)
  { s with fields := Sparse.merge (s.fields.length + resetCells.length) kept fresh }

/-- The configuration registers at their reset values, LOCK clear; the wire of the old IRQSEL falls (R68,
R88). -/
def resetConfigPair (s : State) : State :=
  let old := s.rd Reg.CFG_IRQSEL.IRQSEL
  let l := if s.link.eventOn && old != 0 then irqChange old false s.link else s.link
  resetRanges [(Reg.CFG_ENABLE.WINDEC.key, Reg.CFG_LOCK.LOCK.key)] { s with link := l }

/-- The eSPI configuration at the standard's reset values (R87); a completion that waited is discarded, and its request
with it. PRESUMED (log 29). -/
def resetEspi (s : State) : State :=
  let l := { s.link with
    cfgGeneral := 0, cfgPeriph := 0, cfgWire := 0, cfgOob := 0, cfgFlash := 0
    flashDone := none, flashBusy := s.link.flashBusy && s.link.flashDone.isNone }
  ({ s with link := l }.wr Reg.HOST_STAT.IOMODE 0).wr Reg.HOST_STAT.FREQ 0

/-- The outbound OOB message is discarded: DISCARDED if one was held (R75). -/
def oobDiscard (s : State) : State :=
  if s.on Reg.HOST_OOBTX.BUSY then (s.clr Reg.HOST_OOBTX.BUSY).set Reg.HOST_OOBTX.DISCARDED else s

/-- All HOST state as at HOST power-up: the view 0x00 but for the ID word, every tag FREE, posts gone, EC
and bulk empty, the link's configuration and wires at their start (R65, R96, R109, R475).  The data registers of the
OOB slots are of the HOST domain with HOST_OOBRX and HOST_OOBTX. DEDUCED (log 105). -/
def hostPowerState (s : State) : State :=
  let s := resetRanges hostCells s
  let t := s.wipe mbxBase (mbxBase + 0x1000)
  let l : Link := { resp := s.link.resp }
  let k := { s.kpf with page := [], keyWin := [], ecImage := [] }
  { t with link := l, ec := {}, bulk := {}, mbx := {}, kpf := k }

end Sys2Proof.Machine
end

