-- ==== Sys2Proof/Machine/LinkRegs.lean ====
section
/-! DEFINITION. Core accesses to the HOST and MBX blocks (chapters 02 and 03): each register as its map and
rules state. -/

namespace Sys2Proof.Machine

/-- The link is eSPI, or the SPI target (R50). -/
def State.espi (s : State) : Bool := s.rd Reg.HOST_STAT.MODE ≤ 1
def State.spi (s : State) : Bool := s.rd Reg.HOST_STAT.MODE == 2

/-! ### Virtual wires (R74) -/

/-- The four bits of a target-to-host group: the wires' levels, and which are the target's own.  HOST_VWOUT's follow it
over HOST power loss too. DESIGN CHOICE (log 123). -/
def groupBits (s : State) (g : Nat) : Nat × Nat :=
  let high (b : Bool) : Nat := (!b).toNat
  match g with
  | 0x04 => (s.link.oobRstAck.toNat + 4 * high (s.on Reg.HOST_VWOUT.WAKE) + 8 * high (s.on Reg.HOST_VWOUT.PME), 13)
  | 0x05 => (s.link.bootLoad.toNat * 9, 9)
  | 0x06 => (high s.link.sciOn + 2 * high (s.on Reg.HOST_VWOUT.SMI) + 4 + 8 * s.link.hostRstAck.toNat, 15)
  | 0x40 => (high s.link.susAck, 1)
  | 0x41 => (2 * s.rd Reg.HOST_VWOUT.SUSPWRDNACK, 2)
  | _ => (0, 0)

/-- The byte of a target-to-host group: levels in [3:0], valid bits in [7:4]. -/
def groupByte (s : State) (g : Nat) : Byte := BitVec.ofNat 8 ((groupBits s g).1 + 16 * (groupBits s g).2)

/-- An interrupt wire's group: index 0 for wires 0 to 127, 1 for 128 to 255; the level is bit 7. -/
def irqGroup (p : Nat × Bool) : Nat × Byte := (p.1 / 128, BitVec.ofNat 8 (p.1 % 128 + 128 * p.2.toNat))

/-- The groups waiting for the host, in ascending order of index; while HOST_RST_WARN is set, only the group
that carries HOST_RST_ACK (R74). -/
def waitingGroups (s : State) : List (Nat × Byte) :=
  if s.on Reg.HOST_VWIN.HOSTRSTWARN then
    (s.link.groups.filter (· == 6)).map fun g => (g, groupByte s g)
  else
    let irqs := s.link.irqChanges.map irqGroup
    irqs.filter (·.1 == 0) ++ irqs.filter (·.1 == 1) ++ s.link.groups.map fun g => (g, groupByte s g)

/-- Channel enables of the eSPI configuration. -/
def wireOn (s : State) : Bool := s.link.cfgWire.testBit 0
def oobOn (s : State) : Bool := s.link.cfgOob.testBit 0

def flashOn (s : State) : Bool := s.link.cfgFlash.testBit 0

/-- HOST_RST_WARN has stopped new target traffic: neither the OOB message nor a flash completion is offered or sent (R74).
DEDUCED (log 105). -/
def quietTarget (s : State) : Bool := s.on Reg.HOST_VWIN.HOSTRSTWARN

/-- An OOB message, and a flash completion, are available for the host to fetch (R75, R331). -/
def oobAvail (s : State) : Bool := oobOn s && s.on Reg.HOST_OOBTX.BUSY && !quietTarget s
def flashAvail (s : State) : Bool := flashOn s && s.link.flashDone.isSome && !quietTarget s

/-- Virtual-wire changes are available for the host to fetch (R74). -/
def wireAvail (s : State) : Bool := wireOn s && !(waitingGroups s).isEmpty

/-- The target has something for the host to fetch (R68). -/
def alertWanted (s : State) : Bool :=
  s.hostOn && s.espi && (wireAvail s || oobAvail s || flashAvail s)

/-- ESPI_ALERT_N (pin ALERT selected) or HOST_IRQ_N is asserted (R51, R68, R87). -/
def alertPin (s : State) : Bool :=
  (alertWanted s && s.link.cfgGeneral.testBit 28) || (s.spi && windowEvent s)

/-! ### The HOST block -/

/-- A word of the window as the core reads it through the aperture (R55). -/
def apertureWord (s : State) (off : Nat) : Nat :=
  leNat [viewByte true s off, viewByte true s (off + 1), viewByte true s (off + 2), viewByte true s (off + 3)]

/-- HOST_STAT with the fields that reflect HOST (its map). -/
def hostStat (s : State) : Nat :=
  let s := s.wrB Reg.HOST_STAT.ALERT (alertPin (settle s))
  (s.wrB Reg.HOST_STAT.PLTRST (!s.hostOn || s.on Reg.HOST_VWIN.PLTRST)).regWord 0x400C0000

/-- A core read of the HOST block. -/
def hostRead (a : Nat) (s : State) : Nat × State :=
  if a = 0x400C0000 then (hostStat s, s)
  else if 0x400C4000 ≤ a ∧ a < 0x400C8000 then (apertureWord s (a - 0x400C4000), s)
  else (s.regWord a, s.clearRc a)

/-- A write of HOST_VWOUT: the groups of the wires that changed are offered (R74). -/
def vwoutWrite (v : Nat) (s : State) : State :=
  let s' := s.regWrite 0x400C0034 v
  let moved (f : Field) : Bool := s.rd f != s'.rd f
  let s' := if moved Reg.HOST_VWOUT.SMI then offer 6 s' else s'
  let s' := if moved Reg.HOST_VWOUT.WAKE || moved Reg.HOST_VWOUT.PME then offer 4 s' else s'
  let s' := if moved Reg.HOST_VWOUT.SUSPWRDNACK then offer 0x41 s' else s'
  settle s'

/-- A write of HOST_OOBRX: REL frees the inbound slot. DEDUCED (log 100). -/
def oobRxWrite (v : Nat) (s : State) : State :=
  if Reg.HOST_OOBRX.REL.of v = 1 then s.clr Reg.HOST_OOBRX.FULL else s

/-- The message in HOST_OOBTXDATA, HOST_OOBTX.LEN bytes long. -/
def oobMessage (s : State) : List Byte :=
  ((List.range 17).flatMap fun k => leBytes 4 (s.rd (Reg.HOST_OOBTXDATA.DATA k))).take (s.rd Reg.HOST_OOBTX.LEN)

/-- A write of HOST_OOBTX: GO with LEN from 1 to 68 takes the message into the outbound slot, unless one is
waiting; it does nothing while HOST is off. DEDUCED (log 100). -/
def oobTxWrite (v : Nat) (s : State) : State :=
  if !s.hostOn then s
  else
    let s := s.regWrite 0x400C0054 v
    if Reg.HOST_OOBTX.GO.of v = 1 && !s.on Reg.HOST_OOBTX.BUSY && 1 ≤ s.rd Reg.HOST_OOBTX.LEN
        && s.rd Reg.HOST_OOBTX.LEN ≤ 68 then
      { s.set Reg.HOST_OOBTX.BUSY with link := { s.link with oobOut := oobMessage s } }
    else s

/-- A core write to the HOST block. -/
def hostWrite (a v : Nat) (s : State) : State :=
  match a with
  | 0x400C0004 => pagesChanged s (s.regWrite a v)
  | 0x400C0010 => hostPostWrite v s
  | 0x400C0034 => vwoutWrite v s
  | 0x400C0050 => oobRxWrite v s
  | 0x400C0054 => oobTxWrite v s
  | _ => if 0x400C4000 ≤ a ∧ a < 0x400C8000 then apertureWrite (a - 0x400C4000) v s else s.regWrite a v

/-! ### The MBX block -/

/-- MBX_RING. -/
def ringWord (s : State) : Nat := overTags fun t => if tagState s t = tagRung then 2 ^ t else 0

/-- MBX_ECSTAT. -/
def ecStatWord (s : State) : Nat :=
  s.rd Reg.EC_STATUS.OBF + 2 * s.rd Reg.EC_STATUS.IBF + 4 * s.rd Reg.EC_STATUS.BURST
    + 8 * (!s.ec.qq.isEmpty).toNat + 2 ^ 4 * s.ec.wq.length + 2 ^ 9 * s.ec.qq.length
    + 2 ^ 13 * min 31 s.ec.inq.length

/-- MBX_BULKSTAT. -/
def bulkStatWord (s : State) : Nat :=
  s.rd Reg.HW_BULK_TARGET.TARGET + 8 * s.rd Reg.HW_BULK_STAT.UNITOPEN + 16 * s.bulk.closeReq.toNat
    + 2 ^ 16 * wfill s

/-- Target address of the next byte of the write FIFO. -/
def bulkPos (s : State) : Nat := bulkNext s

/-- A core read of the MBX block; registers of the HOST domain read 0 while HOST is off. -/
def mbxRead (a : Nat) (s : State) : Nat × State :=
  if 0x400D1000 ≤ a ∧ a < 0x400D2000 then directRead (a - 0x400D1000) s
  else if 0x400D8000 ≤ a ∧ a < 0x400D8100 then
    (leNat (Sparse.getMany 0 (a - 0x400D8000) s.ec.image 4), s)
  else
    match a with
    | 0x400D0010 => (ringWord s, s)
    | 0x400D0080 => (if s.hostOn then ecStatWord s else 0, s)
    | 0x400D0084 => ecInRead s
    | 0x400D0088 => ecWqRead s
    | 0x400D00A0 => (if s.hostOn then bulkStatWord s else 0, s)
    | 0x400D00A4 => (bulkPos s, s)
    | 0x400D00A8 => bulkRd s
    | 0x400D00B4 => (s.bulk.rfifo.length, s)
    | _ => (s.regWord a, s.clearRc a)

/-- A core write to the MBX block. -/
def mbxWrite (a v : Nat) (s : State) : State :=
  if 0x400D1000 ≤ a ∧ a < 0x400D2000 then directWrite (a - 0x400D1000) v s
  else if 0x400D8000 ≤ a ∧ a < 0x400D8100 then
    postItem { bytes := wordBytes (0x10000 + (a - 0x400D8000)) v } s
  else
    match a with
    | 0x400D0000 => mbxCtrlWrite v s
    | 0x400D0014 => mbxTake v s
    | 0x400D0018 => mbxDone (v % 8) (v.testBit 8) s
    | 0x400D008C => postItem { bytes := [(0x20000, v % 256)] } s
    | 0x400D0090 => postItem { pushes := [BitVec.ofNat 8 v] } s
    | 0x400D00AC => bulkWr v s
    | 0x400D00B0 => bulkAck (v.testBit 0) (v.testBit 1) s
    | _ => s.regWrite a v

end Sys2Proof.Machine
end

