-- ==== Sys2Proof/Machine/Rail.lean ====
section
/-! DEFINITION. The rail sequencer, the power-state decoder and the voltage monitors (R134 to R145). -/

namespace Sys2Proof.Machine

/-! ### States and causes (RAIL_CHSTAT) -/

def chOff : Nat := 0
def chWait : Nat := 1
def chRamp : Nat := 2
def chOn : Nat := 3
def chFault : Nat := 4
def chDis : Nat := 5

/-- The state of channel `n`. -/
def chState (s : State) (n : Nat) : Nat := s.rd (Reg.RAIL_CHSTAT.STATE n)

/-- The hidden timers of channel `n`. -/
def railCh (s : State) (n : Nat) : RailCh := Sparse.get {} n s.rail.ch

/-- Set them. -/
def setRailCh (n : Nat) (c : RailCh) (s : State) : State :=
  { s with rail := { s.rail with ch := Sparse.put {} n c s.rail.ch } }

/-- Set channel `n`'s bit in a pair of registers. -/
def setPair (f0 f1 : Field) (n : Nat) (s : State) : State :=
  if n < 32 then s.setBit f0 n else s.setBit f1 (n - 32)

/-- The 40 bits of a register pair. -/
def pairMask (s : State) (f0 f1 : Field) : Nat := s.rd f0 + s.rd f1 * 2 ^ 32

/-- The enable output of channel `n` is active, HOLD aside (R134). -/
def railActive (s : State) (n : Nat) : Bool := chState s n == chRamp || chState s n == chOn

/-- The channels for which `p` holds, as a mask. -/
def chMask (p : Nat → Bool) : Nat := (List.range 40).foldl (fun m n => if p n then m + 2 ^ n else m) 0

/-- The enables as the pins show them: AON holds them while HOLD=1 (R31, R141). -/
def railEnables (s : State) : Nat :=
  if s.on Reg.SYS_PADHOLD.HOLD then pairMask s Reg.RAIL_HELD0.CH Reg.RAIL_HELD1.CH
  else chMask (railActive s)

/-- What an enable output does: ENPOL selects its active level, ENOD open drain (R134). -/
def driveOf (active activeHigh openDrain : Bool) : PinDrive :=
  if active == activeHigh then (if openDrain then .released else .high) else .low

/-- The pin RCnn_EN.  AON holds it, with the polarity it had, while HOLD=1 and while CORE is off; since a cold reset
it is left to its pull-down until CORE is up (R31, R134, R141). DEDUCED (log 108). -/
def enablePin (s : State) (n : Nat) : PinDrive :=
  if s.on Reg.SYS_PADHOLD.HOLD || !s.sys.coreOn then
    match s.rail.held with
    | none => .released
    | some (pol, od) =>
      driveOf ((pairMask s Reg.RAIL_HELD0.CH Reg.RAIL_HELD1.CH).testBit n) (pol.testBit n) (od.testBit n)
  else driveOf (railActive s n) (s.on (Reg.RAIL_CHCTL.ENPOL n)) (s.on (Reg.RAIL_CHCTL.ENOD n))

/-- AON takes over the pins' polarities, unless it holds the pins already (R31). DEDUCED (log 108). -/
def holdPins (s : State) : State :=
  if s.on Reg.SYS_PADHOLD.HOLD || !s.sys.coreOn then s
  else { s with rail := { s.rail with
    held := some (chMask fun n => s.on (Reg.RAIL_CHCTL.ENPOL n), chMask fun n => s.on (Reg.RAIL_CHCTL.ENOD n)) } }

/-! ### Power-good (R134, R145) -/

/-- The level of the RCnn_PG pin that counts: the pin's own once it has held for PGFILT microseconds, the one before it
until then (R134). -/
def pinLevel (s : State) (n : Nat) : Bool :=
  if Sparse.get 0 n s.rail.pinAt + s.rd (Reg.RAIL_CHCTL.PGFILT n) ≤ s.tbase then s.rail.pins.testBit n
  else s.rail.passed.testBit n

/-- Bit `n` of a mask made `b`. -/
def withLevel (m n : Nat) (b : Bool) : Nat :=
  if b then m ||| 2 ^ n else if m.testBit n then m - 2 ^ n else m

/-- The RCnn_PG pin changes to `level`; its filter counts anew (R134, R146). -/
def pinMoves (n : Nat) (level : Bool) (s : State) : State :=
  if s.rail.pins.testBit n = level then s
  else { s with rail := { s.rail with
    passed := withLevel s.rail.passed n (pinLevel s n), pins := withLevel s.rail.pins n level
    pinAt := Sparse.put 0 n s.tbase s.rail.pinAt } }

/-- Filtered power-good of channel `n`; none without a source. -/
def railPg (s : State) (n : Nat) : Option Bool :=
  match s.rd (Reg.RAIL_CHCTL.PGSRC n) with
  | 0 => some (pinLevel s n == s.on (Reg.RAIL_CHCTL.PGPOL n))
  | 1 => some (s.on (Reg.RAIL_VMONVAL.INWIN (s.rd (Reg.RAIL_CHCTL.VMONSEL n))))
  | _ => none

/-- A sample of voltage monitor `k` (R145). -/
def vmonSample (k code : Nat) (s : State) : State :=
  let s := s.wr (Reg.RAIL_VMONVAL.VAL k) code
  if code < s.rd (Reg.RAIL_VMONCFG.UV k) then
    (s.clr (Reg.RAIL_VMONVAL.INWIN k)).set (Reg.RAIL_VMONVAL.UVF k)
  else if s.rd (Reg.RAIL_VMONCFG.OV k) < code then
    (s.clr (Reg.RAIL_VMONVAL.INWIN k)).set (Reg.RAIL_VMONVAL.OVF k)
  else s.set (Reg.RAIL_VMONVAL.INWIN k)

/-! ### The target set and the decoder (R142, R143) -/

/-- The members of rail set `i`. -/
def railSet (s : State) (i : Nat) : Nat := pairMask s (Reg.RAIL_SETLO.MEMLO i) (Reg.RAIL_SETHI.MEMHI i)

/-- TSEL changed by the decoder or by a fault. -/
def setTsel (v : Nat) (s : State) : State :=
  if s.rd Reg.RAIL_CTRL.TSEL = v then s else (s.wr Reg.RAIL_CTRL.TSEL v).set Reg.RAIL_EVT.TSELCHG

/-- The host's wires are valid: under eSPI once the virtual-wire channel has been enabled since the last host
reset and the host has sent one of the wires decoded here, so that no reset value moves a rail; in SPI-target
mode while the pins are assigned (R143). DEDUCED (log 34, 101). -/
def wiresValid (s : State) : Bool :=
  (s.hostOn && s.espi && s.link.wiresOffered && s.link.powerWires) || (s.spi && s.link.gpioMapped)

/-- The decoded power state and its rail set: 4 S5, 3 S4, 2 S3, 1 S0ix, 0 S0. -/
def powerState (s : State) : Nat × Nat :=
  if s.on Reg.HOST_VWIN.SLPS5 then (4, 3)
  else if s.on Reg.HOST_VWIN.SLPS4 then (3, 3)
  else if s.on Reg.HOST_VWIN.SLPS3 then (2, 2)
  else if s.on Reg.HOST_VWIN.HOSTC10 then (1, 1)
  else (0, 0)

/-- The decoder: it acts when the decoded state changes (R143). DEDUCED (log 40). -/
def railDecode (s : State) : State :=
  if !wiresValid s || s.rail.decoded == some (powerState s).1 then s
  else
    let s := { s with rail := { s.rail with decoded := some (powerState s).1 } }
    let s := s.wr Reg.RAIL_STAT.DECODED (powerState s).2
    if s.on Reg.RAIL_CTRL.AUTO && !s.on Reg.RAIL_STAT.FLTHOLD then setTsel (powerState s).2 s else s

/-- A write of RAIL_STAT; clearing FLTHOLD lets the decoder act, and TSEL takes DECODED at once. -/
def railStatWrite (v : Nat) (s : State) : State :=
  let held := s.on Reg.RAIL_STAT.FLTHOLD
  let s := s.regWrite 0x40020004 v
  if held && !s.on Reg.RAIL_STAT.FLTHOLD && s.on Reg.RAIL_CTRL.AUTO then
    setTsel (s.rd Reg.RAIL_STAT.DECODED) s
  else s

/-! ### Demand (R135, R140) -/

/-- The predecessors in use of channel `n`, numbers above 39 among them; a field not in use is not looked at.
DESIGN CHOICE (log 125). -/
def railPreds (s : State) (n : Nat) : List Nat :=
  (if s.on (Reg.RAIL_CHDEP.DEP0EN n) then [s.rd (Reg.RAIL_CHDEP.DEP0 n)] else [])
    ++ (if s.on (Reg.RAIL_CHDEP.DEP1EN n) then [s.rd (Reg.RAIL_CHDEP.DEP1 n)] else [])
    ++ (if s.on (Reg.RAIL_CHDEP.DEP2EN n) then [s.rd (Reg.RAIL_CHDEP.DEP2 n)] else [])
    ++ (if s.on (Reg.RAIL_CHDEP.DEP3EN n) then [s.rd (Reg.RAIL_CHDEP.DEP3 n)] else [])

/-- All predecessors, by channel. -/
def railGraph (s : State) : List (List Nat) := (List.range 40).map (railPreds s)

/-- Channels reached from `from` by following predecessors, `k` steps further. -/
def reach (g : List (List Nat)) : Nat → List Nat → List Nat
  | 0, seen => seen
  | k + 1, seen =>
    reach g k ((seen.flatMap fun p => g.getD p []).foldl (fun l p => if l.contains p then l else p :: l) seen)

/-- Channel `n` lies on a dependency cycle. -/
def onCycle (g : List (List Nat)) (n : Nat) : Bool := (reach g 40 (g.getD n [])).contains n

/-- Keep the channels whose predecessors are all kept and not in FAULT, `k` times over. -/
def demandFix (g : List (List Nat)) (faulted : List Nat) : Nat → List Nat → List Nat
  | 0, d => d
  | k + 1, d =>
    demandFix g faulted k (d.filter fun n => (g.getD n []).all fun p => d.contains p && !faulted.contains p)

/-- The channels demanded at a step (R135): forced on, or following a target set of which they are members;
on no cycle; every predecessor demanded and not in FAULT. -/
def demanded (s : State) (g : List (List Nat)) : List Nat :=
  let target := railSet s (s.rd Reg.RAIL_CTRL.TSEL)
  let faulted := (List.range 40).filter fun n => chState s n == chFault
  let base := (List.range 40).filter fun n =>
    (s.rd (Reg.RAIL_CHCTL.MODE n) == 1 || (s.rd (Reg.RAIL_CHCTL.MODE n) == 0 && target.testBit n))
      && !onCycle g n && (g.getD n []).all (· < 40)
  demandFix g faulted 40 base

/-! ### The step (R136, R137) -/

/-- Entry to FAULT (R137, R138). -/
def railFault (n cause : Nat) (s : State) : State :=
  let tsel := s.rd Reg.RAIL_CTRL.TSEL
  let s := (s.wr (Reg.RAIL_CHSTAT.STATE n) chFault).wr (Reg.RAIL_CHSTAT.CAUSE n) cause
  let s := setRailCh n { railCh s n with faultAt := s.tbase } s
  let s := (setPair Reg.RAIL_FAULT0.CH Reg.RAIL_FAULT1.CH n s).set Reg.RAIL_EVT.FAULT
  let s := s.hwLog 0x03 4 1 [n, cause, tsel]
  if s.rd (Reg.RAIL_CHCTL.POLICY n) = 2 then
    (setTsel (s.rd Reg.RAIL_CTRL.FLTSET) s).set Reg.RAIL_STAT.FLTHOLD
  else s

/-- A channel changes state. -/
def railGo (n st : Nat) (c : RailCh) (s : State) : State :=
  setRailCh n c (s.wr (Reg.RAIL_CHSTAT.STATE n) st)

/-- A state in which a dependant holds its predecessors up (R137, R139). -/
def holdsUp (st : Nat) : Bool := st == chRamp || st == chOn || st == chDis

/-- One channel's part of the step: `s0` is the snapshot, `dem` whether the channel is demanded, `preds` its
predecessors, `free` that no dependant holds it up. -/
def railMove (s0 : State) (n : Nat) (dem : Bool) (preds : List Nat) (free : Bool) (s : State) : State :=
  let c := railCh s0 n
  let t := s0.tbase
  let pg := railPg s0 n
  let leave (s : State) : State :=
    if !dem && free then railGo n chDis { c with timer := t } s else s
  match chState s0 n with
  | 0 => if dem then railGo n chWait { c with dep := t, since := none } s else s
  | 1 =>
    if !dem then railGo n chOff c s
    else if s0.rd (Reg.RAIL_CHDEPTO.DEPTO n) ≠ 0 ∧ s0.rd (Reg.RAIL_CHDEPTO.DEPTO n) ≤ t - c.dep then
      railFault n 4 s
    else if preds.all fun p => chState s0 p == chOn then
      let since := c.since.getD t
      if s0.rd (Reg.RAIL_CHONDLY.ONDLY n) ≤ t - since then
        railGo n chRamp { c with since := some since, timer := t } s
      else setRailCh n { c with since := some since } s
    else setRailCh n { c with since := none } s
  | 2 =>
    let reached := s0.rd (Reg.RAIL_CHPGTO.PGTO n) ≤ t - c.timer
    if pg = some true then railGo n chOn c s
    else if pg = none ∧ reached then railGo n chOn c s
    else if reached then railFault n 1 s
    else leave s
  | 3 =>
    if pg = some false then
      if s0.rd (Reg.RAIL_CHCTL.POLICY n) = 3 then
        (setPair Reg.RAIL_WARN0.CH Reg.RAIL_WARN1.CH n s).set Reg.RAIL_EVT.WARN
      else railFault n 2 s
    else leave s
  | 4 =>
    if s0.rail.clr.testBit n then (railGo n chOff c s).wr (Reg.RAIL_CHSTAT.TRIES n) 0
    else if s0.rd (Reg.RAIL_CHCTL.POLICY n) = 1
        ∧ s0.rd (Reg.RAIL_CHSTAT.TRIES n) < s0.rd (Reg.RAIL_CHCTL.RETRIES n)
        ∧ s0.rd (Reg.RAIL_CHRETRY.RETRYDLY n) ≤ t - c.faultAt then
      (railGo n chOff c s).count (Reg.RAIL_CHSTAT.TRIES n)
    else s
  | 5 =>
    let reached := s0.rd (Reg.RAIL_CHOFFTO.OFFTO n) ≤ t - c.timer
    if pg = some false ∨ (pg = none ∧ reached) then
      (railGo n chOff c s).wr (Reg.RAIL_CHSTAT.TRIES n) 0
    else if reached then railFault n 3 s
    else s
  | _ => s

/-- SETDONE (R144): every channel of the target set is ON and every other one OFF or FAULT. -/
def setDone (s : State) : Bool :=
  let target := railSet s (s.rd Reg.RAIL_CTRL.TSEL)
  (List.range 40).all fun n =>
    if target.testBit n then chState s n == chOn else chState s n == chOff || chState s n == chFault

/-- The rail sequencer step (R136, R137); while HOLD=1 it changes nothing (R141). DEDUCED (log 39). -/
def railStep (s : State) : State :=
  if s.on Reg.SYS_PADHOLD.HOLD then s
  else
    let g := railGraph s
    let dem := demanded s g
    let target := railSet s (s.rd Reg.RAIL_CTRL.TSEL)
    let t := s
    let t := if g.any (·.any fun p => 39 < p) then t.set Reg.RAIL_STAT.CFGERR else t
    let t := if (List.range 40).any (onCycle g) then t.set Reg.RAIL_STAT.CYCLE else t
    let t := if (List.range 40).any fun n => target.testBit n && (g.getD n []).any fun p => !target.testBit p
             then t.set Reg.RAIL_STAT.OPENSET else t
    let t := (List.range 40).foldl (fun t n =>
      let free := (List.range 40).all fun m => !((g.getD m []).contains n && holdsUp (chState s m))
      (railMove s n (dem.contains n) (g.getD n []) free t).wrB (Reg.RAIL_CHSTAT.DEMANDED n) (dem.contains n)) t
    let t := { t with rail := { t.rail with clr := 0, steps := t.rail.steps + 1 } }
    let done := setDone t
    let t := if done && !t.on Reg.RAIL_STAT.SETDONE then t.set Reg.RAIL_EVT.SETDONE else t
    t.wrB Reg.RAIL_STAT.SETDONE done

/-- A write of RAIL_CLR: bits of channels not in FAULT are ignored; the others act at the next step. -/
def railClr (base v : Nat) (s : State) : State :=
  let bits := (List.range 32).foldl (fun m i =>
    if v.testBit i && base + i < 40 && chState s (base + i) == chFault then m ||| 2 ^ (base + i) else m) 0
  { s with rail := { s.rail with clr := s.rail.clr ||| bits } }

/-! ### Hold and adoption (R31, R141) -/

/-- One channel takes its state from its held enable; one with no power-good source enters ON. DESIGN CHOICE
(log 125). -/
def adoptOne (held : Nat) (s : State) (n : Nat) : State :=
  if held.testBit n then
    if railPg s n = some false then railFault n 5 s else s.wr (Reg.RAIL_CHSTAT.STATE n) chOn
  else s.wr (Reg.RAIL_CHSTAT.STATE n) chOff

/-- Firmware clears HOLD: every channel is adopted in the same cycle (R141). -/
def adopt (s : State) : State :=
  let held := pairMask s Reg.RAIL_HELD0.CH Reg.RAIL_HELD1.CH
  (List.range 40).foldl (adoptOne held) (s.clr Reg.SYS_PADHOLD.HOLD)

/-- AON takes the enables over at a domain reset (R31). -/
def holdRails (s : State) : State :=
  let m := railEnables s
  ((holdPins s).wr Reg.RAIL_HELD0.CH m).wr Reg.RAIL_HELD1.CH (m / 2 ^ 32)

/-! ### Registers -/

/-- RAIL_CHSTATn, with PG as it stands, and EN as the channel drives it, in a hold too. DESIGN CHOICE (log 125). -/
def chStatWord (s : State) (a : Nat) : Nat :=
  let n := (a - 0x4002011C) / 0x20
  ((s.wrB (Reg.RAIL_CHSTAT.EN n) (railActive s n)).wrB (Reg.RAIL_CHSTAT.PG n)
    (railPg s n == some true)).regWord a

/-- A core read of the RAIL block. -/
def railRead (a : Nat) (s : State) : Nat × State :=
  if 0x40020100 ≤ a ∧ a < 0x40020600 ∧ a % 0x20 = 0x1C then (chStatWord s a, s) else (s.regWord a, s.clearRc a)

/-- A core write to the RAIL block. DESIGN CHOICE (log 38). -/
def railWrite (a v : Nat) (s : State) : State :=
  match a with
  | 0x40020004 => railStatWrite v s
  | 0x40020018 => railClr 0 v s
  | 0x4002001C => railClr 32 v s
  | _ => s.regWrite a v

end Sys2Proof.Machine
end

