-- ==== Sys2Proof/Machine/Thm.lean ====
section
/-! DEFINITION. The ADC, the thermal inputs and their trip actions, and the fan channels (R254 to R267). -/

namespace Sys2Proof.Machine

/-- The signed value of an unsigned field of `w` bits. -/
def signed (w v : Nat) : Int := if v < 2 ^ (w - 1) then v else (v : Int) - 2 ^ w

/-- The field value of a signed number. -/
def unsigned (w : Nat) (v : Int) : Nat := (v % 2 ^ w).toNat

/-- Thermal input `n` besides its registers. -/
def thermIn (s : State) (n : Nat) : ThermIn := Sparse.get {} n s.thm.ins

/-- Set it. -/
def setThermIn (n : Nat) (x : ThermIn) (s : State) : State :=
  { s with thm := { s.thm with ins := Sparse.put {} n x s.thm.ins } }

/-- Fan channel `n` besides its registers. -/
def fanCh (s : State) (n : Nat) : FanCh := Sparse.get {} n s.thm.fans

/-- Set it. -/
def setFanCh (n : Nat) (x : FanCh) (s : State) : State :=
  { s with thm := { s.thm with fans := Sparse.put {} n x s.thm.fans } }

/-! ### Fan channels (R262 to R266) -/

def fnOff : Nat := 0
def fnSpinup : Nat := 1
def fnRun : Nat := 2
def fnRetry : Nat := 3
def fnStall : Nat := 4
def fnNoload : Nat := 5

/-- STATE of channel `n`. -/
def fanState (s : State) (n : Nat) : Nat := s.rd (Reg.FAN_STATn.STATE n)

/-- VFULL in mV (R262). -/
def vfull (s : State) (n : Nat) : Nat := min (s.rd (Reg.FAN_VLIM.VMAX n)) (s.thm.fanvin * 95 / 100)

/-- The fan mask of the levels in force (R260). -/
def fanMask (s : State) : Nat :=
  let l := s.rd Reg.THM_STAT.LEVEL
  (if 1 ≤ l then s.rd Reg.THM_ACT.WFAN else 0) ||| (if 2 ≤ l then s.rd Reg.THM_ACT.HFAN else 0)
    ||| (if 3 ≤ l then s.rd Reg.THM_ACT.CFAN else 0)

/-- Channel `n` is forced (R266). -/
def fanForced (s : State) (n : Nat) : Bool :=
  s.rd (Reg.FAN_CTRL.MODE n) != 0 && ((fanMask s).testBit n
    || (s.on (Reg.FAN_CTRL.BOOST n) && [0, 1, 2, 3].any fun m => m != n && fanState s m == fnStall))

/-- Enter a state; its timer starts. -/
def fanGo (n st : Nat) (s : State) : State :=
  (setFanCh n { fanCh s n with timer := s.tbase } s).wr (Reg.FAN_STATn.STATE n) st

/-- A forced channel is started if it is OFF. -/
def fanForce (s : State) : State :=
  [0, 1, 2, 3].foldl (fun s n => if fanForced s n && fanState s n == fnOff then fanGo n fnSpinup s else s) s

/-- OFF: output off; `clear` says that TRIES becomes 0, as in the rows from RUN by a step and from STALL (R264). -/
def fanStop (clear : Bool) (n : Nat) (s : State) : State :=
  let s := fanGo n fnOff s
  fanForce (if clear then s.wr (Reg.FAN_STATn.TRIES n) 0 else s)

/-- STALL with its cause, event and record. -/
def fanStall (n cause : Nat) (s : State) : State :=
  let s := (fanGo n fnStall s).wr (Reg.FAN_STATn.CAUSE n) cause
  fanForce ((s.setBit Reg.FAN_EVT.STALL n).hwLog 0x09 4 1 [n, cause])

/-- NOLOAD with its event and record. -/
def fanNoload (n : Nat) (s : State) : State :=
  ((fanGo n fnNoload s).setBit Reg.FAN_EVT.NOLOAD n).hwLog 0x09 3 2 [n]

/-- PPR and RPR as they act. -/
def fanPpr (s : State) (n : Nat) : Nat :=
  let p := s.rd (Reg.FAN_CTRL.PPR n)
  if 1 ≤ p ∧ p ≤ 4 then p else 2

def fanRpr (s : State) (n : Nat) : Nat :=
  let r := s.rd (Reg.FAN_CTRL.RPR n)
  if 1 ≤ r ∧ r ≤ 8 then r else 4

/-- TRPM and RRPM of a reading (R263). -/
def trpm (s : State) (n : Nat) (r : FanReading) : Nat :=
  if r.period = 0 then 0 else min 65535 (60000000 / (fanPpr s n * r.period))

def rrpm (s : State) (n : Nat) (r : FanReading) : Nat :=
  let v := 60 * r.ripple / fanRpr s n
  if v < 300 then 0 else min 65535 v

/-- The output current, which the buck holds cycle by cycle at 1,250 mA (R262). -/
def fanCurrent (r : FanReading) : Nat := min 1250 r.iout

/-- Take a channel's readings. -/
def fanRead (n : Nat) (r : FanReading) (s : State) : State :=
  let s := { s with thm := { s.thm with fanvin := r.fanvin } }
  let s := (s.wr (Reg.FAN_SPD.TRPM n) (trpm s n r)).wr (Reg.FAN_SPD.RRPM n) (rrpm s n r)
  s.wr (Reg.FAN_OUT.IOUT n) (fanCurrent r)

/-- FANVIN is good: the supervision of the channels runs. -/
def fanPowered (s : State) : Bool := !s.on Reg.FAN_STAT.FANVINUV

/-- The state's timer has run for `d` microseconds. -/
def fanTimer (s : State) (n d : Nat) : Bool := decide ((fanCh s n).timer + d ≤ s.tbase)

/-- The output voltage commanded. -/
def fanVout (s : State) (n : Nat) : Nat :=
  if !fanPowered s then 0
  else if fanState s n = fnSpinup then vfull s n
  else if fanState s n = fnRun then (if fanForced s n then vfull s n else (fanCh s n).v)
  else 0

/-! ### Trip levels (R259, R260) -/

/-- The thresholds of input `n` in 1/16 °C for the levels 1 to 3. -/
def threshold (s : State) (n level : Nat) : Int :=
  let w := signed 8 (s.rd (Reg.THM_TTHR.WARN n))
  let h := max w (signed 8 (s.rd (Reg.THM_TTHR.HIGH n)))
  let c := max h (signed 8 (s.rd (Reg.THM_TTHR.CRIT n)))
  16 * (if level = 1 then w else if level = 2 then h else c)

/-- The highest level for which `p` holds, or NORMAL. -/
def highest (p : Nat → Bool) : Nat := if p 3 then 3 else if p 2 then 2 else if p 1 then 1 else 0

/-- Input `n`'s temperature in 1/16 °C. -/
def tempOf (s : State) (n : Nat) : Int := signed 16 (s.rd (Reg.THM_TEMP.TEMP n))

/-- The level at which input `n` counts: a faulted one at FAULTAS, a disabled one at NORMAL. -/
def countsAt (s : State) (n : Nat) : Nat :=
  if !s.on (Reg.THM_TCFG.EN n) then 0
  else if s.rd (Reg.THM_TEMP.FAULT n) ≠ 0 then s.rd (Reg.THM_TCFG.FAULTAS n)
  else s.rd (Reg.THM_TEMP.LEVEL n)

/-- The system level follows its inputs, with its events and actions; input `n` is the one that changed. -/
def thmSystem (n : Nat) (s : State) : State :=
  let old := s.rd Reg.THM_STAT.LEVEL
  let new := (List.range 20).foldl (fun m k => max m (countsAt s k)) 0
  let flt := (List.range 20).any fun k => s.on (Reg.THM_TCFG.EN k) && s.rd (Reg.THM_TEMP.FAULT k) != 0
  let s := (s.wr Reg.THM_STAT.LEVEL new).wrB Reg.THM_STAT.FAULT flt
  let s := s.wrB Reg.THM_STAT.PROCHOT ((1 ≤ new && s.on Reg.THM_ACT.WHOT) || (2 ≤ new && s.on Reg.THM_ACT.HHOT)
    || (3 ≤ new && s.on Reg.THM_ACT.CHOT))
  let s :=
    if old < new then
      let s := s.set Reg.THM_EVT.LEVELUP
      let s := if (1 ≤ new && s.on Reg.THM_ACT.WRAIL) || (2 ≤ new && s.on Reg.THM_ACT.HRAIL)
          || (3 ≤ new && s.on Reg.THM_ACT.CRAIL) then
          (setTsel (s.rd Reg.RAIL_CTRL.FLTSET) s).set Reg.RAIL_STAT.FLTHOLD
        else s
      if new = 3 then
        s.hwLog 0x0A 5 1 [n, 0, s.rd (Reg.THM_TEMP.TEMP n) % 256, s.rd (Reg.THM_TEMP.TEMP n) / 256]
      else s
    else if new < old then s.set Reg.THM_EVT.LEVELDN
    else s
  fanForce s

/-- The die sensor at the power-path stage, DIE1, by its number as a thermal input (R254). DEDUCED (log 114). -/
def inStageDie : Nat := 17

/-- The charger's die source is faulted, and counts at +127 °C (R258). DEDUCED (log 114). -/
def stageDieFaulted (s : State) : Bool := s.rd (Reg.THM_TEMP.FAULT inStageDie) != 0

/-- Input `n` becomes faulted (R258).  The samples of its filter are no longer consecutive (R259), and the stage's die
sensor at +127 °C stops the stage (R180). DEDUCED (log 114). -/
def thmFault (n kind : Nat) (s : State) : State :=
  let s := if s.rd (Reg.THM_TEMP.FAULT n) = 0 then s.set Reg.THM_EVT.SENSFLT else s
  let s := setThermIn n { thermIn s n with hist := [] } (s.wr (Reg.THM_TEMP.FAULT n) kind)
  if n = inStageDie then dieStop s else s

/-- A good sample of the stage's die sensor after a fault: a die below 100 °C lets the stage resume (R180, R258). DEDUCED
(log 114). -/
def stageDieBack (n : Nat) (t : Int) (faulted : Bool) (s : State) : State :=
  if n = inStageDie ∧ faulted ∧ t < 1600 then s.clr Reg.CHG_STAT.TSHUT else s

/-- The level of a good sample of an enabled input (R259). -/
def thmLevel (n : Nat) (s : State) : State :=
  let t := tempOf s n
  let cur := s.rd (Reg.THM_TEMP.LEVEL n)
  let r := highest fun l => decide (threshold s n l ≤ t)
  let hyst : Int := 16 * s.rd (Reg.THM_TCFG.HYST n)
  let x := thermIn s n
  let hist := (r :: x.hist).take 4
  let s := setThermIn n { x with hist := hist } s
  let up := s.rd (Reg.THM_TCFG.UPCNT n) + 1
  if cur < r ∧ up ≤ hist.length ∧ (hist.take up).all (fun l => cur < l) then s.wr (Reg.THM_TEMP.LEVEL n) r
  else if cur ≠ 0 ∧ t ≤ threshold s n cur - hyst then
    s.wr (Reg.THM_TEMP.LEVEL n) (highest fun l => decide (threshold s n l - hyst < t))
  else s

/-- The temperature of an NTC code (R257). -/
def ntcTemp (s : State) (n code : Nat) : Int :=
  let lut := s.rd (Reg.THM_TCFG.LUT n)
  let t0 := signed 16 (s.rd (Reg.THM_LUT.TEMP lut (code / 128)))
  let t1 := signed 16 (s.rd (Reg.THM_LUT.TEMP lut (code / 128 + 1)))
  t0 + ((t1 - t0) * (code % 128 : Nat)).tdiv 128

/-- A sample of thermal input `n`. -/
def thmSample (n code : Nat) (s : State) : State :=
  let s := setThermIn n { thermIn s n with at_ := s.tbase } s
  let s :=
    if n < 16 ∧ 4000 < code then thmFault n 1 s
    else if n < 16 ∧ code < 40 then thmFault n 2 s
    else
      let t : Int := if n < 16 then ntcTemp s n code else (code : Int) - 1024
      let s := stageDieBack n t (stageDieFaulted s) s
      let s := (s.wr (Reg.THM_TEMP.FAULT n) 0).wr (Reg.THM_TEMP.TEMP n) (unsigned 16 t)
      if s.on (Reg.THM_TCFG.EN n) then thmLevel n s else s
  thmSystem n s

/-- An input not converted for the staleness limit (R258). -/
def thmStale (n : Nat) (s : State) : State :=
  let lim := s.rd Reg.THM_CTRL.STALE
  if s.on (Reg.THM_TCFG.EN n) && lim != 0 && decide ((thermIn s n).at_ + lim * 10000 ≤ s.tbase) then
    thmSystem n (thmFault n 3 s)
  else s

/-- The temperature in whole °C that a consumer takes: +127 of a faulted input (R258). -/
def consumerTemp (s : State) (n : Nat) : Int :=
  if s.rd (Reg.THM_TEMP.FAULT n) ≠ 0 then 127 else tempOf s n / 16

/-! ### Conversions (R256) -/

/-- A conversion of mux input `i` with its result. -/
def convert (i code : Nat) (s : State) : State :=
  let s := (s.wr (Reg.THM_RES.CODE i) code).set (Reg.THM_RES.VALID i)
  if i < 16 then thmSample i code s
  else if i < 24 then vmonSample (i - 16) code s
  else if i < 28 then thmSample (i - 8) code s
  else s

/-- The mux inputs of sequence `j`, ascending. -/
def seqInputs (s : State) (j : Nat) : List Nat :=
  let m := s.rd (Reg.THM_SEQLO.MASKLO j) + s.rd (Reg.THM_SEQHI.MASKHI j) * 2 ^ 32
  (List.range 48).filter m.testBit

/-- An ADC sample-and-compare action: the codes by mux input; the reserved input 47 converts as 0. -/
def adcSequence (j : Nat) (codes : List (BitVec 12)) (s : State) : State :=
  (seqInputs s j).foldl (fun s i => convert i (if i = 47 then 0 else (codes.getD i 0).toNat) s) s

/-! ### The fan control step (R267) -/

/-- The curve's points: those with a TEMP above that of the point before. -/
def curvePoints (s : State) (n : Nat) : List (Int × Nat) :=
  [0, 1, 2, 3].foldl (fun l p =>
    let q : Int × Nat := (signed 8 (s.rd (Reg.FAN_CPT.TEMP n p)), s.rd (Reg.FAN_CPT.RPM n p))
    match l.getLast? with
    | some b => if b.1 < q.1 then l ++ [q] else l
    | none => [q]) []

/-- The curve between its points. -/
def curveAt (t : Int) : List (Int × Nat) → Nat
  | [] => 0
  | [p] => p.2
  | p :: q :: rest =>
    if t ≤ p.1 then p.2
    else if t ≤ q.1 then ((p.2 : Int) + (((q.2 : Int) - p.2) * (t - p.1)).tdiv (q.1 - p.1)).toNat
    else curveAt t (q :: rest)

/-- The highest temperature of the enabled inputs in SRC. -/
def srcTemp (s : State) (n : Nat) : Int :=
  ((List.range 20).filter fun i => (s.rd (Reg.FAN_SRC.SRC n)).testBit i && s.on (Reg.THM_TCFG.EN i)).foldl
    (fun m i => max m (consumerTemp s i)) (-128)

/-- The target in rpm of the step. -/
def fanTarget (s : State) (n : Nat) : Nat :=
  match s.rd (Reg.FAN_CTRL.MODE n) with
  | 2 => s.rd (Reg.FAN_TGT.TGT n)
  | 3 => curveAt (srcTemp s n) (curvePoints s n)
  | _ => 0

/-- The speed used (R263). -/
def fanSpeed (s : State) (n : Nat) : Nat :=
  if !s.on (Reg.FAN_CTRL.TACHEN n) || s.on (Reg.FAN_STATn.TACHLOST n) then s.rd (Reg.FAN_SPD.RRPM n)
  else s.rd (Reg.FAN_SPD.TRPM n)

/-- `v` held between the lowest running voltage and VFULL. -/
def fanClamp (s : State) (n : Nat) (v : Int) : Nat :=
  min (max v (s.rd (Reg.FAN_VLIM.VMIN n))).toNat (vfull s n)

/-- The step of channel `n`. -/
def fanStep (n : Nat) (s : State) : State :=
  let volt := s.rd (Reg.FAN_CTRL.MODE n) == 1
  let t := fanTarget s n
  let demand := if volt then s.rd (Reg.FAN_VOLT.VSET n) != 0 else t != 0
  let s := if fanState s n == fnOff && demand then fanGo n fnSpinup s else s
  if fanState s n ≠ fnRun ∨ fanForced s n then s
  else if !demand then fanStop true n s
  else
    let slew : Int := 10 * max 1 (s.rd (Reg.FAN_LOOP.SLEW n))
    let d := (((t : Int) - fanSpeed s n) * s.rd (Reg.FAN_LOOP.KI n)).tdiv 1024
    let v := if volt then fanClamp s n (s.rd (Reg.FAN_VOLT.VSET n))
      else fanClamp s n ((fanCh s n).v + max (-slew) (min slew d))
    setFanCh n { fanCh s n with v := v } s

/-! ### Supervision (R264, R265) -/

/-- SPINUP succeeds. -/
def fanStarted (n : Nat) (edges : Bool) (s : State) : State :=
  if fanState s n == fnSpinup && fanPowered s
      && ((edges && s.on (Reg.FAN_CTRL.TACHEN n)) || decide (300 ≤ s.rd (Reg.FAN_SPD.RRPM n))) then
    let s := if edges then (fanGo n fnRun s).clr (Reg.FAN_STATn.TACHLOST n) else fanGo n fnRun s
    (setFanCh n { fanCh s n with v := vfull s n } s).setBit Reg.FAN_EVT.STARTOK n
  else s

/-- SPINUP fails after 1.5 s. -/
def fanSpinFail (n : Nat) (s : State) : State :=
  if fanState s n == fnSpinup && fanPowered s && fanTimer s n 1500000 then
    if s.rd (Reg.FAN_STATn.TRIES n) < 3 then (fanGo n fnRetry s).count (Reg.FAN_STATn.TRIES n)
    else fanStall n 1 s
  else s

/-- FANVIN falls below 4.3 V or returns to 4.5 V (R262). -/
def fanvinSeen (mv : Nat) (s : State) : State :=
  let s := { s with thm := { s.thm with fanvin := mv } }
  if mv < 4300 then
    (if fanPowered s then (s.set Reg.FAN_STAT.FANVINUV).set Reg.FAN_EVT.FANVINUV else s)
  else if 4500 ≤ mv ∧ !fanPowered s then
    [0, 1, 2, 3].foldl (fun s n =>
      if fanState s n = fnSpinup ∨ fanState s n = fnRun then
        (fanGo n fnSpinup s).wr (Reg.FAN_STATn.TRIES n) 0
      else s) (s.clr Reg.FAN_STAT.FANVINUV)
  else s

/-! ### Registers -/

/-- A core read of the FAN block. -/
def fanRegRead (a : Nat) (s : State) : Nat × State :=
  let s' := s.wr Reg.FAN_STAT.STALLED ([0, 1, 2, 3].foldl (fun m n => if fanState s n = fnStall then m + 2 ^ n else m) 0)
  if a = 0x40090004 then (s'.regWord a, s)
  else if 0x40090100 ≤ a ∧ a < 0x40090200 then
    let n := (a - 0x40090100) / 0x40
    match (a - 0x40090100) % 0x40 with
    | 0x2C => ((s.wrB (Reg.FAN_STATn.FORCED n) (fanForced s n)).regWord a, s)
    | 0x34 => ((s.wr (Reg.FAN_OUT.VOUT n) (fanVout s n)).regWord a, s)
    | _ => (s.regWord a, s)
  else (s.regWord a, s.clearRc a)

/-- A write of FAN_CTRLn: with TACHEN=0 TACHLOST is not set (R265); MODE=OFF turns the channel off, CLR leaves STALL. -/
def fanCtrlWrite (n v : Nat) (s0 : State) : State :=
  let s := s0.regWrite (0x40090100 + 0x40 * n) v
  let s := if s.on (Reg.FAN_CTRL.TACHEN n) then s else s.clr (Reg.FAN_STATn.TACHLOST n)
  let stall := fanState s n == fnStall
  if s.rd (Reg.FAN_CTRL.MODE n) = 0 then (if fanState s n = fnOff then s else fanStop stall n s)
  else if (Reg.FAN_CTRL.CLR n).of v = 1 ∧ stall then fanStop true n s
  else fanForce s

/-- Clamp a field. -/
def clampTo (f : Field) (lo hi : Nat) (s : State) : State := s.wr f (max lo (min hi (s.rd f)))

/-- A core write to the FAN block. -/
def fanRegWrite (a v : Nat) (s : State) : State :=
  if 0x40090100 ≤ a ∧ a < 0x40090200 then
    let n := (a - 0x40090100) / 0x40
    match (a - 0x40090100) % 0x40 with
    | 0x00 => fanCtrlWrite n v s
    | 0x04 => clampTo (Reg.FAN_VOLT.VSET n) 0 12000 (s.regWrite a v)
    | 0x08 =>
      let s := clampTo (Reg.FAN_VLIM.VMIN n) 1000 12000 (s.regWrite a v)
      clampTo (Reg.FAN_VLIM.VMAX n) (s.rd (Reg.FAN_VLIM.VMIN n)) 12000 s
    | 0x28 => clampTo (Reg.FAN_ILIM.ISTALL n) 100 1250 (clampTo (Reg.FAN_ILIM.INOLOAD n) 0 200 (s.regWrite a v))
    | _ => s.regWrite a v
  else s.regWrite a v

/-- A core write to the THM block: locked changes set LOCKERR (R261), a disabled input becomes NORMAL. -/
def thmWrite (a v : Nat) (s0 : State) : State :=
  let s := if s0.lockHit a v then s0.set Reg.THM_EVT.LOCKERR else s0
  let s := s.regWrite a v
  if 0x400A0400 ≤ a ∧ a < 0x400A04A0 then
    let n := (a - 0x400A0400) / 8
    if !s.on (Reg.THM_TCFG.EN n) then thmSystem n (setThermIn n { thermIn s n with hist := [] } (s.wr (Reg.THM_TEMP.LEVEL n) 0))
    else if !s0.on (Reg.THM_TCFG.EN n) then thmSystem n (setThermIn n { hist := [], at_ := s.tbase } s)
    else thmSystem n s
  else if a = 0x400A0010 then thmSystem 0 s
  else s

/-- The THM and FAN blocks after a domain reset: FANVIN is a supply and stays. -/
def thmDomainReset (s : State) : State := { s with thm := { fanvin := s.thm.fanvin } }

end Sys2Proof.Machine
end

