-- ==== Sys2Proof/Machine/Lux.lean ====
section
/-! DEFINITION. The Rime lighting engine: the channel pipeline, fades, derating, the on-chip matrix, the LED
supply and channel diagnosis (R217 to R239). -/

namespace Sys2Proof.Machine

/-! ### Channel words (R217, R218, R228) -/

/-- Base of a frame buffer, and of an on-chip frame. -/
def frameBase (k : Nat) : Nat := luxBase + 0x10000 * k
def ocBase (k : Nat) : Nat := luxBase + 0x30000 + 0x600 * k
def calBase : Nat := luxBase + 0x20000

/-- Addresses of channel `n`'s front word, calibration word and front on-chip word. -/
def frontAddr (s : State) (n : Nat) : Nat := frameBase (1 - s.rd Reg.LUX_STAT.BACK) + 2 * n
def calAddr (n : Nat) : Nat := calBase + 2 * n
def ocAddr (s : State) (n : Nat) : Nat := ocBase (1 - s.rd Reg.LUX_STAT.OCBACK) + 2 * n

/-- GAIN and CCM of channel `n`. -/
def gainOf (s : State) (n : Nat) : Nat := s.loadNat (calAddr n) 2 / 64
def ccmOf (s : State) (n : Nat) : Nat := s.loadNat (calAddr n) 2 % 64

/-- The channel takes its code from the on-chip frame (R227). -/
def directChannel (s : State) (n : Nat) : Bool := s.on Reg.LUX_CTRL.DIRECT && decide (n < 768)

/-- A parity error in this channel's words (R226). -/
def channelBad (s : State) (n : Nat) : Bool :=
  if directChannel s n then (s.firstBad (ocAddr s n) 2).isSome
  else (s.firstBad (frontAddr s n) 2).isSome || (s.firstBad (calAddr n) 2).isSome || s.lux.fadeBad.contains n

/-! ### Lamp map (R229) -/

/-- Region `r` covers channel `n`. -/
def inRegion (s : State) (n r : Nat) : Bool :=
  let w := s.rd (Reg.LUX_LAMPA.WIDTH r)
  (w == 1 || w == 2) && decide (s.rd (Reg.LUX_LAMPA.START r) ≤ n)
    && decide (n < s.rd (Reg.LUX_LAMPA.START r) + s.rd (Reg.LUX_LAMPB.COUNT r)) && decide (n ≤ 32767)

/-- The lowest region that covers channel `n`. -/
def regionOf (s : State) (n : Nat) : Option Nat := (List.range 16).find? (inRegion s n)

/-- The first channel of the triple that holds channel `n`, where it belongs to a lamp of width 3. -/
def tripleOf (s : State) (n : Nat) : Option Nat :=
  match regionOf s n with
  | some r =>
    let start := s.rd (Reg.LUX_LAMPA.START r)
    let first := start + (n - start) / 3 * 3
    let last := min (start + s.rd (Reg.LUX_LAMPB.COUNT r)) 32768
    if s.rd (Reg.LUX_LAMPA.WIDTH r) = 2 ∧ first + 3 ≤ last then some first else none
  | none => none

/-- The fade time of channel `n` in microseconds, and whether its curve is gamma. -/
def fadeTime (s : State) (n : Nat) : Nat :=
  match regionOf s n with
  | some r => min (s.rd (Reg.LUX_LAMPB.FADET r)) 512 * 15625
  | none => 0

def fadeGamma (s : State) (n : Nat) : Bool :=
  match regionOf s n with
  | some r => s.on (Reg.LUX_LAMPB.CURVE r)
  | none => false

/-! ### Fades (R230) -/

/-- The `k`-th root of `x`, rounded down, built from bit `b` down. -/
def rootBits (k x : Nat) : Nat → Nat → Nat
  | 0, acc => acc
  | b + 1, acc => rootBits k x b (if (acc + 2 ^ b) ^ k ≤ x then acc + 2 ^ b else acc)

/-- (v / 65,535)^(1 / 2.2), scaled by 2^32. -/
def gammaIn (v : Nat) : Nat := rootBits 11 (v ^ 5 * 2 ^ 352 / 65535 ^ 5) 33 0

/-- 65,535 × (g / 2^32)^2.2, rounded. -/
def gammaOut (g : Nat) : Nat := (rootBits 5 (131070 ^ 5 * g ^ 11 / 2 ^ 352) 18 0 + 1) / 2

/-- The gamma curve at `d` of `ft` microseconds, with an open error `e` of at most 0.05% of full scale.
DESIGN CHOICE (log 52). -/
def gammaFade (start target d ft e : Nat) : Nat :=
  if d = 0 then start
  else
    let a : Int := gammaIn start
    let b : Int := gammaIn target
    let x : Int := gammaOut (a + (b - a) * d / ft).toNat + (e % 65 : Nat) - 32
    (max 0 (min 65535 x)).toNat

/-- The fade value at sync time `t` (R230). DESIGN CHOICE (log 52). -/
def fadeValue (x : Fade) (t ft : Nat) (gamma : Bool) (e : Nat) : Nat :=
  if ft = 0 ∨ x.t0 + ft ≤ t then x.target
  else if gamma then gammaFade x.start x.target (t - x.t0) ft e
  else (((x.start : Int) * ft + ((x.target : Int) - x.start) * (t - x.t0 : Nat)) / ft).toNat

/-- Channel `n`'s fade state after the frame cycle of the last accepted sync. -/
def nextFade (s : State) (n : Nat) : Fade :=
  let t := s.lux.lastSync.getD s.tbase
  let v := s.loadNat (frontAddr s n) 2
  let x : Fade := Sparse.get {} n s.lux.fades
  if s.lux.fadeBad.contains n then ⟨v, v, t, v⟩
  else
    let x := if v = x.target then x else { x with target := v, start := x.shown, t0 := t }
    { x with shown := fadeValue x t (fadeTime s n) (fadeGamma s n) (Config.freeNat (s.free + n)) }

/-- The fades of channels `0` to `n - 1` advance; those that direct mode leaves unused stay. -/
def advanceFades (n : Nat) (s : State) : State :=
  let l := ((List.range n).filter fun k => !directChannel s k).foldl
    (fun l k => Sparse.put {} k (nextFade s k) l) s.lux.fades
  { s with
    free := s.free + n
    lux := { s.lux with fades := l, fadeBad := s.lux.fadeBad.filter fun k => decide (n ≤ k) || directChannel s k } }

/-! ### The pipeline (R226, R227) -/

/-- Derating FACTOR at a temperature (R231). -/
def factorAt (s : State) (t : Int) : Nat :=
  let knee : Int := s.rd Reg.LUX_DERATE.KNEE
  let limit : Int := s.rd Reg.LUX_DERATE.LIMIT
  if t ≤ knee then 1024
  else if limit ≤ t ∨ limit ≤ knee then 256
  else (1024 - 768 * (t - knee) / (limit - knee)).toNat

/-- The engine takes FACTOR at a sync: the die sensor of the LUX domain, or an NTC input (R231). -/
def takeFactor (s : State) : State :=
  let t := consumerTemp s (if s.on Reg.LUX_DERATE.SRC then s.rd Reg.LUX_DERATE.NTC else 18)
  (s.wr Reg.LUX_DERSTAT.TEMP (unsigned 8 t)).wr Reg.LUX_DERSTAT.FACTOR (factorAt s t)

/-- The fade value channel `n` shows. -/
def shownOf (s : State) (n : Nat) : Nat := (Sparse.get ({} : Fade) n s.lux.fades).shown

/-- A colour matrix coefficient in units of 1/16,384. -/
def coef (s : State) (m k : Nat) : Int := signed 16 (s.rd (Reg.LUX_CCM.COEF m k))

/-- Stage 3. -/
def colour (s : State) (n : Nat) : Nat :=
  match tripleOf s n with
  | some f =>
    let m := ccmOf s f
    let row := n - f
    let x := (coef s m (3 * row) * shownOf s f + coef s m (3 * row + 1) * shownOf s (f + 1)
      + coef s m (3 * row + 2) * shownOf s (f + 2)) / 16384
    (max 0 (min 65535 x)).toNat
  | none => shownOf s n

/-- The diagnosis state of channel `n` (R237). -/
def diagOf (s : State) (n : Nat) : Nat := s.rd (Reg.LUX_DIAG.STATE (n / 16)) / 4 ^ (n % 16) % 4

/-- Set it. -/
def setDiag (n v : Nat) (s : State) : State :=
  let w := s.rd (Reg.LUX_DIAG.STATE (n / 16))
  s.wr (Reg.LUX_DIAG.STATE (n / 16)) (w - diagOf s n * 4 ^ (n % 16) + v * 4 ^ (n % 16))

/-- The out code of channel `n`; `bad` says that its words had a parity error this frame. -/
def outCode (s : State) (n : Nat) (bad : Bool) : Nat :=
  let factor := s.rd Reg.LUX_DERSTAT.FACTOR
  if bad || s.on Reg.LUX_CTRL.BLANK || (decide (n < 768) && diagOf s n == 3) then 0
  else if directChannel s n then s.loadNat (ocAddr s n) 2 * factor / 1024
  else
    let g := colour s n * (1024 - gainOf s n) / 1024
    g * (min 1024 (s.rd Reg.LUX_BRIGHT.BRIGHT) * factor / 1024) / 1024

/-- Step 3 of a frame cycle: channels `0` to `n - 1` are computed; parity errors are counted (R239).
DEDUCED (log 55). -/
def computeFrame (n : Nat) (s0 : State) : State :=
  let s := advanceFades n s0
  let bad := (List.range n).filter (channelBad s0)
  let codes := (List.range n).foldl (fun l k => Sparse.put 0 k (outCode s k (bad.contains k)) l) []
  let s := { s with lux := { s.lux with codes := codes } }
  if bad.isEmpty then s
  else ((s.count Reg.LUX_CNT.PAR bad.length).set Reg.LUX_EVT.PARITY).set Reg.ERR_MEMSTAT.LUXMEM

/-! ### The matrix (R232, R233) -/

/-- NSCAN as it acts. -/
def scanLines (s : State) : Nat :=
  let n := s.rd Reg.LUX_MCFG.NSCAN
  if n = 0 ∨ 16 < n then 16 else n

/-- The matrix timing of the registers is valid. -/
def timingValid (s : State) : Bool :=
  let l := s.rd Reg.LUX_MTIM.LINE
  let b := s.rd Reg.LUX_MTIM.BLANK
  decide (b + 300 ≤ l) && decide (100 ≤ b) && decide (1000 ≤ l)

/-- The scan takes the registers' timing. -/
def takeTiming (s : State) : State :=
  { s with lux := { s.lux with
      line := s.rd Reg.LUX_MTIM.LINE, blank := s.rd Reg.LUX_MTIM.BLANK, nscan := scanLines s
      scnpol := s.on Reg.LUX_MCFG.SCNPOL } }

/-- A scan starts: the one that a diagnosis pass has asked for is a test scan (R236). -/
def scanStart (s : State) : State :=
  { s with lux := { s.lux with testScan := s.lux.testReq, testReq := false, scanAt := s.tbase } }

/-- The end of the line that the matrix scans now: TBASE, rounded up (R232). -/
def lineEnd (s : State) : Nat :=
  let line := max 1000 s.lux.line
  s.lux.scanAt + (((s.tbase - s.lux.scanAt) * 100 / line + 1) * line + 99) / 100

/-- The matrix runs, or its line runs out after a check that failed (R232). -/
def matrixOn (s : State) : Bool := s.on Reg.LUX_STAT.RUNNING || s.tbase < s.lux.stopAt

/-- The check of R232: a matrix that stops runs to the end of its line.  A timing that has become valid starts the
matrix, whose scans count on. -/
def timingCheck (s : State) : State :=
  if !s.on Reg.LUX_CTRL.EN then s
  else if timingValid s then
    let was := s.on Reg.LUX_STAT.RUNNING
    let s := (s.clr Reg.LUX_STAT.CFGERR).wrB Reg.LUX_STAT.RUNNING (!s.on Reg.LUX_STAT.VLEDOV)
    if was || s.on Reg.LUX_STAT.VLEDOV then s
    else scanStart { takeTiming s with lux := { (takeTiming s).lux with stopAt := 0 } }
  else
    let s := if s.on Reg.LUX_STAT.RUNNING then { s with lux := { s.lux with stopAt := lineEnd s } } else s
    ((s.set Reg.LUX_STAT.CFGERR).set Reg.LUX_EVT.CFGERR).clr Reg.LUX_STAT.RUNNING

/-- The sink and the scan line of matrix channel `n` (R217). -/
def sinkOf (n : Nat) : Nat := n % 48
def lineOf (n : Nat) : Nat := n / 48

/-- On-time of matrix channel `n` in this scan, in clocks (R233); a diagnostic pulse is 300 clocks (R238). -/
def onTime (s : State) (n : Nat) : Nat :=
  if !matrixOn s || decide (s.lux.nscan ≤ lineOf n) then 0
  else
    let q := Sparse.get 0 n s.lux.shown * (s.lux.line - s.lux.blank) / 16384
    let rank := [0, 2, 1, 3].getD (s.lux.scans % 4) 0
    let ton := q / 4 + (decide (rank < q % 4)).toNat
    if s.lux.testScan && s.lux.marks.contains n && ton != 0 then max ton 300 else ton

/-- Pulses in order of their start; those that touch form one (R233). -/
def joinPulses : List (Nat × Nat) → List (Nat × Nat)
  | [] => []
  | p :: ps =>
    match joinPulses ps with
    | [] => [p]
    | q :: qs => if q.1 ≤ p.1 + p.2 then (p.1, q.1 + q.2 - p.1) :: qs else p :: q :: qs

/-- The pulses of matrix channel `n` on its line in this scan: start and length in clocks (R233). -/
def pulses (s : State) (n : Nat) : List (Nat × Nat) :=
  let ton := onTime s n
  if ton = 0 then []
  else
    let p := if s.lux.testScan then 1 else max 1 (min 16 (ton / 20))
    joinPulses ((List.range p).map fun j =>
      (s.lux.blank + j * (s.lux.line - s.lux.blank) / p, ton / p + (decide (j < ton % p)).toNat))

/-- The current of sink `k` in 0.2 mA; ISINK above 200 acts as 200 (R232). -/
def sinkCurrent (s : State) (k : Nat) : Nat :=
  let f := [Reg.LUX_SINKI.ISINK0, Reg.LUX_SINKI.ISINK1, Reg.LUX_SINKI.ISINK2, Reg.LUX_SINKI.ISINK3].getD (k % 4)
    Reg.LUX_SINKI.ISINK0
  min 200 (s.rd (f (k / 4)))

/-- Ball LSNK`k` on scan line `l` in this scan: its current and its pulses (R217, R232). -/
def sinkOut (s : State) (k l : Nat) : Nat × List (Nat × Nat) := (sinkCurrent s k, pulses s (48 * l + k))

/-- The active level of the scan outputs: a change made while the matrix runs acts from the next scan (R232). -/
def scanPolarity (s : State) : Bool := if matrixOn s then s.lux.scnpol else s.on Reg.LUX_MCFG.SCNPOL

/-- The level of ball LSCN`l` at clock `c` of line `line`: active after the blanking of its own line alone, by SCNPOL
(R232). -/
def scanOut (s : State) (l line c : Nat) : Bool :=
  let active := matrixOn s && decide (l = line ∧ l < s.lux.nscan ∧ s.lux.blank ≤ c ∧ c < s.lux.line)
  active == scanPolarity s

/-! ### The LED supply (R234) -/

/-- VSET in mV within its limits, and what the registers show of it. -/
def setVset (v : Nat) (s : State) : State :=
  let hi := 10 * s.rd Reg.LUX_VLEDLIM.VLEDMAX
  let v := max (10 * s.rd Reg.LUX_VLEDLIM.VLEDMIN) (min hi v)
  let s := { s with lux := { s.lux with vset := v } }
  (s.wr Reg.LUX_VLEDSTAT.VSET (v / 10)).wrB Reg.LUX_STAT.ATMAX (v == hi)

/-- The samples that take part: GOOD and UNTESTED channels with a pulse of at least 200 ns. -/
def regSamples (s : State) (l : List (Fin 768 × Nat)) : List (Nat × Nat) :=
  (l.filter fun p => decide (20 ≤ onTime s p.1) && decide (diagOf s p.1 ≤ 1)).map fun p => (diagOf s p.1, p.2)

/-- The adjustment of VSET at the end of a scan. -/
def regulate (l : List (Fin 768 × Nat)) (s : State) : State :=
  let x := regSamples s l
  let th := 10 * s.rd Reg.LUX_VLEDCFG.OPENTH
  let good := x.filter fun p => p.1 == 1 && decide (th ≤ p.2) && decide (p.2 < 350)
  let slow := x.any fun p => decide (p.2 < 350) && (p.1 == 0 || decide (p.2 < th))
  if !good.isEmpty then setVset (s.lux.vset + (350 - good.foldl (fun m p => min m p.2) 350)) s
  else if slow && !s.lux.slowRaised then
    let s := setVset (s.lux.vset + 10 * max 1 (s.rd Reg.LUX_VLEDCFG.SLEW)) s
    { s with lux := { s.lux with slowRaised := true } }
  else if !x.isEmpty && x.all (fun p => decide (500 < p.2)) then setVset (s.lux.vset - 10) s
  else s

/-! ### Diagnosis (R236 to R238) -/

/-- A verdict. -/
def verdictOf (s : State) (mv : Nat) : Verdict :=
  if mv < 10 * s.rd Reg.LUX_VLEDCFG.OPENTH then .opened
  else if 10 * s.rd Reg.LUX_VLEDCFG.SHORTTH < mv then .shorted
  else .good

/-- The results of the test scan that ends. -/
def testResult (s : State) (tests : List (Fin 768 × Nat)) : TestScan :=
  { verdicts := (tests.filter fun p => 200 ≤ onTime s p.1).map fun p => (p.1.val, verdictOf s p.2)
    lit := (List.range 768).filter fun n => onTime s n != 0 }

/-- SCAN_END: VSET, the test scan's results, and the next scan. -/
def scanEnd (r : ScanReading) (s : State) : State :=
  if !s.on Reg.LUX_STAT.RUNNING then s
  else
    let s := s.wr Reg.LUX_VLEDSTAT.VMEAS (min 2047 (r.vled / 10))
    let res := if s.lux.testScan then some (testResult s r.tests) else s.lux.result
    let s := regulate r.sinks s
    let s := { s with lux := { s.lux with
      result := res, marks := if s.lux.testScan then [] else s.lux.marks, scans := s.lux.scans + 1 } }
    let s := scanStart s
    if timingValid s then takeTiming s else s

/-- A channel's state after its verdict. -/
def applyVerdict (s0 : State) (s : State) (p : Nat × Verdict) : State :=
  if 2 ≤ diagOf s p.1 then s
  else
    match p.2 with
    | .good => setDiag p.1 1 s
    | .opened => if s0.lux.lastOpen.contains p.1 then (setDiag p.1 2 s).set Reg.LUX_EVT.OPEN else s
    | .shorted => if s0.lux.lastShort.contains p.1 then (setDiag p.1 3 s).set Reg.LUX_EVT.SHORT else s

/-- Evaluate a test scan (R237, R238). -/
def evaluate (r : TestScan) (s0 : State) : State :=
  let s := r.verdicts.foldl (applyVerdict s0) s0
  let has (n : Nat) : Bool := r.verdicts.any (·.1 == n)
  let silent := (List.range 768).foldl (fun l n =>
    Sparse.put 0 n (if has n then 0 else min 511 (Sparse.get 0 n l + 1)) l) s.lux.silent
  let marks := if s.on Reg.LUX_CTRL.DIAGPULSE then
      r.lit.filter fun n => diagOf s n == 0 && decide (256 ≤ Sparse.get 0 n silent)
    else []
  { s with lux := { s.lux with
      lastOpen := (r.verdicts.filter (·.2 == .opened)).map (·.1)
      lastShort := (r.verdicts.filter (·.2 == .shorted)).map (·.1)
      silent := silent, marks := marks } }

/-- The on-chip part of a diagnosis pass; DIAGDONE comes at its end. -/
def onChipPass (s : State) : State :=
  let s := match s.lux.result with
    | some r => evaluate r { s with lux := { s.lux with result := none } }
    | none => s
  { s with lux := { s.lux with testReq := true } }

/-- A diagnosis pass: the on-chip part, and the chain part, which queues STATUS requests (R236). -/
def diagPass (arg : Nat) (s : State) : State :=
  let s := if arg % 4 = 2 then s else onChipPass s
  if arg % 4 = 1 then s else { s with chn := { s.chn with statusQueue := s.chn.included } }

/-- A write of LUX_DIAGCLR. -/
def diagClr (v : Nat) (s : State) : State :=
  let one (s : State) (n : Nat) : State := if 2 ≤ diagOf s n then setDiag n 0 s else s
  if Reg.LUX_DIAGCLR.ALL.of v = 1 then (List.range 768).foldl one s
  else if Reg.LUX_DIAGCLR.CH.of v < 768 then one s (Reg.LUX_DIAGCLR.CH.of v)
  else s

/-! ### LUX power (R21, R251) -/

/-- LUX is on and its memories are zeroed. -/
def luxOn (s : State) : Bool := s.on Reg.SYS_DOMCTRL.LUXRDY

/-- The LUX and CHN registers and the engines take their reset values, as at every switch-on. -/
def luxResetRegs (s : State) : State := { resetRanges luxCells s with lux := {}, chn := {} }

end Sys2Proof.Machine
end

