-- ==== Sys2Proof/Machine/ActionCmd.lean ====
section
/-! DEFINITION. The start and the finish of an Icefall action, and what it does on its unit (R126 to R128). -/

namespace Sys2Proof.Machine

/-- The block of an action is switched off, so that the action completes at once with NOBLK (R127, R165, R200, R236,
R257, R267). -/
def unitOff (s : State) (a : SlotAct) : Bool :=
  match a.action with
  | 1 => !s.on Reg.THM_CTRL.EN
  | 2 => s.rd (Reg.FAN_CTRL.MODE (a.arg % 4)) == 0
  | 4 => !frameOn s
  | 5 => !s.on Reg.SYS_DOMCTRL.LUXEN || (luxOn s && !s.on Reg.LUX_CTRL.EN)
  | 6 => a.arg % 4 != 0 && !s.on (Reg.PWR_INCFG.EN (a.arg % 4 - 1))
  | _ => false

/-- A lighting diagnosis pass that waits for LUXRDY (R127). -/
def passWaits (s : State) (a : SlotAct) : Bool := a.action == 5 && s.on Reg.SYS_DOMCTRL.LUXEN && !luxOn s

/-- The duration of a started action in microseconds (R127, R200, R236). -/
def actionTime (s : State) (a : SlotAct) : Nat :=
  match a.action with
  | 1 => (seqInputs s (a.arg % 32)).length
  | 2 => 2
  | 3 => 1
  | 4 => frameTime s
  | 5 => if a.arg % 4 = 2 then 1 else 40
  | 6 => if a.arg % 4 = 0 then 3 else 1
  | _ => 0

/-- What the action does on its unit, with the readings that it takes. -/
def actionEffect (a : SlotAct) (d : ActionData) (s : State) : State :=
  match a.action with
  | 1 => adcSequence (a.arg % 32) d.adc s
  | 2 => fanStep (a.arg % 4) (fanRead (a.arg % 4) d.fan s)
  | 3 => railStep s
  | 4 => frameBegins d.keys s
  | 5 => diagPass a.arg s
  | 6 => if a.arg % 4 = 0 then chgStep d s else trackerStep (a.arg % 4 - 1) d s
  | _ => s

/-- A released action starts if its unit is free and it comes first there. -/
def actionStart (n : Nat) (d : ActionData) (s : State) : State :=
  match canStart s n with
  | none => s
  | some a =>
    if a.action = 0 then finishSlot n a false s
    else if unitOff s a then finishSlot n a true s
    else if passWaits s a then s
    else actionEffect a d (markStarted n a (actionTime s a) s)

/-- ACTION_START (R126): A released action starts when its hardware unit is free, lowest slot first. -/
def execActionStart (n : Fin 64) (t : Nat) (data : ActionData) (s : State) : Host.Outcome State Fault Refusal :=
  .next (actionStart n.val data (s.seen t))

/-- What the action does on its unit as it finishes: a key-scan frame applies its levels (R200), the on-chip part of a
lighting diagnosis pass sets DIAGDONE (R237). -/
def actionEnd (a : SlotAct) (s : State) : State :=
  match a.action with
  | 4 => frameEnds s
  | 5 => if a.arg % 4 != 2 && luxOn s then s.set Reg.LUX_EVT.DIAGDONE else s
  | _ => s

/-- The running action of slot `n` finishes once its duration has passed. DESIGN CHOICE (log 37). -/
def actionFinish (n : Nat) (s : State) : State :=
  match (slotOf s n).act with
  | some a => if a.started && a.due ≤ s.tbase then finishSlot n a false (actionEnd a s) else s
  | none => s

/-- ACTION_FINISH (R128): A slot's action finishes; lateness is added to LAG and the next release is
fixed. -/
def execActionFinish (n : Fin 64) (t : Nat) (s : State) : Host.Outcome State Fault Refusal :=
  .next (actionFinish n.val (s.seen t))

end Sys2Proof.Machine
end

