-- ==== Sys2Proof/Machine/Crypto.lean ====
section
/-! DEFINITION. The published algorithms that the manual names, as functions on byte lists and natural
numbers: SHA-256 and SHA-384 (FIPS 180-4), AES-256 (FIPS 197) with CMAC (SP 800-38B) and GCM (SP 800-38D),
ECDSA and ECDH on P-256 and P-384 (FIPS 186, SEC 1), and the counter-mode KDF of SP 800-108. -/

namespace Sys2Proof.Machine.Crypto

/-! ### Bytes -/

/-- Big-endian value of bytes. -/
def be (bs : List Byte) : Nat := bs.foldl (fun a b => a * 256 + b.toNat) 0

/-- Little-endian bytes, least significant first. -/
def leOf : Nat → Nat → List Byte
  | 0, _ => []
  | n + 1, v => BitVec.ofNat 8 v :: leOf n (v / 256)

/-- The `n` big-endian bytes of a value. -/
def beOf (n v : Nat) : List Byte := (leOf n v).reverse

/-- Pieces of `k` bytes; `n` bounds their number. -/
def pieces (k : Nat) : Nat → List Byte → List (List Byte)
  | 0, _ => []
  | n + 1, l => if l.isEmpty then [] else l.take k :: pieces k n (l.drop k)

/-- The bytes of a string of ASCII letters. -/
def ascii (s : String) : List Byte := s.toList.map fun c => BitVec.ofNat 8 c.toNat

/-! ### SHA-2 -/

/-- A member of the SHA-2 family: word width, round constants, initial value, rotation amounts of the
big and small sigmas (the third of a small sigma is a shift), digest bytes. -/
structure Sha where
  w : Nat
  ks : List Nat
  init : List Nat
  big0 : Nat × Nat × Nat
  big1 : Nat × Nat × Nat
  small0 : Nat × Nat × Nat
  small1 : Nat × Nat × Nat
  out : Nat
  deriving DecidableEq, Repr

/-- Rotate a `w`-bit word right. -/
def rotr (w n x : Nat) : Nat := x / 2 ^ n + x % 2 ^ n * 2 ^ (w - n)

/-- A big sigma. -/
def bigSigma (w : Nat) (r : Nat × Nat × Nat) (x : Nat) : Nat :=
  rotr w r.1 x ^^^ rotr w r.2.1 x ^^^ rotr w r.2.2 x

/-- A small sigma. -/
def smallSigma (w : Nat) (r : Nat × Nat × Nat) (x : Nat) : Nat :=
  rotr w r.1 x ^^^ rotr w r.2.1 x ^^^ x / 2 ^ r.2.2

/-- One round: the working variables a to h and the next sixteen schedule words. -/
def shaRound (p : Sha) (v m : List Nat) (k : Nat) : List Nat × List Nat :=
  match v with
  | [a, b, c, d, e, f, g, h] =>
    let w0 := m.headD 0
    let t1 := h + bigSigma p.w p.big1 e + ((e &&& f) ^^^ ((2 ^ p.w - 1 - e) &&& g)) + k + w0
    let t2 := bigSigma p.w p.big0 a + ((a &&& b) ^^^ (a &&& c) ^^^ (b &&& c))
    let wn := smallSigma p.w p.small1 (m.getD 14 0) + m.getD 9 0 + smallSigma p.w p.small0 (m.getD 1 0) + w0
    ([(t1 + t2) % 2 ^ p.w, a, b, c, (d + t1) % 2 ^ p.w, e, f, g], m.drop 1 ++ [wn % 2 ^ p.w])
  | _ => (v, m)

/-- All rounds of a block. -/
def shaRounds (p : Sha) : List Nat → List Nat → List Nat → List Nat
  | [], v, _ => v
  | k :: ks, v, m =>
    let r := shaRound p v m k
    shaRounds p ks r.1 r.2

/-- Compress one block into the chaining value. -/
def shaBlock (p : Sha) (h : List Nat) (blk : List Byte) : List Nat :=
  let m := (pieces (p.w / 8) 16 blk).map be
  (h.zip (shaRounds p p.ks h m)).map fun x => (x.1 + x.2) % 2 ^ p.w

/-- The padded message. -/
def shaPad (p : Sha) (m : List Byte) : List Byte :=
  let blk := 2 * p.w
  let len := p.w / 4
  let zeros := (blk - (m.length + 1 + len) % blk) % blk
  m ++ [0x80] ++ List.replicate zeros 0 ++ beOf len (8 * m.length)

/-- The digest of a message. PRESUMED (log 61). -/
def sha (p : Sha) (m : List Byte) : List Byte :=
  let bs := shaPad p m
  let h := (pieces (2 * p.w) bs.length bs).foldl (shaBlock p) p.init
  (h.map (beOf (p.w / 8))).flatten.take p.out

/-- The constants of SHA-256. -/
def k256 : List Nat :=
  [0x428A2F98, 0x71374491, 0xB5C0FBCF, 0xE9B5DBA5, 0x3956C25B, 0x59F111F1, 0x923F82A4, 0xAB1C5ED5,
   0xD807AA98, 0x12835B01, 0x243185BE, 0x550C7DC3, 0x72BE5D74, 0x80DEB1FE, 0x9BDC06A7, 0xC19BF174,
   0xE49B69C1, 0xEFBE4786, 0x0FC19DC6, 0x240CA1CC, 0x2DE92C6F, 0x4A7484AA, 0x5CB0A9DC, 0x76F988DA,
   0x983E5152, 0xA831C66D, 0xB00327C8, 0xBF597FC7, 0xC6E00BF3, 0xD5A79147, 0x06CA6351, 0x14292967,
   0x27B70A85, 0x2E1B2138, 0x4D2C6DFC, 0x53380D13, 0x650A7354, 0x766A0ABB, 0x81C2C92E, 0x92722C85,
   0xA2BFE8A1, 0xA81A664B, 0xC24B8B70, 0xC76C51A3, 0xD192E819, 0xD6990624, 0xF40E3585, 0x106AA070,
   0x19A4C116, 0x1E376C08, 0x2748774C, 0x34B0BCB5, 0x391C0CB3, 0x4ED8AA4A, 0x5B9CCA4F, 0x682E6FF3,
   0x748F82EE, 0x78A5636F, 0x84C87814, 0x8CC70208, 0x90BEFFFA, 0xA4506CEB, 0xBEF9A3F7, 0xC67178F2]

/-- The constants of SHA-384. -/
def k384 : List Nat :=
  [0x428A2F98D728AE22, 0x7137449123EF65CD, 0xB5C0FBCFEC4D3B2F, 0xE9B5DBA58189DBBC,
   0x3956C25BF348B538, 0x59F111F1B605D019, 0x923F82A4AF194F9B, 0xAB1C5ED5DA6D8118,
   0xD807AA98A3030242, 0x12835B0145706FBE, 0x243185BE4EE4B28C, 0x550C7DC3D5FFB4E2,
   0x72BE5D74F27B896F, 0x80DEB1FE3B1696B1, 0x9BDC06A725C71235, 0xC19BF174CF692694,
   0xE49B69C19EF14AD2, 0xEFBE4786384F25E3, 0x0FC19DC68B8CD5B5, 0x240CA1CC77AC9C65,
   0x2DE92C6F592B0275, 0x4A7484AA6EA6E483, 0x5CB0A9DCBD41FBD4, 0x76F988DA831153B5,
   0x983E5152EE66DFAB, 0xA831C66D2DB43210, 0xB00327C898FB213F, 0xBF597FC7BEEF0EE4,
   0xC6E00BF33DA88FC2, 0xD5A79147930AA725, 0x06CA6351E003826F, 0x142929670A0E6E70] ++
  [0x27B70A8546D22FFC, 0x2E1B21385C26C926, 0x4D2C6DFC5AC42AED, 0x53380D139D95B3DF,
   0x650A73548BAF63DE, 0x766A0ABB3C77B2A8, 0x81C2C92E47EDAEE6, 0x92722C851482353B,
   0xA2BFE8A14CF10364, 0xA81A664BBC423001, 0xC24B8B70D0F89791, 0xC76C51A30654BE30,
   0xD192E819D6EF5218, 0xD69906245565A910, 0xF40E35855771202A, 0x106AA07032BBD1B8,
   0x19A4C116B8D2D0C8, 0x1E376C085141AB53, 0x2748774CDF8EEB99, 0x34B0BCB5E19B48A8,
   0x391C0CB3C5C95A63, 0x4ED8AA4AE3418ACB, 0x5B9CCA4F7763E373, 0x682E6FF3D6B2B8A3,
   0x748F82EE5DEFB2FC, 0x78A5636F43172F60, 0x84C87814A1F0AB72, 0x8CC702081A6439EC,
   0x90BEFFFA23631E28, 0xA4506CEBDE82BDE9, 0xBEF9A3F7B2C67915, 0xC67178F2E372532B] ++
  [0xCA273ECEEA26619C, 0xD186B8C721C0C207, 0xEADA7DD6CDE0EB1E, 0xF57D4F7FEE6ED178,
   0x06F067AA72176FBA, 0x0A637DC5A2C898A6, 0x113F9804BEF90DAE, 0x1B710B35131C471B,
   0x28DB77F523047D84, 0x32CAAB7B40C72493, 0x3C9EBE0A15C9BEBC, 0x431D67C49C100D4C,
   0x4CC5D4BECB3E42B6, 0x597F299CFC657E2A, 0x5FCB6FAB3AD6FAEC, 0x6C44198C4A475817]

/-- SHA-256. -/
def sha256 : Sha where
  w := 32
  ks := k256
  init := [0x6A09E667, 0xBB67AE85, 0x3C6EF372, 0xA54FF53A,
    0x510E527F, 0x9B05688C, 0x1F83D9AB, 0x5BE0CD19]
  big0 := (2, 13, 22)
  big1 := (6, 11, 25)
  small0 := (7, 18, 3)
  small1 := (17, 19, 10)
  out := 32

/-- SHA-384. -/
def sha384 : Sha where
  w := 64
  ks := k384
  init :=
    [0xCBBB9D5DC1059ED8, 0x629A292A367CD507, 0x9159015A3070DD17, 0x152FECD8F70E5939,
     0x67332667FFC00B31, 0x8EB44A8768581511, 0xDB0C2E0D64F98FA7, 0x47B5481DBEFA4FA4]
  big0 := (28, 34, 39)
  big1 := (14, 18, 41)
  small0 := (1, 8, 7)
  small1 := (19, 61, 6)
  out := 48

/-! ### AES-256 -/

/-- Multiply by x in GF(2^8). -/
def xtime (a : Nat) : Nat := (2 * a % 256) ^^^ (a / 128 * 0x1B)

/-- The S-box of FIPS 197 by rows: the sixteen bytes of row x, column 0 first. -/
def sboxRows : List Nat :=
  [0x637C777BF26B6FC53001672BFED7AB76, 0xCA82C97DFA5947F0ADD4A2AF9CA472C0,
   0xB7FD9326363FF7CC34A5E5F171D83115, 0x04C723C31896059A071280E2EB27B275,
   0x09832C1A1B6E5AA0523BD6B329E32F84, 0x53D100ED20FCB15B6ACBBE394A4C58CF,
   0xD0EFAAFB434D338545F9027F503C9FA8, 0x51A3408F929D38F5BCB6DA2110FFF3D2,
   0xCD0C13EC5F974417C4A77E3D645D1973, 0x60814FDC222A908846EEB814DE5E0BDB,
   0xE0323A0A4906245CC2D3AC629195E479, 0xE7C8376D8DD54EA96C56F4EA657AAE08,
   0xBA78252E1CA6B4C6E8DD741F4BBD8B8A, 0x703EB5664803F60E613557B986C11D9E,
   0xE1F8981169D98E949B1E87E9CE5528DF, 0x8CA1890DBFE6426841992D0FB054BB16]

/-- The S-box. -/
def sbox (a : Nat) : Nat := sboxRows.getD (a / 16) 0 / 256 ^ (15 - a % 16) % 256

/-- XOR of two lists of bytes. -/
def xorL (a b : List Nat) : List Nat := (a.zip b).map fun p => p.1 ^^^ p.2

/-- The next eight key words from the last eight. -/
def keyNext (k : List (List Nat)) (rcon : Nat) : List (List Nat) :=
  match k with
  | [w0, w1, w2, w3, w4, w5, w6, w7] =>
    let t := (w7.drop 1 ++ w7.take 1).map sbox
    let t := xorL t [rcon, 0, 0, 0]
    let x0 := xorL w0 t
    let x1 := xorL w1 x0
    let x2 := xorL w2 x1
    let x3 := xorL w3 x2
    let x4 := xorL w4 (x3.map sbox)
    let x5 := xorL w5 x4
    let x6 := xorL w6 x5
    [x0, x1, x2, x3, x4, x5, x6, xorL w7 x6]
  | _ => k

/-- The key schedule: 60 words, as words of four bytes. -/
def keySchedule (k : List (List Nat)) : List Nat → List (List Nat)
  | [] => k
  | r :: rs => k ++ keySchedule (keyNext k r) rs

/-- The fifteen round keys of 16 bytes. -/
def roundKeys (key : List Byte) : List (List Nat) :=
  let ws := (pieces 4 8 key).map (·.map (·.toNat))
  let all := keySchedule ws [1, 2, 4, 8, 16, 32, 64]
  (List.range 15).map fun i => ((all.drop (4 * i)).take 4).flatten

/-- ShiftRows: byte `i` comes from column (i / 4 + i mod 4) mod 4, row i mod 4. -/
def shiftRows (s : List Nat) : List Nat :=
  (List.range 16).map fun i => s.getD ((i / 4 + i % 4) % 4 * 4 + i % 4) 0

/-- MixColumns of one column. -/
def mixColumn (c : List Nat) : List Nat :=
  (List.range 4).map fun i =>
    let a (j : Nat) : Nat := c.getD ((i + j) % 4) 0
    xtime (a 0) ^^^ xtime (a 1) ^^^ a 1 ^^^ a 2 ^^^ a 3

/-- MixColumns. -/
def mixColumns (s : List Nat) : List Nat :=
  mixColumn (s.take 4) ++ mixColumn ((s.drop 4).take 4) ++ mixColumn ((s.drop 8).take 4)
    ++ mixColumn (s.drop 12)

/-- The rounds after the first key addition; the last round mixes no columns. -/
def aesRounds : List (List Nat) → List Nat → List Nat
  | [], s => s
  | [k], s => xorL (shiftRows (s.map sbox)) k
  | k :: ks, s => aesRounds ks (xorL (mixColumns (shiftRows (s.map sbox))) k)

/-- AES-256 encryption of one block with the round keys. -/
def aesBlock (rks : List (List Nat)) (blk : List Byte) : List Byte :=
  match rks with
  | k :: ks => (aesRounds ks (xorL (blk.map (·.toNat)) k)).map (BitVec.ofNat 8 ·)
  | [] => blk

/-- XOR of bytes. -/
def xorB (a b : List Byte) : List Byte := (a.zip b).map fun p => p.1 ^^^ p.2

/-- Doubling in GF(2^128) as CMAC's subkeys use it. -/
def cmacDouble (b : List Byte) : List Byte :=
  let v := be b
  beOf 16 ((2 * v % 2 ^ 128) ^^^ (if v < 2 ^ 127 then 0 else 0x87))

/-- AES-256-CMAC. PRESUMED (log 61). -/
def cmac (key m : List Byte) : List Byte :=
  let rk := roundKeys key
  let k1 := cmacDouble (aesBlock rk (List.replicate 16 0))
  let n := (m.length - 1) / 16
  let last := m.drop (16 * n)
  let last :=
    if last.length = 16 then xorB last k1
    else xorB (last ++ [0x80] ++ List.replicate (15 - last.length) 0) (cmacDouble k1)
  let x := (pieces 16 n (m.take (16 * n))).foldl (fun x b => aesBlock rk (xorB x b)) (List.replicate 16 0)
  aesBlock rk (xorB x last)

/-- Multiply in GHASH's field: `y` bit by bit from its most significant. -/
def ghashMul (v y : Nat) : Nat → Nat
  | 0 => 0
  | n + 1 =>
    (y / 2 ^ n % 2 * v) ^^^ ghashMul (v / 2 ^^^ (v % 2 * (0xE1 * 2 ^ 120))) y n

/-- Zero bytes up to a multiple of 16. -/
def pad16 (b : List Byte) : List Byte := b ++ List.replicate ((16 - b.length % 16) % 16) 0

/-- GHASH under the subkey `h`. -/
def ghash (h : Nat) (b : List Byte) : Nat :=
  (pieces 16 b.length b).foldl (fun y x => ghashMul h (y ^^^ be x) 128) 0

/-- Counter mode from counter value `c` after the 12-byte IV. -/
def gcmCtr (rk : List (List Nat)) (iv : List Byte) : Nat → List (List Byte) → List Byte
  | _, [] => []
  | c, b :: bs => xorB b (aesBlock rk (iv ++ beOf 4 c)) ++ gcmCtr rk iv (c + 1) bs

/-- The plaintext of a ciphertext, or the ciphertext of a plaintext. -/
def gcmCrypt (key iv m : List Byte) : List Byte := gcmCtr (roundKeys key) iv 2 (pieces 16 m.length m)

/-- The GCM tag over AAD and ciphertext. PRESUMED (log 61). -/
def gcmTag (key iv aad c : List Byte) : List Byte :=
  let rk := roundKeys key
  let h := be (aesBlock rk (List.replicate 16 0))
  let y := ghash h (pad16 aad ++ pad16 c ++ beOf 8 (8 * aad.length) ++ beOf 8 (8 * c.length))
  xorB (beOf 16 y) (aesBlock rk (iv ++ beOf 4 1))

/-- The counter-mode KDF of SP 800-108 under CMAC: `n` bytes from a label and a context. PRESUMED (log 61). -/
def kdf (key label context : List Byte) (n : Nat) : List Byte :=
  let blocks := (n + 15) / 16
  ((List.range blocks).map fun i =>
    cmac key (beOf 4 (i + 1) ++ label ++ [0] ++ context ++ beOf 4 (8 * n))).flatten.take n

/-! ### Elliptic curves -/

/-- A curve y² = x³ − 3x + b over the prime `p`, with base point and its order `n`; `len` bytes a value. -/
structure Curve where
  p : Nat
  b : Nat
  gx : Nat
  gy : Nat
  n : Nat
  len : Nat
  deriving DecidableEq, Repr

/-- A point; none is the point at infinity. -/
abbrev Point := Option (Nat × Nat)

/-- Euclid's algorithm on `a` and `b`, with `x` and `y` the multiples of the element to invert that `a` and `b` are
modulo `m`; the multiple that gives the greatest common divisor. -/
def euclid (m : Nat) : Nat → Nat → Nat → Nat → Nat → Nat
  | 0, _, _, x, _ => x
  | k + 1, a, b, x, y => bif b.beq 0 then x else euclid m k b (a % b) y ((x + (m - a / b * y % m)) % m)

/-- The inverse modulo a prime; 0 for 0. -/
def invMod (m a : Nat) : Nat := euclid m 600 m (a % m) 0 1

/-- A point in Jacobian coordinates: (X / Z², Y / Z³), and the point at infinity where Z is 0. -/
structure Jacobian where
  x : Nat
  y : Nat
  z : Nat
  deriving DecidableEq, Repr

/-- Twice a point. -/
def Curve.double (c : Curve) (q : Jacobian) : Jacobian :=
  let d := q.z * q.z % c.p
  let g := q.y * q.y % c.p
  let b := q.x * g % c.p
  let a := 3 * (q.x + c.p - d) * (q.x + d) % c.p
  let x := (a * a + 8 * (c.p - b)) % c.p
  ⟨x, (a * (4 * b + c.p - x) + 8 * g * (c.p - g)) % c.p, 2 * q.y * q.z % c.p⟩

/-- The sum of two points. -/
def Curve.add (c : Curve) (q r : Jacobian) : Jacobian :=
  if q.z = 0 then r
  else if r.z = 0 then q
  else
    let zq := q.z * q.z % c.p
    let zr := r.z * r.z % c.p
    let u := q.x * zr % c.p
    let v := q.y * zr % c.p * r.z % c.p
    let h := (r.x * zq + c.p - u) % c.p
    let k := (r.y * zq % c.p * q.z + c.p - v) % c.p
    if h = 0 then (if k = 0 then c.double q else ⟨1, 1, 0⟩)
    else
      let h2 := h * h % c.p
      let h3 := h2 * h % c.p
      let uh := u * h2 % c.p
      let x := (k * k + 3 * c.p - h3 - 2 * uh) % c.p
      ⟨x, (k * (uh + c.p - x) + v * (c.p - h3)) % c.p, q.z * r.z % c.p * h % c.p⟩

/-- `k` times a point, over the `n` low bits of `k`. -/
def Curve.mul (c : Curve) (k : Nat) (q : Jacobian) : Nat → Jacobian
  | 0 => ⟨1, 1, 0⟩
  | n + 1 =>
    let r := c.mul (k / 2) (c.double q) n
    if k % 2 = 1 then c.add q r else r

/-- The point that Jacobian coordinates name. -/
def Curve.point (c : Curve) (q : Jacobian) : Point :=
  if q.z = 0 then none
  else
    let w := invMod c.p q.z
    some (q.x * (w * w % c.p) % c.p, q.y * (w * w % c.p) % c.p * w % c.p)

/-- `k` times a point of the curve, in Jacobian coordinates. -/
def Curve.multiple (c : Curve) (k : Nat) (q : Point) : Jacobian :=
  match q with
  | some (x, y) => c.mul k ⟨x, y, 1⟩ (8 * c.len)
  | none => ⟨1, 1, 0⟩

/-- `k` times a point of the curve. -/
def Curve.times (c : Curve) (k : Nat) (q : Point) : Point := c.point (c.multiple k q)

/-- The coordinates are those of a point of the curve. -/
def Curve.onCurve (c : Curve) (x y : Nat) : Bool :=
  x < c.p && y < c.p && (y * y) % c.p == (x * x * x + (c.p - 3) * x + c.b) % c.p

/-- The point of a public key X ‖ Y; none when it is not on the curve. -/
def Curve.pubKey (c : Curve) (bs : List Byte) : Point :=
  let x := be (bs.take c.len)
  let y := be ((bs.drop c.len).take c.len)
  if c.onCurve x y then some (x, y) else none

/-- A point as X ‖ Y; zeros for the point at infinity. -/
def Curve.pubBytes (c : Curve) : Point → List Byte
  | some (x, y) => beOf c.len x ++ beOf c.len y
  | none => List.replicate (2 * c.len) 0

/-- The public key of a private scalar. -/
def Curve.public (c : Curve) (d : Nat) : List Byte := c.pubBytes (c.times d (some (c.gx, c.gy)))

/-- The signature values lie in 1 to n − 1. -/
def Curve.inRange (c : Curve) (v : Nat) : Bool := 1 ≤ v && v < c.n

/-- ECDSA verification of r ‖ s over a digest of the curve's length. PRESUMED (log 61). -/
def Curve.verify (c : Curve) (q : Point) (digest sig : List Byte) : Bool :=
  let r := be (sig.take c.len)
  let t := be ((sig.drop c.len).take c.len)
  let w := invMod c.n t
  let e := be (digest.take c.len)
  c.inRange r && c.inRange t &&
    match c.point (c.add (c.multiple (e * w % c.n) (some (c.gx, c.gy))) (c.multiple (r * w % c.n) q)) with
    | some (x, _) => x % c.n == r
    | none => false

/-- The ECDSA signature r ‖ s with the per-signature nonce `k`. -/
def Curve.sign (c : Curve) (d : Nat) (digest : List Byte) (k : Nat) : List Byte :=
  match c.times k (some (c.gx, c.gy)) with
  | some (x, _) =>
    let r := x % c.n
    beOf c.len r ++ beOf c.len (invMod c.n k * (be (digest.take c.len) + r * d) % c.n)
  | none => List.replicate (2 * c.len) 0

/-- The x coordinate of `d` times a point. -/
def Curve.shared (c : Curve) (d : Nat) (q : Point) : List Byte :=
  match c.times d q with
  | some (x, _) => beOf c.len x
  | none => List.replicate c.len 0

/-- A private scalar from random or derived bytes: reduced modulo n − 1, plus 1 (R309). -/
def Curve.scalar (c : Curve) (v : Nat) : Nat := v % (c.n - 1) + 1

/-- NIST P-256. -/
def p256 : Curve where
  p := 0xFFFFFFFF00000001000000000000000000000000FFFFFFFFFFFFFFFFFFFFFFFF
  b := 0x5AC635D8AA3A93E7B3EBBD55769886BC651D06B0CC53B0F63BCE3C3E27D2604B
  gx := 0x6B17D1F2E12C4247F8BCE6E563A440F277037D812DEB33A0F4A13945D898C296
  gy := 0x4FE342E2FE1A7F9B8EE7EB4A7C0F9E162BCE33576B315ECECBB6406837BF51F5
  n := 0xFFFFFFFF00000000FFFFFFFFFFFFFFFFBCE6FAADA7179E84F3B9CAC2FC632551
  len := 32

/-- NIST P-384. -/
def p384 : Curve where
  p := 0xFFFFFFFFFFFFFFFFFFFFFFFFFFFFFFFFFFFFFFFFFFFFFFFFFFFFFFFFFFFFFFFEFFFFFFFF0000000000000000FFFFFFFF
  b := 0xB3312FA7E23EE7E4988E056BE3F82D19181D9C6EFE8141120314088F5013875AC656398D8A2ED19D2A85C8EDD3EC2AEF
  gx := 0xAA87CA22BE8B05378EB1C71EF320AD746E1D3B628BA79B9859F741E082542A385502F25DBF55296C3A545E3872760AB7
  gy := 0x3617DE4A96262C6F5D9E98BF9292DC29F8F41DBD289A147CE9DA3113B5F0B8C00A60B1CE1D7E819D7A431D7C90EA0E5F
  n := 0xFFFFFFFFFFFFFFFFFFFFFFFFFFFFFFFFFFFFFFFFFFFFFFFFC7634D81F4372DDF581A0DB248B0A77AECEC196ACCC52973
  len := 48

end Sys2Proof.Machine.Crypto
end

