-- ==== Sys2Proof/Machine/Irq.lean ====
section
/-! DEFINITION. The interrupt controller's lines (R442, R443) and the held NMI (R445). -/

namespace Sys2Proof.Machine

/-- The event and enable register pairs of a block (R442), by the block's number. -/
def eventPairs (n : Nat) : List (Nat × Nat) :=
  match n with
  | 1 => [(0x40010010, 0x40010018), (0x40010014, 0x4001001C)]
  | 2 => [(0x40020008, 0x4002000C)]
  | 3 => [(0x40030008, 0x4003000C)]
  | 4 => [(0x40040008, 0x4004000C)]
  | 5 => [(0x40050114, 0x40050118), (0x40050214, 0x40050218)]
  | 6 => [(0x40060008, 0x4006000C)]
  | 7 => [(0x40070008, 0x4007000C)]
  | 8 => [(0x40080008, 0x4008000C)]
  | 9 => [(0x40090008, 0x4009000C)]
  | 10 => [(0x400A0008, 0x400A000C)]
  | 11 => [(0x400B0000, 0x400B0004)]
  | 12 => [(0x400C0020, 0x400C0024)]
  | 13 => [(0x400D0008, 0x400D000C)]
  | 14 => [(0x400E0050, 0x400E0054)]
  | 15 => [(0x400F0008, 0x400F000C)]
  | 16 => [(0x40100014, 0x40100018)]
  | 17 => [(0x40110008, 0x4011000C)]
  | _ => []

/-- Interrupt line `n` is pending (R442). -/
def linePending (s : State) (n : Nat) : Bool :=
  if n = 0 then (s.regWord 0x40000044 &&& s.regWord 0x40000040) != 0
  else if n ≤ 20 then (eventPairs n).any fun p => (s.regWord p.1 &&& s.regWord p.2) != 0
  else if n = 21 then s.regWord 0x40150010 != 0
  else if 24 ≤ n ∧ n ≤ 31 then s.cpu.isw.getLsbD (n - 24)
  else false

/-- IPEND: bit n for line n. -/
def ipendFrom (s : State) : Nat → Nat
  | 0 => 0
  | n + 1 => ipendFrom s n + (if linePending s n then 2 ^ n else 0)

/-- IPEND. -/
def ipend (s : State) : Word := BitVec.ofNat 32 (ipendFrom s 32)

/-- The priority of line `n` (IPRI0, IPRI1). -/
def linePriority (s : State) (n : Nat) : Nat :=
  (if n < 16 then s.cpu.ipri0.toNat / 2 ^ (2 * n) else s.cpu.ipri1.toNat / 2 ^ (2 * (n - 16))) % 4

/-- The pending enabled line of the highest priority below `n`; ties go to the lowest line (R443). -/
def bestLine (s : State) : Nat → Option Nat
  | 0 => none
  | n + 1 =>
    if linePending s n && s.cpu.ien.getLsbD n then
      match bestLine s n with
      | some m => if linePriority s m < linePriority s n then some n else some m
      | none => some n
    else bestLine s n

/-- A line is pending with its IEN bit set. -/
def irqWaits (s : State) : Bool := (bestLine s 32).isSome

/-- NMI can be taken: pending, with NMIACT and ERRACT clear (R445). -/
def nmiReady (s : State) : Bool := s.cpu.nmipend && !s.cpu.nmiact && !s.cpu.erract

/-- The interrupt that would be taken at a boundary here: IE=1, NMI not taken, a line pending (R443). -/
def irqReady (s : State) : Option Nat :=
  if s.cpu.ie && !nmiReady s then bestLine s 32 else none

/-- The watchdog does not count while the debug port holds the core halted (R447). -/
def wdHold (halted : Bool) (s : State) : State :=
  { s with wdog :=
      match halted, s.wdog.held with
      | true, none => { s.wdog with held := some (s.tbase - s.wdog.start) }
      | false, some n => { start := s.tbase - n, held := none }
      | _, _ => s.wdog }

end Sys2Proof.Machine
end

