-- ==== Sys2Proof/Machine/Sec.lean ====
section
/-! DEFINITION. Life cycle, fuses, the fuse and token sequencer, key slots and the debug port (R295 to R306, R309,
R310, R317, R318). -/

namespace Sys2Proof.Machine

/-! ### Words of bytes -/

/-- Put bytes into `n` registers of four bytes each, least significant first. -/
def putBytes (f : Nat → Field) (n : Nat) (bs : List Byte) (s : State) : State :=
  (List.range n).foldl (fun s k => s.wr (f k) (leNat ((bs.drop (4 * k)).take 4))) s

/-- The bytes of `n` such registers. -/
def getBytes (f : Nat → Field) (n : Nat) (s : State) : List Byte :=
  ((List.range n).map fun k => leBytes 4 (s.rd (f k))).flatten

/-- `n` bytes, each a free value. DESIGN CHOICE (log 62). -/
def drawBytes : Nat → State → List Byte × State
  | 0, s => ([], s)
  | n + 1, s => (BitVec.ofNat 8 s.freeVal :: (drawBytes n s.drawn).1, (drawBytes n s.drawn).2)

/-! ### Life-cycle states (R295, R296) -/

def lcTest : Nat := 0
def lcManufacture : Nat := 1
def lcDeployed : Nat := 2
def lcService : Nat := 3
def lcRetired : Nat := 4

/-- The state the fuses show (R296). -/
def lcOf (f : Fuses) : Nat :=
  if f.ret then lcRetired else if !f.mfg then lcTest else if !f.dep then lcManufacture
  else if f.svc % 2 = 1 then lcService else lcDeployed

/-- The state in force: that of the last sense. -/
def lcs (s : State) : Nat := s.rd Reg.SEC_LCS.STATE

/-- The all-zero hash. -/
def noHash : List Byte := List.replicate 48 0

/-- The hash of OEM slot `k`. -/
def slotHash (s : State) (k : Nat) : List Byte := Sparse.get noHash k s.sec.fuses.oemHash

/-- Slot `k` is programmed (R301). -/
def slotProg (s : State) (k : Nat) : Bool := slotHash s k != noHash

/-- Slot `k` is programmed and not revoked. -/
def slotLive (s : State) (k : Nat) : Bool := slotProg s k && !s.sec.fuses.oemRev.testBit k

/-- A bitmap over the four slots. -/
def slotMap (f : Nat → Bool) : Nat := (List.range 4).foldl (fun acc k => acc + (f k).toNat * 2 ^ k) 0

/-- The OEM and anti-rollback registers follow the fuses (R301). -/
def fuseView (s : State) : State :=
  let f := s.sec.fuses
  let s := (s.wr Reg.SEC_FUSESTAT.OEMPROG (slotMap (slotProg s))).wr Reg.SEC_FUSESTAT.OEMREV f.oemRev
  let s := (s.wr Reg.SEC_FUSESTAT.FWARB f.fwarb).wr Reg.SEC_FUSESTAT.HOSTARB f.hostarb
  (List.range 4).foldl (fun s k => putBytes (Reg.SEC_OEMHASH.HASH k) 12 (slotHash s k) s) s

/-! ### Key slots (R309) -/

/-- Empty key slot `k`. -/
def clearSlot (k : Nat) (s : State) : State :=
  let s := ((s.clr (Reg.SEC_KSLOT.VALID k)).wr (Reg.SEC_KSLOT.TYPE k) 0).wr (Reg.SEC_KSLOT.USE k) 0
  { s.wr (Reg.SEC_KSLOT.ORIGIN k) 0 with sec := { s.sec with keys := Sparse.erase k s.sec.keys } }

/-- Empty slots 0 to `n` − 1. -/
def clearSlots (n : Nat) (s : State) : State := (List.range n).foldl (fun s k => clearSlot k s) s

/-- Fill key slot `k`. -/
def fillSlot (k type use origin : Nat) (key : List Byte) (s : State) : State :=
  let s := ((s.set (Reg.SEC_KSLOT.VALID k)).wr (Reg.SEC_KSLOT.TYPE k) type).wr (Reg.SEC_KSLOT.USE k) use
  { s.wr (Reg.SEC_KSLOT.ORIGIN k) origin with sec := { s.sec with keys := Sparse.put [] k key s.sec.keys } }

/-- The key of slot `k`, if it has the type and the use. -/
def slotKey (s : State) (k type use : Nat) : Option (List Byte) :=
  if s.on (Reg.SEC_KSLOT.VALID k) && s.rd (Reg.SEC_KSLOT.TYPE k) == type
      && (s.rd (Reg.SEC_KSLOT.USE k)).testBit use then
    some (Sparse.get [] k s.sec.keys)
  else none

/-- The bytes of DEVSECRET and of DEVID. DESIGN CHOICE (log 13). -/
def secretBytes : List Byte := beBytes 32 Config.deviceSecret.toNat
def deviceBytes (s : State) : List Byte := leBytes 8 s.sec.fuses.devid.toNat

/-- The bytes of a key of a type: from the KDF or the TRNG, `n` bytes longer for a curve (R309). -/
def keyLength (type : Nat) : Nat := if type = 0 then 32 else if type = 1 then 40 else 56

/-- The key that raw bytes give: a private scalar for a curve (R309). -/
def keyFrom (type : Nat) (raw : List Byte) : List Byte :=
  if type = 0 then raw
  else if type = 1 then beBytes 32 (Crypto.p256.scalar (beNat raw))
  else beBytes 48 (Crypto.p384.scalar (beNat raw))

/-- The public key of a key of a type; none for AES. -/
def publicOf (type : Nat) (key : List Byte) : List Byte :=
  if type = 0 then []
  else if type = 1 then Crypto.p256.public (beNat key)
  else Crypto.p384.public (beNat key)

/-- The identity key (R310). -/
def identityKey (s : State) : List Byte :=
  keyFrom 2 (Crypto.kdf secretBytes (Crypto.ascii "KOLTOS-IDENTITY0") (deviceBytes s) (keyLength 2))

/-- IK and SEC_IKPUB are ready (R310). -/
def ikReady (s : State) : State :=
  if s.coreUp && !s.on Reg.SEC_LCS.IKRDY then
    let s := s.set Reg.SEC_LCS.IKRDY
    putBytes Reg.SEC_IKPUB.IKPUB 24 (publicOf 2 (identityKey s)) (fillSlot 15 2 8 3 (identityKey s) s)
  else s

/-! ### Debug port (R317, R318) -/

/-- The port opens at a level: key slots are cleared and DBGOPENED is set. -/
def debugOpens (level : Nat) (s : State) : State :=
  clearSlots 16 (((s.set Reg.SEC_LCS.DBGOPEN).wr Reg.SEC_LCS.DBGLEVEL level).set Reg.SEC_LCS.DBGOPENED)

/-- The sense of the fuses at a domain or cold reset (R296, R301), with the debug port as R317 has it and IK as
R310 has it in RETIRED. -/
def senseFuses (s : State) : State :=
  let st := lcOf s.sec.fuses
  let s := fuseView ((s.wr Reg.SEC_LCS.STATE st).wr Reg.SEC_LCS.SVCCNT s.sec.fuses.svc)
  let s := if st = lcRetired then s.set Reg.SEC_LCS.IKRDY else s
  let s := if s.sec.halfBad then { s.set Reg.SEC_FUSESTAT.FUSEERR with sec := { s.sec with halfBad := false } } else s
  if st = lcTest ∨ (st = lcManufacture ∧ slotMap (slotProg s) = 0) then debugOpens 2 s else s

/-- The SEC block at a domain reset, before the sense: keys, commands, checks and a transition are lost. -/
def secDomainReset (s : State) : State :=
  { s with sec := { s.sec with seq := none, keys := [], cmd := none, hash := none, trngAt := s.tbase + 1
                               booting := true, coreOnly := false, handover := false, safe := false } }

/-- The SEC block at a core reset (R312): a command is abandoned.  The wipes of a domain reset whose slot has not started
are still to come (R299). -/
def secCoreReset (s : State) : State :=
  let s := ((s.clr Reg.SEC_CMDSTAT.BUSY).clr Reg.SEC_CMDSTAT.HASHOPEN).wr Reg.SEC_CMDSTAT.CODE 0
  let only := s.sec.coreOnly || !s.sec.booting
  { s with
    sec := { s.sec with cmd := none, hash := none, booting := true, coreOnly := only, handover := false, safe := false }
    fgd := { s.fgd with sigWait := false } }

/-! ### The sequencer (R297, R298, R300, R302, R303) -/

/-- Causes of SEC_LCS.REFCAUSE. -/
def rcBusy : Nat := 1
def rcSupply : Nat := 2
def rcState : Nat := 3
def rcNoKey : Nat := 4
def rcLastKey : Nat := 5
def rcArb : Nat := 6
def rcSvcFull : Nat := 7
def rcFuse : Nat := 8

/-- A request is refused. -/
def secRefuse (cause : Nat) (s : State) : State :=
  (s.wr Reg.SEC_LCS.REFCAUSE cause).set Reg.SEC_EVT.REFUSED

/-- The supply lets a fuse be burned (R300). -/
def canBurn (s : State) : Bool := s.sys.v18pg && 4500 ≤ s.board.supply

/-- Some OEM slot but `k` is live. -/
def otherLive (s : State) (k : Nat) : Bool := (List.range 4).any fun j => j != k && slotLive s j

/-- A transition is accepted: its record is written, and the burn and the reset follow (R298). -/
def transition (dst : Nat) (s : State) : State :=
  let s := s.hwLog 0x0D 2 1 [lcs s, dst, s.rd Reg.SEC_LCS.SVCCNT]
  { s.set Reg.SEC_FUSESTAT.SEQBUSY with sec := { s.sec with seq := some (.transition dst) } }

/-- SEC_LCREQ with its key (R297). -/
def lcRequest (dst : Nat) (s : State) : State :=
  if s.sec.seq.isSome then secRefuse rcBusy s
  else if !((lcs s = lcTest ∧ dst = lcManufacture) ∨ (lcs s = lcManufacture ∧ dst = lcDeployed)
      ∨ (lcs s ≤ lcManufacture ∧ dst = lcRetired)) then secRefuse rcState s
  else if dst = lcDeployed ∧ !otherLive s 4 then secRefuse rcNoKey s
  else if !canBurn s then secRefuse rcSupply s
  else transition dst s

/-- The fuses after the burn of a transition. -/
def burnTransition (dst : Nat) (f : Fuses) : Fuses :=
  if dst = lcRetired then { f with ret := true }
  else if dst = lcManufacture then { f with mfg := true }
  else if dst = lcDeployed ∧ !f.dep then { f with dep := true }
  else { f with svc := f.svc + 1 }

/-- The number that the record of a failed half gives its field: 0 MFG, 1 DEP, 2 RET, 3 SVC. -/
def burnField (dst : Nat) (f : Fuses) : Nat :=
  if dst = lcRetired then 2 else if dst = lcManufacture then 0
  else if dst = lcDeployed ∧ !f.dep then 1 else 3

/-- Half A did not verify: the transition is abandoned (R298). -/
def abandonTransition (dst : Nat) (s : State) : State :=
  let s := (s.set Reg.SEC_FUSESTAT.FUSEERR).wr Reg.SEC_LCS.REFCAUSE rcFuse
  let s := s.hwLog 0x0D 4 2 [burnField dst s.sec.fuses, 0]
  { s.clr Reg.SEC_FUSESTAT.SEQBUSY with sec := { s.sec with seq := none } }

/-- The fuse is burned; a half B that failed is recorded, and FUSEERR follows the reset. -/
def burned (dst : Nat) (bOk : Bool) (s : State) : State :=
  let s := if bOk then s else s.hwLog 0x0D 4 2 [burnField dst s.sec.fuses, 1]
  { s with sec := { s.sec with fuses := burnTransition dst s.sec.fuses, seq := none, halfBad := !bOk } }

/-- The debug port closes, and holds the core no longer: a core that it had halted goes on, and the watchdog counts.
DESIGN CHOICE (log 116). -/
def debugCloses (s : State) : State :=
  { wdHold false ((s.clr Reg.SEC_LCS.DBGOPEN).wr Reg.SEC_LCS.DBGLEVEL 0) with
    sys := { s.sys with dbgHalted := false, dbgStep := false, dbgBreak := false } }

/-- Program OEM slot `k` (R302).  In MANUFACTURE the port that was open while no slot was programmed closes (R295); a hash of
zeros burns nothing and leaves the slot unprogrammed (R301). -/
def oemProgram (k : Nat) (hash : List Byte) (s : State) : State :=
  if slotProg s k then secRefuse rcState s
  else if !canBurn s then secRefuse rcSupply s
  else
    let s := if lcs s = lcManufacture ∧ slotMap (slotProg s) = 0 ∧ hash ≠ noHash then debugCloses s else s
    fuseView { s with sec := { s.sec with fuses :=
      { s.sec.fuses with oemHash := Sparse.put noHash k hash s.sec.fuses.oemHash } } }

/-- Revoke OEM slot `k` (R302). -/
def oemRevoke (k : Nat) (s : State) : State :=
  if (lcs s = lcDeployed ∨ lcs s = lcService) ∧ !otherLive s k then secRefuse rcLastKey s
  else if !canBurn s then secRefuse rcSupply s
  else
    let f := s.sec.fuses
    fuseView { s with sec := { s.sec with fuses := { f with oemRev := f.oemRev ||| 2 ^ k } } }

/-- SEC_OEMPROG with its key: a privileged write in TEST and MANUFACTURE. -/
def oemWrite (v : Nat) (s : State) : State :=
  let k := Reg.SEC_OEMPROG.SLOT.of v
  if v.testBit 4 || v.testBit 5 then
    if s.sec.seq.isSome then secRefuse rcBusy s
    else if lcManufacture < lcs s then secRefuse rcState s
    else
      let s := if v.testBit 4 then oemProgram k (s.bytes (4 * s.rd Reg.SEC_OEMADDR.ADDR) 48) s else s
      if v.testBit 5 then oemRevoke k s else s
  else s

/-- Advance FWARB (R303). -/
def advanceFw (target : Nat) (s : State) : State :=
  let f := s.sec.fuses
  if target ≤ f.fwarb then s
  else if 64 < target ∨ s.rd Reg.SEC_BOOTINFO.SVN < target then secRefuse rcArb s
  else if !canBurn s then secRefuse rcSupply s
  else fuseView { s with sec := { s.sec with fuses := { f with fwarb := target } } }

/-- Advance HOSTARB (R303). -/
def advanceHost (target : Nat) (s : State) : State :=
  let f := s.sec.fuses
  if target ≤ f.hostarb then s
  else if 64 < target then secRefuse rcArb s
  else if !canBurn s then secRefuse rcSupply s
  else fuseView { s with sec := { s.sec with fuses := { f with hostarb := target } } }

/-- SEC_ARBADV. -/
def arbWrite (v : Nat) (s : State) : State :=
  if v.testBit 16 || v.testBit 17 then
    if s.sec.seq.isSome then secRefuse rcBusy s
    else if lcs s = lcRetired then secRefuse rcState s
    else
      let s := if v.testBit 16 then advanceFw (Reg.SEC_ARBADV.FWTGT.of v) s else s
      if v.testBit 17 then advanceHost (Reg.SEC_ARBADV.HOSTTGT.of v) s else s
  else s

/-! ### Tokens (R304 to R306) -/

/-- `n` bytes of a token from an offset, little-endian. -/
def tokNat (tok : List Byte) (off n : Nat) : Nat := leNat ((tok.drop off).take n)

/-- KIND and ARG of a token. -/
def tokKind (tok : List Byte) : Nat := tokNat tok 3 1
def tokArg (tok : List Byte) : Nat := tokNat tok 5 1

/-- Step 1: MAGIC, VER and the zero fields. -/
def tokFormed (tok : List Byte) : Bool :=
  let arg := tokArg tok
  let kind := tokKind tok
  tokNat tok 0 2 == 0x544B && tokNat tok 2 1 == 1 && tokNat tok 6 2 == 0
    && (if kind = 1 then arg == 1 || arg == 2 else if kind = 5 then arg / 4 % 32 == 0 else arg == 0)
    && (kind == 5 || (tok.drop 0x20).take 48 == noHash)

/-- Step 5: the present state permits the KIND. -/
def kindPermitted (s : State) (kind : Nat) : Bool :=
  let st := lcs s
  if kind = 1 then (st == lcManufacture && slotMap (slotProg s) != 0) || st == lcService || st == lcRetired
  else if kind = 2 then st == lcDeployed
  else if kind = 3 then st == lcService
  else if kind = 4 ∨ kind = 5 then st == lcDeployed || st == lcService
  else kind == 6

/-- The live nonce. -/
def liveNonce (s : State) : List Byte := getBytes Reg.SEC_NONCE.NONCE 4 s

/-- The first step of R305 that a token fails; 0 when it passes. -/
def tokCheck (s : State) (tok : List Byte) : Nat :=
  let slot := tokNat tok 4 1
  let nonce := (tok.drop 0x10).take 16
  let pub := (tok.drop 0x50).take 96
  if !tokFormed tok then 1
  else if tokNat tok 8 8 ≠ s.sec.fuses.devid.toNat then 2
  else if nonce ≠ liveNonce s ∨ nonce = List.replicate 16 0 then 3
  else if !(slot < 4 && slotLive s slot && slotHash s slot == Crypto.sha Crypto.sha384 pub) then 4
  else if !kindPermitted s (tokKind tok) then 5
  else if !(Crypto.p384.pubKey pub != none &&
      Crypto.p384.verify (Crypto.p384.pubKey pub) (Crypto.sha Crypto.sha384 (tok.take 0xB0)) (tok.drop 0xB0)) then 6
  else 0

/-- A passing token acts (R305).  A burn that the supply forbids is refused under R300, with RESULT 7. -/
def tokAct (tok : List Byte) (s : State) : State :=
  let kind := tokKind tok
  let burn (act : State → State) : State :=
    if canBurn s then act s else secRefuse rcSupply (s.wr Reg.SEC_TOKCTL.RESULT 7)
  if kind = 1 then (debugOpens (tokArg tok) s).set Reg.SEC_EVT.DBGOPEN
  else if kind = 2 then (if 62 < s.sec.fuses.svc then secRefuse rcSvcFull s else burn (transition lcService))
  else if kind = 3 then burn (transition lcDeployed)
  else if kind = 4 then burn (transition lcRetired)
  else if kind = 5 then
    burn (if tokArg tok < 128 then oemProgram (tokArg tok % 4) ((tok.drop 0x20).take 48)
      else oemRevoke (tokArg tok % 4))
  else s.set Reg.SEC_TOKCTL.KEYOK

/-- A token is submitted: the check starts, or R300 refuses it. -/
def tokSubmit (tok : List Byte) (s : State) : State :=
  if s.sec.seq.isSome then secRefuse rcBusy (s.wr Reg.SEC_TOKCTL.RESULT 7)
  else
    { (s.set Reg.SEC_TOKCTL.BUSY).set Reg.SEC_FUSESTAT.SEQBUSY with
      sec := { s.sec with seq := some (.token tok) } }

/-- The token check ends; the live nonce is consumed. DEDUCED (log 64). -/
def tokDone (s : State) : State :=
  match s.sec.seq with
  | some (.token tok) =>
    let r := tokCheck s tok
    let s := putBytes Reg.SEC_NONCE.NONCE 4 [] s
    let s := ((s.clr Reg.SEC_TOKCTL.BUSY).clr Reg.SEC_FUSESTAT.SEQBUSY).wr Reg.SEC_TOKCTL.RESULT r
    let s := { s.set Reg.SEC_EVT.TOKDONE with sec := { s.sec with seq := none } }
    if r = 0 then tokAct tok s else s
  | _ => s

/-- NEWNONCE (R306): 16 bytes from the TRNG; a failed TRNG leaves the all-zero nonce, which serves no token. -/
def newNonce (s : State) : State :=
  if s.on Reg.SEC_TRNGSTAT.FAIL then putBytes Reg.SEC_NONCE.NONCE 4 [] s
  else putBytes Reg.SEC_NONCE.NONCE 4 (drawBytes 16 s).1 (drawBytes 16 s).2

/-- A write of SEC_TOKCTL. -/
def tokCtlWrite (v : Nat) (s : State) : State :=
  let s := if v.testBit 3 then s.clr Reg.SEC_TOKCTL.KEYOK else s
  let s := if v.testBit 0 then newNonce s else s
  if v.testBit 1 then tokSubmit (s.bytes (4 * s.rd Reg.SEC_TOKADDR.ADDR) 272) s else s

/-! ### TRNG (R311) -/

/-- Fresh random bits stand in SEC_TRNG. -/
def trngValid (s : State) : Bool := !s.on Reg.SEC_TRNGSTAT.FAIL && s.sec.trngAt ≤ s.tbase

/-- A read of SEC_TRNG takes 32 random bits, which are a free value. DESIGN CHOICE (log 62). -/
def trngRead (s : State) : Nat × State :=
  if trngValid s then (s.freeVal % 2 ^ 32, { s.drawn with sec := { s.sec with trngAt := s.tbase + 1 } })
  else (0, s)

end Sys2Proof.Machine
end

