-- ==== Sys2Proof/Machine/Engine.lean ====
section
/-! DEFINITION. The crypto engine: descriptors, operations and result codes (R307 to R312, R318, R322). -/

namespace Sys2Proof.Machine

/-- A descriptor (R307). -/
structure Desc where
  op : Nat
  kslot : Nat
  flags : Nat
  src : Nat
  slen : Nat
  dst : Nat
  dlen : Nat
  aux : Nat
  auxlen : Nat
  deriving DecidableEq, Repr

/-- The descriptor at an address. -/
def readDesc (s : State) (a : Nat) : Desc where
  op := s.loadNat a 1
  kslot := s.loadNat (a + 1) 1
  flags := s.loadNat (a + 2) 2
  src := s.loadNat (a + 4) 4
  slen := s.loadNat (a + 8) 4
  dst := s.loadNat (a + 12) 4
  dlen := s.loadNat (a + 16) 4
  aux := s.loadNat (a + 20) 4
  auxlen := s.loadNat (a + 24) 4

def Desc.first (d : Desc) : Bool := d.flags.testBit 0
def Desc.last (d : Desc) : Bool := d.flags.testBit 1
def Desc.decrypt (d : Desc) : Bool := d.flags.testBit 2
def Desc.type (d : Desc) : Nat := bitsOf d.flags 4 2
def Desc.dstSlot (d : Desc) : Nat := bitsOf d.flags 8 4
def Desc.use (d : Desc) : Nat := bitsOf d.flags 12 4

/-- Result codes (R308). -/
def ccOk : Nat := 0
def ccBadSig : Nat := 1
def ccAuthFail : Nat := 2
def ccBadPoint : Nat := 3
def ccBadSlot : Nat := 4
def ccBadDesc : Nat := 5
def ccTrng : Nat := 6
def ccRefused : Nat := 7
def ccParity : Nat := 8

/-- The range lies in main SRAM. -/
def inSram (a n : Nat) : Bool := sramBase ≤ a && a + n ≤ sramBase + 0x100000

/-- The range lies in the Firn read view. -/
def inFirn (a n : Nat) : Bool := firnBase ≤ a && a + n ≤ firnBase + 0x400000

/-- A permitted input. -/
def srcOk (d : Desc) : Bool := inSram d.src d.slen || inFirn d.src d.slen

/-- A permitted output of `n` bytes. -/
def dstOk (d : Desc) (n : Nat) : Bool := inSram d.dst n && n ≤ d.dlen

/-- A permitted auxiliary input. -/
def auxOk (d : Desc) : Bool := inSram d.aux d.auxlen

/-- The bytes of an input. -/
def inputBytes (s : State) (a n : Nat) : List Byte :=
  if inFirn a n then s.firnBytes (a - firnBase) n else s.bytes a n

/-- Read an input's bytes with their checks: a Firn word's error is counted, a bad SRAM byte sets MSRAM (R44). -/
def checkInput (a n : Nat) (s : State) : State :=
  if inFirn a n then
    (List.range (if n = 0 then 0 else (a + n - 1) / 8 - a / 8 + 1)).foldl
      (fun s i => s.firnChecked ((a - firnBase) / 8 + i)) s
  else if (s.firstBad a n).isSome then s.set Reg.ERR_MEMSTAT.MSRAM
  else s

/-- An input holds an uncorrectable error. -/
def inputBad (s : State) (a n : Nat) : Bool :=
  if inFirn a n then s.firnDed.any fun w => (a - firnBase) / 8 ≤ w && w * 8 < a - firnBase + n
  else (s.firstBad a n).isSome

/-- What an operation comes to: its code, the bytes written, and the state it leaves. -/
structure OpEnd where
  code : Nat
  count : Nat := 0
  s : State
  deriving DecidableEq, Repr

/-- An operation that ends with a code and no output. -/
def State.ends (s : State) (code : Nat) : OpEnd := { code := code, s := s }

/-- An operation that ends OK with its output at DST. -/
def State.yields (s : State) (d : Desc) (out : List Byte) : OpEnd :=
  { code := ccOk, count := out.length, s := s.setBytes d.dst out }

/-- Run an operation on inputs without errors; `aux` says that it reads AUX. -/
def onInputs (d : Desc) (aux : Bool) (s : State) (run : State → OpEnd) : OpEnd :=
  let s1 := checkInput d.src d.slen s
  let s2 := if aux then checkInput d.aux d.auxlen s1 else s1
  if inputBad s d.src d.slen || (aux && inputBad s d.aux d.auxlen) then s2.ends ccParity else run s2

/-- HASH256 and HASH384. -/
def opHash (big : Bool) (d : Desc) (s : State) : OpEnd :=
  let size := if big then 48 else 32
  let held := if d.first then some [] else s.sec.hash.bind fun h => if h.1 = big then some h.2 else none
  if !srcOk d || (d.last && !dstOk d size) then s.ends ccBadDesc
  else
    match held with
    | none => s.ends ccBadDesc
    | some data =>
      onInputs d false s fun s =>
        let data := data ++ inputBytes s d.src d.slen
        if d.last then
          let s := { s.clr Reg.SEC_CMDSTAT.HASHOPEN with sec := { s.sec with hash := none } }
          s.yields d (Crypto.sha (if big then Crypto.sha384 else Crypto.sha256) data)
        else { s.set Reg.SEC_CMDSTAT.HASHOPEN with sec := { s.sec with hash := some (big, data) } }.ends ccOk

/-- The AES key an operation names, raw at AUX or in a slot, and the rest of AUX. -/
def aesKey (d : Desc) (s : State) : Option (List Byte × List Byte) :=
  let aux := s.bytes d.aux d.auxlen
  if d.kslot = 0xFF then some (aux.take 32, aux.drop 32)
  else if d.kslot < 16 then (slotKey s d.kslot 0 0).map fun k => (k, aux)
  else none

/-- GCM. -/
def opGcm (d : Desc) (s : State) : OpEnd :=
  let head := 12 + if d.kslot = 0xFF then 32 else 0
  let size := if d.decrypt then d.slen - 16 else d.slen + 16
  if !srcOk d || !auxOk d || !dstOk d size || d.auxlen < head || (d.decrypt && d.slen < 16) then s.ends ccBadDesc
  else
    onInputs d true s fun s =>
      match aesKey d s with
      | none => s.ends ccBadSlot
      | some (key, aux) =>
        let iv := aux.take 12
        let aad := aux.drop 12
        let src := inputBytes s d.src d.slen
        if d.decrypt then
          let c := src.take (d.slen - 16)
          if Crypto.gcmTag key iv aad c = src.drop (d.slen - 16) then s.yields d (Crypto.gcmCrypt key iv c)
          else { code := ccAuthFail, s := s.setBytes d.dst (List.replicate size 0) }
        else
          let c := Crypto.gcmCrypt key iv src
          s.yields d (c ++ Crypto.gcmTag key iv aad c)

/-- CMAC. -/
def opCmac (d : Desc) (s : State) : OpEnd :=
  if !srcOk d || !dstOk d 16 || (d.kslot = 0xFF && (!auxOk d || d.auxlen ≠ 32)) then s.ends ccBadDesc
  else
    onInputs d (d.kslot = 0xFF) s fun s =>
      match aesKey d s with
      | none => s.ends ccBadSlot
      | some (key, _) => s.yields d (Crypto.cmac key (inputBytes s d.src d.slen))

/-- VERIFY256 and VERIFY384. -/
def opVerify (c : Crypto.Curve) (d : Desc) (s : State) : OpEnd :=
  if !srcOk d || !auxOk d || d.slen ≠ c.len || d.auxlen ≠ 4 * c.len then s.ends ccBadDesc
  else
    onInputs d true s fun s =>
      let aux := s.bytes d.aux d.auxlen
      let q := c.pubKey aux
      let sig := aux.drop (2 * c.len)
      if q = none ∨ !c.inRange (beNat (sig.take c.len)) ∨ !c.inRange (beNat (sig.drop c.len)) then s.ends ccBadPoint
      else if c.verify q (inputBytes s d.src d.slen) sig then s.ends ccOk
      else s.ends ccBadSig

/-- SIGN256 and SIGN384; the per-signature nonce is from the TRNG (R311). -/
def opSign (c : Crypto.Curve) (type : Nat) (d : Desc) (s : State) : OpEnd :=
  if !srcOk d || !dstOk d (2 * c.len) || d.slen ≠ c.len then s.ends ccBadDesc
  else if 15 < d.kslot then s.ends ccBadSlot
  else
    match slotKey s d.kslot type 1 with
    | none => s.ends ccBadSlot
    | some key =>
      if s.on Reg.SEC_TRNGSTAT.FAIL then s.ends ccTrng
      else
        onInputs d false s fun s =>
          let k := c.scalar (beNat (drawBytes (c.len + 8) s).1)
          (drawBytes (c.len + 8) s).2.yields d (c.sign (beNat key) (inputBytes s d.src d.slen) k)

/-- ECDH256. -/
def opEcdh (d : Desc) (s : State) : OpEnd :=
  if !auxOk d || d.auxlen ≠ 64 || !dstOk d 32 then s.ends ccBadDesc
  else if 15 < d.kslot then s.ends ccBadSlot
  else
    match slotKey s d.kslot 1 2 with
    | none => s.ends ccBadSlot
    | some key =>
      onInputs { d with slen := 0, src := sramBase } true s fun s =>
        let q := Crypto.p256.pubKey (s.bytes d.aux 64)
        if q = none then s.ends ccBadPoint else s.yields d (Crypto.p256.shared (beNat key) q)

/-- A new key goes into DSTSLOT, its public key to DST. -/
def newKey (d : Desc) (origin : Nat) (key : List Byte) (s : State) : OpEnd :=
  (fillSlot d.dstSlot d.type d.use origin key s).yields d (publicOf d.type key)

/-- The bytes of a public key of a type. -/
def publicLength (type : Nat) : Nat := if type = 0 then 0 else if type = 1 then 64 else 96

/-- GENERATE. DESIGN CHOICE (log 62). -/
def opGenerate (d : Desc) (s : State) : OpEnd :=
  if d.type = 3 || (d.type ≠ 0 && !dstOk d (publicLength d.type)) then s.ends ccBadDesc
  else if d.dstSlot = 15 then s.ends ccBadSlot
  else if s.on Reg.SEC_TRNGSTAT.FAIL then s.ends ccTrng
  else
    newKey d 2 (keyFrom d.type (drawBytes (keyLength d.type) s).1) (drawBytes (keyLength d.type) s).2

/-- The context of R309. -/
def deriveContext (s : State) : List Byte :=
  deviceBytes s ++ [BitVec.ofNat 8 (lcs s), BitVec.ofNat 8 (s.rd Reg.SEC_LCS.SVCCNT)]

/-- DERIVE (R309): refused in RETIRED, and after the debug port has opened (R318). -/
def opDerive (d : Desc) (s : State) : OpEnd :=
  if d.type = 3 || !auxOk d || d.auxlen ≠ 16 || (d.type ≠ 0 && !dstOk d (publicLength d.type)) then s.ends ccBadDesc
  else if lcs s = lcRetired || s.on Reg.SEC_LCS.DBGOPENED then s.ends ccRefused
  else if d.dstSlot = 15 then s.ends ccBadSlot
  else
    onInputs { d with slen := 0, src := sramBase } true s fun s =>
      newKey d 0 (keyFrom d.type (Crypto.kdf secretBytes (s.bytes d.aux 16) (deriveContext s) (keyLength d.type))) s

/-- LOAD: slot 15 is refused after the debug port has opened (R318), and never a DSTSLOT.  A scalar outside 1 to
n − 1 ends with BADPOINT. -/
def opLoad (d : Desc) (s : State) : OpEnd :=
  if d.type = 3 || !srcOk d || d.slen ≠ (if d.type = 2 then 48 else 32) then s.ends ccBadDesc
  else if d.dstSlot = 15 then s.ends (if s.on Reg.SEC_LCS.DBGOPENED then ccRefused else ccBadSlot)
  else
    onInputs d false s fun s =>
      let key := inputBytes s d.src d.slen
      if (d.type = 1 && !Crypto.p256.inRange (beNat key)) || (d.type = 2 && !Crypto.p384.inRange (beNat key)) then
        s.ends ccBadPoint
      else (fillSlot d.dstSlot d.type d.use 1 key s).ends ccOk

/-- The part of an attestation report that the engine takes from hardware (R322). -/
def reportHead (nonce : List Byte) (s : State) : List Byte :=
  let flags := s.rd Reg.SEC_LCS.DBGOPENED + 2 * s.rd Reg.SEC_BOOTINFO.FALLBACK + 4 * s.rd Reg.SEC_BOOTINFO.UCODE
    + 8 * (s.rd Reg.SEC_BOOTINFO.KEYSLOT == 0xFF).toNat
  leBytes 4 0x5241544B ++ leBytes 2 1 ++ leBytes 2 flags ++ deviceBytes s ++ nonce
    ++ leBytes 1 (lcs s) ++ leBytes 1 (s.rd Reg.SEC_LCS.SVCCNT) ++ leBytes 1 (s.rd Reg.SEC_FUSESTAT.FWARB)
    ++ leBytes 1 (s.rd Reg.SEC_FUSESTAT.HOSTARB)
    ++ leBytes 1 (s.rd Reg.SEC_FUSESTAT.OEMPROG + 16 * s.rd Reg.SEC_FUSESTAT.OEMREV)
    ++ leBytes 1 (s.rd Reg.SEC_BOOTINFO.SLOT) ++ leBytes 1 (s.rd Reg.SEC_BOOTINFO.SVN)
    ++ leBytes 1 (s.rd Reg.SEC_BOOTINFO.KEYSLOT) ++ leBytes 8 s.tbase ++ getBytes Reg.SEC_MEASFW.DIGEST 12 s

/-- ATTEST (R322): refused in RETIRED (R310) and after the debug port has opened (R318). -/
def opAttest (d : Desc) (s : State) : OpEnd :=
  let n := 8 + 56 * (inputBytes s d.src 1).foldl (fun a b => a + b.toNat) 0
    + 16 * (inputBytes s (d.src + 1) 1).foldl (fun a b => a + b.toNat) 0
  let nhost := (inputBytes s d.src 1).foldl (fun a b => a + b.toNat) 0
  let nmod := (inputBytes s (d.src + 1) 1).foldl (fun a b => a + b.toNat) 0
  if !srcOk d || !auxOk d || d.auxlen ≠ 32 || d.slen ≠ n || 16 < nhost || 32 < nmod
      || !dstOk d (0x70 + d.slen + 96) then s.ends ccBadDesc
  else if lcs s = lcRetired || s.on Reg.SEC_LCS.DBGOPENED then s.ends ccRefused
  else
    match slotKey s 15 2 3 with
    | none => s.ends ccBadSlot
    | some key =>
      if s.on Reg.SEC_TRNGSTAT.FAIL then s.ends ccTrng
      else
        onInputs d true s fun s =>
          let body := reportHead (s.bytes d.aux 32) s ++ inputBytes s d.src d.slen
          let k := Crypto.p384.scalar (beNat (drawBytes 56 s).1)
          (drawBytes 56 s).2.yields d (body ++ Crypto.p384.sign (beNat key) (Crypto.sha Crypto.sha384 body) k)

/-- RANDOM. DESIGN CHOICE (log 62). -/
def opRandom (d : Desc) (s : State) : OpEnd :=
  if !dstOk d d.dlen then s.ends ccBadDesc
  else if s.on Reg.SEC_TRNGSTAT.FAIL then s.ends ccTrng
  else (drawBytes d.dlen s).2.yields d (drawBytes d.dlen s).1

/-- The operation of an OP code. -/
def opRun (d : Desc) (s : State) : OpEnd :=
  match d.op with
  | 1 => opHash false d s
  | 2 => opHash true d s
  | 3 => opGcm d s
  | 4 => opCmac d s
  | 5 => opVerify Crypto.p256 d s
  | 6 => opVerify Crypto.p384 d s
  | 7 => opSign Crypto.p256 1 d s
  | 8 => opSign Crypto.p384 2 d s
  | 9 => opEcdh d s
  | 10 => opGenerate d s
  | 11 => opDerive d s
  | 12 => opLoad d s
  | 13 => opAttest d s
  | 14 => opRandom d s
  | _ => s.ends ccBadDesc

/-- The open hash goes on in this command; any other GO abandons it (R308). -/
def hashGoesOn (d : Desc) (s : State) : Bool :=
  match s.sec.hash with
  | some (big, _) => d.op == (if big then 2 else 1) && !d.first
  | none => false

/-- FGD reads signatures while it verifies, and may hold the verify unit then (R337). -/
def fgdVerifying (s : State) : Bool :=
  (1 ≤ s.rd Reg.FGD_STAT.PHASE && s.rd Reg.FGD_STAT.PHASE ≤ 4) || s.rd Reg.FGD_STAT.PROMO == 1

/-- The engine's descriptor address. -/
def descAddr (s : State) : Nat := 4 * s.rd Reg.SEC_DESC.ADDR

/-- SEC_CMD.GO (R307): the operation `run` of the descriptor is carried out; its end is COMMAND_DONE.  While FGD
verifies, whether it holds the unit is a free value. DESIGN CHOICE (log 63). -/
def engineGo (run : Desc → State → OpEnd) (s : State) : State :=
  let held := fgdVerifying s && s.freeVal % 2 == 1
  let s := if fgdVerifying s then s.drawn else s
  if s.on Reg.SEC_CMDSTAT.BUSY || held then s.set Reg.SEC_EVT.CMDERR
  else
    let a := descAddr s
    let d := readDesc s a
    let s := if hashGoesOn d s then s else
      { s.clr Reg.SEC_CMDSTAT.HASHOPEN with sec := { s.sec with hash := none } }
    let r := if !inSram a 32 then s.ends ccBadDesc
      else if (s.firstBad a 32).isSome then (s.set Reg.ERR_MEMSTAT.MSRAM).ends ccParity
      else run d s
    { r.s.set Reg.SEC_CMDSTAT.BUSY with sec := { r.s.sec with cmd := some ⟨a, r.code, r.count⟩ } }

/-- A write of SEC_CMD. -/
def cmdWrite (v : Nat) (s : State) : State := if v.testBit 0 then engineGo opRun s else s

/-- A write of SEC_CMD with GO set, for a descriptor of one operation. -/
def cmdWriteOp (op : Nat) (run : Desc → State → OpEnd) (s : State) : State :=
  if (readDesc s (descAddr s)).op = op then engineGo run s else s

/-- A crypto command finishes: RESULT in its descriptor, CMDSTAT and CMDDONE (R307). -/
def commandDone (s : State) : State :=
  match s.sec.cmd with
  | none => s
  | some c =>
    let s := if inSram c.desc 32 then s.storeNat (c.desc + 0x1C) 4 (c.code + 256 * c.count) else s
    let s := ((s.clr Reg.SEC_CMDSTAT.BUSY).wr Reg.SEC_CMDSTAT.CODE c.code).set Reg.SEC_EVT.CMDDONE
    { s with sec := { s.sec with cmd := none }, fgd := { s.fgd with sigWait := false } }

/-- A core read of the SEC block.  CMDSTAT.BUSY also reads 1 while FGD holds the verify unit: a free value while it
verifies. DESIGN CHOICE (log 63). -/
def secRead (s : State) (a : Nat) : Nat × State :=
  if a = 0x400E0008 then (s.sec.fuses.devid.toNat % 2 ^ 32, s)
  else if a = 0x400E000C then (s.sec.fuses.devid.toNat / 2 ^ 32, s)
  else if a = 0x400E0048 then
    if fgdVerifying s then (s.regWord a ||| s.freeVal % 2, s.drawn) else (s.regWord a, s)
  else if a = 0x400E0058 then trngRead s
  else if a = 0x400E005C then ((s.wrB Reg.SEC_TRNGSTAT.VALID (trngValid s)).regWord a, s)
  else (s.regWord a, s.clearRc a)

/-- A core write of the SEC block. -/
def secWrite (a v : Nat) (s : State) : State :=
  if a = 0x400E0010 then (if v / 2 ^ 24 = 0x3C then lcRequest (v % 8) s else s)
  else if a = 0x400E0014 then arbWrite v s
  else if a = 0x400E0018 then (if v / 2 ^ 24 = 0x3C then oemWrite v s else s)
  else if a = 0x400E0020 then tokCtlWrite v s
  else if a = 0x400E0040 then cmdWrite v s
  else if a = 0x400E0044 then s.wr Reg.SEC_DESC.ADDR (v / 32 * 8)
  else if 0x400E0200 ≤ a ∧ a < 0x400E023C then
    (if v.testBit 16 then clearSlot ((a - 0x400E0200) / 4) s else s)
  else if a = 0x400E0900 then s.wr Reg.SEC_PATLO.PAT (v &&& 0xCFFFFFFF)
  else s.regWrite a v

end Sys2Proof.Machine
end

