-- ==== Sys2Proof/Machine/Fgd.lean ====
section
/-! DEFINITION. Serac: discovery, manifests, verification, the remap and policy, flash requests and promotion (R323
to R347). -/

namespace Sys2Proof.Machine

/-! ### The devices -/

/-- `n` bytes of flash from a physical address. -/
def flashBytes (s : State) (a n : Nat) : List Byte := Sparse.getMany 0xFF a s.fgd.flash n

/-- Put bytes into flash. PRESUMED (log 67). -/
def setFlash (a : Nat) (bs : List Byte) (s : State) : State :=
  { s with fgd := { s.fgd with flash := Sparse.putMany 0xFF a bs s.fgd.flash } }

/-- TOP (R325). -/
def flashTop (s : State) : Nat := s.rd Reg.FGD_TOP.TOP

/-- The device passes discovery (R324). -/
def sfdpPresent (d : Sfdp) : Bool :=
  d.good && (20 ≤ Nat.log2 d.size && Nat.log2 d.size ≤ 27 && d.size == 2 ^ Nat.log2 d.size)
    && d.eraseOp.isSome && !d.mixed && (d.size ≤ 0x1000000 || d.addr4)

/-- The widest read of a device that MAXW lets be used: 0 1-1-1, 1 1-1-4, 2 1-4-4. -/
def sfdpMode (d : Sfdp) (maxw : Nat) : Nat :=
  if 5 < d.quad ∨ maxw = 0 then 0
  else if d.read144 ∧ 2 ≤ maxw then 2
  else if d.read114 then 1 else 0

/-- Discovery of device `k`. -/
def discover (k : Nat) (d : Sfdp) (s : State) : State :=
  let ok := sfdpPresent d
  let s := (s.wrB (Reg.FGD_DEV.PRESENT k) ok).wrB (Reg.FGD_DEV.ADDR4 k) (ok && 0x1000000 < d.size)
  let s := s.wr (Reg.FGD_DEV.RMODE k) (if ok then sfdpMode d (s.rd Reg.FGD_SPICFG.MAXW) else 0)
  let s := s.wr (Reg.FGD_DEV.SIZELOG k) (if ok then Nat.log2 d.size else 0)
  s.wr (Reg.FGD_DEV.ERASEOP k) (if ok then (d.eraseOp.getD 0).toNat else 0)

/-- Discovery of both devices and TOP (R324, R325). -/
def discoverAll (s : State) : State :=
  let d0 := s.board.flash0
  let d1 := s.board.flash1
  let s := discover 1 d1 (discover 0 d0 s)
  s.wr Reg.FGD_TOP.TOP
    (if sfdpPresent d0 then min (d0.size + if sfdpPresent d1 then d1.size else 0) 0x8000000 else 0)

/-! ### Manifests (R335 to R337) -/

/-- MANOFFi in use. -/
def manOff (s : State) (i : Nat) : Nat :=
  let v := s.rd (if i = 0 then Reg.FGD_MANOFF.MANOFF0 else Reg.FGD_MANOFF.MANOFF1)
  if v = 0 then i + 1 else v

/-- The physical address of manifest sector `i`. -/
def manAddr (s : State) (i : Nat) : Nat := flashTop s - 4096 * manOff s i

/-- Little-endian value of `n` bytes at an offset of a byte string. -/
def natAt (b : List Byte) (off n : Nat) : Nat := leNat ((b.drop off).take n)

/-- Entry `i` of a manifest's bytes. -/
def manEntry (b : List Byte) (i : Nat) : FlashRegion :=
  let e := b.drop (0x100 + 64 * i)
  { region := natAt e 0 2, required := (natAt e 2 1).testBit 0, copy := natAt e 3 1, hbase := natAt e 4 4
    len := natAt e 8 4, pbase := natAt e 12 4, digest := (e.drop 0x10).take 48 }

/-- The manifest in a sector's bytes. -/
def readManifest (b : List Byte) : Manifest where
  mseq := natAt b 8 4
  hsvn := natAt b 0xC 1
  arbNow := (natAt b 7 1).testBit 0
  regions := (List.range (natAt b 6 1)).map (manEntry b)

/-- Every byte is zero. -/
def allZero (b : List Byte) : Bool := b.all (· == 0)

/-- Ranges, as start and length, are disjoint in pairs. -/
def disjoint : List (Nat × Nat) → Bool
  | [] => true
  | (a, n) :: rest => rest.all (fun p => a + n ≤ p.1 || p.1 + p.2 ≤ a) && disjoint rest

/-- MAGIC, HVER, NREG and the zero fields. -/
def manFormed (b : List Byte) : Bool :=
  let n := natAt b 6 1
  natAt b 0 4 == 0x4D53544B && natAt b 4 2 == 1 && 1 ≤ n && n ≤ 16 && natAt b 7 1 < 2
    && allZero ((b.drop 0xD).take 3) && allZero ((b.drop 0xD0).take 48)
    && (List.range n).all fun i => natAt b (0x100 + 64 * i + 2) 1 < 2 && natAt b (0x100 + 64 * i + 3) 1 < 2

/-- The entries' ranges and identifiers. -/
def entriesGood (s : State) (rs : List FlashRegion) : Bool :=
  let sector (x : Nat) : Bool := x % 4096 == 0
  rs.all (fun r => sector r.hbase && sector r.len && sector r.pbase && 4096 ≤ r.len
      && r.hbase + r.len ≤ flashTop s && r.pbase + r.len ≤ flashTop s)
    && disjoint (rs.map fun r => (r.region, 1)) && disjoint (rs.map fun r => (r.hbase, r.len))
    && disjoint (rs.map fun r => (r.pbase, r.len))
    && rs.all fun r => [0, 1].all fun i => disjoint [(r.pbase, r.len), (manAddr s i, 4096)]

/-- The anchor of an image or a manifest (R315 step 4): the OEM slot of the key, 0xFF for any key where none is
asked; none when it fails. -/
def anchorOf (s : State) (pub : List Byte) : Option Nat :=
  if lcs s = lcTest ∨ (lcs s = lcManufacture ∧ slotMap (slotProg s) = 0) then some 0xFF
  else (List.range 4).find? fun k => slotLive s k && slotHash s k == Crypto.sha Crypto.sha384 pub

/-- FAILCAUSE codes. -/
def fcNoDev : Nat := 1
def fcNoMan : Nat := 2
def fcBadMan : Nat := 3
def fcNoAnchor : Nat := 4
def fcBadSig : Nat := 5
def fcArb : Nat := 6
def fcDigest : Nat := 7
def fcDevErr : Nat := 8
def fcWritten : Nat := 9

/-- The first check of R336 that manifest `i` fails; 0 when it is valid. -/
def manCause (s : State) (i : Nat) : Nat :=
  let b := flashBytes s (manAddr s i) 4096
  let m := readManifest b
  let pub := (b.drop 0x10).take 96
  let signed := b.take 0x70 ++ (b.drop 0xD0).take (0x30 + 64 * m.regions.length)
  if !manFormed b || !entriesGood s m.regions then fcBadMan
  else if (anchorOf s pub).isNone then fcNoAnchor
  else if !(Crypto.p384.pubKey pub != none && Crypto.p384.verify (Crypto.p384.pubKey pub)
      (Crypto.sha Crypto.sha384 signed) ((b.drop 0x70).take 96)) then fcBadSig
  else if m.hsvn < s.rd Reg.SEC_FUSESTAT.HOSTARB then fcArb
  else 0

/-- Manifest `i` as its sector holds it. -/
def manAt (s : State) (i : Nat) : Manifest := readManifest (flashBytes s (manAddr s i) 4096)

/-! ### Streaming (R338, R342) -/

/-- The same bytes are named. -/
def sameCopy (a b : FlashRegion) : Bool := a.pbase == b.pbase && a.len == b.len && a.digest == b.digest

/-- Stream a region. -/
def stream (s : State) (r : FlashRegion) : FlashRegion :=
  let d := Crypto.sha Crypto.sha384 (flashBytes s r.pbase r.len)
  { r with computed := d, state := if d = r.digest then 1 else 2 }

/-- Stream regions in entry order; one that equals a region already passed is taken as passed.  A REQUIRED region that
fails ends the candidate's pass at once (R338 step 4); `whole` says that the pass is the spare's. -/
def streamAll (s : State) (whole : Bool) (passed : List FlashRegion) : List FlashRegion → List FlashRegion
  | [] => []
  | r :: rs =>
    let x :=
      match passed.find? (sameCopy r) with
      | some p => { r with state := 1, computed := p.computed }
      | none => stream s r
    if !whole && r.required && x.state = 2 then x :: rs else x :: streamAll s whole passed rs

/-- Every REQUIRED region passed. -/
def passes (rs : List FlashRegion) : Bool := rs.all fun r => !r.required || r.state == 1

/-- The other manifest's copy of the range of a failed region without REQUIRED, streamed (R338 step 5). -/
def spareCopy (s : State) (other : List FlashRegion) (r : FlashRegion) : Option FlashRegion :=
  if r.required || r.state ≠ 2 then none
  else (other.find? fun o => o.region == r.region && o.hbase == r.hbase && o.len == r.len).map (stream s)

/-- A region without REQUIRED that failed takes the other manifest's copy of the same range, if that passes. -/
def takeSpare (s : State) (other : List FlashRegion) (r : FlashRegion) : FlashRegion :=
  match spareCopy s other r with
  | some o => if o.state = 1 then { o with required := r.required } else r
  | none => r

/-- The states of a manifest's copies that are those of another's. -/
def shareStates (known : List FlashRegion) (rs : List FlashRegion) : List FlashRegion :=
  rs.map fun r =>
    match known.find? (sameCopy r) with
    | some k => { r with state := k.state, computed := k.computed }
    | none => r

/-- The records of failed regions (R338), those of step 5 among them. -/
def logFailed (rs : List FlashRegion) (s : State) : State :=
  rs.foldl (fun s r =>
    if r.state = 2 then s.hwLog 0x0E 4 2 [r.region % 256, r.region / 256, r.copy] else s) s

/-! ### Registers -/

/-- Region `r` of the table, in its registers. -/
def regionView (s : State) (p : Nat × FlashRegion) : State :=
  let (i, r) := p
  let spare := (s.fgd.spare.regions.find? fun o => o.region == r.region).elim 0 (·.state)
  let s := ((s.wr (Reg.FGD_REGSTAT.STATE i) r.state).wr (Reg.FGD_REGSTAT.RSTATE i) spare).wr (Reg.FGD_REGSTAT.COPY i) r.copy
  let s := ((s.wrB (Reg.FGD_REGSTAT.REQ i) r.required).set (Reg.FGD_REGSTAT.VALID i)).wr (Reg.FGD_REGSTAT.REGION i) r.region
  let s := ((s.wr (Reg.FGD_REGHB.HBASE i) r.hbase).wr (Reg.FGD_REGLEN.LEN i) r.len).wr (Reg.FGD_REGPB.PBASE i) r.pbase
  putBytes (Reg.FGD_DIG.DIGEST i) 12 r.computed s

/-- An entry of the table not in use. -/
def regionClear (s : State) (i : Nat) : State :=
  let s := ((s.wr (Reg.FGD_REGSTAT.STATE i) 0).wr (Reg.FGD_REGSTAT.RSTATE i) 0).wr (Reg.FGD_REGSTAT.COPY i) 0
  let s := ((s.clr (Reg.FGD_REGSTAT.REQ i)).clr (Reg.FGD_REGSTAT.VALID i)).wr (Reg.FGD_REGSTAT.REGION i) 0
  let s := ((s.wr (Reg.FGD_REGHB.HBASE i) 0).wr (Reg.FGD_REGLEN.LEN i) 0).wr (Reg.FGD_REGPB.PBASE i) 0
  putBytes (Reg.FGD_DIG.DIGEST i) 12 [] s

/-- The region table's registers. -/
def fgdView (s : State) : State :=
  let rs := s.fgd.act.regions
  ((List.range 16).zip rs).foldl regionView ((List.range 16).foldl regionClear s)

/-- HOST_RSMRST_N (R339), and the wires that tell the host (R74): at once where their channel is enabled already.
DESIGN CHOICE (log 123). -/
def rsmUpdate (s : State) : State :=
  let v := s.rd Reg.FGD_STAT.VERDICT
  let out := (v == 1 || v == 2) && s.on Reg.FGD_CTRL.RSMEN
  let s := s.wrB Reg.FGD_STAT.RSM out
  if out && wireOn s && !s.link.bootLoad then
    offer 0x05 { s with link := { s.link with bootLoad := true } }
  else s

/-- A failure leaves its cause. -/
def fgdCause (c : Nat) (s : State) : State := s.wr Reg.FGD_STAT.FAILCAUSE c

/-! ### Verification (R338) -/

/-- FGD_CTRL.START. -/
def fgdStart (s : State) : State :=
  if s.on Reg.FGD_STAT.RSM || !s.on Reg.FGD_CTRL.EN then s.set Reg.FGD_EVT.REFUSED
  else
    let s := (s.wr Reg.FGD_STAT.PHASE 1).wr Reg.FGD_STAT.VERDICT 0
    discoverAll { s.wr Reg.FGD_STAT.PROMO 0 with fgd := { s.fgd with sigWait := s.sec.cmd.isSome } }

/-- The verdict stands: phase, event, record, table and release. -/
def fgdVerdict (v : Nat) (s : State) : State :=
  let s := ((s.wr Reg.FGD_STAT.PHASE 5).wr Reg.FGD_STAT.VERDICT v).set Reg.FGD_EVT.DONE
  let s := if v = 2 then s.set Reg.FGD_EVT.RECOVERED else if v = 3 then s.set Reg.FGD_EVT.FAIL else s
  let s := if v = 1 then s else s.hwLog 0x0E 4 1 [v, s.rd Reg.FGD_STAT.FAILCAUSE]
  rsmUpdate (fgdView s)

/-- The verdict FAIL: the region table stays empty, and no manifest is active or spare. -/
def fgdFails (s : State) : State :=
  let s := ((s.clr Reg.FGD_STAT.SPAREVALID).wr Reg.FGD_ACTSEQ.MSEQ 0).wr Reg.FGD_SPARESEQ.MSEQ 0
  fgdVerdict 3 { s.wr Reg.FGD_STAT.ACTMAN 0 with fgd := { s.fgd with act := {}, spare := {} } }

/-- Manifest `i` becomes active with its regions, the other spare. -/
def fgdActive (i : Nat) (act spare : Manifest) (spareOk : Bool) (s : State) : State :=
  let s := (s.wr Reg.FGD_STAT.ACTMAN i).wrB Reg.FGD_STAT.SPAREVALID spareOk
  let s := (s.wr Reg.FGD_ACTSEQ.MSEQ act.mseq).wr Reg.FGD_SPARESEQ.MSEQ (if spareOk then spare.mseq else 0)
  let spare := { spare with regions := shareStates act.regions spare.regions }
  { s with fgd := { s.fgd with act := act, spare := if spareOk then spare else {} } }

/-- The candidate `i` is streamed, then the spare if it is valid. -/
def fgdTry (i : Nat) (spareOk : Bool) (s : State) : State :=
  let cand := manAt s i
  let spare := if spareOk then manAt s (1 - i) else {}
  let rs := streamAll s false [] cand.regions
  let s1 := logFailed rs s
  let s1 := if rs.any (·.state == 2) then fgdCause fcDigest s1 else s1
  if passes rs then
    fgdVerdict 1 (fgdActive i { cand with regions := rs.map (takeSpare s spare.regions) } spare spareOk
      (logFailed (rs.filterMap (spareCopy s spare.regions)) s1))
  else if !spareOk then fgdFails s1
  else
    let qs := streamAll s true (rs.filter (·.state == 1)) spare.regions
    let s2 := logFailed qs s1
    if passes qs then
      let tried := { cand with regions := rs }
      fgdVerdict 2 (fgdActive (1 - i) { spare with regions := qs.map (takeSpare s cand.regions) } tried true
        (logFailed (qs.filterMap (spareCopy s cand.regions)) s2))
    else fgdFails s2

/-- Manifest `i` comes to the check of its signature (R336). -/
def sigNeeded (s : State) (i : Nat) : Bool :=
  let b := flashBytes s (manAddr s i) 4096
  manFormed b && entriesGood s (readManifest b).regions && (anchorOf s ((b.drop 0x10).take 96)).isSome

/-- FGD waits for the verify unit, which a firmware command has had since before (R337). -/
def unitAwaited (s : State) : Bool := s.fgd.sigWait && s.sec.cmd.isSome

/-- A START ends; while FGD waits for the verify unit it does not. DEDUCED (log 68). DESIGN CHOICE (log 99). -/
def fgdVerify (s : State) : State :=
  if s.rd Reg.FGD_STAT.PHASE = 0 ∨ s.rd Reg.FGD_STAT.PHASE = 5 then s
  else if s.on (Reg.FGD_DEV.PRESENT 0) && unitAwaited s && (sigNeeded s 0 || (manOff s 0 != manOff s 1 && sigNeeded s 1)) then s
  else if !s.on (Reg.FGD_DEV.PRESENT 0) then fgdFails (fgdCause fcNoDev s)
  else
    let two := manOff s 0 ≠ manOff s 1
    let c0 := manCause s 0
    let c1 := if two then manCause s 1 else fcNoMan
    let s := if c0 = 0 then s else fgdCause c0 s
    let s := if two ∧ c1 ≠ 0 then fgdCause c1 s else s
    if c0 ≠ 0 ∧ c1 ≠ 0 then fgdFails s
    else if c1 ≠ 0 then fgdTry 0 false s
    else if c0 ≠ 0 then fgdTry 1 false s
    else if (manAt s 0).mseq < (manAt s 1).mseq then fgdTry 1 true s
    else fgdTry 0 true s

/-! ### Host view and policy (R327 to R329) -/

/-- The region whose host range holds an address. -/
def flashRegion (s : State) (a : Nat) : Option FlashRegion :=
  s.fgd.act.regions.find? fun r => r.hbase ≤ a && a < r.hbase + r.len

/-- The remap as it stands: HBASE, LEN and PBASE of each region of the table (R327). -/
def remapNow (s : State) : List (Nat × Nat × Nat) := s.fgd.act.regions.map fun r => (r.hbase, r.len, r.pbase)

/-- The physical address behind a host address (R327). -/
def hostToFlash (m : List (Nat × Nat × Nat)) (a : Nat) : Nat :=
  match m.find? fun r => r.1 ≤ a && a < r.1 + r.2.1 with
  | some r => r.2.2 + (a - r.1)
  | none => a

/-- The policy map's value for a host address. -/
def policyMap (s : State) (a : Nat) : Nat :=
  let sec := a / 4096
  bitsOf (s.rd (Reg.FGD_POL.POL (sec / 16))) (2 * (sec % 16)) 2

/-- The effective policy of a host address below TOP (R329). -/
def policyOf (s : State) (a : Nat) : Nat :=
  let bad := (flashRegion s a).any fun r => r.state == 2 || r.state == 0
  let active := s.fgd.act.regions.any fun r => r.pbase ≤ a && a < r.pbase + r.len
  let man := !s.fgd.act.regions.isEmpty && a / 4096 == manAddr s (s.rd Reg.FGD_STAT.ACTMAN) / 4096
  if bad then 0 else if policyMap s a = 3 ∧ (active ∨ man) then 1 else policyMap s a

/-- The addresses that a request touches: the whole sector for an erase. -/
def reqAddrs (r : FlashReq) : List Nat :=
  if r.op = 3 then (List.range 4096).map (r.addr / 4096 * 4096 + ·) else (List.range r.len).map (r.addr + ·)

/-- How a request is refused: 0 not, 1 DENIED, 2 RANGE. -/
def reqRefused (s : State) (r : FlashReq) : Nat :=
  let as := reqAddrs r
  if as.any (flashTop s ≤ ·) then 2
  else if r.policy && as.any (fun a => policyOf s a < if r.op = 1 then 1 else 2) then 1
  else 0

/-- The physical addresses of a request whose device operation has begun (R332). -/
def reqFlash (r : FlashReq) : List Nat := (reqAddrs r).map fun a => if r.policy then hostToFlash r.remap a else a

/-! ### Serving (R330 to R334) -/

/-- A request is answered: to the host's channel, or through FGD_FREQ. -/
def reqAnswer (r : FlashReq) (code : Nat) (data : List Byte) (s : State) : State :=
  if r.host then
    if r.orphan then s
    else { s with link := { s.link with flashDone := some ⟨r.tag, code == 0, data⟩ } }
  else
    let s := (s.clr Reg.FGD_FREQ.BUSY).wr Reg.FGD_FREQ.RESULT code
    if r.op = 1 ∧ code = 0 then s.setBytes (4 * s.rd Reg.FGD_FBUF.BUF) data else s

/-- A request is refused by range or policy. -/
def reqDenied (r : FlashReq) (code : Nat) (s : State) : State :=
  reqAnswer r code [] ((s.count Reg.FGD_CNT.DENIED).set Reg.FGD_EVT.DENIED)

/-- Take requests from the queue until one's device operation runs; refused ones are answered on the way. -/
def serveQueue : Nat → State → State
  | 0, s => s
  | n + 1, s =>
    match s.fgd.active, s.fgd.queue with
    | none, r :: rest =>
      if !s.on Reg.FGD_CTRL.EN && reqRefused s r = 0 then s
      else
        let t := { s with fgd := { s.fgd with queue := rest } }
        let c := reqRefused s r
        if c ≠ 0 then serveQueue n (reqDenied r c t)
        else { t.set Reg.FGD_STAT.BUSY with fgd := { t.fgd with active := some { r with remap := if r.policy then remapNow s else [] } } }
    | _, _ => s

/-- A request arrives. -/
def reqArrive (r : FlashReq) (s : State) : State :=
  let s := { s with fgd := { s.fgd with queue := s.fgd.queue ++ [r] } }
  serveQueue s.fgd.queue.length s

/-- The copies that hold a sector become DIRTY. -/
def dirtyIn (sec : Nat) (m : Manifest) : Manifest :=
  { m with regions := m.regions.map fun r =>
      if r.pbase / 4096 ≤ sec ∧ sec < (r.pbase + r.len) / 4096 then { r with state := 3 } else r }

/-- A physical sector has been programmed or erased (R330, R344). -/
def touched (s : State) (sec : Nat) : State :=
  let spareMan := 1 - s.rd Reg.FGD_STAT.ACTMAN
  let s := { s with fgd := { s.fgd with act := dirtyIn sec s.fgd.act, spare := dirtyIn sec s.fgd.spare } }
  let onMan := sec == manAddr s spareMan / 4096
  let s := if onMan then s.clr Reg.FGD_STAT.SPAREVALID else s
  let onPromo := onMan || s.fgd.promo.regions.any fun r => r.pbase / 4096 ≤ sec && sec < (r.pbase + r.len) / 4096
  let p := s.rd Reg.FGD_STAT.PROMO
  if (p = 1 ∨ p = 2) ∧ onPromo then
    (fgdCause fcWritten (s.wr Reg.FGD_STAT.PROMO 3)).set Reg.FGD_EVT.PROMOFAIL
  else s

/-- The sectors of addresses, each once. -/
def sectorsOf (as : List Nat) : List Nat := (as.map (· / 4096)).eraseDups

/-- A device operation changes flash: a program clears bits, an erase sets a sector's bytes. PRESUMED (log 67). -/
def reqEffect (r : FlashReq) (s : State) : State :=
  let as := reqFlash r
  if r.op = 1 then s
  else
    let put (s : State) (p : Nat × Byte) : State := setFlash p.1 [p.2 &&& Sparse.get 0xFF p.1 s.fgd.flash] s
    let s := if r.op = 2 then (as.zip r.data).foldl put s
      else setFlash (as.headD 0) (List.replicate 4096 0xFF) s
    fgdView ((sectorsOf as).foldl touched s)

/-! ### Promotion (R342 to R344) -/

/-- FGD_PROMO.GO. -/
def promoGo (s : State) : State :=
  let v := s.rd Reg.FGD_STAT.VERDICT
  if s.rd Reg.FGD_STAT.PROMO = 1 ∨ (v ≠ 1 ∧ v ≠ 2) then s.set Reg.FGD_EVT.REFUSED
  else
    { s.wr Reg.FGD_STAT.PROMO 1 with
      fgd := { s.fgd with
        promo := manAt s (1 - s.rd Reg.FGD_STAT.ACTMAN), applyDue := false, sigWait := s.sec.cmd.isSome } }

/-- A promotion fails. -/
def promoFails (cause : Nat) (s : State) : State :=
  (fgdCause cause (s.wr Reg.FGD_STAT.PROMO 3)).set Reg.FGD_EVT.PROMOFAIL

/-- A promotion check ends (R342). -/
def promoVerify (s : State) : State :=
  let i := 1 - s.rd Reg.FGD_STAT.ACTMAN
  if s.rd Reg.FGD_STAT.PROMO ≠ 1 then s
  else if unitAwaited s && sigNeeded s i then s
  else
    let c := if manOff s 0 = manOff s 1 then fcBadMan else manCause s i
    let m := manAt s i
    if c ≠ 0 then promoFails c s
    else if m.mseq ≤ s.rd Reg.FGD_ACTSEQ.MSEQ then promoFails fcBadMan s
    else
      let rs := streamAll s true (s.fgd.act.regions.filter (·.state == 1)) m.regions
      let s := logFailed rs s
      let m := { m with regions := rs }
      let s := (s.set Reg.FGD_STAT.SPAREVALID).wr Reg.FGD_SPARESEQ.MSEQ m.mseq
      let s := fgdView { s with fgd := { s.fgd with promo := m, spare := m } }
      if passes rs then (s.wr Reg.FGD_STAT.PROMO 2).set Reg.FGD_EVT.PROMODONE
      else promoFails fcDigest s

/-- The pending promotion is applied (R343). -/
def promoTake (s : State) : State :=
  let i := 1 - s.rd Reg.FGD_STAT.ACTMAN
  let act := s.fgd.act
  let new := { s.fgd.promo with regions := s.fgd.promo.regions.map (takeSpare s act.regions) }
  let s := fgdActive i new act true (s.wr Reg.FGD_STAT.PROMO 0)
  let s := { s with fgd := { s.fgd with promo := {}, applyDue := false } }
  (fgdView (s.set Reg.FGD_EVT.PROMOTED)).hwLog 0x0E 2 4 (bytes4 new.mseq)

/-- PLTRST is asserted: a PENDING promotion is applied between two requests. -/
def promoApply (s : State) : State :=
  if s.rd Reg.FGD_STAT.PROMO ≠ 2 then s
  else if s.fgd.active.isSome then { s with fgd := { s.fgd with applyDue := true } }
  else promoTake s

/-- The device operation is over: the next request, or a promotion that waited, follows. -/
def reqOver (s : State) : State :=
  let s := { s.clr Reg.FGD_STAT.BUSY with fgd := { s.fgd with active := none } }
  let s := if s.fgd.applyDue then promoApply s else s
  serveQueue s.fgd.queue.length s

/-- A flash device operation completes (R332). -/
def flashDone (s : State) : State :=
  match s.fgd.active with
  | none => s
  | some r =>
    let data := if r.op = 1 then (reqFlash r).map fun a => Sparse.get 0xFF a s.fgd.flash else []
    reqOver (reqAnswer r 0 data (reqEffect r s))

/-- A flash device operation times out (R332): what it leaves of the bytes it touched is a free value.
DESIGN CHOICE (log 66). -/
def flashTimeout (s : State) : State :=
  match s.fgd.active with
  | none => s
  | some r =>
    let as := reqFlash r
    let bs := (drawBytes as.length s).1
    let s1 := (as.zip bs).foldl (fun s p => setFlash p.1 [p.2] s) (drawBytes as.length s).2
    let s := if r.op = 1 then s else fgdView ((sectorsOf as).foldl touched s1)
    let s := fgdCause fcDevErr ((s.count Reg.FGD_CNT.DEVERR).set Reg.FGD_EVT.DEVERR)
    reqOver (reqAnswer r 4 [] (s.hwLog 0x0E 4 3 (bytes4 (as.headD 0))))

/-- A request of the host's: through the link, or relayed through FGD_FREQ with SRC=1 for bulk target 6 (R333). -/
def ofHost (s : State) (r : FlashReq) : Bool := r.host || (s.kpf.relay.isSome && r.policy)

/-- A host reset or loss of HOST power (R334): requests of the host's that have not started are discarded, also the one
that KPF was to relay, and the completions of those that have.  KPF forgets the unit that it was serving.
DEDUCED (log 93). -/
def flashHostReset (s : State) : State :=
  let t := if s.fgd.queue.any fun r => !r.host && ofHost s r then s.clr Reg.FGD_FREQ.BUSY else s
  { t with
    fgd := { s.fgd with
      queue := s.fgd.queue.filter (!ofHost s ·), active := s.fgd.active.map fun r => { r with orphan := r.host } }
    link := { s.link with flashDone := none, flashBusy := false }
    kpf := { s.kpf with unit := [], logPos := none, relay := none } }

/-- FGD_FREQ: a request of firmware. -/
def freqWrite (v : Nat) (s : State) : State :=
  let op := v % 4
  let len := s.rd Reg.FGD_FLEN.LEN
  let buf := 4 * s.rd Reg.FGD_FBUF.BUF
  if !v.testBit 3 || op = 0 || s.on Reg.FGD_FREQ.BUSY then s
  else if 1 ≤ s.rd Reg.FGD_STAT.PHASE ∧ s.rd Reg.FGD_STAT.PHASE ≤ 4 then s.wr Reg.FGD_FREQ.RESULT 5
  else if op ≠ 3 ∧ (len = 0 ∨ 4096 < len ∨ !inSram buf len) then s.wr Reg.FGD_FREQ.RESULT 3
  else
    reqArrive { host := false, op := op, policy := v.testBit 2, addr := s.rd Reg.FGD_FADDR.ADDR, len := len
                data := if op = 2 then s.bytes buf len else [], tag := 0 } (s.set Reg.FGD_FREQ.BUSY)

/-- A write of FGD_CTRL. -/
def fgdCtrlWrite (v : Nat) (s : State) : State :=
  let s := rsmUpdate (s.regWrite 0x400F0000 v)
  let s := serveQueue s.fgd.queue.length s
  if v.testBit 1 then fgdStart s else s

/-- A core write of the FGD block. -/
def fgdWrite (a v : Nat) (s : State) : State :=
  if a = 0x400F0000 then fgdCtrlWrite v s
  else if a = 0x400F0034 then
    let s := if v.testBit 1 then
        { s.wr Reg.FGD_STAT.PROMO 0 with fgd := { s.fgd with promo := {}, applyDue := false } } else s
    if v.testBit 0 then promoGo s else s
  else if a = 0x400F0040 then freqWrite v s
  else s.regWrite a v

/-- The FGD block after a domain reset: only the devices' contents stay; an operation already issued to a device
runs on there. -/
def fgdDomainReset (s : State) : State :=
  let s := match s.fgd.active with
    | some r => reqEffect r s
    | none => s
  { s with fgd := { flash := s.fgd.flash } }

/-- HOST_RSMRST_N is deasserted. -/
def rsmReleased (s : State) : Bool := s.on Reg.FGD_STAT.RSM

end Sys2Proof.Machine
end

