-- ==== Sys2Proof/Machine/Chain.lean ====
section
/-! DEFINITION. The Rime chain engine, frame cycles, syncs and the bulk mover (R114 to R123, R221 to R224, R240
to R250). -/

namespace Sys2Proof.Machine

/-! ### Packets (R241 to R244) -/

/-- One bit of the CRC-16. -/
def crc16Step (c : Nat) : Nat := if c.testBit 15 then (2 * c % 65536) ^^^ 0x1021 else 2 * c % 65536

/-- The CRC-16 of R241. -/
def crc16 (bs : List Byte) : Nat :=
  bs.foldl (fun c b => (List.range 8).foldl (fun c _ => crc16Step c) (c ^^^ (b.toNat * 256))) 0xFFFF

/-- A packet: header, payload and CRC.  Every packet has VER=CV, which is 0 before the first inclusion (R247). -/
def packet (s : State) (type : Nat) (blank : Bool) (hops pos : Nat) (payload : List Byte) : List Byte :=
  let ver := s.rd Reg.CHN_STAT.CV
  let b := (leBytes 4 (type + 16 * blank.toNat + 256 * hops + 2 ^ 16 * pos + 2 ^ 24 * ver)) ++ payload
  b ++ leBytes 2 (crc16 b)

/-! ### Code groups (R241)

The code groups of 8b/10b are not in the spec: the tables are those of the code that goes by the name, a bit to the left
sent earlier.  PRESUMED (log 119). -/

/-- A code group, its first bit sent the most significant. -/
abbrev CodeGroup : Type := BitVec 10

/-- What the chain sends: bytes and the control symbols. -/
inductive ChainSymbol where
  | data (b : Byte)
  | idle
  | start
  | stop
  deriving DecidableEq, Repr

/-- The 5b/6b and 3b/4b codes at negative running disparity. PRESUMED (log 119). -/
def sixCodes : List Nat :=
  [0b100111, 0b011101, 0b101101, 0b110001, 0b110101, 0b101001, 0b011001, 0b111000,
    0b111001, 0b100101, 0b010101, 0b110100, 0b001101, 0b101100, 0b011100, 0b010111]
  ++ [0b011011, 0b100011, 0b010011, 0b110010, 0b001011, 0b101010, 0b011010, 0b111010,
    0b110011, 0b100110, 0b010110, 0b110110, 0b001110, 0b101110, 0b011110, 0b101011]
def fourCodes : List Nat := [0b1011, 0b1001, 0b0101, 0b1100, 0b1101, 0b1010, 0b0110, 0b1110]

/-- The ones among the low `w` bits of `v`. -/
def onesIn (w v : Nat) : Nat := ((List.range w).filter v.testBit).length

/-- A code of `w` bits is as heavy in zeros as in ones, and so leaves the running disparity. -/
def balanced (w v : Nat) : Bool := 2 * onesIn w v == w

/-- A code at running disparity `plus`, and the disparity after it: an unbalanced code, or one that `turn` names, is
complemented at positive disparity. -/
def halfGroup (w v : Nat) (turn plus : Bool) : Nat × Bool :=
  (if plus && (!balanced w v || turn) then 2 ^ w - 1 - v else v, plus != !balanced w v)

/-- The data code group of a byte, and the running disparity after it. PRESUMED (log 119). -/
def dataGroup (plus : Bool) (b : Byte) : CodeGroup × Bool :=
  let x := b.toNat % 32
  let y := b.toNat / 32
  let (six, mid) := halfGroup 6 (sixCodes.getD x 0) (x == 7) plus
  let alt := y == 7 && (if mid then [11, 13, 14].contains x else [17, 18, 20].contains x)
  let (four, out) := halfGroup 4 (if alt then 0b0111 else fourCodes.getD y 0) (y == 3) mid
  (BitVec.ofNat 10 (six * 16 + four), out)

/-- K28.5, K27.7 or K29.7 from its code group at negative disparity. PRESUMED (log 119). -/
def controlGroup (v : Nat) (plus : Bool) : CodeGroup × Bool :=
  (BitVec.ofNat 10 (if plus then 1023 - v else v), plus != !balanced 10 v)

/-- The code group of a symbol, and the running disparity after it. -/
def symbolGroup (plus : Bool) : ChainSymbol → CodeGroup × Bool
  | .data b => dataGroup plus b
  | .idle => controlGroup 0b0011111010 plus
  | .start => controlGroup 0b1101101000 plus
  | .stop => controlGroup 0b1011101000 plus

/-- The code groups of symbols from a running disparity on. -/
def codeGroups (plus : Bool) : List ChainSymbol → List CodeGroup
  | [] => []
  | x :: xs => (symbolGroup plus x).1 :: codeGroups (symbolGroup plus x).2 xs

/-- The running disparity after symbols. -/
def disparityAfter (plus : Bool) : List ChainSymbol → Bool
  | [] => plus
  | x :: xs => disparityAfter (symbolGroup plus x).2 xs

/-- A packet between its start and its end. -/
def packetSymbols (p : List Byte) : List ChainSymbol := .start :: p.map .data ++ [.stop]

/-- The idle symbols before packet `n` of those sent: at least 16 after the chain is enabled, and 2 between packets; how
many more is a free value (R241). DESIGN CHOICE (log 119). -/
def idleBefore (l : ChainLink) (n : Nat) : Nat := (if n = 0 then l.idle else 2) + Config.idleGroups l.key n

/-- The symbols that the engine has sent since the present frame cycle or enumeration began: every gap is filled with
idle symbols (R241). -/
def chainSymbols (s : State) : List ChainSymbol :=
  (List.range s.chn.sent.length).flatMap fun n =>
    List.replicate (idleBefore s.chn.link n) .idle ++ packetSymbols (s.chn.sent.getD n [])

/-- The code groups on LTXD (R241). -/
def chainGroups (s : State) : List CodeGroup := codeGroups s.chn.link.plus (chainSymbols s)

/-- What was sent is over: the running disparity goes on from it, and the next packet follows at least `idle` idle
symbols. -/
def sentOver (idle : Nat) (s : State) : State :=
  { s.drawn with chn := { s.chn with
      sent := []
      link :=
        { plus := disparityAfter s.chn.link.plus (chainSymbols s), key := s.free
          idle := if s.chn.sent.isEmpty then max idle s.chn.link.idle else idle } } }

/-- Send a packet. DEDUCED (log 54). -/
def send (p : List Byte) (s : State) : State := { s with chn := { s.chn with sent := s.chn.sent ++ [p] } }

/-- NCH and BASE of driver `j`. -/
def drvNch (s : State) (j : Nat) : Nat := max 1 (min 512 (s.rd (Reg.CHN_DCFG.NCH j)))
def drvBase (s : State) (j : Nat) : Nat := s.rd (Reg.CHN_DCFG.BASE j)

/-- NCH in a CONFIG, 1 to NCHMAX (R244). -/
def configNch (s : State) (j : Nat) : Nat := max 1 (min (drvNch s j) (s.rd (Reg.CHN_DINFO.NCHMAX j)))

/-- CONFIG to driver `j`: to an excluded one only with BLANK=1 and epoch 0 (R244, R247).  BLANKTO has no
register: its value is free. DESIGN CHOICE (log 53). -/
def sendConfig (j : Nat) (s : State) : State :=
  let blank := !s.chn.included.contains j
  let params := (List.range 4).flatMap fun k => leBytes 4 (s.rd (Reg.CHN_DPAR.PARAM j k))
  let payload := leBytes 2 (if blank then 0 else s.rd Reg.CHN_STAT.EPOCH) ++ leBytes 2 (configNch s j)
    ++ leBytes 2 s.freeVal ++ leBytes 2 0 ++ params
  send (packet s 1 blank j j payload) s.drawn

/-- STATUS request to position `j`. -/
def sendStatus (j : Nat) (s : State) : State := send (packet s 4 false j j []) s

/-- WRITE packets of driver `j` from channel `off` on; fuel: one packet of 128 channels each (R248). -/
def sendWrites (j : Nat) : Nat → Nat → State → State
  | 0, _, s => s
  | k + 1, off, s =>
    let n := min 128 (drvNch s j - off)
    if n = 0 then s
    else
      let data := (List.range n).flatMap fun c => leBytes 2 (Sparse.get 0 (drvBase s j + off + c) s.lux.codes)
      sendWrites j k (off + n)
        (send (packet s 2 false j j (leBytes 2 (s.rd Reg.LUX_FRAME.FRAME) ++ leBytes 2 off ++ leBytes 2 n ++ data)) s)

/-- BROADCAST_SYNC. -/
def sendSync (s : State) : State :=
  send (packet s 3 false 0xFF 0 (leBytes 2 (s.rd Reg.CHN_STAT.EPOCH) ++ leBytes 4 (s.rd Reg.LUX_FRAME.FRAME)
    ++ leBytes 16 0)) s

/-! ### States (R246, R247) -/

def cnOff : Nat := 0
def cnEnum : Nat := 1
def cnConfig : Nat := 2
def cnRun : Nat := 3

/-- CHN_STAT.STATE. -/
def chnState (s : State) : Nat := s.rd Reg.CHN_STAT.STATE

/-- The epoch advances and skips 0. -/
def epochUp (s : State) : State :=
  let e := (s.rd Reg.CHN_STAT.EPOCH + 1) % 65536
  s.wr Reg.CHN_STAT.EPOCH (if e = 0 then 1 else e)

/-- Enumeration starts, after at least `idle` idle symbols: a STATUS with HOPS=63 and POS=63. -/
def enumStart (idle : Nat) (s : State) : State :=
  let s := sentOver idle (s.wr Reg.CHN_STAT.STATE cnEnum)
  sendStatus 63 { s with chn := { probing := true, foundBefore := s.rd Reg.CHN_STAT.NFOUND, link := s.chn.link } }

/-- The number of drivers is known: a STATUS to each. -/
def enumFound (n : Nat) (s : State) : State :=
  let s := s.wr Reg.CHN_STAT.NFOUND n
  (List.range n).foldl (fun s j => sendStatus j s)
    { s with chn := { s.chn with probing := false, unanswered := List.range n } }

/-- VMIN as it acts. -/
def chnVmin (s : State) : Nat := if s.rd Reg.CHN_CTRL.VMIN = 0 then 1 else min 2 (s.rd Reg.CHN_CTRL.VMIN)

/-- CV: the lowest of 2 and the VHIGH of every present driver with VHIGH ≥ VMIN. -/
def chainVersion (s : State) : Nat :=
  (List.range (s.rd Reg.CHN_STAT.NFOUND)).foldl (fun v j =>
    let h := s.rd (Reg.CHN_DINFO.VHIGH j)
    if chnVmin s ≤ h then min v h else v) 2

/-- Drivers `i` and `j` use a common channel. -/
def overlap (s : State) (i j : Nat) : Bool :=
  decide (drvBase s i < drvBase s j + drvNch s j) && decide (drvBase s j < drvBase s i + drvNch s i)

/-- The first condition of R247 that driver `j` fails; 0 where it fails none. -/
def exclusion (s : State) (cv : Nat) (inc : List Nat) (j : Nat) : Nat :=
  if !s.on (Reg.CHN_DCFG.EN j) then 1
  else if s.rd (Reg.CHN_DINFO.VHIGH j) < chnVmin s ∨ cv < s.rd (Reg.CHN_DINFO.VLOW j) then 2
  else if s.rd (Reg.CHN_DINFO.NCHMAX j) < drvNch s j then 3
  else if drvBase s j < 768 ∨ 32768 < drvBase s j + drvNch s j then 4
  else if inc.any (overlap s j) then 5
  else 0

/-- The inclusion of driver `j`. -/
def includeOne (cv : Nat) (s : State) (j : Nat) : State :=
  let c := exclusion s cv s.chn.included j
  let s := (s.wrB (Reg.CHN_DINFO.EXCL j) (c != 0)).wr (Reg.CHN_DINFO.XCAUSE j) c
  if c = 0 then { s with chn := { s.chn with included := s.chn.included ++ [j] } }
  else (s.setBit (if j < 32 then Reg.CHN_EXCLLO.MAP else Reg.CHN_EXCLHI.MAP) (j % 32)).set Reg.CHN_EVT.EXCLUDED

/-- Every STATUS is answered: inclusion is decided, the epoch advances, and the chain enters RUN. -/
def configState (s : State) : State :=
  let n := s.rd Reg.CHN_STAT.NFOUND
  let s := if n = s.chn.foundBefore then s else s.set Reg.CHN_EVT.COUNTCHG
  let s := (List.range 64).foldl (fun s j =>
    if j < n then s.set (Reg.CHN_DINFO.PRESENT j)
    else ((s.clr (Reg.CHN_DINFO.PRESENT j)).clr (Reg.CHN_DINFO.EXCL j)).wr (Reg.CHN_DINFO.XCAUSE j) 0) s
  let cv := chainVersion s
  let s := ((s.wr Reg.CHN_STAT.CV cv).wr Reg.CHN_EXCLLO.MAP 0).wr Reg.CHN_EXCLHI.MAP 0
  let s := (List.range n).foldl (includeOne cv) { s with chn := { s.chn with included := [] } }
  let s := (epochUp s).wr Reg.CHN_STAT.STATE cnRun
  { s.set Reg.CHN_EVT.ENUMDONE with chn := { s.chn with configDue := List.range n } }

/-- A STATUS response fills the driver's registers (R250). -/
def statusFill (r : ChainStatus) (s : State) : State :=
  let j := r.pos.val
  let s := (s.wr (Reg.CHN_DSTAT.FLAGS j) r.flags.toNat).wr (Reg.CHN_DSTAT.TEMP j) r.temp.toNat
  let s := (s.wr (Reg.CHN_DERR.NOPEN j) r.nopen.toNat).wr (Reg.CHN_DERR.NSHORT j) r.nshort.toNat
  s.wr (Reg.CHN_DFRAME.LASTFRAME j) r.lastframe.toNat

/-- The part of a response that enumeration takes. -/
def infoFill (r : ChainStatus) (s : State) : State :=
  let j := r.pos.val
  let s := (s.wr (Reg.CHN_DINFO.VLOW j) r.vlow.toNat).wr (Reg.CHN_DINFO.VHIGH j) r.vhigh.toNat
  (s.wr (Reg.CHN_DINFO.NCHMAX j) (min 1023 r.nchmax.toNat)).wr (Reg.CHN_DID.DEVID j) r.devid.toNat

/-- STATUS_RESPONSE. -/
def statusResponse (r : ChainStatus) (s : State) : State :=
  let j := r.pos.val
  if chnState s = cnEnum then
    if s.chn.probing then (if j = 63 then enumFound 64 s else s)
    else if s.chn.unanswered.contains j then
      let l := s.chn.unanswered.filter (· != j)
      let s := infoFill r (statusFill r { s with chn := { s.chn with unanswered := l } })
      if l.isEmpty then configState s else s
    else s
  else if s.chn.statusSent.contains j then
    let l := s.chn.statusSent.filter (· != j)
    let s := statusFill r { s with chn := { s.chn with statusSent := l } }
    if l.isEmpty then s.set Reg.CHN_EVT.STATUSDONE else s
  else s

/-! ### Frame cycles (R222, R224) -/

/-- The frame cycle ends once step 5 has come and step 6 has ended: BUSY clears, and a chain that must
enumerate again does so. -/
def cycleEnd (s : State) : State :=
  if s.lux.presented && s.lux.chainDone then
    let s := s.clr Reg.LUX_STAT.BUSY
    if s.chn.toEnum then enumStart 2 s else s
  else s

/-- ENUM follows at the end of the present frame cycle. -/
def toEnum (s : State) : State :=
  let s := { s with chn := { s.chn with toEnum := true } }
  if s.on Reg.LUX_STAT.BUSY then s else cycleEnd { s with lux := { s.lux with presented := true, chainDone := true } }

/-- The swap decision (R222). -/
def swapFrames (s : State) : State :=
  let s := if s.on Reg.LUX_STAT.PENDING then
      ((s.clr Reg.LUX_STAT.PENDING).wr Reg.LUX_STAT.BACK (1 - s.rd Reg.LUX_STAT.BACK)).set Reg.LUX_EVT.SWAP
    else (s.count Reg.LUX_CNT.REPEAT).set Reg.LUX_EVT.REPEAT
  if s.on Reg.LUX_STAT.OCPENDING then
    (s.clr Reg.LUX_STAT.OCPENDING).wr Reg.LUX_STAT.OCBACK (1 - s.rd Reg.LUX_STAT.OCBACK)
  else s

/-- A COMMIT advances the epoch at a sync, and every included driver is due a CONFIG (R246). -/
def commitDue (s : State) : State :=
  if s.chn.commit then
    let s := epochUp s
    { s with chn := { s.chn with
        commit := false
        configDue := s.chn.configDue ++ s.chn.included.filter fun j => !s.chn.configDue.contains j } }
  else s

/-- Steps 2 to 4 on the chain: CONFIG packets due, WRITE packets, BROADCAST_SYNC. -/
def chainFrame (s : State) : State :=
  let s := s.chn.configDue.foldl (fun s j => sendConfig j s) (sentOver 2 s)
  let s := { s with chn := { s.chn with configDue := [] } }
  let s := s.chn.included.foldl (fun s j => sendWrites j 4 0 s) s
  let s := sendSync s
  { s with chn := { s.chn with awaitSync := true } }

/-- The channels of a frame cycle (R224). -/
def cycleChannels (s : State) : Nat := if s.lux.chainDone then 768 else 32768

/-- Steps 2 to 4 of the frame cycle, if they are under way, come to their end: the channels are computed and the chain's
packets sent.  The spec gives them no time but a highest rate: they end with what needs them. DEDUCED (log 55). -/
def cycleRun (s : State) : State :=
  if !s.lux.computing then s
  else
    let s := computeFrame (cycleChannels s) { s with lux := { s.lux with computing := false } }
    if s.lux.chainDone then s else chainFrame s

/-- The fastest that steps 2 to 4 can end: 20 channels a microsecond (R225). -/
def cycleDue (s : State) : Nat := s.lux.lastSync.getD 0 + (cycleChannels s + 19) / 20

/-- The WRITE packets of the included drivers in order, each as the frame channels that it carries: the first and the
one after the last. -/
def writeSpans (s : State) : List (Nat × Nat) :=
  s.chn.included.flatMap fun j =>
    (List.range ((drvNch s j + 127) / 128)).map fun k =>
      (drvBase s j + 128 * k, drvBase s j + min (drvNch s j) (128 * k + 128))

/-- EN is cleared during steps 2 to 4 (R224): channels up to one that is a free value are computed, packets up to one that
is a free value among those whose channels are ready are sent, and no more.  CONFIG packets not sent stay due.
DEDUCED (log 55). -/
def cycleCut (s : State) : State :=
  if !s.lux.computing then s
  else
    let m := s.freeVal % (cycleChannels s + 1)
    let s := computeFrame m { s.drawn with lux := { s.lux with computing := false } }
    if s.lux.chainDone then s
    else
      let due := s.chn.configDue
      let ready := due.length + ((writeSpans s).takeWhile fun p => p.2 ≤ m).length
      let k := s.freeVal % (ready + 1)
      let t := chainFrame s.drawn
      { t with chn := { t.chn with sent := t.chn.sent.take k, configDue := due.drop k, awaitSync := false } }

/-- The requests queued before this sync are due in step 6 of its cycle (R236, R250). -/
def queuesDue (s : State) : State :=
  { s with chn := { s.chn with
      statusDue := if s.chn.statusQueue.isEmpty then s.chn.statusDue else s.chn.statusQueue, statusQueue := []
      diagDue := s.chn.diagQueue.orElse fun _ => s.chn.diagDue, diagQueue := none } }

/-- An accepted sync starts a frame cycle (R224); the packets and the presentation follow from its steps.
DEDUCED (log 54). -/
def frameCycle (s : State) : State :=
  let s := s.wr Reg.LUX_FRAME.FRAME (s.rd Reg.LUX_FRAME.FRAME + 1)
  let run := chnState s == cnRun
  let s := { s with lux := { s.lux with
    lastSync := some s.tbase, slowRaised := false, presented := false, chainDone := !run, computing := true } }
  let s := takeFactor (swapFrames (s.set Reg.LUX_STAT.BUSY))
  if run then commitDue (queuesDue s) else s

/-- LSYNC_OUT is high for 1 µs from an accepted sync (R221). -/
def lsyncOut (s : State) : Bool := s.lux.lastSync.any fun t => s.tbase < t + 1

/-- A sync from the selected source: accepted, or ignored as LATE (R221). -/
def sync (s : State) : State :=
  let soon := match s.lux.lastSync with
    | some t => decide (s.tbase < t + 4166)
    | none => false
  if s.on Reg.LUX_STAT.BUSY || soon then (s.count Reg.LUX_CNT.LATE).set Reg.LUX_EVT.LATE
  else frameCycle s

/-- SRC as it acts. -/
def syncSrc (s : State) : Nat := s.rd Reg.LUX_SYNC.SRC % 3

/-- The timer's period. -/
def syncPeriod (s : State) : Nat := max 4167 (s.rd Reg.LUX_PERIOD.PERIOD)

/-- The engine runs. -/
def luxEn (s : State) : Bool := luxOn s && s.on Reg.LUX_CTRL.EN

/-- TIMER_SYNC: the internal timer's next sync is due, under SRC=0 or on the fallback timer. -/
def timerSync (s : State) : State :=
  if luxEn s && (syncSrc s == 0 || (syncSrc s == 1 && s.on Reg.LUX_STAT.SYNCLOST)) && decide (s.lux.nextSync ≤ s.tbase) then
    sync { s with lux := { s.lux with nextSync := s.lux.nextSync + syncPeriod s } }
  else s

/-- LSYNC_IN_EDGE: a sync under SRC=1; the engine returns from the fallback timer. -/
def edgeSync (s : State) : State :=
  if luxEn s && syncSrc s == 1 then sync ({ s with lux := { s.lux with edgeAt := s.tbase } }.clr Reg.LUX_STAT.SYNCLOST)
  else s

/-- SYNC_FALLBACK: no edge for SYNCTO; the timer's syncs fall on the grid of the last accepted sync. -/
def syncFallback (s : State) : State :=
  if luxEn s && syncSrc s == 1 && !s.on Reg.LUX_STAT.SYNCLOST
      && decide (s.lux.edgeAt + 1000 * max 1 (s.rd Reg.LUX_SYNC.SYNCTO) ≤ s.tbase) then
    let base := max s.lux.enAt (s.lux.lastSync.getD s.lux.enAt)
    let p := syncPeriod s
    ({ s with lux := { s.lux with nextSync := base + (s.tbase - base + p - 1) / p * p } }.set
      Reg.LUX_STAT.SYNCLOST).set Reg.LUX_EVT.SYNCLOSS
  else s

/-- PRESENT: the matrix takes the new values. DEDUCED (log 55). -/
def present (s : State) : State :=
  if s.on Reg.LUX_STAT.BUSY && !s.lux.presented then
    let s := cycleRun s
    let codes := Sparse.clearRange 768 32768 s.lux.codes
    cycleEnd ({ s with lux := { s.lux with shown := codes, presented := true } }.set Reg.LUX_EVT.FRAME)
  else s

/-- Step 6 ends: the STATUS and DIAG requests due are sent. DEDUCED (log 54). -/
def stepSix (s : State) : State :=
  let s := s.chn.statusDue.foldl (fun s j => sendStatus j s) s
  let s := { s with chn := { s.chn with awaitSync := false, statusSent := s.chn.statusDue, statusDue := [] } }
  let s := match s.chn.diagDue with
    | some (j, first, n) =>
      let s := send (packet s 5 false j j (leBytes 2 first ++ leBytes 2 n)) s
      { s with chn := { s.chn with diagSent := some (j, first, n), diagDue := none } }
    | none => s
  cycleEnd { s with lux := { s.lux with chainDone := true } }

/-- CONFIG resends in step 6, each counted. -/
def resend (l : List Nat) (s : State) : State :=
  l.foldl (fun s j => (sendConfig j s).count Reg.CHN_CNT.RESEND) s

/-- RETURNED_SYNC (R249). -/
def returnedSync (mmap dmap : BitVec 64) (ok : Bool) (s : State) : State :=
  let s := cycleRun s
  if !s.chn.awaitSync then s
  else
    let s := { s with chn := { s.chn with breaks := 0 } }
    if ok then
      let s := { s with chn := { s.chn with
        returned := if mmap = 0 then some (s.rd Reg.CHN_STAT.EPOCH) else none } }
      let s := (s.wr Reg.CHN_MMAPLO.MAP mmap.toNat).wr Reg.CHN_MMAPHI.MAP (mmap.toNat / 2 ^ 32)
      let s := (s.wr Reg.CHN_DMAPLO.MAP dmap.toNat).wr Reg.CHN_DMAPHI.MAP (dmap.toNat / 2 ^ 32)
      let s := (List.range 64).foldl (fun s j =>
        let s := if mmap.getLsbD j then s.count (Reg.CHN_DSTAT.MMCNT j) else s
        if dmap.getLsbD j then s.count (Reg.CHN_DSTAT.DECNT j) else s) s
      let s := if mmap = 0 then s else s.set Reg.CHN_EVT.MISMATCH
      let s := if dmap = 0 then s else s.set Reg.CHN_EVT.DATAERR
      stepSix (resend ((List.range (s.rd Reg.CHN_STAT.NFOUND)).filter mmap.getLsbD) s)
    else
      stepSix (resend s.chn.included ((s.count Reg.CHN_CNT.CRCERR).set Reg.CHN_EVT.CRCERR))

/-- BREAK: nothing returned within RETTO (R246, R249, R250). -/
def chainBreak (s : State) : State :=
  let s := cycleRun s
  let b := (s.count Reg.CHN_CNT.BREAK).set Reg.CHN_EVT.BREAK
  if chnState s = cnEnum then
    if s.chn.probing || !s.chn.unanswered.isEmpty then
      { b with chn := { b.chn with probing := false, unanswered := [], retryAt := some (s.tbase + 10000) } }
    else s
  else if chnState s = cnRun && (s.chn.awaitSync || !s.chn.statusSent.isEmpty || s.chn.diagSent.isSome) then
    let was := s.chn.awaitSync
    let n := s.chn.breaks + 1
    let b := { b with chn := { b.chn with breaks := n } }
    let b := if was then stepSix b
      else
        let b := if s.chn.statusSent.isEmpty then b else b.set Reg.CHN_EVT.STATUSDONE
        { b with chn := { b.chn with statusSent := [], diagSent := none } }
    if 3 ≤ n then toEnum b else b
  else s

/-- ENUM_RETRY: 10 ms after an enumeration break. -/
def enumRetry (s : State) : State :=
  match s.chn.retryAt with
  | some t =>
    if chnState s = cnEnum ∧ t ≤ s.tbase then
      let s := sentOver 2 s
      sendStatus 63 { s with chn := { s.chn with probing := true, retryAt := none } }
    else s
  | none => s

/-- DIAG_RESPONSE fills CHN_DIAGBUF (R250). -/
def diagResponse (first n : Nat) (states : List Byte) (s : State) : State :=
  match s.chn.diagSent with
  | some (_, f, c) =>
    if f = first ∧ c = n then
      let s := (List.range 16).foldl (fun s k =>
        s.wr (Reg.CHN_DIAGBUF.STATE k) (leNat ((states.drop (4 * k)).take 4))) s
      { s with chn := { s.chn with diagSent := none } }.set Reg.CHN_EVT.DIAGDONE
    else s
  | none => s

/-- A write of CHN_DIAGREQ (R250). -/
def diagReqWrite (v : Nat) (s : State) : State :=
  if Reg.CHN_DIAGREQ.GO.of v = 0 then s
  else
    let j := Reg.CHN_DIAGREQ.DRV.of v
    if s.rd Reg.CHN_STAT.CV ≤ 1 || !s.chn.included.contains j then s.set Reg.CHN_EVT.CFGERR
    else
      let n := max 1 (min 256 (Reg.CHN_DIAGREQ.COUNT.of v))
      { s with chn := { s.chn with diagQueue := some (j, Reg.CHN_DIAGREQ.FIRST.of v, n) } }

/-- A write of CHN_CTRL (R246).  The broadcast CONFIG of EN=0 has NCH 1, a free BLANKTO and PARAM 0.
DESIGN CHOICE (log 53). -/
def chnCtrlWrite (v : Nat) (s0 : State) : State :=
  let was := s0.on Reg.CHN_CTRL.EN
  let s := s0.regWrite 0x40080000 v
  let now := s.on Reg.CHN_CTRL.EN
  if now && !was then enumStart 16 s
  else if was && !now then
    let payload := leBytes 2 0 ++ leBytes 2 1 ++ leBytes 2 s.freeVal ++ leBytes 18 0
    let s := send (packet s 1 true 0xFF 0 payload) (sentOver 2 s.drawn)
    let s := { s.wr Reg.CHN_STAT.STATE cnOff with chn := { sent := s.chn.sent, link := s.chn.link } }
    if s.on Reg.LUX_STAT.BUSY then cycleEnd { s with lux := { s.lux with chainDone := true } } else s
  else if now then
    let s := if Reg.CHN_CTRL.COMMIT.of v = 1 ∧ chnState s = cnRun then
        { s with chn := { s.chn with commit := true } } else s
    if Reg.CHN_CTRL.REENUM.of v = 1 ∧ chnState s = cnRun then toEnum s else s
  else s

/-- A core write to the CHN block. -/
def chnWrite (a v : Nat) (s : State) : State :=
  if a = 0x40080000 then chnCtrlWrite v s
  else if a = 0x40080030 then diagReqWrite v s
  else s.regWrite a v

/-! ### LUX registers -/

/-- LUX_CTRL.EN is set (R221, R232, R235); the last accepted sync still counts for the 4,166 µs. -/
def luxStart (s : State) : State :=
  let s := (s.wr Reg.LUX_FRAME.FRAME 0).clr Reg.LUX_STAT.VLEDOV
  let s := { s with lux := { s.lux with
    enAt := s.tbase, nextSync := s.tbase + syncPeriod s, edgeAt := s.tbase, stopAt := 0
    scans := 0, testScan := false, slowRaised := false } }
  timingCheck s

/-- LUX_CTRL.EN is cleared: a running frame cycle ends at once, and every output turns off (R224). -/
def luxStop (s : State) : State :=
  let s := cycleCut s
  let s := { (s.clr Reg.LUX_STAT.RUNNING).clr Reg.LUX_STAT.SYNCLOST with
    lux := { s.lux with shown := [], testScan := false, presented := true, chainDone := true, stopAt := 0 }
    chn := { s.chn with awaitSync := false } }
  cycleEnd s

/-- A write of LUX_CTRL: closes count for a sync made in the same write (R222). -/
def luxCtrlWrite (v : Nat) (s0 : State) : State :=
  let was := s0.on Reg.LUX_CTRL.EN
  let s := s0.regWrite 0x40070000 v
  let now := s.on Reg.LUX_CTRL.EN
  let s := if now && !was then luxStart s else if was && !now then luxStop s else s
  let s := if Reg.LUX_CTRL.FWCLOSE.of v = 1 then s.set Reg.LUX_STAT.PENDING else s
  let s := if Reg.LUX_CTRL.OCCLOSE.of v = 1 then s.set Reg.LUX_STAT.OCPENDING else s
  if Reg.LUX_CTRL.SYNCNOW.of v = 1 ∧ now ∧ syncSrc s = 2 then sync s else s

/-- A write of LUX_SYNC: a change of source restarts the timer or the pin's silence. -/
def luxSyncWrite (v : Nat) (s0 : State) : State :=
  let s := s0.regWrite 0x40070010 v
  if syncSrc s = syncSrc s0 then s
  else
    { s.clr Reg.LUX_STAT.SYNCLOST with
      lux := { s.lux with nextSync := s.tbase + syncPeriod s, edgeAt := s.tbase } }

/-- A core write to the LUX block. -/
def luxWrite (a v : Nat) (s : State) : State :=
  match a with
  | 0x40070000 => luxCtrlWrite v s
  | 0x40070010 => luxSyncWrite v s
  | 0x40070030 | 0x40070034 => timingCheck (s.regWrite a v)
  | 0x40070038 =>
    let s := clampTo Reg.LUX_VLEDLIM.VLEDMIN 360 1200 (s.regWrite a v)
    let s := clampTo Reg.LUX_VLEDLIM.VLEDMAX (s.rd Reg.LUX_VLEDLIM.VLEDMIN) 1200 s
    setVset s.lux.vset s
  | 0x40070500 => diagClr v s
  | _ => s.regWrite a v

/-- VLED over-voltage (R235). -/
def vledOver (mv : Nat) (s : State) : State :=
  if luxEn s && decide (10 * s.rd Reg.LUX_VLEDLIM.VLEDMAX + 1000 < mv) then
    let s := { s with lux := { s.lux with stopAt := 0 } }
    ((s.set Reg.LUX_STAT.VLEDOV).set Reg.LUX_EVT.VLEDOV).clr Reg.LUX_STAT.RUNNING
  else s

/-! ### The bulk mover (R118, R119, R223) -/

/-- The mover may place a byte now: LUX is on, and no closed frame waits on the target. -/
def moverWaits (s : State) : Bool :=
  s.on Reg.SYS_DOMCTRL.LUXEN && (!luxOn s || (bulkTarget s == 1 && s.on Reg.LUX_STAT.PENDING)
    || (bulkTarget s == 3 && s.on Reg.LUX_STAT.OCPENDING))

/-- Where the byte at unit address `a` is placed. -/
def moverAddr (s : State) (a : Nat) : Nat :=
  match bulkTarget s with
  | 1 => frameBase (s.rd Reg.LUX_STAT.BACK) + a
  | 2 => calBase + a
  | _ => ocBase (s.rd Reg.LUX_STAT.OCBACK) + a

/-- The closes left in the write FIFO when its bytes are flushed, each of an incomplete unit. -/
def closesOnly (l : List BulkItem) : List BulkItem :=
  l.filterMap fun i => match i with
    | .byte .. => none
    | .close _ => some (.close true)

/-- The mover takes one byte: it is placed, or dropped with RANGE while LUXEN=0; a bad one flushes the
FIFO (R118, R121). -/
def moverByte (s : State) : State :=
  match s.bulk.wfifo with
  | .byte b a bad :: rest =>
    if moverWaits s then s
    else if bad then bulkParity { s with bulk := { s.bulk with wfifo := closesOnly rest } }
    else if s.on Reg.SYS_DOMCTRL.LUXEN then { s with bulk := { s.bulk with wfifo := rest } }.setByte (moverAddr s a) b
    else { s with bulk := { s.bulk with wfifo := rest, placeErr := true } }.set Reg.HW_BULK_STAT.RANGE
  | _ => s

/-- The mover takes up to `n` bytes. DEDUCED (log 36). -/
def moverRun : Nat → State → State
  | 0, s => s
  | n + 1, s => moverRun n (moverByte s)

/-- BULK_MOVER_TRANSFER. DEDUCED (log 36). -/
def bulkMove (n : Nat) (s : State) : State :=
  if moverTarget (bulkTarget s) && s.coreUp then creditHalf (bulkCredit s) (moverRun n s) else s

/-- UNIT_CLOSE_COMPLETE: the close at the front of the FIFO completes (R119, R223). DEDUCED (log 36). -/
def unitClosed (s : State) : State :=
  match s.bulk.wfifo with
  | .close err :: rest =>
    if !moverTarget (bulkTarget s) then s
    else
      let bad := err || s.bulk.placeErr || bulkErr s
      let t := bulkTarget s
      let s := ({ s with bulk := { s.bulk with wfifo := rest, placeErr := false } }.set Reg.HW_BULK_STAT.CLOSED).wrB
        Reg.HW_BULK_STAT.INCOMPLETE bad
      if !luxOn s || t == 2 then s
      else if bad then s.set Reg.LUX_EVT.INCOMPLETE
      else s.set (if t = 1 then Reg.LUX_STAT.PENDING else Reg.LUX_STAT.OCPENDING)
  | _ => s

end Sys2Proof.Machine
end

