-- ==== Sys2Proof/Machine/Floe.lean ====
section
/-! DEFINITION. The Floe ports: adaptive receiver, frames, admission filter, sender and key table (R269 to
R284). -/

namespace Sys2Proof.Machine

/-- Port `p`. -/
def floe (s : State) (p : Nat) : FloePort := if p = 0 then s.floe0 else s.floe1

/-- Set port `p`. -/
def setFloe (p : Nat) (x : FloePort) (s : State) : State :=
  if p = 0 then { s with floe0 := x } else { s with floe1 := x }

/-- Port `p`'s copy of a FLOE_EVT bit of FLOE0. -/
def portEvt (f : Field) (p : Nat) : Field := { f with lo := f.lo + 8 * p }

/-- The bit time of port `p` in ns (R269). -/
def bitTime (s : State) (p : Nat) : Nat := 4000 / 2 ^ s.rd (Reg.FLOE_PCFG.RATE p)

/-- `n` bit times in µs, rounded up. -/
def bitTimes (s : State) (p n : Nat) : Nat := (n * bitTime s p + 999) / 1000

/-- The bus of port `p` is idle (R275). -/
def busIdle (s : State) (p : Nat) : Bool := s.on (Reg.FLOE_PCFG.EN p) && (floe s p).idleAt ≤ s.tbase

/-! ### Adaptive receiver (R271, R272) -/

/-- Hold a number to a range. -/
def hold (lo hi v : Nat) : Nat := max lo (min hi v)

/-- The average of the last eight rise delays. -/
def riseDelay (x : FloePort) : Nat := x.rises.foldl (· + ·) 0 / 8

/-- The threshold in use. DEDUCED (log 58). -/
def slicer (s : State) (p : Nat) : Nat :=
  let x := floe s p
  if s.on (Reg.FLOE_PCFG.ADAPT p) && x.nlow == 16 && x.nhigh == 16 then
    hold 400 2600 ((x.vlow + x.vhigh) / 65536 / 2)
  else hold 400 2600 (s.rd (Reg.FLOE_PCFG.FIXVTH p))

/-- The receiver's registers follow what it has learnt and its configuration. -/
def floeView (p : Nat) (s : State) : State :=
  let x := floe s p
  let dr := riseDelay x
  let s := s.wrB (Reg.FLOE_PSTAT.ADAPTED p) (x.nlow == 16 && x.nhigh == 16)
  let s := s.wr (Reg.FLOE_PSTAT.VTH p) (slicer s p)
  let s := (s.wr (Reg.FLOE_PLVL.VLOW p) (x.vlow / 65536)).wr (Reg.FLOE_PLVL.VHIGH p) (x.vhigh / 65536)
  let fix := hold 8 14 (s.rd (Reg.FLOE_PCFG.FIXSP p))
  if x.rises.length < 8 then
    ((s.wr (Reg.FLOE_PSTAT.SP p) fix).wr (Reg.FLOE_PSTAT.DR p) 0).clr (Reg.FLOE_PSTAT.SLOW p)
  else
    let s := (s.wr (Reg.FLOE_PSTAT.DR p) (min dr 15)).wrB (Reg.FLOE_PSTAT.SLOW p) (11 < dr)
    s.wr (Reg.FLOE_PSTAT.SP p) (if s.on (Reg.FLOE_PCFG.ADAPT p) then hold 8 14 (dr + 3) else fix)

/-- One bit's sample teaches the port (R271). -/
def learnBit (p : Nat) (s : State) (v : Nat) : State :=
  let x := floe s p
  if v < slicer s p then
    setFloe p { x with vlow := (15 * x.vlow + v * 65536) / 16, nlow := min 16 (x.nlow + 1) } s
  else setFloe p { x with vhigh := (15 * x.vhigh + v * 65536) / 16, nhigh := min 16 (x.nhigh + 1) } s

/-- A rising edge teaches the port (R272). -/
def learnRise (p : Nat) (s : State) (d : Nat) : State :=
  let x := floe s p
  setFloe p { x with rises := (d :: x.rises).take 8 } s

/-- What a frame on the wire teaches the port. DEDUCED (log 58). -/
def learn (p : Nat) (x : FloeSignal) (s : State) : State :=
  if s.on (Reg.FLOE_PCFG.ADAPT p) then
    floeView p (x.rises.foldl (learnRise p) (x.volts.foldl (learnBit p) s))
  else s

/-- A frame has ended.  After a whole frame, whose last eight bits were recessive, the bus is idle three bit times later;
after a stuff or form error, a bit error or a lost arbitration it takes eleven at least, and where another sender's
frame goes on, that frame's own end counts anew (R275). DEDUCED (log 57). -/
def frameEnded (whole : Bool) (p : Nat) (s : State) : State :=
  setFloe p { floe s p with idleAt := s.tbase + bitTimes s p (if whole then 3 else 11) } s

end Sys2Proof.Machine

namespace Sys2Proof
open Machine

/-! ### Bit stuffing (R275)

Bits in the order of the wire, 1 recessive. -/

/-- Stuffing after `run` bits equal to `last`: one complementary bit after every run of five equal bits, which counts in
the run that follows. -/
def stuffFrom (last : Bool) (run : Nat) : List Bool → List Bool
  | [] => []
  | b :: bs =>
    let n := if b = last then run + 1 else 1
    if n = 5 then b :: (!b) :: stuffFrom (!b) 1 bs else b :: stuffFrom b n bs

/-- The bits that a sender puts on the wire, from SOF to the last CRC bit (R275). -/
def stuff (bs : List Bool) : List Bool := stuffFrom true 0 bs

/-- Removal of stuff bits after `run` bits equal to `last`; a run of six equal bits is a stuff error. -/
def unstuffFrom (last : Bool) (run : Nat) : List Bool → Option (List Bool)
  | [] => some []
  | b :: bs =>
    if run = 5 then (if b = last then none else unstuffFrom b 1 bs)
    else (unstuffFrom b (if b = last then run + 1 else 1) bs).map (b :: ·)

/-- The bits that a receiver takes from the wire, or none at a stuff error (R275). -/
def unstuff (bs : List Bool) : Option (List Bool) := unstuffFrom true 0 bs

/-- A byte, and more, MSB first. -/
def msbBits (w v : Nat) : List Bool := (List.range w).reverse.map v.testBit

/-! ### Frames (R273, R274) -/

/-- TYPE of a frame. -/
def FloeFrame.type (f : FloeFrame) : Nat := bitsOf f.ctl.toNat 4 4

/-- SEC of a frame. -/
def FloeFrame.sec (f : FloeFrame) : Bool := f.ctl.toNat.testBit 3

/-- The bytes from SRC to the payload. -/
def FloeFrame.head (f : FloeFrame) : List Byte :=
  [f.src, f.dst, f.ctl, BitVec.ofNat 8 f.payload.length] ++ f.payload

/-- The bytes from SRC to MAC, which CRC covers. -/
def FloeFrame.covered (f : FloeFrame) : List Byte :=
  f.head ++ if f.sec then leBytes 4 f.cnt.toNat ++ f.mac else []

/-- The bits from SOF, which is dominant, to the last CRC bit, before stuffing. -/
def FloeFrame.bits (f : FloeFrame) : List Bool :=
  false :: (f.covered.flatMap fun b => msbBits 8 b.toNat) ++ msbBits 16 f.crc.toNat

/-- The frame as a sender puts it on the wire: stuffed up to the last CRC bit, then CRC delimiter, ACK, ACK delimiter and
EOF, all sent recessive (R273, R275). -/
def FloeFrame.line (f : FloeFrame) : List Bool := stuff f.bits ++ List.replicate 10 true

/-- The bits that a receiver takes from SOF to the last CRC bit, its stuff bits removed; none at a stuff error.
DESIGN CHOICE (log 120). -/
def FloeFrame.taken (f : FloeFrame) : Option (List Bool) := unstuff (f.wire.getD (stuff f.bits))

/-- A run of six equal bits came between SOF and the last CRC bit (R275). -/
def FloeFrame.stuffBad (f : FloeFrame) : Bool := f.taken.isNone

/-- TYPE, SEC, VER and LEN are a combination of R273 and R274. -/
def FloeFrame.formed (f : FloeFrame) : Bool :=
  !f.formBad && bitsOf f.ctl.toNat 0 3 == 1 && decide (f.payload.length ≤ 64)
    && (if f.sec then f.type == 8 && f.mac.length == 8 else [1, 2, 3, 4].contains f.type)

end Sys2Proof

namespace Sys2Proof.Machine

/-- The MAC of a secured frame under a key (R283). -/
def floeMac (key : List Byte) (dir : Byte) (f : FloeFrame) : List Byte :=
  (Crypto.cmac key (dir :: f.head ++ leBytes 4 f.cnt.toNat)).take 8

/-! ### Key table (R282) -/

/-- The first valid entry from `e`, of `n`, that holds `id`. -/
def findKey (s : State) (id e : Nat) : Nat → Option Nat
  | 0 => none
  | n + 1 =>
    if s.on (Reg.FLOE_KCFG.VALID e) && s.rd (Reg.FLOE_KCFG.ID e) == id then some e
    else findKey s id (e + 1) n

/-- The entry of port `p` that governs an identifier. -/
def keyEntry (s : State) (p id : Nat) : Option Nat := findKey s id (16 * p) 16

/-- The key of an entry. -/
def entryKey (s : State) (e : Nat) : List Byte :=
  ((List.range 8).map fun k => leBytes 4 (s.rd (Reg.FLOE_KEY.KEY e k))).flatten

/-- A write of FLOEn_KCFGe: VALID=1 zeroes the counters, or is refused for its ID. -/
def kcfgWrite (e v : Nat) (s : State) : State :=
  let id := Reg.FLOE_KCFG.ID e |>.of v
  if v.testBit 8 then
    if 0x10 ≤ id ∧ id ≤ 0xEF then
      (((s.wr (Reg.FLOE_KCFG.ID e) id).set (Reg.FLOE_KCFG.VALID e)).wr (Reg.FLOE_KTX.KTX e) 0).wr
        (Reg.FLOE_KRX.KRX e) 0
    else s.clr (Reg.FLOE_KCFG.VALID e)
  else (s.wr (Reg.FLOE_KCFG.ID e) id).clr (Reg.FLOE_KCFG.VALID e)

/-! ### Receiving (R277, R281, R283) -/

/-- Count and signal a frame's failure. -/
def floeCount (p : Nat) (cnt : Nat → Field) (evt : Field) (s : State) : State :=
  (s.count (cnt p)).set (portEvt evt p)

/-- A frame enters the receive FIFO. -/
def enqueue (p : Nat) (f : FloeFrame) (s : State) : State :=
  let x := floe s p
  let s := setFloe p { x with fifo := x.fifo ++ [f] } s
  if x.fifo.isEmpty then s.set (portEvt Reg.FLOE_EVT.RX0 p) else s

/-- The secured-frame check (R283). -/
def securedCheck (p : Nat) (f : FloeFrame) (s : State) : State :=
  match keyEntry s p f.src.toNat with
  | none => floeCount p Reg.FLOE_PERRC.MACFAIL Reg.FLOE_EVT.MACFAIL0 s
  | some e =>
    let good := f.mac == floeMac (entryKey s e) 1 f
    let fresh := s.rd (Reg.FLOE_KRX.KRX e) < f.cnt.toNat
    let s := if good then s else floeCount p Reg.FLOE_PERRC.MACFAIL Reg.FLOE_EVT.MACFAIL0 s
    let s := if fresh then s else floeCount p Reg.FLOE_PERRC.REPLAY Reg.FLOE_EVT.REPLAY0 s
    if good && fresh then enqueue p f (s.wr (Reg.FLOE_KRX.KRX e) f.cnt.toNat) else s

/-- The port drives the ACK bit. -/
def driveAck (p : Nat) (s : State) : State := setFloe p { floe s p with acked := true } s

/-- The admission filter on a frame with a good CRC and no stuff or form error (R281). -/
def filterFrame (p : Nat) (f : FloeFrame) (s : State) : State :=
  let src := f.src.toNat
  if f.dst ≠ 1 ∧ f.dst ≠ 0xFF then s
  else if src ≤ 0x0F ∨ src = 0xFF ∨ f.type = 1 ∨ f.type = 3 then
    floeCount p Reg.FLOE_PERRC.SPOOF Reg.FLOE_EVT.SPOOF0 s
  else if f.dst = 0xFF then s.count (Reg.FLOE_PERRA.FORMERR p)
  else if 0xF0 ≤ src ∧ f.type ≠ 2 ∧ f.type ≠ 4 then floeCount p Reg.FLOE_PERRC.QVIOL Reg.FLOE_EVT.QVIOL0 s
  else if src ≤ 0xEF ∧ f.type ≠ 8 then s.count (Reg.FLOE_PERRA.FORMERR p)
  else if 8 ≤ (floe s p).fifo.length then s.count (Reg.FLOE_PERRA.RXOVF p)
  else if f.sec then securedCheck p f (driveAck p s)
  else enqueue p f (driveAck p s)

/-- A frame is received by port `p`, which is enabled and powered. -/
def recvFrame (p : Nat) (f : FloeFrame) (x : FloeSignal) (s : State) : State :=
  if !s.coreUp || !s.on (Reg.FLOE_PCFG.EN p) then s
  else
    let s := frameEnded (!f.stuffBad && f.formed) p (learn p x s)
    let s := setFloe p { floe s p with acked := false } s
    if f.stuffBad then s.count (Reg.FLOE_PERRA.STUFFERR p)
    else if f.crc.toNat ≠ crc16 f.covered then s.count (Reg.FLOE_PERRA.CRCERR p)
    else if !f.formed then s.count (Reg.FLOE_PERRA.FORMERR p)
    else filterFrame p f s

/-- RXPOP.POP removes the oldest frame. -/
def rxPop (p : Nat) (s : State) : State :=
  let x := floe s p
  setFloe p { x with fifo := x.fifo.drop 1 } s

/-! ### Sending (R276 to R278, R284) -/

/-- The frame that TXHDR and TXDATA describe. -/
def txFrame (s : State) (p : Nat) : FloeFrame :=
  let bytes := ((List.range 16).map fun k => leBytes 4 (s.rd (Reg.FLOE_TXDATA.DATA p k))).flatten
  let ctl := 16 * s.rd (Reg.FLOE_TXHDR.TYPE p) + 8 * s.rd (Reg.FLOE_TXHDR.SEC p) + 1
  { src := 1, dst := BitVec.ofNat 8 (s.rd (Reg.FLOE_TXHDR.DST p)), ctl := BitVec.ofNat 8 ctl
    payload := bytes.take (s.rd (Reg.FLOE_TXHDR.LEN p)) }

/-- TYPE, SEC and DST are one of the KT8840's combinations of R274. -/
def txAllowed (f : FloeFrame) : Bool :=
  let d := f.dst.toNat
  if f.sec then f.type == 8 && 0x10 ≤ d && d ≤ 0xEF
  else (f.type == 1 && d == 0xFF) || (f.type == 3 && d == 0xFE)
    || (f.type == 4 && 0xF0 ≤ d && d ≤ 0xFD)

/-- GO is refused. -/
def goRefused (p : Nat) (s : State) : State :=
  ((s.set (Reg.FLOE_TXCTL.REFUSED p)).set (Reg.FLOE_TXCTL.FAILED p)).set (portEvt Reg.FLOE_EVT.TXFAIL0 p)

/-- GO is accepted: the frame waits for an idle bus and is sent. -/
def goSend (p : Nat) (f : FloeFrame) (s : State) : State :=
  let f := { f with crc := BitVec.ofNat 16 (crc16 f.covered) }
  let s := (s.clr (Reg.FLOE_TXCTL.REFUSED p)).clr (Reg.FLOE_TXCTL.FAILED p)
  let s := (s.set (Reg.FLOE_TXCTL.BUSY p)).wr (Reg.FLOE_TXCTL.ATTEMPTS p) 0
  setFloe p { floe s p with phase := .sending, frame := f, attempts := 0 } s

/-- TXCTL.GO (R284). -/
def txGo (p : Nat) (s : State) : State :=
  let f := txFrame s p
  if s.on (Reg.FLOE_TXCTL.BUSY p) then s
  else if 64 < s.rd (Reg.FLOE_TXHDR.LEN p) ∨ !txAllowed f ∨ f.dst.toNat ≤ 0x0F then goRefused p s
  else if f.sec then
    match keyEntry s p f.dst.toNat with
    | none => goRefused p s
    | some e =>
      let ktx := s.rd (Reg.FLOE_KTX.KTX e)
      if ktx = 0xFFFFFFFF then (goRefused p s).set (portEvt Reg.FLOE_EVT.CNTEXH0 p)
      else
        let f := { f with cnt := BitVec.ofNat 32 (ktx + 1) }
        let f := { f with mac := floeMac (entryKey s e) 0 f }
        goSend p f (s.wr (Reg.FLOE_KTX.KTX e) (ktx + 1))
  else goSend p f s

/-- The frame in hand is over. -/
def txOver (p : Nat) (s : State) : State :=
  setFloe p { floe s p with phase := .none } (s.clr (Reg.FLOE_TXCTL.BUSY p))

/-- The frame is abandoned (R278). -/
def txAbandon (p : Nat) (s : State) : State :=
  ((txOver p (s.set (Reg.FLOE_TXCTL.FAILED p))).count (Reg.FLOE_PERRB.TXFAIL p)).set
    (portEvt Reg.FLOE_EVT.TXFAIL0 p)

/-- The attempts that R278 allows are used up. -/
def txSpent (s : State) (p : Nat) : Bool := s.rd (Reg.FLOE_PCFG.TXRETRY p) + 1 ≤ (floe s p).attempts

/-- An attempt ends; ATTEMPTS counts it. -/
def txTried (p : Nat) (s : State) : State :=
  let n := (floe s p).attempts + 1
  setFloe p { floe s p with attempts := n } (s.wr (Reg.FLOE_TXCTL.ATTEMPTS p) (min n 15))

/-- A failed attempt is followed by a back-off of R slots from the idle bus on, R a free value below its bound, or by
abandonment (R278). DESIGN CHOICE (log 57). -/
def txFailed (p : Nat) (s : State) : State :=
  let s := txTried p s
  if txSpent s p then txAbandon p s
  else
    let x := floe s p
    setFloe p { x with phase := .backoff (s.freeVal % 2 ^ min x.attempts 5) } s.drawn

/-- A transmit attempt ends (R276, R277, R278).  It started on an idle bus: none ends before the bus was idle (R275).
DESIGN CHOICE (log 120). -/
def attemptEnd (p : Nat) (how : FloeEnd) (x : FloeSignal) (s : State) : State :=
  if !s.coreUp || !busIdle s p || (floe s p).phase != .sending then s
  else
    let s := frameEnded (how == .acked || how == .noAck) p (learn p x s)
    match how with
    | .acked => (txOver p (txTried p s)).set (portEvt Reg.FLOE_EVT.TXDONE0 p)
    | .noAck => txFailed p (s.count (Reg.FLOE_PERRB.NOACK p))
    | .bitError => txFailed p (s.count (Reg.FLOE_PERRB.BITERR p))
    | .lost => s.count (Reg.FLOE_PERRB.ARBLOST p)

/-- The back-off ends on an idle bus, its slots counted from the time at which the bus fell idle last: the sender tries
again, or abandons if TXRETRY now allows no more. DESIGN CHOICE (log 57). -/
def backoffEnd (p : Nat) (s : State) : State :=
  match (floe s p).phase with
  | .backoff r =>
    if s.coreUp && busIdle s p && (floe s p).idleAt + bitTimes s p (16 * r) ≤ s.tbase then
      if txSpent s p then txAbandon p s else setFloe p { floe s p with phase := .sending } s
    else s
  | _ => s

/-! ### Registers -/

/-- A write of PCFG: EN=0 releases the wire and discards what was learnt; a frame in hand waits for the port to
be enabled again. -/
def pcfgWrite (p v : Nat) (s0 : State) : State :=
  let s := s0.regWrite (0x400B0100 + 0x100 * p) v
  let x := floe s p
  let x := if s.on (Reg.FLOE_PCFG.EN p) then x else { x with vlow := 0, vhigh := 0, nlow := 0, nhigh := 0, rises := [] }
  let x := { x with phase := if x.phase = .none then .none else if s.on (Reg.FLOE_PCFG.EN p) then x.phase else .sending }
  let s := setFloe p x s
  let s := if s.on (Reg.FLOE_PCFG.EN p) && !s0.on (Reg.FLOE_PCFG.EN p) then
      let s := { s with kpf := { s.kpf with restarted := s.kpf.restarted.filter (· != p) } }
      setFloe p { x with idleAt := s.tbase + bitTimes s p 11 } s
    else s
  floeView p s

/-- The receive registers of the oldest frame: RXSTAT, RXHDR, RXCNT and RXDATAk, by offset in the port. -/
def rxRead (x : FloePort) (off : Nat) : Nat :=
  if off = 0x20 then x.fifo.length
  else
    match x.fifo with
    | [] => 0
    | f :: _ =>
      if off = 0x24 then
        f.src.toNat + 2 ^ 8 * f.dst.toNat + 2 ^ 16 * f.type + 2 ^ 20 * f.sec.toNat
          + 2 ^ 24 * f.payload.length + 2 ^ 31
      else if off = 0x28 then (if f.sec then f.cnt.toNat else 0)
      else leNat ((f.payload.drop (off - 0x80)).take 4)

/-- A core read of the FLOE block. -/
def floeRead (s : State) (a : Nat) : Nat × State :=
  let p := (a - 0x400B0100) / 0x100
  let off := a % 0x100
  if 0x400B0100 ≤ a ∧ a < 0x400B0300 then
    if off = 4 then
      ((s.wrB (Reg.FLOE_PSTAT.IDLE p) (busIdle s p && (floe s p).phase != .sending)).regWord a, s)
    else if (0x20 ≤ off ∧ off < 0x2C) ∨ (0x80 ≤ off ∧ off < 0xC0) then (rxRead (floe s p) off, s)
    else (s.regWord a, s.clearRc a)
  else (s.regWord a, s.clearRc a)

/-- A core write of the FLOE block. -/
def floeWrite (a v : Nat) (s : State) : State :=
  let p := (a - 0x400B0100) / 0x100
  let off := a % 0x100
  if 0x400B0100 ≤ a ∧ a < 0x400B0300 then
    if off = 0 then pcfgWrite p v s
    else if off = 0x18 ∨ (0x40 ≤ off ∧ off < 0x80) then
      if s.on (Reg.FLOE_TXCTL.BUSY p) then s else s.regWrite a v
    else if off = 0x1C then (if v.testBit 0 then txGo p s else s)
    else if off = 0x2C then (if v.testBit 0 then rxPop p s else s)
    else s.regWrite a v
  else if 0x400B1000 ≤ a ∧ a < 0x400B1800 then
    let e := (a - 0x400B1000) / 0x40
    let k := a % 0x40
    if k = 0 then kcfgWrite e v s
    else if 0x20 ≤ k then s.wr (Reg.FLOE_KEY.KEY e ((k - 0x20) / 4)) v
    else s
  else s.regWrite a v

/-- The FLOE block after a domain reset: ports off, key table lost (R293). -/
def floeDomainReset (s : State) : State := { s with floe0 := {}, floe1 := {} }

end Sys2Proof.Machine
end

