-- ==== Sys2Proof/Machine/Nvc.lean ====
section
/-! DEFINITION. The NVC controller, the confirmation window, and the LOG block (R348 to R351, R363, R372 to
R375). -/

namespace Sys2Proof.Machine

/-! ### CRC-32 (R351) -/

/-- One bit of the reflected CRC-32. -/
def crc32Step (c : Nat) : Nat := if c % 2 = 1 then (c / 2) ^^^ 0xEDB88320 else c / 2

/-- CRC-32 of bytes. -/
def crc32 (bs : List Byte) : Nat :=
  (bs.foldl (fun c b => (List.range 8).foldl (fun c _ => crc32Step c) (c ^^^ b.toNat)) 0xFFFFFFFF) ^^^ 0xFFFFFFFF

/-! ### Firn areas by offset (R41) -/

def firnSlot (b : Bool) : Nat := if b then 0x180000 else 0
def firnStaging : Nat := 0x300000
def firnSettings : Nat := 0x380000
def firnLog : Nat := 0x3C0000

/-- Every word of the sectors from `lo` up to but not including `hi` is erased. -/
def firnErased (s : State) (lo hi : Nat) : Bool := s.firn.all fun p => p.1 < lo / 8 || hi / 8 ≤ p.1

/-- Program words from `w` on from bytes, eight to a word; the first that does not read erased is refused and ends the
program (R348). -/
def programWords : Nat → Nat → List Byte → State → State
  | 0, _, _, s => s
  | n + 1, w, bs, s =>
    let t := s.programWord w (leNat ((bs.take 8 ++ List.replicate 8 0xFF).take 8))
    if s.firnWord w = erasedWord then programWords n (w + 1) (bs.drop 8) t else t

/-- Program the words at an offset from bytes (R348). DESIGN CHOICE (log 71). -/
def programFirn (off : Nat) (bs : List Byte) (s : State) : State := programWords ((bs.length + 7) / 8) (off / 8) bs s

/-! ### NVC commands (R348 to R351) -/

/-- Results. -/
def nvProtected : Nat := 1
def nvNotErased : Nat := 2
def nvAlign : Nat := 3
def nvDed : Nat := 4
def nvVerify : Nat := 5

/-- A program or erase of the range from `a` to `b` is accepted (R349): staging, settings, the slot that does not
run, and the log area while the boot ROM runs. -/
def nvcAllowed (s : State) (a b : Nat) : Bool :=
  let idle := firnSlot (!s.on Reg.SEC_BOOTINFO.SLOT)
  s.cpu.priv && ((firnStaging ≤ a && b ≤ firnLog) || (idle ≤ a && b ≤ idle + 0x180000)
    || (firnLog ≤ a && !s.on Reg.SEC_LOCK.MEAS))

/-- A command ends. -/
def nvcEnds (result addr : Nat) (s : State) : State :=
  let s := ((s.clr Reg.NVC_STAT.BUSY).wr Reg.NVC_STAT.RESULT result).set Reg.NVC_EVT.DONE
  let s := { s with nvc := { s.nvc with cmd := none } }
  if result = 0 then s else (s.set Reg.NVC_EVT.ERROR).wr Reg.NVC_ERRADDR.ADDR addr

/-- Lengths and alignments of a command. -/
def nvcAligned (c : NvcCmd) : Bool :=
  if c.cmd = 2 then c.addr % 4096 == 0
  else c.addr % 8 == 0 && 8 ≤ c.len && c.len ≤ 4096 && c.len % 8 == 0 && inSram c.buf c.len
    && c.addr + c.len ≤ 0x400000 && (c.cmd == 3 || c.addr / 4096 == (c.addr + c.len - 1) / 4096)

/-- NVC_CTRL with its key: the command starts, or ends at once refused. -/
def nvcGo (cmd : Nat) (s : State) : State :=
  let c : NvcCmd := ⟨cmd, s.rd Reg.NVC_ADDR.ADDR, 8 * s.rd Reg.NVC_BUF.BUF, s.rd Reg.NVC_LEN.LEN⟩
  let top := if cmd = 2 then c.addr + 4096 else c.addr + c.len
  if s.on Reg.NVC_STAT.BUSY ∨ cmd = 0 then s
  else if !nvcAligned c then nvcEnds nvAlign c.addr s
  else if cmd ≠ 3 ∧ !nvcAllowed s c.addr top then nvcEnds nvProtected c.addr s
  else { s.set Reg.NVC_STAT.BUSY with nvc := { s.nvc with cmd := some c } }

/-- A write of NVC_CTRL. -/
def nvcCtrlWrite (v : Nat) (s : State) : State :=
  if v / 2 ^ 24 = 0x6E ∧ v.testBit 2 then nvcGo (v % 4) s else s

/-- Program words in order; the first that is not erased, or that fails its check (`bad`, whose content is then a
free value), ends the command (R348). DESIGN CHOICE (log 70).  A parity error in the buffer is not seen (R43, R44).
DESIGN CHOICE (log 122). -/
def nvcWords (bad : Option Nat) (addr buf i : Nat) : Nat → State → State
  | 0, s => nvcEnds 0 0 s
  | n + 1, s =>
    let w := addr / 8 + i
    if s.firnWord w ≠ erasedWord then nvcEnds nvNotErased (8 * w) s
    else if bad = some i then nvcEnds nvVerify (8 * w) (s.setFirnWord w s.freeVal).drawn
    else nvcWords bad addr buf (i + 1) n (s.setFirnWord w (s.loadNat (buf + 8 * i) 8))

/-- The checked read of words: every word is copied; the first double-bit error names ERRADDR (R350). -/
def nvcRead (c : NvcCmd) (s : State) : State :=
  let ws := (List.range (c.len / 8)).map (c.addr / 8 + ·)
  let t := ws.foldl (fun t w => (t.firnChecked w).storeNat (c.buf + 8 * (w - c.addr / 8)) 8 (s.firnWord w)) s
  match ws.find? s.firnDed.contains with
  | some w => nvcEnds nvDed (8 * w) t
  | none => nvcEnds 0 0 t

/-- An NVC command finishes (R350). DESIGN CHOICE (log 70). -/
def nvcDone (bad : Option Nat) (s : State) : State :=
  match s.nvc.cmd with
  | none => s
  | some c =>
    if c.cmd = 1 then nvcWords bad c.addr c.buf 0 (c.len / 8) s
    else if c.cmd = 2 then nvcEnds 0 0 (s.eraseFirn c.addr (c.addr + 4096))
    else nvcRead c s

/-- A core load or fetch from the Firn store waits for an erase that runs: the erase ends first (R349).  Between the
words of a program it goes first. DEDUCED (log 70). -/
def firnReady (s : State) : State :=
  match s.nvc.cmd with
  | some c => if c.cmd = 2 then nvcDone none s else s
  | none => s

/-- A checked read of Firn words, by KPF for settings, staging and log or by the LOG block: errors are counted, and a
double-bit error shows in RESULT and ERRADDR (R44, R350). DEDUCED (log 25). -/
def kpfScan (off n : Nat) (s : State) : State :=
  let t := s.firnScan off n
  match s.firnDed.filter fun w => off < 8 * (w + 1) && 8 * w < off + n with
  | [] => t
  | w :: ws => t.nvcError nvDed (ws.foldl min w)

/-- The words of a program that CORE's reset interrupts at word `k`: those before it are programmed up to one that does
not read erased, and word `k` itself is left as a free value (R351). DESIGN CHOICE (log 69). -/
def nvcCut (addr buf i k : Nat) : Nat → State → State
  | 0, s => s
  | n + 1, s =>
    if s.firnWord (addr / 8 + i) ≠ erasedWord then s
    else if i = k then (s.setFirnWord (addr / 8 + i) s.freeVal).drawn
    else nvcCut addr buf (i + 1) k n (s.setFirnWord (addr / 8 + i) (s.loadNat (buf + 8 * i) 8))

/-- A command that CORE's reset or loss of power interrupts (R351): a program leaves its word, an erase its
sector, as free values; which word of a program it was is free too. DESIGN CHOICE (log 69). -/
def nvcInterrupted (s : State) : State :=
  match s.nvc.cmd with
  | none => s
  | some c =>
    let s := { s with nvc := { s.nvc with cmd := none } }
    if c.cmd = 1 then
      nvcCut c.addr c.buf 0 (s.freeVal % (c.len / 8 + 1)) (c.len / 8) s.drawn
    else if c.cmd = 2 then
      (List.range 512).foldl (fun t i => (t.setFirnWord (c.addr / 8 + i) t.freeVal).drawn) s
    else s

/-! ### Confirmation window (R363) -/

/-- The window in µs. -/
def confWindow : Nat := 120000000

/-- Arm the window. -/
def confArm (s : State) : State :=
  { s.set Reg.NVC_CONFCTL.ARMED with nvc := { s.nvc with armedAt := s.tbase } }

/-- A write of NVC_CONFCTL. -/
def confWrite (v : Nat) (s : State) : State :=
  let s := if v.testBit 3 then s.clr Reg.NVC_CONFCTL.EXPIRED else s
  let s := if v.testBit 1 ∧ v / 2 ^ 24 = 0xC5 then s.clr Reg.NVC_CONFCTL.ARMED else s
  if v.testBit 0 && !s.on Reg.SEC_LOCK.MEAS then confArm s else s

/-- What is left of the window in ms. DEDUCED (log 76). -/
def confLeft (s : State) : Nat :=
  if s.on Reg.NVC_CONFCTL.ARMED then (confWindow - (s.tbase - s.nvc.armedAt)) / 1000 else 0

/-- The window has expired. DEDUCED (log 76). -/
def confExpired (s : State) : Bool :=
  s.on Reg.NVC_CONFCTL.ARMED && s.nvc.armedAt + confWindow ≤ s.tbase

/-- A core read of the NVC block. -/
def nvcRegRead (s : State) (a : Nat) : Nat × State :=
  if a = 0x40100028 then (confLeft s, s) else (s.regWord a, s.clearRc a)

/-- A core write of the NVC block. -/
def nvcWrite (a v : Nat) (s : State) : State :=
  if a = 0x40100000 then nvcCtrlWrite v s
  else if a = 0x40100024 then confWrite v s
  else s.regWrite a v

/-! ### The Moraine log (R372 to R375) -/

/-- The 32 bytes of a record. -/
def recordBytes (r : LogRec) : List Byte :=
  let b := leBytes 8 r.tbase ++ leBytes 1 r.source ++ leBytes 1 r.sev ++ leBytes 2 r.code
    ++ r.data.map (BitVec.ofNat 8 ·)
  b ++ leBytes 4 (crc32 b)

/-- The offset of ring slot `k`. -/
def logSlot (k : Nat) : Nat := firnLog + 32 * k

/-- Slot `k` of the ring is erased. -/
def slotErased (s : State) (k : Nat) : Bool := firnErased s (logSlot k) (logSlot (k + 1))

/-- Sector `i` of the ring is erased. -/
def logSectorErased (s : State) (i : Nat) : Bool := slotErased s (128 * i) && firnErased s (logSlot (128 * i)) (logSlot (128 * i + 128))

/-- The first erased slot of sector `i`, else the first of the next. -/
def firstErased (s : State) (i : Nat) : Nat :=
  match (List.range 128).find? fun j => slotErased s (128 * i + j) with
  | some j => 128 * i + j
  | none => 128 * (i + 1) % 8192

/-- HEAD as a search finds it (R374). DEDUCED (log 77). -/
def findHead (s : State) : Nat :=
  match (List.range 64).find? fun i => logSectorErased s i && !slotErased s (128 * ((i + 63) % 64)) with
  | some i => firstErased s ((i + 63) % 64)
  | none => 0

/-- HEAD is found, once after each domain reset; the search reads the ring, and counts the errors that it meets
(R44). DEDUCED (log 25). -/
def logReady (s : State) : State :=
  if s.on Reg.LOG_STAT.READY then s
  else ((kpfScan firnLog 0x40000 s).wr Reg.LOG_STAT.HEAD (findHead s)).set Reg.LOG_STAT.READY

/-- A record goes into the slot at HEAD; the next sector is erased before the first slot of one is written. -/
def logWrite (r : LogRec) (s : State) : State :=
  let h := s.rd Reg.LOG_STAT.HEAD
  let next := (h / 128 + 1) % 64
  let s := if h % 128 = 0 then s.eraseFirn (logSlot (128 * next)) (logSlot (128 * next + 128)) else s
  (programFirn (logSlot h) (recordBytes r) s).wr Reg.LOG_STAT.HEAD ((h + 1) % 8192)

/-- The LOG block writes the oldest record of the front end. -/
def recordWritten (s : State) : State :=
  match s.log.front with
  | [] => s
  | r :: rest =>
    let s := logWrite r (logReady { s with log := { s.log with front := rest } })
    let s := s.set Reg.LOG_EVT.WRITTEN
    if rest.isEmpty then s.clr Reg.LOG_CTRL.FLUSH else s

/-- The front end is emptied into the ring, as LOG_CTRL.FLUSH asks (R375). -/
def flushLog : Nat → State → State
  | 0, s => s
  | n + 1, s => if s.log.front.isEmpty then s else flushLog n (recordWritten s)

/-- A core commit (R373): it is refused, or its record enters the front end.  True when it entered. -/
def commitRecord (source sev code : Nat) (data : List Nat) (s : State) : Bool × State :=
  if 56 ≤ s.log.front.length ∨ (source < 0x80 ∧ s.on Reg.SEC_LOCK.MEAS) then
    (false, ((s.count Reg.LOG_CNT.DROPCORE).set Reg.LOG_STAT.REFUSED).set Reg.LOG_EVT.DROP)
  else
    (true, (s.clr Reg.LOG_STAT.REFUSED).logEnter ⟨s.tbase, source, min sev 6, code, logData data⟩)

/-- LOG_WCOMMIT.GO. -/
def logCommit (s : State) : State :=
  let data := (getBytes Reg.LOG_WDATA.DATA 4 s).map (·.toNat)
  (commitRecord (s.rd Reg.LOG_WHDR.SOURCE) (s.rd Reg.LOG_WHDR.SEV) (s.rd Reg.LOG_WHDR.CODE) data s).2

/-- A core read of the LOG block. -/
def logRead (s : State) (a : Nat) : Nat × State :=
  if a = 0x40110004 then ((s.wr Reg.LOG_STAT.FILL s.log.front.length).regWord a, s)
  else (s.regWord a, s.clearRc a)

/-- A core write of the LOG block. -/
def logRegWrite (a v : Nat) (s : State) : State :=
  if a = 0x40110000 then (if v.testBit 0 && !s.log.front.isEmpty then s.set Reg.LOG_CTRL.FLUSH else s)
  else if a = 0x40110034 then (if v.testBit 0 then logCommit s else s)
  else s.regWrite a v

/-- The NVC and LOG blocks at a domain reset: the AON records held enter the front end, which loses what CORE's
power held only when CORE was off. -/
def logDomainReset (s : State) : State := nvcInterrupted s

/-- AON's held records enter the front end after the domain reset, which stamps them (R372, R373). -/
def logRelease (s : State) : State :=
  let held := s.log.aonHeld
  let n := s.log.aonDrops
  let s := { s with log := { s.log with aonHeld := [], aonDrops := 0 } }
  (held.foldl (fun s r => s.logEnter { r with tbase := s.tbase }) s).count Reg.LOG_CNT.DROPHW n

end Sys2Proof.Machine
end

