-- ==== Sys2Proof/Machine/Reset.lean ====
section
/-! DEFINITION. The core reset (R29, R32, R100, R312, R318, R448). -/

namespace Sys2Proof.Machine

/-- The life-cycle state opens the debug port without a token (R317). -/
def openWithoutToken (s : State) : Bool :=
  lcs s == lcTest || (lcs s == lcManufacture && slotMap (slotProg s) == 0)

/-- The tag logic's FWREADY falls with MBX_CTRL.FWREADY (R100). -/
def fwReadyLost (s : State) : State :=
  let s := s.clr Reg.MBX_CTRL.FWREADY
  settle (if s.on Reg.HW_MBXCTL.FWREADY then fwReadyDown s else s)

/-- A core reset with its cause: the core's private state and the registers that R32 names take their reset values,
firmware stops answering, and the boot ROM runs. DEDUCED (log 21). -/
def coreReset (cause : Field) (s : State) : State :=
  let s := secCoreReset (fwReadyLost (resetRanges coreCells s))
  let s := if openWithoutToken s then debugOpens 2 s else s
  let s := s.clr Reg.TMR_WDSTAT.STAGE
  let safe := cause == Reg.SYS_RSTCAUSE.FATAL || cause == Reg.SYS_RSTCAUSE.WDOG2
  { s.set cause with
    cpu := {}
    sec := { s.sec with safe := safe }
    mbx := { s.mbx with taken := [] }
    kpf := { s.kpf with state := 0, wait := none }
    wdog := { start := s.tbase, held := s.wdog.held.map fun _ => 0 } }

end Sys2Proof.Machine
end

