-- ==== Sys2Proof/Machine/Tmr.lean ====
section
/-! DEFINITION. The watchdog (R447, R448) and the loading of the decode table and microcode (R455). -/

namespace Sys2Proof.Machine

/-- Microseconds the present stage has counted. -/
def wdElapsed (s : State) : Nat :=
  match s.wdog.held with
  | some n => n
  | none => s.tbase - s.wdog.start

/-- The length of the present stage in microseconds: T1 below 50 ms acts as 50, T2 of 0 as 1. -/
def wdLimit (s : State) : Nat :=
  1000 * (if s.on Reg.TMR_WDSTAT.STAGE then max 1 (s.rd Reg.TMR_WDCFG.T2) else max 50 (s.rd Reg.TMR_WDCFG.T1))

/-- The stage has run out. -/
def wdDue (s : State) : Bool := s.on Reg.TMR_WDCTL.EN && s.wdog.held.isNone && wdLimit s ≤ wdElapsed s

/-- Restart the count in a stage. -/
def wdRestart (stage : Bool) (s : State) : State :=
  { s.wrB Reg.TMR_WDSTAT.STAGE stage with
    wdog := { start := s.tbase, held := s.wdog.held.map fun _ => 0 } }

/-- Expiry of stage 1: NMI, and stage 2 counts (R447). -/
def wdExpire1 (s : State) : State :=
  let t := wdRestart true { s with cpu := { s.cpu with nmipend := true } }
  { t with wdog := { t.wdog with expiredAt := some s.tbase } }

/-- Expiry of stage 2: a core reset with WDOG2 (R447). -/
def wdExpire2 (s : State) : State := coreReset Reg.SYS_RSTCAUSE.WDOG2 s

/-- A kick comes too late: an expiry is due, or was in this microsecond (R447). -/
def kickLate (s : State) : Bool := wdDue s || s.wdog.expiredAt == some s.tbase

/-- A write of TMR_WDKICK (R447). -/
def wdKick (v : Nat) (s : State) : State :=
  if v % 2 ^ 16 = 0x6B5A then
    if s.on Reg.TMR_WDCTL.EN && !kickLate s then wdRestart false s else s
  else
    let s := s.set Reg.TMR_WDSTAT.BADKICK
    if s.on Reg.TMR_WDCTL.EN then
      if s.on Reg.TMR_WDSTAT.STAGE then wdExpire2 s else wdExpire1 s
    else s

/-- A write of TMR_WDCTL or TMR_WDCFG: setting EN starts stage 1. -/
def tmrWrite (a v : Nat) (s : State) : State :=
  if a = 0x40140108 then wdKick v s
  else
    let s' := s.regWrite a v
    if s'.on Reg.TMR_WDCTL.EN && !s.on Reg.TMR_WDCTL.EN then wdRestart false s' else s'

/-- A read of a TMR register: REMAIN is what is left of the stage, in whole milliseconds. -/
def tmrRead (a : Nat) (s : State) : Nat :=
  if a = 0x4014010C ∧ s.on Reg.TMR_WDCTL.EN then
    s.regWord a + (wdLimit s - wdElapsed s) / 1000 * 2 ^ 16
  else s.regWord a

/-! ### Decode table and microcode (R455) -/

/-- INDEX + 1 after a committing write, with AUTOINC=1. -/
def ucNext (s : State) : State :=
  if s.on Reg.SYS_UCSEL.AUTOINC then s.wr Reg.SYS_UCSEL.INDEX (s.rd Reg.SYS_UCSEL.INDEX + 1) else s

/-- A write of SYS_UCLO: with TABLE=1 it commits the entry that INDEX names. DEDUCED (log 118). -/
def ucLoWrite (v : Nat) (s : State) : State :=
  if s.on Reg.SEC_LOCK.UCODE then s.set Reg.SYS_UCSTAT.LOCKERR
  else
    let s := s.wr Reg.SYS_UCLO.DATA v
    let i := s.rd Reg.SYS_UCSEL.INDEX
    if s.on Reg.SYS_UCSEL.TABLE && i < 64 then
      ucNext { s with cpu := { s.cpu with table := Sparse.put 0 i (v % 2 ^ 17) s.cpu.table } }
    else s

/-- A write of SYS_UCHI: with TABLE=0 it commits the microcode word with SYS_UCLO. DEDUCED (log 118). -/
def ucHiWrite (v : Nat) (s : State) : State :=
  if s.on Reg.SEC_LOCK.UCODE then s.set Reg.SYS_UCSTAT.LOCKERR
  else
    let s := s.wr Reg.SYS_UCHI.CTL v
    let i := s.rd Reg.SYS_UCSEL.INDEX
    if s.on Reg.SYS_UCSEL.TABLE then s
    else
      ucNext { s with cpu := { s.cpu with
        ucode := Sparse.put 0 i (s.rd Reg.SYS_UCLO.DATA + v % 256 * 2 ^ 32) s.cpu.ucode
        ucodeBad := s.cpu.ucodeBad.filter (· != i) } }

end Sys2Proof.Machine
end

