-- ==== Sys2Proof/Machine/Sys.lean ====
section
/-! DEFINITION. The SYS block: domain control, reset requests, clocks, wake alarm and pad hold (R21, R23, R27 to R31,
R47, R49). -/

namespace Sys2Proof.Machine

/-! ### LUX (R21) -/

/-- KPF takes the counts of LUX_CNT into its sums before LUX goes off and loses them (R392). DEDUCED (log 117). -/
def luxCounted (s : State) : State :=
  { s with kpf := { s.kpf with sums := [Reg.LUX_CNT.REPEAT, Reg.LUX_CNT.LATE, Reg.LUX_CNT.PAR].foldl (fun l f =>
      Sparse.put 0 f.key ((Sparse.get 0 f.key l + s.rd f) % 2 ^ 32) l) s.kpf.sums } }

/-- LUXEN changes: LUX is switched on, its registers at their reset values, or its outputs and then its supply go
off. -/
def luxSwitch (on : Bool) (s : State) : State :=
  if on == s.on Reg.SYS_DOMCTRL.LUXEN then s
  else
    let s := if on then s else luxCounted s
    ((luxResetRegs s).clr Reg.SYS_DOMCTRL.LUXRDY).wrB Reg.SYS_DOMCTRL.LUXEN on

/-- The lighting memories are zeroed and LUXRDY is set. -/
def luxReady (s : State) : State :=
  if s.coreUp && s.on Reg.SYS_DOMCTRL.LUXEN && !luxOn s then
    (s.wipe luxBase (luxBase + 0x40000)).set Reg.SYS_DOMCTRL.LUXRDY
  else s

/-! ### SYS_DOMCTRL (R23, R47) -/

/-- An input source is attached. -/
def inputAttached (s : State) : Bool := (List.range 3).any fun n => (pin s n).attached

/-- A condition that keeps CORE on. -/
def coreNeeded (s : State) : Bool :=
  (List.range 40).any (fun n => chState s n != chOff)
    || (1 ≤ s.rd Reg.CHG_STAT.STATE && s.rd Reg.CHG_STAT.STATE ≤ 4) || s.on Reg.CHG_REVSTAT.ACTIVE
    || inputAttached s || s.on Reg.SYS_DOMCTRL.LUXEN || s.on Reg.SYS_DOMCTRL.LUXRDY

/-- A write of SYS_DOMCTRL: the requests are judged by what stood before it. DESIGN CHOICE (log 20). -/
def domctrlWrite (v : Nat) (s0 : State) : State :=
  let s := if v.testBit 16 then s0.clr Reg.SYS_DOMCTRL.REFUSED else s0
  let s := luxSwitch (v.testBit 0) s
  let off := v.testBit 8
  let ship := v.testBit 9
  if v / 2 ^ 24 ≠ 0xA5 ∨ !(off || ship) then s
  else if (off && ship) || s0.sys.offReq.isSome || (if off then coreNeeded s0 else inputAttached s0) then
    s.set Reg.SYS_DOMCTRL.REFUSED
  else { s with sys := { s.sys with offReq := some (if off then .coreOff else .ship) } }

/-! ### SYS_RSTREQ (R29, R30, R365, R373) -/

/-- A mask of SYS_RSTCAUSE with the bit of one cause. -/
def causeBit (f : Field) : Nat := 2 ^ f.lo

/-- Record the causes of a mask. -/
def recordCauses (m : Nat) (s : State) : State :=
  (List.range 14).foldl (fun s i => if m.testBit i then s.wr ⟨0x40000020, i, 1⟩ 1 else s) s

/-- The causes that a request names. -/
def requestCauses (v : Nat) : Nat :=
  (if v.testBit 0 then causeBit Reg.SYS_RSTCAUSE.COREREQ else 0)
    + (if v.testBit 1 then causeBit Reg.SYS_RSTCAUSE.DOMREQ else 0)
    + (if v.testBit 2 then causeBit Reg.SYS_RSTCAUSE.COLDREQ else 0)
    + (if v.testBit 3 then causeBit Reg.SYS_RSTCAUSE.HANDOVER else 0)

/-- A write of SYS_RSTREQ: the deepest reset asked for is performed, a domain or cold reset once the log front end has
drained. -/
def rstreqWrite (v : Nat) (s : State) : State :=
  let wait (r : WaitingReset) : State :=
    { s with sys := { s.sys with waiting := some r, waitingCauses := s.sys.waitingCauses ||| requestCauses v } }
  if v / 2 ^ 24 ≠ 0x5C ∨ requestCauses v = 0 then s
  else if v.testBit 2 then wait .cold
  else
    match s.sys.waiting with
    | some r => wait r
    | none =>
      if v.testBit 1 then wait .domain
      else
        let s := recordCauses (requestCauses v) (coreReset
          (if v.testBit 3 then Reg.SYS_RSTCAUSE.HANDOVER else Reg.SYS_RSTCAUSE.COREREQ) s)
        { s with sec := { s.sec with handover := v.testBit 3 } }

/-! ### Clocks (R26 to R28) -/

/-- A write of CORESEL. -/
def coreselWrite (v : Nat) (s : State) : State :=
  let sel := v % 16
  let back := s.on Reg.SYS_CLKCFG.ONOSC10 && s.on Reg.SYS_CLKCFG.PLLLOCK
  if s.on Reg.SYS_CLKCFG.CLKBUSY || (sel == s.rd Reg.SYS_CLKCFG.CORESEL && !back) then s
  else
    let s := (s.wr Reg.SYS_CLKCFG.CORESEL sel).set Reg.SYS_CLKCFG.CLKBUSY
    { s with sys := { s.sys with pllBack := back } }

/-- The core regulator has settled: the new frequency is in effect. -/
def clockSettled (s : State) : State :=
  if s.on Reg.SYS_CLKCFG.CLKBUSY then
    let s := if s.sys.pllBack then s.clr Reg.SYS_CLKCFG.ONOSC10 else s
    let sel := s.rd Reg.SYS_CLKCFG.CORESEL
    { s.clr Reg.SYS_CLKCFG.CLKBUSY with sys := { s.sys with selInEffect := sel, pllBack := false } }
  else s

/-- The PLL loses lock: the clocks are on OSC10, and a change back to the PLL is off. -/
def pllLost (s : State) : State :=
  let s := ((s.set Reg.SYS_CLKCFG.ONOSC10).clr Reg.SYS_CLKCFG.PLLLOCK).set Reg.ERR_MEMSTAT.PLLLOSS
  { s with sys := { s.sys with pllBack := false } }

/-! ### Wake alarm and pad hold (R49, R141) -/

/-- The alarm fires once TBASE equals or passes it. -/
def alarmCheck (s : State) : State :=
  if s.sys.aonOn && !s.sys.alarmFired && s.sys.alarm ≤ s.tbase then
    wakeFire Reg.SYS_WAKESTAT.ALARM Reg.SYS_WAKEEN.ALARM { s with sys := { s.sys with alarmFired := true } }
  else s

/-- A write of SYS_WAKEALARMHI takes both halves into effect. -/
def alarmWrite (v : Nat) (s : State) : State :=
  let s := s.wr Reg.SYS_WAKEALARMHI.ALARMHI v
  let at_ := s.rd Reg.SYS_WAKEALARMLO.ALARMLO + 2 ^ 32 * s.rd Reg.SYS_WAKEALARMHI.ALARMHI
  alarmCheck { s with sys := { s.sys with alarm := at_, alarmFired := false } }

/-- A write of SYS_PADHOLD. -/
def holdClear (v : Nat) (s : State) : State :=
  if v.testBit 0 && s.on Reg.SYS_PADHOLD.HOLD then adopt s else s

/-! ### Registers -/

/-- A core read of the SYS block. -/
def sysRead (s : State) (a : Nat) : Nat × State :=
  if a = 0x40000010 then ((s.wrB Reg.SYS_DOMCTRL.HOSTPWR s.hostOn).regWord a, s) else (s.regWord a, s.clearRc a)

/-- A core write of the SYS block. -/
def sysWrite (a v : Nat) (s : State) : State :=
  match a with
  | 0x40000010 => domctrlWrite v s
  | 0x40000014 => rstreqWrite v s
  | 0x40000018 => holdClear v s
  | 0x40000030 => coreselWrite v s
  | 0x4000004C => alarmWrite v s
  | 0x40000104 => ucLoWrite v s
  | 0x40000108 => ucHiWrite v s
  | _ => s.regWrite a v

end Sys2Proof.Machine
end

