-- ==== Sys2Proof/Machine/Bus.lean ====
section
/-! DEFINITION. The peripheral bus: a core access to a register, sent to the block that holds it (R13, R14, R42). -/

namespace Sys2Proof.Machine

/-- A core read of the register at `a`: the value, and what reading leaves (R9, R11). -/
def busRead (s : State) (a : Nat) : Nat × State :=
  match (a - 0x40000000) / 0x10000 with
  | 0x00 => sysRead s a
  | 0x01 => lpeRead a s
  | 0x02 => railRead a s
  | 0x03 => pwrRead a s
  | 0x06 => kscRead a s
  | 0x09 => fanRegRead a s
  | 0x0B => floeRead s a
  | 0x0C => hostRead a s
  | 0x0D => mbxRead a s
  | 0x0E => secRead s a
  | 0x10 => nvcRegRead s a
  | 0x11 => logRead s a
  | 0x14 => (tmrRead a s, s.clearRc a)
  | _ => (s.regWord a, s.clearRc a)

/-- A core write of the register at `a`. -/
def busWrite (s : State) (a v : Nat) : State :=
  match (a - 0x40000000) / 0x10000 with
  | 0x00 => sysWrite a v s
  | 0x01 => lpeWrite a v s
  | 0x02 => railWrite a v s
  | 0x03 => pwrBlockWrite a v s
  | 0x04 => chgWrite a v s
  | 0x05 => pdWrite a v s
  | 0x06 => kscWrite a v s
  | 0x07 => luxWrite a v s
  | 0x08 => chnWrite a v s
  | 0x09 => fanRegWrite a v s
  | 0x0A => thmWrite a v s
  | 0x0B => floeWrite a v s
  | 0x0C => hostWrite a v s
  | 0x0D => mbxWrite a v s
  | 0x0E => secWrite a v s
  | 0x0F => fgdWrite a v s
  | 0x10 => nvcWrite a v s
  | 0x11 => logRegWrite a v s
  | 0x14 => tmrWrite a v s
  | _ => s.regWrite a v

end Sys2Proof.Machine
end

