-- ==== Sys2Proof/Machine/Flags.lean ====
section
/-! DEFINITION. The flag computations of the Generdy-32: signed overflow, carry and borrow, accumulator
saturation, and the division edges of R429. -/

namespace Sys2Proof.Machine

/-- Signed overflow of an addition: the exact sum does not fit (R415). -/
def addOverflow (a b : Word) : Bool := (a + b).toInt != a.toInt + b.toInt

/-- Signed overflow of a subtraction. -/
def subOverflow (a b : Word) : Bool := (a - b).toInt != a.toInt - b.toInt

/-- Carry out of an addition with carry in (ADDC, ADDX). -/
def carryOut (a b : Word) (cin : Bool) : Bool := 2 ^ 32 ≤ a.toNat + b.toNat + cin.toNat

/-- Borrow out of a subtraction with borrow in (SUBC, SUBX). -/
def borrowOut (a b : Word) (bin : Bool) : Bool := a.toNat < b.toNat + bin.toNat

/-- NEG and ABS overflow on the most negative word only (R429). -/
def mostNegative (a : Word) : Bool := a == 0x80000000

/-- Signed division overflows on the most negative word by -1 only (R429). -/
def divOverflow (a b : Word) : Bool := a == 0x80000000 && b == 0xFFFFFFFF

/-- Signed quotient truncated towards zero, with the edges of R429: by zero, -1 for a dividend that is not
negative and +1 for a negative one. -/
def divs (a b : Word) : Word :=
  if b = 0 then (if a.toInt < 0 then 1 else 0xFFFFFFFF) else BitVec.ofInt 32 (a.toInt.tdiv b.toInt)

/-- Signed remainder with the sign of the dividend; by zero, the dividend (R429). -/
def rems (a b : Word) : Word := if b = 0 then a else BitVec.ofInt 32 (a.toInt.tmod b.toInt)

/-- Unsigned quotient; by zero, all ones (R429). -/
def divu (a b : Word) : Word := if b = 0 then 0xFFFFFFFF else BitVec.ofNat 32 (a.toNat / b.toNat)

/-- Unsigned remainder; by zero, the dividend (R429). -/
def remu (a b : Word) : Word := if b = 0 then a else BitVec.ofNat 32 (a.toNat % b.toNat)

/-- An exact value clipped to `n + 1` signed bits. -/
def clipTo (n : Nat) (x : Int) : Int := max (-(2 : Int) ^ n) (min x ((2 : Int) ^ n - 1))

/-- Leading zeros of a word, 0 to 32. -/
def clz (a : Word) : Word := if a = 0 then 32 else BitVec.ofNat 32 (31 - Nat.log2 a.toNat)

end Sys2Proof.Machine
end

