-- ==== Sys2Proof/Machine/Generdy.lean ====
section
/-! DEFINITION. The Generdy instruction word (R403, R414): the operations by format, the words they stand
for, and the decoder that custom instructions use on their micro-ops (R450, R451). -/

namespace Sys2Proof.Machine

/-- A register field after substitution: 0 to 15 as written, 16 to 19 for T0 to T3 (R451). -/
abbrev DReg := Fin 20

/-- A register field as it stands in an instruction word. -/
def dreg (r : RegNo) : DReg := ⟨r.val, by omega⟩

/-- Operations of major 0x01, in the order of their FN (R415). -/
inductive Alu where
  | add | sub | and | or | xor | andn | shl | shr | sar | rol | ror | mul | mulhs | mulhu
  | divs | divu | rems | remu | min | max | minu | maxu | addc | addx | subc | subx
  | neg | not | abs | clz | sextb | sexth | zextb | zexth | bswap | mov | sel
  deriving DecidableEq, Repr

/-- Immediate operations of format RI (R416). -/
inductive ImmOp where
  | addi | andi | ori | xori | muli
  deriving DecidableEq, Repr

/-- Operations of format AR, in the order of their FN (R417). -/
inductive ArOp where
  | mova | addad | subad | addaw | addah | movad | movda | subaa
  deriving DecidableEq, Repr

/-- Loads of format M (R418). -/
inductive LoadOp where
  | ldw | ldh | ldhu | ldb | ldbu | lda | ldwp
  deriving DecidableEq, Repr

/-- Stores of format M (R418). -/
inductive StoreOp where
  | stw | sth | stb | sta | stwp
  deriving DecidableEq, Repr

/-- Operations of major 0x20, in the order of their FN (R419). -/
inductive AccOp where
  | macs | macu | msbs | mulq | macsat | clrq | rdql | rdqh | rdqs | wrql | wrqh | shq
  deriving DecidableEq, Repr

/-- Predicate logic, in the order of its FN (R420). -/
inductive PlogOp where
  | pand | por | pxor | pandn | pmov | pnot | pset | pclr
  deriving DecidableEq, Repr

/-- System operations, in the order of their FN (R422). -/
inductive SysOp where
  | nop | trap | rfe | wait | fence | ei | di | bkpt | rssv | rsrs
  deriving DecidableEq, Repr

/-- Block operations, in the order of their FN (R426). -/
inductive BlkOp where
  | bmov | bfill | bcmp | bscan
  deriving DecidableEq, Repr

/-- The operations of the Generdy-32, one constructor per format (R414). -/
inductive Op where
  | rr (f : Alu) (d s t : DReg) (c : PredNo)
  | ri (f : ImmOp) (d s : DReg) (imm : BitVec 14)
  | si (d s : DReg) (kind : Fin 8) (amt : Fin 32)
  | mi (hi : Bool) (d : DReg) (imm : BitVec 16)
  | ai (a s : DReg) (imm : BitVec 14)
  | ar (f : ArOp) (x y z : DReg)
  | am (low : Bool) (a : DReg) (imm : BitVec 16)
  | load (f : LoadOp) (t a : DReg) (disp : BitVec 14)
  | store (f : StoreOp) (t a : DReg) (disp : BitVec 14)
  | dir (store : Bool) (t : DReg) (bank byte : Bool) (off : BitVec 16)
  | stk (pop : Bool) (t : DReg) (isA : Bool)
  | acc (f : AccOp) (q : Fin 2) (x y : DReg) (sh : Fin 64)
  | cmp (pd : PredNo) (cond : Fin 16) (s t : DReg)
  | cmpi (pd : PredNo) (cond : Fin 16) (s : DReg) (imm : BitVec 11)
  | cmpa (pd : PredNo) (cond : Fin 16) (a b : DReg)
  | plog (f : PlogOp) (pd pa pb : PredNo)
  | br (call : Bool) (disp : BitVec 22)
  | jmp (call : Bool) (a : DReg)
  | ret
  | dbnz (c : DReg) (disp : BitVec 18)
  | cr (write : Bool) (t : DReg) (creg : BitVec 6)
  | sys (f : SysOp) (imm : BitVec 16)
  | blk (f : BlkOp) (s d c v : DReg) (sz : Fin 4)
  | custom (major : Fin 4) (idx d s t : RegNo) (imm : BitVec 6)
  deriving DecidableEq, Repr

/-! ### Function codes -/

/-- FN of a register ALU operation (R415). -/
def Alu.fn : Alu → Nat
  | .add => 0 | .sub => 1 | .and => 2 | .or => 3 | .xor => 4 | .andn => 5 | .shl => 6 | .shr => 7
  | .sar => 8 | .rol => 9 | .ror => 0x0A | .mul => 0x0B | .mulhs => 0x0C | .mulhu => 0x0D
  | .divs => 0x0E | .divu => 0x0F | .rems => 0x10 | .remu => 0x11 | .min => 0x12 | .max => 0x13
  | .minu => 0x14 | .maxu => 0x15 | .addc => 0x16 | .addx => 0x17 | .subc => 0x18 | .subx => 0x19
  | .neg => 0x1A | .not => 0x1B | .abs => 0x1C | .clz => 0x1D | .sextb => 0x1E | .sexth => 0x1F
  | .zextb => 0x20 | .zexth => 0x21 | .bswap => 0x22 | .mov => 0x23 | .sel => 0x24

/-- The register ALU operation of an FN; none where R415 lists none. -/
def Alu.ofFn (n : Nat) : Option Alu :=
  ([.add, .sub, .and, .or, .xor, .andn, .shl, .shr, .sar, .rol, .ror, .mul, .mulhs, .mulhu, .divs,
    .divu, .rems, .remu, .min, .max, .minu, .maxu, .addc, .addx, .subc, .subx, .neg, .not, .abs,
    .clz, .sextb, .sexth, .zextb, .zexth, .bswap, .mov, .sel] : List Alu)[n]?

/-- Unary operations: Dt shall be 0 (R415). -/
def Alu.unary (f : Alu) : Bool := 0x1A ≤ f.fn && f.fn ≤ 0x23

/-- Carry operations, which write Pc (R415). -/
def Alu.carry (f : Alu) : Bool := 0x16 ≤ f.fn && f.fn ≤ 0x19

/-- FN of an AR operation (R417). -/
def ArOp.fn : ArOp → Nat
  | .mova => 0 | .addad => 1 | .subad => 2 | .addaw => 3 | .addah => 4 | .movad => 5 | .movda => 6
  | .subaa => 7

/-- The AR operation of an FN. -/
def ArOp.ofFn (n : Nat) : Option ArOp :=
  ([.mova, .addad, .subad, .addaw, .addah, .movad, .movda, .subaa] : List ArOp)[n]?

/-- FN of an accumulator operation (R419). -/
def AccOp.fn : AccOp → Nat
  | .macs => 0 | .macu => 1 | .msbs => 2 | .mulq => 3 | .macsat => 4 | .clrq => 5 | .rdql => 6
  | .rdqh => 7 | .rdqs => 8 | .wrql => 9 | .wrqh => 0x0A | .shq => 0x0B

/-- The accumulator operation of an FN. -/
def AccOp.ofFn (n : Nat) : Option AccOp :=
  ([.macs, .macu, .msbs, .mulq, .macsat, .clrq, .rdql, .rdqh, .rdqs, .wrql, .wrqh, .shq] : List AccOp)[n]?

/-- FN of a predicate operation (R420). -/
def PlogOp.fn : PlogOp → Nat
  | .pand => 0 | .por => 1 | .pxor => 2 | .pandn => 3 | .pmov => 4 | .pnot => 5 | .pset => 6 | .pclr => 7

/-- The predicate operation of an FN. -/
def PlogOp.ofFn (n : Nat) : Option PlogOp :=
  ([.pand, .por, .pxor, .pandn, .pmov, .pnot, .pset, .pclr] : List PlogOp)[n]?

/-- FN of a system operation (R422). -/
def SysOp.fn : SysOp → Nat
  | .nop => 0 | .trap => 1 | .rfe => 2 | .wait => 3 | .fence => 4 | .ei => 5 | .di => 6 | .bkpt => 7
  | .rssv => 8 | .rsrs => 9

/-- The system operation of an FN. -/
def SysOp.ofFn (n : Nat) : Option SysOp :=
  ([.nop, .trap, .rfe, .wait, .fence, .ei, .di, .bkpt, .rssv, .rsrs] : List SysOp)[n]?

/-- FN of a block operation (R426). -/
def BlkOp.fn : BlkOp → Nat
  | .bmov => 0 | .bfill => 1 | .bcmp => 2 | .bscan => 3

/-- Major opcode of an RI operation (R416). -/
def ImmOp.major : ImmOp → Nat
  | .addi => 2 | .andi => 3 | .ori => 4 | .xori => 5 | .muli => 9

/-- Major opcode of a load (R418). -/
def LoadOp.major : LoadOp → Nat
  | .ldw => 0x10 | .ldh => 0x11 | .ldhu => 0x12 | .ldb => 0x13 | .ldbu => 0x14 | .lda => 0x18 | .ldwp => 0x1C

/-- Major opcode of a store (R418). -/
def StoreOp.major : StoreOp → Nat
  | .stw => 0x15 | .sth => 0x16 | .stb => 0x17 | .sta => 0x19 | .stwp => 0x1D

/-! ### The word of an operation -/

/-- The major opcode and the operand bits [21:0] of an operation (R414). -/
def Op.bits : Op → Nat × Nat
  | .rr f d s t c => (1, d * 2 ^ 18 + s * 2 ^ 14 + t * 2 ^ 10 + c * 2 ^ 7 + f.fn)
  | .ri f d s imm => (f.major, d * 2 ^ 18 + s * 2 ^ 14 + imm.toNat)
  | .si d s kind amt => (6, d * 2 ^ 18 + s * 2 ^ 14 + kind * 2 ^ 5 + amt)
  | .mi hi d imm => (if hi then 8 else 7, d * 2 ^ 18 + imm.toNat)
  | .ai a s imm => (0x0A, a * 2 ^ 18 + s * 2 ^ 14 + imm.toNat)
  | .ar f x y z => (0x0B, x * 2 ^ 18 + y * 2 ^ 14 + z * 2 ^ 10 + f.fn)
  | .am low a imm => (0x0C, a * 2 ^ 18 + low.toNat * 2 ^ 17 + imm.toNat)
  | .load f t a disp => (f.major, t * 2 ^ 18 + a * 2 ^ 14 + disp.toNat)
  | .store f t a disp => (f.major, t * 2 ^ 18 + a * 2 ^ 14 + disp.toNat)
  | .dir st t bank byte off =>
    (if st then 0x1B else 0x1A, t * 2 ^ 18 + bank.toNat * 2 ^ 17 + byte.toNat * 2 ^ 16 + off.toNat)
  | .stk pop t isA => (0x1E, t * 2 ^ 18 + isA.toNat * 2 ^ 17 + pop.toNat * 2 ^ 16)
  | .acc f q x y sh => (0x20, q * 2 ^ 21 + x * 2 ^ 17 + y * 2 ^ 13 + sh * 2 ^ 6 + f.fn)
  | .cmp pd cond s t => (0x24, pd * 2 ^ 19 + cond * 2 ^ 15 + s * 2 ^ 11 + t * 2 ^ 7)
  | .cmpi pd cond s imm => (0x25, pd * 2 ^ 19 + cond * 2 ^ 15 + s * 2 ^ 11 + imm.toNat)
  | .cmpa pd cond a b => (0x26, pd * 2 ^ 19 + cond * 2 ^ 15 + a * 2 ^ 11 + b * 2 ^ 7)
  | .plog f pd pa pb => (0x27, pd * 2 ^ 19 + pa * 2 ^ 16 + pb * 2 ^ 13 + f.fn)
  | .br call disp => (if call then 0x29 else 0x28, disp.toNat)
  | .jmp call a => (0x2A, a * 2 ^ 18 + call.toNat * 2 ^ 17)
  | .ret => (0x2B, 0)
  | .dbnz c disp => (0x2D, c * 2 ^ 18 + disp.toNat)
  | .cr write t creg => (if write then 0x31 else 0x30, t * 2 ^ 18 + creg.toNat * 2 ^ 12)
  | .sys f imm => (0x32, f.fn * 2 ^ 16 + imm.toNat)
  | .blk f s d c v sz => (0x2C, s * 2 ^ 18 + d * 2 ^ 14 + c * 2 ^ 10 + v * 2 ^ 6 + sz * 2 ^ 4 + f.fn * 2 ^ 2)
  | .custom major idx d s t imm =>
    (0x3C + major, idx * 2 ^ 18 + d * 2 ^ 14 + s * 2 ^ 10 + t * 2 ^ 6 + imm.toNat)

/-- The instruction word (R403). -/
def encodeOp (p : Pred) (op : Op) : Word :=
  BitVec.ofNat 32 (p.neg.toNat * 2 ^ 31 + p.reg * 2 ^ 28 + op.bits.1 * 2 ^ 22 + op.bits.2)

/-! ### Reading a word -/

/-- Bits `lo` to `lo + n - 1` of a word. -/
def fld (w lo n : Nat) : Nat := w / 2 ^ lo % 2 ^ n

/-- A 4-bit field of the word, as a register field. -/
def regFld (w lo : Nat) : DReg := ⟨fld w lo 4, by unfold fld; omega⟩
/-- A 4-bit field of the word. -/
def fin16 (w lo : Nat) : Fin 16 := ⟨fld w lo 4, by unfold fld; omega⟩
/-- A 3-bit field of the word. -/
def fin8 (w lo : Nat) : Fin 8 := ⟨fld w lo 3, by unfold fld; omega⟩

/-- The lowest bits of the register fields, in the order in which R414 lists them for the format (R451). -/
def regLos (major : Nat) : List Nat :=
  if major = 1 ∨ major = 0x0B then [18, 14, 10]
  else if major ∈ [2, 3, 4, 5, 6, 9, 0x0A] then [18, 14]
  else if major ∈ [7, 8, 0x0C, 0x1A, 0x1B, 0x1E] then [18]
  else if (0x10 ≤ major ∧ major ≤ 0x19) ∨ major = 0x1C ∨ major = 0x1D then [18, 14]
  else if major = 0x20 then [17, 13]
  else if major = 0x24 ∨ major = 0x26 then [11, 7]
  else if major = 0x25 then [11]
  else if major ∈ [0x2A, 0x2D, 0x30, 0x31] then [18]
  else if major = 0x2C then [18, 14, 10, 6]
  else []

/-- The operation of a word whose register fields are `r 0`, `r 1`, ...; none for an undefined major or
minor code and for a reserved bit that is not 0 (R431). -/
def decodeWith (w : Nat) (r : Nat → DReg) : Option Op :=
  let imm14 := BitVec.ofNat 14 w
  let imm16 := BitVec.ofNat 16 w
  match fld w 22 6 with
  | 0x01 => if fld w 6 1 ≠ 0 then none
            else (Alu.ofFn (fld w 0 6)).map fun f => .rr f (r 0) (r 1) (r 2) (fin8 w 7)
  | 0x02 => some (.ri .addi (r 0) (r 1) imm14)
  | 0x03 => some (.ri .andi (r 0) (r 1) imm14)
  | 0x04 => some (.ri .ori (r 0) (r 1) imm14)
  | 0x05 => some (.ri .xori (r 0) (r 1) imm14)
  | 0x06 => if fld w 8 6 ≠ 0 then none
            else some (.si (r 0) (r 1) (fin8 w 5) ⟨fld w 0 5, by unfold fld; omega⟩)
  | 0x07 => if fld w 16 2 ≠ 0 then none else some (.mi false (r 0) imm16)
  | 0x08 => if fld w 16 2 ≠ 0 then none else some (.mi true (r 0) imm16)
  | 0x09 => some (.ri .muli (r 0) (r 1) imm14)
  | 0x0A => some (.ai (r 0) (r 1) imm14)
  | 0x0B => if fld w 6 4 ≠ 0 then none
            else (ArOp.ofFn (fld w 0 6)).map fun f => .ar f (r 0) (r 1) (r 2)
  | 0x0C => if fld w 16 1 ≠ 0 then none else some (.am (fld w 17 1 == 1) (r 0) imm16)
  | 0x10 => some (.load .ldw (r 0) (r 1) imm14)
  | 0x11 => some (.load .ldh (r 0) (r 1) imm14)
  | 0x12 => some (.load .ldhu (r 0) (r 1) imm14)
  | 0x13 => some (.load .ldb (r 0) (r 1) imm14)
  | 0x14 => some (.load .ldbu (r 0) (r 1) imm14)
  | 0x15 => some (.store .stw (r 0) (r 1) imm14)
  | 0x16 => some (.store .sth (r 0) (r 1) imm14)
  | 0x17 => some (.store .stb (r 0) (r 1) imm14)
  | 0x18 => some (.load .lda (r 0) (r 1) imm14)
  | 0x19 => some (.store .sta (r 0) (r 1) imm14)
  | 0x1A => some (.dir false (r 0) (fld w 17 1 == 1) (fld w 16 1 == 1) imm16)
  | 0x1B => some (.dir true (r 0) (fld w 17 1 == 1) (fld w 16 1 == 1) imm16)
  | 0x1C => some (.load .ldwp (r 0) (r 1) imm14)
  | 0x1D => some (.store .stwp (r 0) (r 1) imm14)
  | 0x1E => if fld w 0 16 ≠ 0 then none
            else some (.stk (fld w 16 1 == 1) (r 0) (fld w 17 1 == 1))
  | 0x20 => if fld w 12 1 ≠ 0 then none
            else (AccOp.ofFn (fld w 0 6)).map fun f =>
              .acc f ⟨fld w 21 1, by unfold fld; omega⟩ (r 0) (r 1) ⟨fld w 6 6, by unfold fld; omega⟩
  | 0x24 => if fld w 0 7 ≠ 0 then none else some (.cmp (fin8 w 19) (fin16 w 15) (r 0) (r 1))
  | 0x25 => some (.cmpi (fin8 w 19) (fin16 w 15) (r 0) (BitVec.ofNat 11 w))
  | 0x26 => if fld w 0 7 ≠ 0 then none else some (.cmpa (fin8 w 19) (fin16 w 15) (r 0) (r 1))
  | 0x27 => if fld w 4 9 ≠ 0 then none
            else (PlogOp.ofFn (fld w 0 4)).map fun f => .plog f (fin8 w 19) (fin8 w 16) (fin8 w 13)
  | 0x28 => some (.br false (BitVec.ofNat 22 w))
  | 0x29 => some (.br true (BitVec.ofNat 22 w))
  | 0x2A => if fld w 0 17 ≠ 0 then none else some (.jmp (fld w 17 1 == 1) (r 0))
  | 0x2B => if fld w 0 22 ≠ 0 then none else some .ret
  | 0x2C => if fld w 0 2 ≠ 0 then none
            else some (.blk (match fld w 2 2 with | 0 => .bmov | 1 => .bfill | 2 => .bcmp | _ => .bscan)
              (r 0) (r 1) (r 2) (r 3) ⟨fld w 4 2, by unfold fld; omega⟩)
  | 0x2D => some (.dbnz (r 0) (BitVec.ofNat 18 w))
  | 0x30 => if fld w 0 12 ≠ 0 then none else some (.cr false (r 0) (BitVec.ofNat 6 (w / 2 ^ 12)))
  | 0x31 => if fld w 0 12 ≠ 0 then none else some (.cr true (r 0) (BitVec.ofNat 6 (w / 2 ^ 12)))
  | 0x32 => (SysOp.ofFn (fld w 16 6)).map fun f => .sys f imm16
  | 0x3C => some (.custom 0 (fin16 w 18) (fin16 w 14) (fin16 w 10) (fin16 w 6) (BitVec.ofNat 6 w))
  | 0x3D => some (.custom 1 (fin16 w 18) (fin16 w 14) (fin16 w 10) (fin16 w 6) (BitVec.ofNat 6 w))
  | 0x3E => some (.custom 2 (fin16 w 18) (fin16 w 14) (fin16 w 10) (fin16 w 6) (BitVec.ofNat 6 w))
  | 0x3F => some (.custom 3 (fin16 w 18) (fin16 w 14) (fin16 w 10) (fin16 w 6) (BitVec.ofNat 6 w))
  | _ => none

/-- An address-register field names A0 to A7 (R405). -/
def isAddr (r : DReg) : Bool := r < 8
/-- A data-register field (or T register). -/
def unused (r : DReg) : Bool := r == 0

/-- Control registers that exist (R407, chapter 16). -/
def cregAssigned (n : Nat) : Bool := n ≤ 6 || n == 8 || n == 9 || (0x10 ≤ n && n ≤ 0x1C)
/-- Control registers of privileged mode only (R407). -/
def cregPriv (n : Nat) : Bool := (4 ≤ n && n ≤ 6) || (0x10 ≤ n && n ≤ 0x1F)

/-- The operation passes the checks of R431 on its fields, whatever its predicate and the mode. -/
def Op.wellFormed : Op → Bool
  | .rr f _ _ t c =>
    (!f.unary || unused t) && (if f.carry then c != 0 else f == .sel || c == 0)
  | .ri .. => true
  | .si _ _ kind _ => kind ≤ 4
  | .mi .. => true
  | .ai a s _ => isAddr a && isAddr s
  | .ar f x y z =>
    match f with
    | .mova => isAddr x && isAddr y && unused z
    | .addad | .subad | .addaw | .addah => isAddr x && isAddr y
    | .movad => isAddr x && unused z
    | .movda => isAddr y && unused z
    | .subaa => isAddr y && isAddr z
  | .am _ a _ => isAddr a
  | .load f t a _ => isAddr a && (f != .lda || isAddr t)
  | .store f t a _ => isAddr a && (f != .sta || isAddr t)
  | .dir .. => true
  | .stk pop t isA => !isA || (isAddr t && !(pop && t == 7))
  | .acc f _ x y sh =>
    (f == .rdqs || f == .shq || sh == 0) &&
    match f with
    | .macs | .macu | .msbs | .mulq | .macsat => true
    | .clrq | .shq => unused x && unused y
    | .rdql | .rdqh | .rdqs | .wrql | .wrqh => unused y
  | .cmp pd cond _ _ => pd != 0 && cond ≤ 11
  | .cmpi pd cond _ _ => pd != 0 && cond ≤ 11
  | .cmpa pd cond a b => pd != 0 && cond ≤ 9 && isAddr a && isAddr b
  | .plog f pd pa pb =>
    pd != 0 &&
    match f with
    | .pand | .por | .pxor | .pandn => true
    | .pmov | .pnot => pb == 0
    | .pset | .pclr => pa == 0 && pb == 0
  | .br .. => true
  | .jmp _ a => isAddr a
  | .ret => true
  | .dbnz .. => true
  | .cr _ _ creg => cregAssigned creg.toNat
  | .sys f imm =>
    match f with
    | .trap | .bkpt => true
    | .rssv | .rsrs => imm.toNat % 2 ^ 12 == 0 && imm.toNat / 2 ^ 12 < 8
    | _ => imm == 0
  | .blk f s d c v sz =>
    sz != 3 &&
    match f with
    | .bmov | .bcmp => isAddr s && isAddr d && s != d && unused v
    | .bfill => isAddr d && unused s && v != c
    | .bscan => isAddr s && unused d && v != c
  | .custom .. => true

/-- Instructions and control registers of privileged mode only (R422, R407). -/
def Op.privileged : Op → Bool
  | .cr _ _ creg => cregPriv creg.toNat
  | .sys f _ => f == .rfe || f == .wait || f == .ei || f == .di || f == .rssv || f == .rsrs
  | _ => false

/-- The word passes the decode checks of R431: not one of the two whole words, no NEG on P0, and a
well-formed operation. -/
def wordOk (p : Pred) (op : Op) : Bool :=
  !(p.neg && p.reg == 0) && op.wellFormed && encodeOp p op != 0 && encodeOp p op != 0xFFFFFFFF

/-- The predicate fields of a word. -/
def predOf (w : Nat) : Pred := ⟨fld w 31 1 == 1, fin8 w 28⟩

/-- Decode a word; none for every word that R431 lists but for the mode-dependent ones. -/
def decodeWord (w : Word) : Option (Pred × Op) :=
  if w = 0 ∨ w = 0xFFFFFFFF then none
  else
    match decodeWith w.toNat (fun k => regFld w.toNat ((regLos (fld w.toNat 22 6)).getD k 0)) with
    | some op => if wordOk (predOf w.toNat) op then some (predOf w.toNat, op) else none
    | none => none

end Sys2Proof.Machine
end

