-- ==== Sys2Proof/Machine/Operands.lean ====
section
/-! DEFINITION. The operand forms of the Generdy-32: registers, predicates, immediates, addresses,
conditions and control registers (R405 to R411, R420). -/

namespace Sys2Proof.Machine

/-! ### Registers -/

/-- A data register, or T0 to T3 inside a custom instruction. -/
def Cpu.dr (c : Cpu) (r : DReg) : Word := c.d[r]

/-- Write a data register. -/
def Cpu.setDr (c : Cpu) (r : DReg) (v : Word) : Cpu := { c with d := c.d.set r v }

/-- An address register; the field is one of A0 to A7 once R405's check has passed. -/
def Cpu.ar (c : Cpu) (r : DReg) : Word := c.a[r.val % 8]'(by omega)

/-- Write an address register. -/
def Cpu.setAr (c : Cpu) (r : DReg) (v : Word) : Cpu :=
  { c with a := c.a.set (r.val % 8) v (by omega) }

/-- A predicate; P0 reads 1 (R405). -/
def Cpu.pr (c : Cpu) (n : PredNo) : Bool := if n = 0 then true else c.p[n]

/-- Write a predicate; P0 is never written (R406). -/
def Cpu.setPr (c : Cpu) (n : PredNo) (b : Bool) : Cpu :=
  if n = 0 then c else { c with p := c.p.set n b }

/-- An accumulator. -/
def Cpu.qr (c : Cpu) (q : Fin 2) : BitVec 64 := c.q[q]

/-- Write an accumulator. -/
def Cpu.setQr (c : Cpu) (q : Fin 2) (v : BitVec 64) : Cpu := { c with q := c.q.set q v }

/-- The instruction executes: P[PRED] XOR NEG = 1 (R403). -/
def Cpu.holds (c : Cpu) (p : Pred) : Bool := c.pr p.reg != p.neg

/-! ### Immediates and addresses -/

/-- Sign-extend a field to a word (R414). -/
def sext {n : Nat} (x : BitVec n) : Word := x.signExtend 32
/-- Zero-extend a field to a word (R414). -/
def zext {n : Nat} (x : BitVec n) : Word := x.setWidth 32

/-- The address of a base-displacement access (R410). -/
def Cpu.based (c : Cpu) (a : DReg) (disp : BitVec 14) : Word := c.ar a + sext disp

/-- The direct address (BANK << 16) | OFFSET16, with BANK from BKD or BKP (R411). -/
def Cpu.direct (c : Cpu) (bank : Bool) (off : BitVec 16) : Word :=
  (if bank then c.bkp else c.bkd) ++ off

/-- The target of a relative branch: the instruction's address + 4 × sext(DISP) (R421). -/
def branchTarget {n : Nat} (pc : Word) (disp : BitVec n) : Word := pc + 4 * sext disp

/-! ### Conditions -/

/-- COND of the compares (R420). -/
def condHolds (cond : Fin 16) (a b : Word) : Bool :=
  match cond.val with
  | 0 => a == b
  | 1 => a != b
  | 2 => a.toInt < b.toInt
  | 3 => b.toInt ≤ a.toInt
  | 4 => a.toInt ≤ b.toInt
  | 5 => b.toInt < a.toInt
  | 6 => a.toNat < b.toNat
  | 7 => b.toNat ≤ a.toNat
  | 8 => a.toNat ≤ b.toNat
  | 9 => b.toNat < a.toNat
  | 10 => (a &&& b) != 0
  | 11 => (a &&& b) == 0
  | _ => false

/-- IMM11 of CMPI: zero-extended for COND 6 to 9, sign-extended for the others (R420). -/
def cmpiImm (cond : Fin 16) (imm : BitVec 11) : Word :=
  if 6 ≤ cond.val ∧ cond.val ≤ 9 then zext imm else sext imm

/-! ### Control registers (R407, R408, chapter 16) -/

/-- PSR as its map lays it out. -/
def Cpu.psr (c : Cpu) : Word :=
  BitVec.ofNat 32 (c.priv.toNat + c.ie.toNat * 2 + c.erract.toNat * 4 + c.v.toNat * 16
    + c.dz.toNat * 32 + c.qsat.toNat * 64 + c.dztrap.toNat * 256)

/-- PSR's fields from a word, PRIV among them: what RFE does (R438). -/
def Cpu.setPsr (c : Cpu) (w : Word) : Cpu :=
  { c with priv := w.getLsbD 0, ie := w.getLsbD 1, erract := w.getLsbD 2, v := w.getLsbD 4
           dz := w.getLsbD 5, qsat := w.getLsbD 6, dztrap := w.getLsbD 8 }

/-- A write of PSR by MTC: PRIV keeps its value, and task mode does not write IE and ERRACT (R408). -/
def Cpu.mtcPsr (c : Cpu) (w : Word) : Cpu :=
  if c.priv then { c.setPsr w with priv := true }
  else { c.setPsr w with priv := false, ie := c.ie, erract := c.erract }

/-- P0 to P7 as PRED lays them out (R408). -/
def Cpu.predWord (c : Cpu) : Word :=
  BitVec.ofNat 32 (1 + c.p[1].toNat * 2 + c.p[2].toNat * 4 + c.p[3].toNat * 8 + c.p[4].toNat * 16
    + c.p[5].toNat * 32 + c.p[6].toNat * 64 + c.p[7].toNat * 128)

/-- P1 to P7 from a word; P0 stays 1. -/
def Cpu.setPreds (c : Cpu) (w : Word) : Cpu :=
  { c with p := #v[c.p[0], w.getLsbD 1, w.getLsbD 2, w.getLsbD 3, w.getLsbD 4, w.getLsbD 5,
                   w.getLsbD 6, w.getLsbD 7] }

/-- A return-stack offset: values above 4,096 act as 4,096 (R408). -/
def rsOff (x : BitVec 13) : Nat := min (x.toNat / 4 * 4) 4096

/-- A return-stack register from a written word, bits [12:2]. -/
def rsReg (w : Word) : BitVec 13 := BitVec.ofNat 13 (w.toNat / 4 * 4)

end Sys2Proof.Machine
end

