-- ==== Sys2Proof/Machine/Access.lean ====
section
/-! DEFINITION. The core's accesses to memory: the memory map and its rights (R14, R20, R38, R42), the memory
protection unit (R319), the peripheral access table (R320) and parity (R43, R44), in the order of
R439. -/

namespace Sys2Proof.Machine

/-- What an access is for. -/
inductive AKind where
  | load | store | fetch
  deriving DecidableEq, Repr

/-- What a refused access leaves in the error registers besides the entry's own (R44, R319). -/
inductive Mark where
  | none
  | mpu (k : AKind) (cause first : Nat)
  | parity (addr : Nat)
  | ucode
  deriving DecidableEq, Repr

/-- An exception about to be taken: vector, CODE, EADDR, whether EPC is the next instruction (R435,
R436), and its marks. -/
structure Exc where
  vec : Nat
  code : BitVec 16 := 0
  eaddr : Word := 0
  next : Bool := false
  mark : Mark := .none
  deriving DecidableEq, Repr

/-- The areas of the core address space (R38, R42). -/
inductive Area where
  | bootRom | window | firn | sram | retained | rstack | lighting | peripheral | none
  deriving DecidableEq, Repr

/-- The area of an address (R38, R42). -/
def areaOf (a : Nat) : Area :=
  if a < 0x10000 then .bootRom
  else if windowBase ≤ a ∧ a < windowBase + 0x180000 then .window
  else if firnBase ≤ a ∧ a < firnBase + 0x400000 then .firn
  else if sramBase ≤ a ∧ a < sramBase + 0x100000 then .sram
  else if retBase ≤ a ∧ a < retBase + 0x8000 then .retained
  else if rsBase ≤ a ∧ a < rsBase + 0x1000 then .rstack
  else if luxBase ≤ a ∧ a < luxBase + 0x30C00 then .lighting
  else if 0x40000000 ≤ a ∧ a < 0x40160000 then .peripheral
  else .none

/-- The block number of a peripheral address: 0 for SYS to 21 for ERR (R42). -/
def blockOf (a : Nat) : Nat := (a - 0x40000000) / 0x10000

/-! ### Protection -/

/-- The lowest-numbered enabled MPU region, from `n` on, that covers byte `a` (R319). -/
def mpuRegion (s : State) (a : Nat) (n : Nat) : Nat → Option Nat
  | 0 => none
  | k + 1 =>
    if s.on (Reg.SEC_MPUBASE.EN n) && (s.rd (Reg.SEC_MPUBASE.BASE n) ≤ a / 32)
        && (a / 32 ≤ s.rd (Reg.SEC_MPULIM.LIMIT n)) then some n
    else mpuRegion s a (n + 1) k

/-- The region that governs byte `a`. -/
def governing (s : State) (a : Nat) : Option Nat := mpuRegion s a 0 16

/-- The governing region grants the byte to task mode (R319). -/
def mpuGrants (s : State) (k : AKind) (a : Nat) : Bool :=
  match governing s a with
  | none => false
  | some n =>
    match k with
    | .load => s.on (Reg.SEC_MPUBASE.TR n)
    | .store => s.on (Reg.SEC_MPUBASE.TW n)
    | .fetch => s.on (Reg.SEC_MPUBASE.TX n)

/-- The first of `n` bytes from `a` that task mode is not granted. -/
def firstRefused (s : State) (k : AKind) (a : Nat) : Nat → Option Nat
  | 0 => none
  | n + 1 => if mpuGrants s k a then firstRefused s k (a + 1) n else some a

/-- The access-table bit of the block: task read or task write; SEC's entry reads 0 (R320). -/
def tableGrants (s : State) (k : AKind) (blk : Nat) : Bool :=
  let w := s.rd Reg.SEC_PATLO.PAT + s.rd Reg.SEC_PATHI.PAT * 2 ^ 32
  blk != 14 && (w.testBit (2 * blk + if k = .store then 1 else 0))

/-- The register's map marks it privileged only, or, of SYS_RSTREQ, writable by privileged firmware only (R320). -/
def regPriv (k : AKind) (a : Nat) : Bool :=
  (regRows a).any (·.priv) || (decide (k = .store) && a == Reg.SYS_RSTREQ.KEY.addr)

/-- Why an access of `n` bytes at `a` raises MPU, and the first byte refused: 0 no region grants, 1 access
table, 2 PXN, 3 privileged-only area (SEC_MPUFINFO.CAUSE). -/
def mpuRefusal (s : State) (k : AKind) (a n : Nat) : Option (Nat × Nat) :=
  if s.cpu.priv then
    match k with
    | .fetch =>
      match governing s a with
      | some r => if s.on (Reg.SEC_MPUBASE.PXN r) then some (2, a) else none
      | none => none
    | _ => none
  else
    match areaOf a, k with
    | .bootRom, .load | .bootRom, .fetch | .firn, .load | .retained, .load | .retained, .store => some (3, a)
    | .peripheral, .load | .peripheral, .store =>
      if tableGrants s k (blockOf a) && !regPriv k (a / 4 * 4) then none else some (1, a)
    | _, _ => (firstRefused s k a n).map fun b => (0, b)

/-- The map lets the area be accessed so (R14, R20, R38). -/
def mapAllows (s : State) (k : AKind) (a n : Nat) : Bool :=
  match areaOf a, k with
  | .bootRom, .load | .bootRom, .fetch => true
  | .window, .load | .window, .fetch => true
  | .firn, .load => true
  | .sram, _ => true
  | .retained, .load | .retained, .store => true
  | .lighting, .load | .lighting, .store => s.on Reg.SYS_DOMCTRL.LUXRDY
  | .peripheral, .load | .peripheral, .store =>
    n == 4 && (s.on Reg.SYS_DOMCTRL.LUXRDY || (blockOf a != 7 && blockOf a != 8))
  | _, _ => false

/-- The Firn word number behind an address of the read view or of the active-slot window (R40, R41). -/
def firnIndex (s : State) (a : Nat) : Nat :=
  if a < firnBase then (a - windowBase + if s.sys.activeSlot then 0x180000 else 0) / 8
  else (a - firnBase) / 8

/-- The parity or ECC error that the access meets: its address (R44). DEDUCED (log 25). -/
def parityAt (s : State) (k : AKind) (a n : Nat) : Option Nat :=
  match areaOf a, k with
  | .sram, .load | .sram, .fetch | .retained, .load | .lighting, .load => s.firstBad a n
  | .window, _ | .firn, _ => if s.firnDed.contains (firnIndex s a) then some (a / 8 * 8) else none
  | _, _ => none

/-- What the reader of a bad byte or Firn word leaves behind: the memory's bit in ERR_MEMSTAT and the
address in ERR_FAULTADDR (R44). -/
def parityMarks (s : State) (a : Nat) : State :=
  let s := s.wr Reg.ERR_FAULTADDR.ADDR a
  match areaOf a with
  | .sram => s.set Reg.ERR_MEMSTAT.MSRAM
  | .retained => s.set Reg.ERR_MEMSTAT.RETRAM
  | .lighting => s.set Reg.ERR_MEMSTAT.LUXMEM
  | .rstack => s.set Reg.ERR_MEMSTAT.RSTACK
  | .window | .firn => (s.set Reg.ERR_MEMSTAT.FIRNDED).count Reg.ERR_ECCCNT.DED
  | _ => s

/-- The kind's code in SEC_MPUFINFO. -/
def AKind.code : AKind → Nat
  | .load => 0
  | .store => 1
  | .fetch => 2

/-- An MPU refusal leaves its first byte and cause in SEC_MPUFADDR and SEC_MPUFINFO (R319). -/
def mpuMarks (s : State) (k : AKind) (cause first : Nat) : State :=
  ((s.wr Reg.SEC_MPUFADDR.ADDR first).wr Reg.SEC_MPUFINFO.CAUSE cause).wr Reg.SEC_MPUFINFO.KIND k.code

/-- The error registers of a mark.  Microcode words have no address: the value left for one is a free
value (R44 gives none). DESIGN CHOICE (log 26). -/
def applyMark (s : State) : Mark → State
  | .none => s
  | .mpu k cause first => mpuMarks s k cause first
  | .parity a => parityMarks s a
  | .ucode => ((s.wr Reg.ERR_FAULTADDR.ADDR s.freeVal).set Reg.ERR_MEMSTAT.UCODE).drawn

/-- The exception of an access of `n` bytes at `a`: ALIGN, MPU, BUSERR, PARITY in that order (R439). -/
def accessCheck (s : State) (k : AKind) (a : Word) (n : Nat) : Option Exc :=
  if a.toNat % n ≠ 0 then some { vec := 3, eaddr := a }
  else
    match mpuRefusal s k a.toNat n with
    | some (cause, first) =>
      some { vec := 6, eaddr := BitVec.ofNat 32 first, mark := .mpu k cause first }
    | none =>
      if !mapAllows s k a.toNat n then some { vec := 4, eaddr := a }
      else
        match parityAt s k a.toNat n with
        | some b => some { vec := 5, eaddr := BitVec.ofNat 32 b, mark := .parity b }
        | none => none

/-! ### Values -/

/-- The byte the boot ROM holds.  Its vector table's words are taken to be aligned addresses inside the
ROM, as a working ROM's are. DESIGN CHOICE (log 27). -/
def bootRomAt (a : Nat) : Byte :=
  if a < 256 ∧ a % 4 = 0 then Config.bootRomByte a &&& 0xFC
  else if a < 256 ∧ 2 ≤ a % 4 then 0
  else Config.bootRomByte a

/-- A byte of the readable areas other than peripheral space. -/
def areaByte (s : State) (a : Nat) : Byte :=
  match areaOf a with
  | .bootRom => bootRomAt a
  | .window => s.firnByte (a - windowBase + if s.sys.activeSlot then 0x180000 else 0)
  | .firn => s.firnByte (a - firnBase)
  | _ => s.byte a

/-- `n` bytes from `a`. -/
def areaBytes (s : State) (a : Nat) : Nat → List Byte
  | 0 => []
  | n + 1 => areaByte s a :: areaBytes s (a + 1) n

/-- The value of a permitted read and what the read leaves: peripheral reads have their registers' effects
(R9), and a corrected Firn error is counted (R44). -/
def readValue (s : State) (a : Word) (n : Nat) : Word × State :=
  match areaOf a.toNat with
  | .peripheral => (BitVec.ofNat 32 (busRead s a.toNat).1, (busRead s a.toNat).2)
  | .window | .firn =>
    let s := firnReady s
    (BitVec.ofNat 32 (leNat (areaBytes s a.toNat n)), s.firnChecked (firnIndex s a.toNat))
  | _ => (BitVec.ofNat 32 (leNat (areaBytes s a.toNat n)), s)

/-- Do a permitted write of the low `n` bytes of `v`. -/
def writeValue (s : State) (a : Word) (n : Nat) (v : Word) : State :=
  match areaOf a.toNat with
  | .peripheral => busWrite s a.toNat v.toNat
  | _ => s.storeNat a.toNat n v.toNat

/-- A data load: the value, or the exception it raises.  A micro-op's access to peripheral space raises
BUSERR (R454). -/
def dataLoad (s : State) (micro : Bool) (a : Word) (n : Nat) : Except Exc (Word × State) :=
  match accessCheck s .load a n with
  | some e => .error e
  | none =>
    if micro && areaOf a.toNat == .peripheral then .error { vec := 4, eaddr := a }
    else .ok (readValue s a n)

/-- A data store. -/
def dataStore (s : State) (micro : Bool) (a : Word) (n : Nat) (v : Word) : Except Exc State :=
  match accessCheck s .store a n with
  | some e => .error e
  | none =>
    if micro && areaOf a.toNat == .peripheral then .error { vec := 4, eaddr := a }
    else .ok (writeValue s a n v)

end Sys2Proof.Machine
end

