-- ==== Sys2Proof/Machine/Exception.lean ====
section
/-! DEFINITION. Taking an exception, returning from one, and FATAL (R435 to R441). -/

namespace Sys2Proof.Machine

/-- Vectors 1 and 3 to 7 are the synchronous errors (R435). -/
def syncError (vec : Nat) : Bool := vec == 1 || (3 ≤ vec && vec ≤ 7)

/-- The waiting load's value is written: at the end of its slot, or before a fault in it (R424, R425). -/
def Cpu.commitSlot (c : Cpu) : Cpu :=
  match c.slot with
  | none => c
  | some (.data r, v) => { c.setDr r v with slot := none }
  | some (.addr r, v) => { c with a := c.a.set r v, slot := none }

/-- FATAL (R441): the causes are latched in AON, the record enters the front end, and a core reset
follows. -/
def fatal (first second : Nat) (addr : Word) (vecFail : Bool) (s : State) : State :=
  let s := (s.wr Reg.ERR_FATAL.FIRST first).wr Reg.ERR_FATAL.SECOND second
  let s := (s.wrB Reg.ERR_FATAL.VECFAIL vecFail).wr Reg.ERR_FATALADDR.ADDR addr.toNat
  let s := s.count Reg.ERR_FATAL.FATALCNT
  let s := s.hwLog 0x11 6 1 ([first, second, 0, 0] ++ bytes4 addr.toNat)
  coreReset Reg.SYS_RSTCAUSE.FATAL s

/-- Steps 2 and 3 of entry (R437): the point of departure and the cause are saved, and the mode changes. -/
def Cpu.enter (c : Cpu) (e : Exc) (epc : Word) : Cpu :=
  { c with
    epc := epc, epsr := c.psr, vec := BitVec.ofNat 6 e.vec, code := e.code, eaddr := e.eaddr
    priv := true, ie := false, erract := c.erract || syncError e.vec
    nmiact := c.nmiact || e.vec == 11, nmipend := c.nmipend && e.vec != 11, waiting := false }

/-- Taking an exception with return address `epc` (R437).  A synchronous error raised while ERRACT=1 and a
vector word that cannot be read or is not aligned are FATAL (R441). DEDUCED (log 96). -/
def takeExc (e : Exc) (epc : Word) (s : State) : State :=
  let s := applyMark s e.mark
  let e := if e.mark = .ucode then { e with eaddr := BitVec.ofNat 32 (s.rd Reg.ERR_FAULTADDR.ADDR) } else e
  if syncError e.vec && s.cpu.erract then fatal s.cpu.vec.toNat e.vec e.eaddr false s
  else
    let s := { s with cpu := s.cpu.enter e epc }
    match dataLoad s false (s.cpu.vbr + BitVec.ofNat 32 (4 * e.vec)) 4 with
    | .error x => fatal e.vec x.vec x.eaddr true (applyMark s x.mark)
    | .ok (target, s) =>
      if target.toNat % 4 ≠ 0 then fatal e.vec 3 target true s
      else { s with cpu := { s.cpu with pc := target } }

/-- RFE: PC from EPC, PSR from EPSR, PRIV with it (R438). -/
def Cpu.returnFromExc (c : Cpu) : Cpu := { c.setPsr c.epsr with pc := c.epc }

/-- The exception of an instruction at PC. -/
def faultAtPc (e : Exc) (s : State) : State :=
  let pc := s.cpu.pc
  takeExc e (if e.next then pc + 4 else pc) { s with cpu := s.cpu.commitSlot }

/-- A core write command to the register at `a`: what a word store does when its checks pass (R14, R20,
R320).  It happens only while the core can run; a refused store is an exception at the core's PC. DEDUCED (log 6). -/
def coreStore (a : Nat) (effect : State → State) (s : State) : State :=
  if !s.coreUp then s
  else
    match accessCheck s .store (BitVec.ofNat 32 a) 4 with
    | some e => faultAtPc e s
    | none => effect s

/-- A core read command of the register at `a`: the value read stands in `rdata`. DEDUCED (log 6). -/
def coreLoad (a : Nat) (s : State) : State :=
  if !s.coreUp then s
  else
    match accessCheck s .load (BitVec.ofNat 32 a) 4 with
    | some e => faultAtPc e s
    | none => { (busRead s a).2 with rdata := (busRead s a).1 }

end Sys2Proof.Machine
end

