-- ==== Sys2Proof/Machine/Store.lean ====
section
/-! DEFINITION. What the Firn store holds: firmware images (R314, R315), boot-control records (R361), the settings
store (R367 to R371), and the staging session with its package (R352 to R359). -/

namespace Sys2Proof.Machine

/-! ### Firmware images (R314, R315, R456) -/

/-- Little-endian value of `n` bytes at a Firn offset. -/
def firnNat (s : State) (off n : Nat) : Nat := leNat (s.firnBytes off n)

/-- Every byte of `n` from a Firn offset is zero. -/
def firnZero (s : State) (off n : Nat) : Bool := (s.firnBytes off n).all (· == 0)

/-- LEN, SVN and VERSION of the image in a slot. -/
def imageLen (s : State) (b : Bool) : Nat := firnNat s (firnSlot b + 0x0C) 4
def imageSvn (s : State) (b : Bool) : Nat := firnNat s (firnSlot b + 8) 1
def imageVersion (s : State) (b : Bool) : Nat := firnNat s (firnSlot b + 0x18) 4
def imageEntry (s : State) (b : Bool) : Nat := firnNat s (firnSlot b + 0x10) 4
def imageUcode (s : State) (b : Bool) : Bool := firnNat s (firnSlot b + 6) 2 == 1
def imageUcoff (s : State) (b : Bool) : Nat := firnNat s (firnSlot b + 0x14) 4

/-- The decode-table entries and microcode words at UCOFF. -/
def ucEntries (s : State) (b : Bool) : List Nat :=
  (List.range 64).map fun i => firnNat s (firnSlot b + imageUcoff s b + 4 * i) 4
def ucWords (s : State) (b : Bool) : List Nat :=
  (List.range 512).map fun i => firnNat s (firnSlot b + imageUcoff s b + 256 + 8 * i) 8

/-- The checks of R456. -/
def ucodeFormed (s : State) (b : Bool) : Bool :=
  let off := imageUcoff s b
  off % 4 == 0 && off + 4352 ≤ imageLen s b && (ucEntries s b).all (· < 2 ^ 17) && (ucWords s b).all (· < 2 ^ 40)

/-- Step 3 of R315: the header fields and SVN. -/
def headerGood (s : State) (b : Bool) : Bool :=
  let a := firnSlot b
  let len := imageLen s b
  firnNat s a 4 == 0x4946544B && firnNat s (a + 4) 2 == 1 && firnNat s (a + 6) 2 < 2
    && imageSvn s b ≤ 64 && firnZero s (a + 9) 3 && len % 4 == 0 && 0x100 ≤ len && len ≤ 1572864
    && imageEntry s b < len && firnZero s (a + 0x1C) 4 && firnZero s (a + 0xE0) 32
    && (if imageUcode s b then ucodeFormed s b else imageUcoff s b == 0)
    && s.rd Reg.SEC_FUSESTAT.FWARB ≤ imageSvn s b

/-- The public key of an image. -/
def imageKey (s : State) (b : Bool) : List Byte := s.firnBytes (firnSlot b + 0x20) 96

/-- The image digest. -/
def imageDigest (s : State) (b : Bool) : List Byte :=
  Crypto.sha Crypto.sha384
    (s.firnBytes (firnSlot b) 0x80 ++ s.firnBytes (firnSlot b + 0xE0) (imageLen s b - 0xE0))

/-- A double-bit error lies in the image. -/
def imageDed (s : State) (b : Bool) : Bool :=
  s.firnDed.any fun w => firnSlot b ≤ 8 * w && 8 * w < firnSlot b + imageLen s b

/-- Step 5: hash and signature. -/
def signatureGood (s : State) (b : Bool) : Bool :=
  let q := Crypto.p384.pubKey (imageKey s b)
  !imageDed s b && q != none && Crypto.p384.verify q (imageDigest s b) (s.firnBytes (firnSlot b + 0x80) 96)

/-- The step of R315 that the slot fails; 0 when it verifies. -/
def slotFails (s : State) (b : Bool) : Nat :=
  if !headerGood s b then 3 else if (anchorOf s (imageKey s b)).isNone then 4
  else if !signatureGood s b then 5 else 0

/-! ### Boot control (R361) -/

/-- A boot-control record. -/
structure BootRec where
  word : Nat
  slot : Bool
  prev : Bool
  state : Nat
  seq : Nat
  deriving DecidableEq, Repr

/-- The states of a boot-control record. -/
def bcTrial : Nat := 1
def bcStarted : Nat := 2
def bcConfirmed : Nat := 3

/-- The first word of the boot-control sectors. -/
def bcWord (sector : Nat) : Nat := (0x37D000 + 4096 * sector) / 8

/-- The valid record in a Firn word. -/
def bootRec (s : State) (w : Nat) : Option BootRec :=
  let v := s.firnWord w
  if v % 256 = 0xB7 ∧ v / 2 ^ 32 = 2 ^ 32 - 1 - v % 2 ^ 32 ∧ bitsOf v 10 2 ≠ 0 then
    some ⟨w, v.testBit 8, v.testBit 9, bitsOf v 10 2, bitsOf v 16 16⟩
  else none

/-- SEQ `a` is newer than SEQ `b`. -/
def seqNewer (a b : Nat) : Bool := let d := (a + 65536 - b) % 65536; 1 ≤ d && d ≤ 32767

/-- The valid records of both sectors. -/
def bootRecs (s : State) : List BootRec := (List.range 1024).filterMap fun i => bootRec s (bcWord 0 + i)

/-- The latest record. -/
def latestBoot (s : State) : Option BootRec :=
  let rs := bootRecs s
  rs.find? fun r => rs.all fun q => q.word == r.word || seqNewer r.seq q.seq

/-- The word of a record. -/
def bootRecWord (slot prev : Bool) (state seq : Nat) : Nat :=
  let v := 0xB7 + 2 ^ 8 * slot.toNat + 2 ^ 9 * prev.toNat + 2 ^ 10 * state + 2 ^ 16 * (seq % 65536)
  v + 2 ^ 32 * (2 ^ 32 - 1 - v)

/-- The first erased word of a sector from word `w` on. -/
def erasedIn (s : State) (w top : Nat) : Option Nat :=
  (List.range 512).map (w + ·) |>.find? fun i => i < top && s.firnWord i == erasedWord

/-- A boot record's word goes into the first erased word of sector `sec` from word `w`; where none is left, the
other sector is erased and the record opens it. DESIGN CHOICE (log 71). -/
def putBoot (rec sec w : Nat) (s : State) : State :=
  match erasedIn s w (bcWord sec + 512) with
  | some i => s.programWord i rec
  | none => (s.eraseFirn (8 * bcWord (1 - sec)) (8 * bcWord (1 - sec) + 4096)).programWord (bcWord (1 - sec)) rec

/-- Append a record. The first record of a store takes a free value as its SEQ: the spec gives none.
DESIGN CHOICE (log 72). -/
def appendBoot (slot prev : Bool) (state : Nat) (s : State) : State :=
  match latestBoot s with
  | some r => putBoot (bootRecWord slot prev state (r.seq + 1)) ((r.word - bcWord 0) / 512) (r.word + 1) s
  | none => putBoot (bootRecWord slot prev state s.freeVal) 0 (bcWord 0) s.drawn

/-! ### Settings (R367 to R371) -/

/-- A settings record. -/
structure SettingRec where
  key : Nat
  fmt : Nat
  deleted : Bool
  seq : Nat
  value : List Byte
  deriving DecidableEq, Repr

/-- The Firn offset of settings sector `i`. -/
def setSector (i : Nat) : Nat := firnSettings + 4096 * i

/-- The size of a record with a value of `n` bytes. -/
def recSize (n : Nat) : Nat := 16 + (n + 7) / 8 * 8

/-- The bytes of a record. -/
def settingBytes (r : SettingRec) : List Byte :=
  let h := leBytes 2 r.key ++ leBytes 1 r.fmt ++ leBytes 1 r.deleted.toNat ++ leBytes 2 r.value.length ++ leBytes 2 0
    ++ leBytes 4 r.seq
  h ++ leBytes 4 (crc32 (h ++ r.value)) ++ r.value

/-- The valid record at the start of bytes. -/
def settingAt (b : List Byte) : Option SettingRec :=
  let n := natAt b 4 2
  let v := (b.drop 16).take n
  if n ≤ 1024 ∧ v.length = n ∧ natAt b 6 2 = 0 ∧ natAt b 3 1 < 2 ∧ 1 ≤ natAt b 2 1 ∧ natAt b 2 1 ≤ 254
      ∧ natAt b 12 4 = crc32 (b.take 12 ++ v) then
    some ⟨natAt b 0 2, natAt b 2 1, natAt b 3 1 == 1, natAt b 8 4, v⟩
  else none

/-- The records of a sector's bytes; what fails its guard is passed over word by word. -/
def settingsIn : Nat → List Byte → List SettingRec
  | 0, _ => []
  | n + 1, b =>
    if b.length < 16 then []
    else
      match settingAt b with
      | some r => r :: settingsIn n (b.drop (recSize r.value.length))
      | none => settingsIn n (b.drop 8)

/-- GEN of a settings sector whose header passes HCRC. -/
def sectorGen (s : State) (i : Nat) : Option Nat :=
  let b := s.firnBytes (setSector i) 16
  if natAt b 0 4 = 0x54534553 ∧ natAt b 4 1 = 1 ∧ natAt b 12 4 = crc32 (b.take 12) then some (natAt b 8 4) else none

/-- Settings sector `i` is erased. -/
def setErased (s : State) (i : Nat) : Bool := firnErased s (setSector i) (setSector i + 4096)

/-- The records of settings sector `i`. -/
def sectorRecs (s : State) (i : Nat) : List SettingRec :=
  if (sectorGen s i).isSome then settingsIn 512 (s.firnBytes (setSector i + 32) 4064) else []

/-- Every valid record of the store. -/
def settingRecs (s : State) : List SettingRec := ((List.range 64).map (sectorRecs s)).flatten

/-- The record with the highest SEQ. -/
def highestSeq (rs : List SettingRec) : Option SettingRec :=
  rs.foldl (fun m r =>
    match m with
    | none => some r
    | some q => if q.seq < r.seq then some r else m) none

/-- The FMT in which the running image writes a key: 1 for a host's key (R398), for KPF's own the version's.
DESIGN CHOICE (log 113). -/
def ownFmt (s : State) (key : Nat) : Nat :=
  if 0x8000 ≤ key then 1 else 1 + Config.settingFmt s.kpf.version key % 254

/-- The running image can read a key in a format: its own, or an older one that its version takes (R369).
DESIGN CHOICE (log 113). -/
def readsFmt (s : State) (key fmt : Nat) : Bool :=
  fmt == ownFmt s key || (decide (key < 0x8000 ∧ fmt < ownFmt s key) && Config.settingRead s.kpf.version key fmt)

/-- A value of a key in one format brought into another; its own format leaves it as it is (R369).
DESIGN CHOICE (log 113). -/
def convertSetting (s : State) (key src dst : Nat) (v : List Byte) : List Byte :=
  if src = dst then v else (Config.settingConvert s.kpf.version key src dst v).take 1024

/-- The record of a key that the image reads (R369). -/
def settingRec (s : State) (key : Nat) : Option SettingRec :=
  highestSeq ((settingRecs s).filter fun r => r.key == key && readsFmt s key r.fmt)

/-- The value of a key in the image's own format (R369); none means its default. -/
def settingOf (s : State) (key : Nat) : Option (List Byte) :=
  match settingRec s key with
  | some r => if r.deleted then none else some (convertSetting s key r.fmt (ownFmt s key) r.value)
  | none => none

/-- A trial is neither confirmed nor abandoned: the latest boot-control record is TRIAL or STARTED (R370). -/
def inTrial (s : State) : Bool := (latestBoot s).any fun r => r.state != bcConfirmed

/-- A record is live: the highest SEQ of its KEY and FMT, and outside a trial none of the KEY in a newer FMT has a
higher SEQ (R371). -/
def liveIn (s : State) (all : List SettingRec) (r : SettingRec) : Bool :=
  all.all fun q => q.key != r.key || q.seq ≤ r.seq || (if inTrial s then q.fmt != r.fmt else q.fmt < r.fmt)

/-- The write sector: the highest GEN, with the sector. -/
def writeSector (s : State) : Option (Nat × Nat) :=
  (List.range 64).foldl (fun m i =>
    match sectorGen s i, m with
    | some g, none => some (i, g)
    | some g, some (j, h) => if h < g then some (i, g) else some (j, h)
    | none, m => m) none

/-- How far the valid records of a sector's bytes reach: each is followed by its length, whatever its value reads
(R368). -/
def settingsReach : Nat → List Byte → Nat
  | 0, _ => 0
  | n + 1, b =>
    if b.length < 16 then 0
    else
      match settingAt b with
      | some r => recSize r.value.length + settingsReach n (b.drop (recSize r.value.length))
      | none => match settingsReach n (b.drop 8) with
        | 0 => 0
        | e => 8 + e

/-- Where the next record of a sector goes: after the header, the last valid record, and whatever else does not read
erased. DESIGN CHOICE (log 71). -/
def sectorEnd (s : State) (i : Nat) : Nat :=
  let records := 32 + settingsReach 512 (s.firnBytes (setSector i + 32) 4064)
  match (List.range 512).reverse.find? fun k => s.firnWord (setSector i / 8 + k) != erasedWord with
  | some k => max records (8 * (k + 1))
  | none => records

/-- A new write sector, the lowest erased one, with GEN. DESIGN CHOICE (log 72). -/
def openSector (gen : Nat) (s : State) : Option Nat × State :=
  match (List.range 64).find? (setErased s) with
  | none => (none, s)
  | some i =>
    let h := leBytes 4 0x54534553 ++ leBytes 1 1 ++ leBytes 1 (s.rd Reg.SEC_LCS.STATE)
      ++ leBytes 1 (s.rd Reg.SEC_LCS.SVCCNT) ++ leBytes 1 0 ++ leBytes 4 gen
    (some i, programFirn (setSector i) (h ++ leBytes 4 (crc32 h) ++ List.replicate 16 0xFF) s)

/-- Program a record into the write sector, or into a new one; false when none is left. -/
def putRecord (r : SettingRec) (s : State) : Bool × State :=
  let b := settingBytes r
  let fresh (gen : Nat) : Bool × State :=
    match openSector gen s with
    | (some i, t) => (true, programFirn (setSector i + 32) b t)
    | (none, t) => (false, t)
  match writeSector s with
  | none => fresh 1
  | some (i, g) =>
    if sectorEnd s i + b.length ≤ 4096 then (true, programFirn (setSector i + sectorEnd s i) b s) else fresh (g + 1)

/-- The sector to compact: in use, not the write sector, with the least live content. -/
def leastLive (s : State) : Option Nat :=
  let all := settingRecs s
  let content (i : Nat) : Nat :=
    (((sectorRecs s i).filter (liveIn s all)).map fun r => recSize r.value.length).foldl (· + ·) 0
  ((List.range 64).filter fun i => !setErased s i && (writeSector s).map (·.1) != some i).foldl
    (fun m i =>
      match m with
      | none => some i
      | some j => if content i < content j then some i else some j) none

/-- Compaction while fewer than two sectors are erased (R371). -/
def compact : Nat → State → State
  | 0, s => s
  | n + 1, s =>
    if 2 ≤ ((List.range 64).filter (setErased s)).length then s
    else
      match leastLive s with
      | none => s
      | some i =>
        let live := (sectorRecs s i).filter (liveIn s (settingRecs s))
        let r := live.foldl (fun p r => if p.1 then putRecord r p.2 else p) (true, s)
        if r.1 then compact n (r.2.eraseFirn (setSector i) (setSector i + 4096)) else r.2

/-- A record goes into the store, which is compacted before and after while it has too few erased sectors (R371); false
when there is no room. -/
def storeRecord (r : SettingRec) (s : State) : Bool × State :=
  let p := putRecord r (compact 64 s)
  (p.1, compact 64 p.2)

/-- The next SEQ of the store. -/
def nextSeq (s : State) : Nat := ((settingRecs s).foldl (fun m r => max m r.seq) 0) + 1

/-- The other format in which a key is written during a trial: that of the record read at start (R370).
DESIGN CHOICE (log 113). -/
def secondFmt (s : State) (key : Nat) : Option Nat :=
  if inTrial s then (s.kpf.startFmts.lookup key).filter (· != ownFmt s key) else none

/-- Write a key, or a DELETED record of it: in the image's own format, and during a trial in the format of the record it
read at start too, when the two differ (R370); false when the store has no room.  The store is read by checked reads
(R350). DESIGN CHOICE (log 71). -/
def writeSetting (key : Nat) (value : List Byte) (deleted : Bool) (s : State) : Bool × State :=
  let s := kpfScan firnSettings 0x40000 s
  let r := storeRecord ⟨key, ownFmt s key, deleted, nextSeq s, value⟩ s
  match secondFmt s key with
  | some f =>
    if r.1 then storeRecord ⟨key, f, deleted, nextSeq r.2, convertSetting s key (ownFmt s key) f value⟩ r.2 else r
  | none => r

/-- The keys of the store, each once. -/
def storeKeys (s : State) : List Nat :=
  (settingRecs s).foldl (fun l r => if l.contains r.key then l else l ++ [r.key]) []

/-- What the image reads at start: the format of each key's record (R370). -/
def readAtStart (s : State) : State :=
  let s := kpfScan firnSettings 0x40000 s
  let l := (storeKeys s).filterMap fun k => (settingRec s k).map fun r => (k, r.fmt)
  { s with kpf := { s.kpf with startFmts := l } }

/-- Before a hand-over the store holds a record of the outgoing image's own format for every key that the image reads
from an older one (R366, R370); false when the store has no room for them. DEDUCED (log 113). -/
def prepareSettings (s : State) : Bool × State :=
  (storeKeys s).foldl (fun p k =>
    match settingRec p.2 k with
    | some r =>
      if !p.1 || r.fmt == ownFmt p.2 k then p
      else storeRecord ⟨k, ownFmt p.2 k, r.deleted, nextSeq p.2, convertSetting p.2 k r.fmt (ownFmt p.2 k) r.value⟩ p.2
    | none => p) (true, kpfScan firnSettings 0x40000 s)

/-! ### The staging session (R352, R356) -/

/-- The Firn offset of piece `i` and of the session sector. -/
def pieceOff (i : Nat) : Nat := firnStaging + 4096 * i
def sessionOff : Nat := 0x37F000

/-- The header's bytes, and whether it passes HCRC. -/
def sessionHead (s : State) : List Byte := s.firnBytes sessionOff 0x48
def sessionValid (s : State) : Bool :=
  let h := sessionHead s
  natAt h 0 4 == 0x53475453 && natAt h 4 2 == 1 && firnNat s (sessionOff + 0x48) 4 == crc32 h

/-- Owner, digest, package length and pieces. -/
def sessionOwner (s : State) : Nat × Nat := (natAt (sessionHead s) 6 1, natAt (sessionHead s) 8 8)
def sessionDigest (s : State) : List Byte := ((sessionHead s).drop 0x10).take 48
def sessionLen (s : State) : Nat := natAt (sessionHead s) 0x40 4
def sessionPieces (s : State) : Nat := natAt (sessionHead s) 0x44 2

/-- The markers, in order. -/
def mkComplete : Nat := 0
def mkApplied : Nat := 1
def mkFailed : Nat := 2
def mkCancelled : Nat := 3

/-- A marker is programmed. -/
def marked (s : State) (m : Nat) : Bool := s.firnWord ((sessionOff + 0x50) / 8 + m) == 0x4B4D5244

/-- Program a marker. -/
def mark (m : Nat) (s : State) : State := s.programWord ((sessionOff + 0x50) / 8 + m) 0x4B4D5244

/-- The session is open. -/
def sessionOpen (s : State) : Bool :=
  sessionValid s && !marked s mkApplied && !marked s mkFailed && !marked s mkCancelled

/-- Piece `i` is stored. -/
def pieceStored (s : State) (i : Nat) : Bool :=
  let w := s.firnWord ((sessionOff + 0x100) / 8 + i)
  w / 2 ^ 48 == 0xA5A5 && w / 2 ^ 32 % 65536 == i

/-- The stored pieces. -/
def storedPieces (s : State) : List Nat :=
  if sessionValid s then (List.range (min (sessionPieces s) 125)).filter (pieceStored s) else []

/-- STATE of the STATUS response (R396). -/
def sessionState (s : State) : Nat :=
  if !sessionValid s then 0 else if marked s mkCancelled then 5 else if marked s mkFailed then 4
  else if marked s mkApplied then 3 else if marked s mkComplete then 2 else 1

/-- The session sector is erased and written anew (R357). -/
def sessionNew (kind id : Nat) (digest : List Byte) (plen : Nat) (s : State) : State :=
  let s := s.eraseFirn sessionOff (sessionOff + 4096)
  let h := leBytes 4 0x53475453 ++ leBytes 2 1 ++ leBytes 1 kind ++ leBytes 1 0 ++ leBytes 8 id ++ digest
    ++ leBytes 4 plen ++ leBytes 2 ((plen + 4095) / 4096) ++ leBytes 2 0
  programFirn sessionOff (h ++ leBytes 4 (crc32 h)) s

/-! ### Packages (R353, R354) -/

/-- The header of a package. -/
def packageGood (p : List Byte) : Bool :=
  let n := p.length
  natAt p 0 4 == 0x4C4F554A && natAt p 4 2 == 1 && natAt p 6 1 == 1 && natAt p 7 1 < 2 && natAt p 8 4 == n
    && 256 ≤ n && n ≤ 512000 && natAt p 0x70 4 % 4 == 0 && 256 ≤ natAt p 0x70 4 && natAt p 0x70 4 ≤ 1572864
    && allZero ((p.drop 0x75).take 3) && allZero ((p.drop 0x7C).take 132)

/-- The word of FILL, `n` bytes of it. -/
def fillBytes (v n : Nat) : List Byte := ((List.replicate (n / 4) (leBytes 4 v)).flatten)

/-- What the operations write from a base image, and whether they keep R354 and end with the package. -/
def applyOps (base : List Byte) : Nat → List Byte → List Byte × Bool
  | 0, p => ([], p.isEmpty)
  | n + 1, p =>
    let len := natAt p 4 4
    let arg := natAt p 8 4
    let rest := p.drop 12
    let next (out rest : List Byte) : List Byte × Bool :=
      (out ++ (applyOps base n rest).1, (applyOps base n rest).2)
    if p.length < 12 ∨ natAt p 1 3 ≠ 0 ∨ len = 0 then ([], false)
    else
      match natAt p 0 1 with
      | 1 => if arg + len ≤ base.length then next ((base.drop arg).take len) rest else ([], false)
      | 2 =>
        let pad := (len + 3) / 4 * 4
        if arg = 0 ∧ pad ≤ rest.length ∧ allZero ((rest.take pad).drop len) then next (rest.take len) (rest.drop pad)
        else ([], false)
      | 3 => if len % 4 = 0 ∧ len ≤ 1572864 then next (fillBytes arg len) rest else ([], false)
      | _ => ([], false)

/-- The package contains a COPY. -/
def hasCopy : Nat → List Byte → Bool
  | 0, _ => false
  | n + 1, p =>
    if p.length < 12 then false
    else
      let len := natAt p 4 4
      natAt p 0 1 == 1 || hasCopy n ((p.drop 12).drop (if natAt p 0 1 = 2 then (len + 3) / 4 * 4 else 0))

/-- The staged bytes. -/
def stagedPackage (s : State) : List Byte := s.firnBytes firnStaging (sessionLen s)

/-- The base image: that of the active slot; in ROM recovery there is none (R362). -/
def baseImage (s : State) (recovery : Bool) : List Byte :=
  let slot := s.on Reg.SEC_BOOTINFO.SLOT
  if recovery then [] else s.firnBytes (firnSlot slot) (min (imageLen s slot) 1572864)

/-- Steps 1 and 2 of R359; in ROM recovery BASEDIGEST is zero and there is no COPY (R362). -/
def packageChecks (s : State) (recovery : Bool) : Bool :=
  let p := stagedPackage s
  let want := if recovery then noHash else Crypto.sha Crypto.sha384 (baseImage s false)
  Crypto.sha Crypto.sha384 p == sessionDigest s && packageGood p && (p.drop 0x10).take 48 == want
    && !(recovery && hasCopy p.length (p.drop 0x100))

/-- Steps 3 to 5 of R359: the slot that does not run is erased up to TGTLEN and written, COPY bytes being taken by
checked read; true when TGTDIGEST is right and the result's header holds TGTSVN and TGTVERSION (R353).
DESIGN CHOICE (log 71). -/
def packageWrite (recovery : Bool) (s : State) : Bool × State :=
  let p := stagedPackage s
  let n := natAt p 0x70 4
  let s := if recovery then s else kpfScan (firnSlot (s.on Reg.SEC_BOOTINFO.SLOT)) (imageLen s (s.on Reg.SEC_BOOTINFO.SLOT)) s
  let r := applyOps (baseImage s recovery) (min (natAt p 0x0C 4) (p.length + 1)) (p.drop 0x100)
  let out := r.1.take n
  let a := firnSlot (!s.on Reg.SEC_BOOTINFO.SLOT)
  let s := programFirn a out (s.eraseFirn a (a + (n + 4095) / 4096 * 4096))
  (r.2 && r.1.length == n && Crypto.sha Crypto.sha384 out == (p.drop 0x40).take 48 && natAt out 8 1 == natAt p 0x74 1
    && natAt out 0x18 4 == natAt p 0x78 4, s)

end Sys2Proof.Machine
end

