-- ==== Sys2Proof/Machine/Kpf.lean ====
section
/-! DEFINITION. KPF 4.0: how it reaches registers, its posts, events and query codes, and how it takes and answers
mailbox commands (R101, R102, R106, R108, R111, R377 to R384, R399, R400). -/

namespace Sys2Proof.Machine

/-- An image answers on the core. -/
def kpfRuns (s : State) : Bool := s.coreUp && s.kpf.state != 0 && !s.sys.dbgHalted

/-- Change what KPF's memory holds. -/
def withKpf (f : Kpf → Kpf) (s : State) : State := { s with kpf := f s.kpf }

/-! ### Registers as KPF uses them -/

/-- The word that a write needs to leave a register's RW fields as they are. -/
def keptWord (s : State) (a : Nat) : Nat :=
  (regRows a).foldl (fun acc r =>
    if r.acc = .rw ∨ r.acc = .rwl then acc + s.rd (r.fieldAt a) * 2 ^ r.field.lo else acc) 0

/-- The field's bits of a word, replaced. -/
def inWord (f : Field) (v w : Nat) : Nat := w - f.of w * 2 ^ f.lo + v % 2 ^ f.width * 2 ^ f.lo

/-- KPF writes fields of one register. -/
def kWrite (a : Nat) (fs : List (Field × Nat)) (s : State) : State :=
  busWrite s a (fs.foldl (fun w p => inWord p.1 p.2 w) (keptWord s a))

/-- KPF writes one field. -/
def kField (f : Field) (v : Nat) (s : State) : State := kWrite f.addr [(f, v)] s

/-- KPF writes one field if it differs. -/
def kSet (f : Field) (v : Nat) (s : State) : State := if s.rd f = v % 2 ^ f.width then s else kField f v s

/-- The value of a field as a read of its register shows it. -/
def kRead (s : State) (f : Field) : Nat := f.of (busRead s f.addr).1

/-- The bits of `n` bits as a byte. -/
def flagByte (bs : List Bool) : List Byte :=
  [BitVec.ofNat 8 ((bs.zip (List.range 8)).foldl (fun acc p => acc + p.1.toNat * 2 ^ p.2) 0)]

/-- One byte, two bytes, four bytes, eight bytes. -/
def b1 (v : Nat) : List Byte := leBytes 1 v
def b2 (v : Nat) : List Byte := leBytes 2 v
def b4 (v : Nat) : List Byte := leBytes 4 v
def b8 (v : Nat) : List Byte := leBytes 8 v

/-- Zero bytes. -/
def zeros (n : Nat) : List Byte := List.replicate n 0

/-- KPF reads a register's counters, which clears them, and adds them to its sums since it started (R392, R397).
DEDUCED (log 117). -/
def kCollect (fs : List Field) (s : State) : State :=
  match fs with
  | [] => s
  | f :: _ =>
    let w := (busRead s f.addr).1
    let t := (busRead s f.addr).2
    withKpf (fun k => { k with sums := fs.foldl (fun l g =>
      Sparse.put 0 g.key ((Sparse.get 0 g.key l + g.of w) % 2 ^ 32) l) k.sums }) t

/-- A sum. -/
def kSum (s : State) (f : Field) : Nat := Sparse.get 0 f.key s.kpf.sums

/-- A Moraine record that KPF writes on its own account: the spec gives neither its codes nor its DATA.
DESIGN CHOICE (log 87). -/
def kRecord (what : Nat) (s : State) : State :=
  (commitRecord (0x80 + Config.recordField what 0 % 0x80) (Config.recordField what 1 % 7)
    (Config.recordField what 2 % 2 ^ 16) ((leBytes 16 s.freeVal).map (·.toNat)) s.drawn).2

/-! ### The identity page and posts (R383, R399) -/

/-- A feature of the model (R383). DEDUCED (log 80). -/
def feature (s : State) (b : Nat) : Bool := s.board.features.testBit b

/-- FLAGS of the identity page. -/
def identFlags (s : State) : List Byte :=
  flagByte [s.on Reg.SEC_BOOTINFO.FALLBACK, s.on Reg.NVC_BOOTST.TRIAL, s.kpf.sealed, s.on Reg.SEC_LCS.DBGOPENED]

/-- GROUPS: every group, or in ROM recovery the one that is answered. -/
def groupMap (s : State) : Nat := if s.kpf.state = 3 then 0x0800 else 0x3FFE

/-- Window offsets 0x10 to 0x3F. -/
def identPage (s : State) : List Byte :=
  b4 s.kpf.version ++ [4, 0] ++ b1 s.kpf.state ++ identFlags s ++ b4 s.kpf.restarts ++ b2 (groupMap s)
    ++ b1 s.kpf.events.length ++ b1 s.kpf.ovf.toNat ++ b4 (s.board.features % 0x1000) ++ zeros 28

/-- The bytes of `new` that differ from `old`, by target from `base`; an `old` that is empty differs everywhere. -/
def changed (base : Nat) (old new : List Byte) : List (Nat × Nat) :=
  ((List.range new.length).filterMap fun i =>
    match new[i]? with
    | some b => if old[i]? = some b then none else some (base + i, b.toNat)
    | none => none)

/-- The bytes of a post that set EVSTAT bits. -/
def evPost (bits : Nat) : List (Nat × Nat) :=
  (List.range 4).filterMap fun i => if bitsOf bits (8 * i) 8 = 0 then none else some (8 + i, bitsOf bits (8 * i) 8)

/-- KPF posts, with what has changed in the identity page.  With HOST off nothing is posted, and all of it is new to
the host that comes up. -/
def kPost (q : Post) (s : State) : State :=
  if !s.hostOn then withKpf (fun k => { k with page := [], keyWin := [], ecImage := [], queries := [] }) s
  else
    let page := identPage s
    let d : Post := { bytes := changed 0x10 s.kpf.page page }
    withKpf (fun k => { k with page := page }) (postClose (postItem (d.merge q) (postOpen s)))

/-- The identity page is posted when it changed. -/
def kPage (s : State) : State := if s.hostOn && identPage s == s.kpf.page then s else kPost {} s

/-- EVSTAT bits. -/
def evDone : Nat := 0
def evEvent : Nat := 1
def evKey : Nat := 2
def evBulk : Nat := 3
def evPower : Nat := 4
def evThermal : Nat := 5
def evPd : Nat := 6
def evModule : Nat := 7
def evFlash : Nat := 8
def evUpdate : Nat := 9
def evLight : Nat := 10
def evKeyState : Nat := 11
def evRestart : Nat := 12

/-- An event record enters the queue of 64, or is dropped with EVQOVF set; its post sets `bit` (R399, R400).  The
boot ROM, which answers no GET_EVENTS, keeps no queue (R382). DEDUCED (log 85). -/
def kEvent (e : KpfEvent) (bit : Option Nat) (s : State) : State :=
  if s.kpf.state = 3 then s
  else if 64 ≤ s.kpf.events.length then kPage (withKpf (fun k => { k with ovf := true }) s)
  else
    let first := s.kpf.events.isEmpty
    let bits := (if first then 2 ^ evEvent else 0) + bit.elim 0 (2 ^ ·)
    kPost { bytes := evPost bits } (withKpf (fun k => { k with events := k.events ++ [e] }) s)

/-- A query code is due (R402). -/
def kQuery (c : Nat) (s : State) : State :=
  withKpf (fun k => { k with queries := if k.queries.contains c then k.queries else k.queries ++ [c] }) s

/-- The query codes that posts will push. -/
def pendingPushes (s : State) : List Byte :=
  (s.link.closed.elim [] (·.pushes)) ++ (s.link.opened.elim [] (·.pushes))

/-- Query codes that are due are pushed as the queue has room; one that is in the queue already is not (R402). -/
def kPush (s : State) : State :=
  let there := s.ec.qq ++ pendingPushes s
  let due := (s.kpf.queries.map (BitVec.ofNat 8 ·)).filter fun c => !there.contains c
  let room := 8 - there.length
  let s := withKpf (fun k => { k with queries := (due.drop room).map (·.toNat) }) s
  if (due.take room).isEmpty then s else kPost { pushes := due.take room } s

/-! ### Results (R378) -/

def rsOk : Nat := 0
def rsAccepted : Nat := 1
def rsBusy : Nat := 2
def rsBadCommand : Nat := 3
def rsBadLength : Nat := 4
def rsBadParam : Nat := 5
def rsDenied : Nat := 6
def rsNotPresent : Nat := 7
def rsBusyOther : Nat := 8
def rsCorrupt : Nat := 9
def rsTimeout : Nat := 10
def rsUnsupported : Nat := 11
def rsFaulted : Nat := 12

/-! ### The commands of the table (R379 to R382, R385 to R398) -/

/-- What KPF checks of a command before it carries it out. -/
structure KpfRow where
  code : Nat
  /-- Fixed layout length, and what a count at an offset (width in bytes) adds to it by unit. -/
  size : Nat
  count : Option (Nat × Nat × Nat) := none
  platform : Bool := false
  long : Bool := false
  /-- FEATURES bits, one of which the command needs; none, when it needs none. -/
  features : List Nat := []
  deriving DecidableEq, Repr

/-- Every command. -/
def kpfTable : List KpfRow :=
  [{ code := 0x0101, size := 0 }, { code := 0x0102, size := 1 }, { code := 0x0103, size := 1 },
   { code := 0x0104, size := 0 }, { code := 0x0105, size := 0 }, { code := 0x0106, size := 0, platform := true },
   { code := 0x0201, size := 0 }, { code := 0x0202, size := 1 }, { code := 0x0203, size := 1, platform := true },
   { code := 0x0204, size := 0, platform := true }, { code := 0x0205, size := 8, platform := true },
   { code := 0x0206, size := 2, platform := true, long := true },
   { code := 0x0301, size := 0 }, { code := 0x0302, size := 0 }, { code := 0x0303, size := 0 },
   { code := 0x0304, size := 0, platform := true }, { code := 0x0305, size := 8 }]
  ++ [{ code := 0x0401, size := 1, features := [2, 3] }, { code := 0x0402, size := 1, features := [2, 3] },
   { code := 0x0403, size := 6, platform := true, long := true, features := [2, 3] },
   { code := 0x0404, size := 4, count := some (2, 1, 4), long := true, features := [2, 3] },
   { code := 0x0405, size := 1, features := [2, 3] },
   { code := 0x0406, size := 12, platform := true, features := [2, 3] },
   { code := 0x0407, size := 8, features := [2, 3] },
   { code := 0x0501, size := 0 }, { code := 0x0502, size := 0 }, { code := 0x0503, size := 4 },
   { code := 0x0504, size := 1 }, { code := 0x0505, size := 1 },
   { code := 0x0601, size := 0 }, { code := 0x0602, size := 100, platform := true },
   { code := 0x0603, size := 0, features := [7] }, { code := 0x0604, size := 272, features := [7] },
   { code := 0x0605, size := 100, platform := true, features := [7] }]
  ++ [{ code := 0x0701, size := 0, features := [0] }, { code := 0x0702, size := 8, features := [0] },
   { code := 0x0703, size := 12, features := [0] }, { code := 0x0704, size := 20, platform := true, features := [0] },
   { code := 0x0705, size := 24, features := [1] }, { code := 0x0706, size := 0, long := true, features := [1] },
   { code := 0x0707, size := 1, features := [1] }, { code := 0x0708, size := 4, features := [0] },
   { code := 0x0709, size := 2, features := [0] },
   { code := 0x0801, size := 1, features := [5, 6] }, { code := 0x0802, size := 4, features := [5, 6] },
   { code := 0x0803, size := 4, count := some (3, 1, 1), platform := true, features := [5, 6] },
   { code := 0x0804, size := 1, platform := true, features := [5, 6] }]
  ++ [{ code := 0x0901, size := 0 }, { code := 0x0902, size := 272, long := true }, { code := 0x0903, size := 32, long := true },
   { code := 0x0904, size := 2 }, { code := 0x0905, size := 0 }, { code := 0x0906, size := 0 },
   { code := 0x0A01, size := 0, features := [9] }, { code := 0x0A02, size := 0, long := true, features := [9] },
   { code := 0x0A03, size := 0, features := [9] }, { code := 0x0A04, size := 0, features := [9] },
   { code := 0x0A05, size := 2, features := [9] },
   { code := 0x0B01, size := 56 }, { code := 0x0B02, size := 12, count := some (4, 2, 1) },
   { code := 0x0B03, size := 0 }, { code := 0x0B04, size := 0, long := true },
   { code := 0x0B05, size := 0, platform := true }, { code := 0x0B06, size := 0 },
   { code := 0x0C01, size := 0 }, { code := 0x0C02, size := 4 }, { code := 0x0C03, size := 20 },
   { code := 0x0D01, size := 2 }, { code := 0x0D02, size := 4, count := some (2, 2, 1) }, { code := 0x0D03, size := 2 }]

/-- The row of a code. -/
def kpfRow (code : Nat) : Option KpfRow := kpfTable.find? fun r => r.code == code

/-- The model's FEATURES let the command be answered; every command of group 7 needs bit 0 besides (R392).
DEDUCED (log 80). -/
def rowFeature (s : State) (r : KpfRow) : Bool :=
  (r.features.isEmpty || r.features.any (feature s)) && (r.code / 256 != 7 || feature s 0)

/-- The profile answers the command (R382). -/
def rowProfile (state : Nat) (code : Nat) : Bool :=
  match state with
  | 1 => true
  | 2 => [1, 0xB, 0xC].contains (code / 256) || [0x301, 0x302, 0x501, 0x502].contains code
  | 3 => [0xB01, 0xB02, 0xB03].contains code
  | _ => false

/-! ### Requests and answers (R97, R101, R377) -/

/-- A request as KPF reads it: tag, FLAGS, AUX and the LEN bytes of its payload. -/
structure KpfReq where
  tag : Nat
  flags : Nat
  aux : Nat
  body : List Byte
  deriving DecidableEq, Repr

/-- Fields of a request. -/
def KpfReq.u8 (q : KpfReq) (i : Nat) : Nat := natAt q.body i 1
def KpfReq.u16 (q : KpfReq) (i : Nat) : Nat := natAt q.body i 2
def KpfReq.u32 (q : KpfReq) (i : Nat) : Nat := natAt q.body i 4

/-- The request in mailbox `t`. -/
def readReq (s : State) (t : Nat) : KpfReq where
  tag := t
  flags := (s.byte (boxAddr t 6)).toNat % 16
  aux := s.loadNat (boxAddr t 12) 4
  body := s.bytes (boxAddr t 16) (min (boxLen s t) 496)

/-- The layout's length for a request, counted from what the request itself says. -/
def KpfRow.length (r : KpfRow) (q : KpfReq) : Nat :=
  match r.count with
  | some (off, n, unit) => r.size + natAt q.body off n * unit
  | none => r.size

/-- FLAGS.QUIET of tag `t`'s request. DEDUCED (log 89). -/
def quiet (s : State) (t : Nat) : Bool := (s.byte (boxAddr t 6)).toNat.testBit 0

/-- KPF completes tag `t`: RESULT, RLEN and payload, one post with MBX_DONE and the completion bit (R101, R399). It
keeps the response, for a RESEND, in place of the tag's earlier one, and none with NOSTORE (R106, R108). -/
def kAnswer (t result : Nat) (resp : List Byte) (nostore : Bool) (s : State) : State :=
  let s := { s with mbx := { s.mbx with taken := s.mbx.taken.filter (· != t) } }
  if tagState s t ≠ tagOwned then s
  else
    let s := (s.setByte (boxAddr t 7) (BitVec.ofNat 8 result)).storeNat (boxAddr t 8) 2 resp.length
    let s := s.setBytes (boxAddr t 16) resp
    let s := withKpf (fun k => { k with
      stored := Sparse.put [] t (if nostore then [] else BitVec.ofNat 8 result :: resp) k.stored }) s
    kPost { bytes := if quiet s t then [] else evPost (2 ^ evDone), dones := [(t, nostore)] } s

/-- A RESEND is answered from the stored response, or FAULTED without one (R106). DEDUCED (log 33). -/
def kResend (t : Nat) (s : State) : State :=
  match Sparse.get [] t s.kpf.stored with
  | r :: resp => kAnswer t r.toNat resp false s
  | [] => kAnswer t rsFaulted [] false s

/-- The words of a request with a parity error, if any (R108). -/
def reqBad (s : State) (t : Nat) : Bool :=
  (s.firstBad (boxAddr t 0) (16 + (min (boxLen s t) 496 + 3) / 4 * 4)).isSome

/-- The checks that stand before any command, in order; none when it may be carried out. DEDUCED (log 79). -/
def reqRefusal (s : State) (r : KpfRow) (q : KpfReq) : Option Nat :=
  let n := r.length q
  if !rowProfile s.kpf.state r.code then some (if s.kpf.state = 2 then rsFaulted else rsBadCommand)
  else if !rowFeature s r then some rsUnsupported
  else if r.platform && s.kpf.sealed then some rsDenied
  else if q.body.length < r.size ∨ q.body.length < n then some rsBadLength
  else if 1 < q.flags ∨ !(q.body.drop n).all (· == 0) then some rsBadParam
  else if r.long && s.kpf.jobs.any (fun j => j.code == r.code) then some rsBusy
  else none

/-- The outcome of a command: an answer, or none while it waits. -/
abbrev KpfAct := KpfReq → State → Option (Nat × List Byte) × State

/-- Answer OK with a response; with another result. -/
def kOk (resp : List Byte) (s : State) : Option (Nat × List Byte) × State := (some (rsOk, resp), s)
def kNo (result : Nat) (s : State) : Option (Nat × List Byte) × State := (some (result, []), s)

/-- A long-running command starts: it is answered ACCEPTED, and its completion follows (R380). -/
def kJob (code : Nat) (q : KpfReq) (due arg : Nat) (data : List Byte) (s : State) :
    Option (Nat × List Byte) × State :=
  (some (rsAccepted, []),
    withKpf (fun k => { k with jobs := k.jobs ++ [⟨code, q.tag, q.aux, due, arg, data⟩] }) s)

/-- The answer of command waits for a module or for LUX. -/
def kWait (w : KpfWait) (s : State) : Option (Nat × List Byte) × State :=
  (none, withKpf (fun k => { k with wait := some w }) s)

/-- Nothing follows the answer. -/
def noMore (_ : Nat) (s : State) : State := s

/-- KPF takes every tag that is rung (R381); a tag that HOST power-up freed is no longer its own. DEDUCED (log 35). -/
def kTake (s : State) : State :=
  mbxTake 0xFF { s with mbx := { s.mbx with taken := s.mbx.taken.filter fun t => tagState s t == tagOwned } }

/-- A tag that KPF comes to: a RESEND is answered from what is stored, a request with a parity error CORRUPT; any other
goes to `serve`. DEDUCED (log 33). -/
def kReached (t : Nat) (serve : State → State) (s : State) : State :=
  if s.on (Reg.MBX_TAGINFO.RESEND t) then kResend t s
  else if reqBad s t then
    kAnswer t rsCorrupt [] true ((s.set Reg.MBX_STAT.REQPAR).set Reg.ERR_MEMSTAT.MBXRAM)
  else serve s

/-- KPF carries out the command of a row that stands first in the tags it took; `after` follows the answer it gave,
by its result. DEDUCED (log 33). -/
def kServe (r : KpfRow) (act : KpfAct) (after : Nat → State → State) (t : Nat) (s : State) : State :=
  kReached t (fun s =>
    let q := readReq s t
    match reqRefusal s r q with
    | some result => kAnswer t result [] false s
    | none =>
      match act q s with
      | (some (result, resp), s') => after result (kAnswer t result resp false s')
      | (none, s') => s') s

/-- A KPF command: it is carried out if it is the one that KPF comes to next; else nothing happens.
DEDUCED (log 35). -/
def kCommand (code : Nat) (act : KpfAct) (after : Nat → State → State) (tag : Nat) (s0 : State) : State :=
  if !kpfRuns s0 then s0
  else
    let s := kTake s0
    match s.kpf.wait, s.mbx.taken.head?, kpfRow code with
    | none, some t, some r => if t = tag ∧ boxCmd s t = code then kServe r act after t s else s
    | _, _, _ => s

/-- The answer to a code that no row has, which has no layout to check: BAD_COMMAND (R378), and FAULTED where the safe
profile answers any other command so (R382). DEDUCED (log 79). -/
def unknownResult (state code : Nat) : Nat := if state = 2 ∧ !rowProfile state code then rsFaulted else rsBadCommand

/-- A command that no row has. -/
def kUnknown (s : State) : State :=
  match s.kpf.wait, s.mbx.taken.head? with
  | none, some t =>
    if (kpfRow (boxCmd s t)).isSome then s
    else kReached t (fun s => kAnswer t (unknownResult s.kpf.state (boxCmd s t)) [] false s) s
  | _, _ => s

/-- The answer that waited. -/
def kWaited (result : Nat) (resp : List Byte) (s : State) : State :=
  match s.kpf.wait with
  | some w => kAnswer w.tag result resp false (withKpf (fun k => { k with wait := none }) s)
  | none => s

/-- A long-running command completes (R380). -/
def kComplete (code result : Nat) (data : List Byte) (s : State) : State :=
  match s.kpf.jobs.find? fun j => j.code == code with
  | none => s
  | some j =>
    kEvent ⟨2, j.tag, result, j.aux, ((b2 code ++ data ++ zeros 6).take 8).map (·.toNat)⟩ none
      (withKpf (fun k => { k with jobs := k.jobs.filter fun i => i.code != code }) s)

/-- The job of a code. -/
def jobOf (s : State) (code : Nat) : Option KpfJob := s.kpf.jobs.find? fun j => j.code == code

/-- Tags that KPF has completed in a post that was lost are completed again, as they were: CORRUPT with NOSTORE, and
without the completion bit for a QUIET command (R102, R108, R377). -/
def kRepeat (s : State) : State :=
  let posted := ((s.link.closed.elim [] (·.dones)) ++ (s.link.opened.elim [] (·.dones))).map (·.1)
  (List.range 8).foldl (fun s t =>
    if tagState s t = tagOwned ∧ !posted.contains t ∧ !s.mbx.taken.contains t ∧ (s.kpf.wait.map (·.tag)) ≠ some t then
      kPost { bytes := if quiet s t then [] else evPost (2 ^ evDone)
              dones := [(t, (s.byte (boxAddr t 7)).toNat == rsCorrupt)] } s
    else s) s

/-! ### Hand-over (R111, R365) -/

/-- An item of the block, of IVER 1. -/
def itemBytes (type : Nat) (v : List Byte) : List Byte :=
  b2 type ++ b1 1 ++ b1 0 ++ b4 v.length ++ v ++ zeros ((4 - v.length % 4) % 4)

/-- The known items of a block: TYPE and content.  An item of another IVER is skipped. -/
def itemsIn : Nat → List Byte → List (Nat × List Byte)
  | 0, _ => []
  | n + 1, b =>
    if b.length < 8 then []
    else
      let len := natAt b 4 4
      let rest := itemsIn n (b.drop (8 + (len + 3) / 4 * 4))
      if natAt b 2 1 = 1 then (natAt b 0 2, (b.drop 8).take len) :: rest else rest

/-- Records one after the other: what one is, and its size. -/
def recordsIn {α : Type} (one : List Byte → α) (size : List Byte → Nat) : Nat → List Byte → List α
  | 0, _ => []
  | n + 1, b => if b.isEmpty then [] else one b :: recordsIn one size n (b.drop (size b))

/-- A completion that is pending, and its form in item 0x0002. -/
def jobBytes (j : KpfJob) : List Byte :=
  b2 j.code ++ b1 j.tag ++ b1 0 ++ b4 j.aux ++ b8 j.due ++ b4 j.arg ++ b4 j.data.length ++ j.data
def jobIn (b : List Byte) : KpfJob :=
  ⟨natAt b 0 2, natAt b 2 1, natAt b 4 4, natAt b 8 8, natAt b 16 4, (b.drop 24).take (natAt b 20 4)⟩
def jobSize (b : List Byte) : Nat := 24 + natAt b 20 4

/-- The stored response of a tag, and its form in item 0x0003. -/
def storedBytes (p : Nat × List Byte) : List Byte := b2 p.1 ++ b2 p.2.length ++ p.2
def storedIn (b : List Byte) : Nat × List Byte := (natAt b 0 2, (b.drop 4).take (natAt b 2 2))
def storedSize (b : List Byte) : Nat := 4 + natAt b 2 2

/-- A module of the table and its form in item 0x0004: port, identifier, class, key entry, flags, UID, order. -/
def modBytes (m : KpfModule) : List Byte :=
  b1 m.port ++ b1 m.id ++ b1 m.cls ++ b1 m.entry ++ flagByte [m.phase == .admitted, m.closed] ++ zeros 3 ++ b8 m.uid
    ++ b4 m.order
def modIn (b : List Byte) : KpfModule :=
  { port := natAt b 0 1, id := natAt b 1 1, cls := natAt b 2 1, entry := natAt b 3 1, uid := natAt b 8 8
    order := natAt b 16 4, closed := (natAt b 4 1).testBit 1
    phase := if (natAt b 4 1).testBit 0 then .admitted else .admitting }

/-- A record of the event queue and its form in item 0x0007. -/
def queuedBytes (e : KpfEvent) : List Byte :=
  b2 e.code ++ b1 e.tag ++ b1 e.result ++ b4 e.aux ++ b2 e.data.length ++ b2 0 ++ e.data.map (BitVec.ofNat 8)
def queuedIn (b : List Byte) : KpfEvent :=
  ⟨natAt b 0 2, natAt b 2 1, natAt b 3 1, natAt b 4 4, ((b.drop 12).take (natAt b 8 2)).map (·.toNat)⟩
def queuedSize (b : List Byte) : Nat := 12 + natAt b 8 2

/-- The modules whose sessions a new image takes over. -/
def tableModules (k : Kpf) : List KpfModule := k.modules.filter fun m => m.phase == .admitted || m.phase == .admitting

/-- The items that KPF hands over (R365).  The layout of what they hold is KPF's own. DESIGN CHOICE (log 75). -/
def handItems (k : Kpf) : List Byte :=
  itemBytes 1 (leBytes 8 (k.qCarry % 2 ^ 64).toNat) ++ itemBytes 2 (k.jobs.map jobBytes).flatten
    ++ itemBytes 3 (k.stored.map storedBytes).flatten ++ itemBytes 4 ((tableModules k).map modBytes).flatten
    ++ itemBytes 5 (b8 k.idleRef)
    ++ itemBytes 6 (b2 k.ecImage.length ++ k.ecImage ++ (k.queries.map b1).flatten)
    ++ itemBytes 7 (b1 k.ovf.toNat ++ (k.events.map queuedBytes).flatten)

/-- Every tag that KPF took is answered before it hands over (R111): a RESEND from what is stored (R106), any other
BUSY. DEDUCED (log 90). -/
def answerTaken (s : State) : State :=
  s.mbx.taken.foldl (fun s t =>
    if s.on (Reg.MBX_TAGINFO.RESEND t) then kResend t s else kAnswer t rsBusy [] false s) s

/-- The hand-over block in retained RAM.  Its item 3 holds the responses that the tags will have had when the block is
read (R106, R366). DESIGN CHOICE (log 75). -/
def handBlock (toSlot : Bool) (s : State) : State :=
  let items := handItems (answerTaken s).kpf
  let head := b4 0x4F48544B ++ b2 1 ++ b1 toSlot.toNat ++ b1 0 ++ b4 s.kpf.version ++ b4 items.length
    ++ b4 (crc32 items) ++ zeros 44
  s.setBytes retBase (head ++ items)

/-- FWREADY cleared, every tag that KPF owns completed, and the hand-over requested. DEDUCED (log 90). -/
def handOverNow (s : State) : State :=
  busWrite (answerTaken (kField Reg.MBX_CTRL.FWREADY 0 s)) 0x40000014 (0x5C * 2 ^ 24 + 8)

/-- KPF hands over once the store holds the outgoing format's settings (R366, R370); where it has no room for them, it
gives the hand-over up and drops the block. `between` is what stands between the two. DESIGN CHOICE (log 113). -/
def handOverTo (toSlot : Bool) (between : State → State) (s : State) : Bool × State :=
  match prepareSettings (handBlock toSlot s) with
  | (true, s) => (true, handOverNow (between s))
  | (false, s) => (false, s.setBytes retBase (zeros 64))

/-- KPF restarts the running slot. -/
def restartRunning (s : State) : State := (handOverTo (s.on Reg.SEC_BOOTINFO.SLOT) id s).2

end Sys2Proof.Machine
end

