-- ==== Sys2Proof/Machine/KpfUpdate.lean ====
section
/-! DEFINITION. KPF's staging sessions, pieces, package application, activation and confirmation (R356 to R359, R363
to R366). -/

namespace Sys2Proof.Machine

/-- The kinds of source of a session. -/
def srcHost : Nat := 1
def srcDongle : Nat := 2

/-- Event 0x0080 (R400). -/
def sessionEvent (s : State) : State :=
  kEvent { code := 0x80, data := [sessionState s, 0] ++ ((b2 (storedPieces s).length).map (·.toNat)) ++ [0, 0, 0, 0] }
    (some evUpdate) s

/-- A session opens anew with this source as owner. -/
def sessionStart (src : Nat × Nat) (digest : List Byte) (plen : Nat) (s : State) : State :=
  sessionEvent (withKpf (fun k => { k with members := [src], idleRef := s.tbase, autoAct := false, piece := [], unit := [] })
    (sessionNew src.1 src.2 digest plen s))

/-- A request to open or join (R357). -/
def sessionRequest (src : Nat × Nat) (digest : List Byte) (plen : Nat) (s : State) : Nat × State :=
  let s := kpfScan sessionOff 4096 s
  if plen < 256 ∨ 512000 < plen then (rsBadParam, s)
  else if !sessionOpen s then (rsOk, sessionStart src digest plen s)
  else if sessionDigest s = digest then
    (rsOk, withKpf (fun k => { k with members := if k.members.contains src then k.members else k.members ++ [src] }) s)
  else if sessionOwner s = src then (rsOk, sessionStart src digest plen (sessionEvent (mark mkCancelled s)))
  else (rsBusyOther, s)

/-! ### Activation (R366) and confirmation (R363, R364) -/

/-- The latest boot-control record has a state. -/
def bootStateIs (s : State) (st : Nat) : Bool := (latestBoot s).any fun r => r.state == st

/-- FLAGS.ARBNOW of the staged package (R353). -/
def stagedArbNow (s : State) : Bool := (natAt (stagedPackage s) 7 1).testBit 0

/-- The applied package is activated: hand-over block, settings, TRIAL, hand-over. KPF remembers the package's ARBNOW.
A hand-over given up ends the command with FAULTED. DESIGN CHOICE (log 73, 113). -/
def activate (s : State) : State :=
  let active := s.on Reg.SEC_BOOTINFO.SLOT
  let s := kpfScan firnStaging 256 (kpfScan sessionOff 4096 s)
  let s := withKpf (fun k => { k with arbNow := some (stagedArbNow s) }) s
  match handOverTo (!active) (appendBoot (!active) active bcTrial) s with
  | (true, s) => s
  | (false, s) => kComplete 0x0B04 rsFaulted [] s

/-- The slot that runs is on trial: the latest record is STARTED and names it. -/
def onTrial (s : State) : Bool :=
  (latestBoot s).any fun r => r.state == bcStarted && r.slot == s.on Reg.SEC_BOOTINFO.SLOT

/-- The package that brought the slot on trial carried ARBNOW: as KPF remembers it, and after a cold reset as staging
still shows it. DEDUCED (log 73). -/
def broughtArbNow (s : State) : Bool := s.kpf.arbNow.getD (sessionValid s && marked s mkApplied && stagedArbNow s)

/-- The SVN that FWARB advances to after a confirmation (R364). -/
def arbTarget (s : State) : Nat :=
  let svns := [false, true].filterMap fun b => if slotFails s b = 0 then some (imageSvn s b) else none
  if broughtArbNow s then s.rd Reg.SEC_BOOTINFO.SVN else svns.foldl min 64

/-- What KPF reads to find that SVN, by checked reads: the session, the staged header and both slots (R350). -/
def readSlots (s : State) : State :=
  let s := kpfScan firnStaging 256 (kpfScan sessionOff 4096 s)
  kpfScan (firnSlot true) (imageLen s true) (kpfScan (firnSlot false) (imageLen s false) s)

/-- KPF confirms the slot it runs in: the record, CONFIRM with its key, and FWARB. DEDUCED (log 73). -/
def confirmSlot (s : State) : State :=
  let slot := s.on Reg.SEC_BOOTINFO.SLOT
  let s := appendBoot slot ((latestBoot s).elim slot (·.prev)) bcConfirmed s
  let s := readSlots (busWrite s 0x40100024 (0xC5 * 2 ^ 24 + 2))
  withKpf (fun k => { k with arbNow := none })
    (kWrite 0x400E0014 [(Reg.SEC_ARBADV.FWTGT, arbTarget s), (Reg.SEC_ARBADV.GOFW, 1)] s)

/-- Setting HOSTCONF (R363, R398). DEDUCED (log 73). -/
def hostConf (s : State) : Bool := ((settingOf s 0x0010).getD []).headD 0 != 0

/-! ### Pieces (R358) and application (R359) -/

/-- The package is applied: the result goes into the slot that does not run, and the session ends APPLIED or FAILED.
In ROM recovery a domain reset follows a success (R362). -/
def applyPackage (s : State) : State :=
  let recovery := s.kpf.state == 3
  let auto := s.kpf.autoAct
  let s := kpfScan sessionOff 4096 (kpfScan firnStaging (sessionLen s) s)
  let r := if packageChecks s recovery then packageWrite recovery s else (false, s)
  let s := r.2
  if r.1 then
    let s := sessionEvent (mark mkApplied s)
    if recovery then busWrite s 0x40000014 (0x5C * 2 ^ 24 + 2)
    else if auto && !bootStateIs s bcStarted then activate s else s
  else
    let s := mark mkFailed s
    if recovery then s else sessionEvent (kRecord 1 s)

/-- Every piece is stored: COMPLETE, which is a change of the session's state (R400), then the application. -/
def completePackage (s : State) : State :=
  if (storedPieces s).length = sessionPieces s ∧ sessionState s = 1 then applyPackage (sessionEvent (mark mkComplete s))
  else s

/-- The length of piece `i`. -/
def pieceLen (s : State) (i : Nat) : Nat := min 4096 (sessionLen s - 4096 * i)

/-- How a delivered piece fares. -/
inductive PieceEnd where
  | notMember | refused | stored | already
  deriving DecidableEq

/-- A delivered piece (R358), but for the application that the last one brings. -/
def storePiece (src : Nat × Nat) (i : Nat) (data : List Byte) (crc : Nat) (s : State) : PieceEnd × State :=
  if !sessionOpen s ∨ !s.kpf.members.contains src then (.notMember, s)
  else if sessionPieces s ≤ i ∨ data.length ≠ pieceLen s i ∨ crc32 data ≠ crc then (.refused, s)
  else if pieceStored s i then (.already, s)
  else
    let s := programFirn (pieceOff i) data (s.eraseFirn (pieceOff i) (pieceOff i + 4096))
    let s := kpfScan (pieceOff i) data.length s
    if crc32 (s.firnBytes (pieceOff i) data.length) ≠ crc then (.refused, s)
    else
    let s := s.programWord ((sessionOff + 0x100) / 8 + i) (crc + 2 ^ 32 * i + 2 ^ 48 * 0xA5A5)
    if pieceStored s i then (.stored, withKpf (fun k => { k with idleRef := s.tbase }) s) else (.refused, s)

/-- Bytes of the write FIFO for a firmware target move into KPF's memory. -/
def takeUnit (s : State) : State :=
  let before := bulkCredit s
  let r := bulkTake s 4096
  withKpf (fun k => { k with unit := k.unit ++ r.1 }) (creditHalf before r.2)

/-- A unit of target 5 that the host closed is delivered as a piece, and acknowledged (R355, R358). -/
def unitDelivered (s : State) : State :=
  if bulkTarget s ≠ 5 then s
  else
    let s := takeUnit s
    if !s.bulk.closeReq then s
    else
      let u := s.kpf.unit
      let n := u.length - 4
      let a := s.rd Reg.HW_BULK_ADDR.ADDR
      let r := if a % 4096 = 0 ∧ 4 ≤ u.length ∧ !bulkErr s then
          storePiece (srcHost, 0) (a / 4096) (u.take n) (leNat (u.drop n)) s
        else (.refused, s)
      let bad := r.1 == .notMember || r.1 == .refused
      completePackage (withKpf (fun k => { k with unit := [] }) (bulkAck true bad r.2))

/-- An open session ends after 72 h without a new piece (R357). DEDUCED (log 84). -/
def sessionIdle (s : State) : State :=
  if sessionOpen s && s.kpf.idleRef + 72 * 3600 * 1000000 ≤ s.tbase then sessionEvent (mark mkCancelled s) else s

/-- KPF confirms a trial on its own after 10 s with FWREADY set and no first watchdog stage (R363). -/
def autoConfirm (s : State) : State :=
  if onTrial s && s.on Reg.MBX_CTRL.FWREADY && s.rd Reg.TMR_WDSTAT.STAGE == 0
      && s.kpf.readyAt + 10000000 ≤ s.tbase then
    let s := kpfScan firnSettings 0x40000 s
    if hostConf s then s else confirmSlot s
  else s

end Sys2Proof.Machine
end

