-- ==== Sys2Proof/Machine/KpfFloe.lean ====
section
/-! DEFINITION. KPF on the Floe bus: enumeration, authentication, secured traffic and battery modules (R191, R280, R285
to R292, R360). -/

namespace Sys2Proof.Machine

/-! ### The module list -/

/-- The module with an identifier on a port. -/
def findMod (s : State) (p id : Nat) : Option KpfModule := s.kpf.modules.find? fun m => m.port == p && m.id == id

/-- Replace a module. -/
def putMod (old new : KpfModule) (s : State) : State :=
  withKpf (fun k => { k with modules := k.modules.map fun m =>
    if m.port = old.port ∧ m.id = old.id ∧ m.uid = old.uid then new else m }) s

/-- A module's object as a number; 0 while it has not been read. -/
def modObj (m : KpfModule) (o : Nat) : Nat := leNat (Sparse.get [] o m.objs)

/-- A battery module that is admitted. -/
def isBattery (m : KpfModule) : Bool := m.cls == 1 && m.phase == .admitted

/-- The battery modules whose switch is commanded closed. -/
def connected (s : State) : List KpfModule := s.kpf.modules.filter fun m => isBattery m && m.closed

/-- Chemistry, cells and epoch, which both have reported, agree, and the cells are the straps' (R191). -/
def sameKind (s : State) (a b : KpfModule) : Bool :=
  [1, 2, 3].all (fun o => !(Sparse.get [] o a.objs).isEmpty && !(Sparse.get [] o b.objs).isEmpty
    && modObj a o == modObj b o) && modObj a 2 == cells s

/-- The voltages are close enough. DEDUCED (log 48). -/
def sameVolt (s : State) (a b : KpfModule) : Bool :=
  modObj a 4 - modObj b 4 ≤ 50 * cells s && modObj b 4 - modObj a 4 ≤ 50 * cells s
    && !(Sparse.get [] 4 a.objs).isEmpty && !(Sparse.get [] 4 b.objs).isEmpty

/-- KPF may close a module's switch (R191): no other is closed and it authenticated first, or the one other that is
closed goes with it. DEDUCED (log 48). -/
def mayClose (s : State) (m : KpfModule) : Bool :=
  match (connected s).filter fun o => o.port != m.port || o.id != m.id with
  | [] => s.kpf.modules.all fun o => !isBattery o || m.order ≤ o.order
  | [o] => sameKind s m o && sameVolt s m o
  | _ => false

/-- STATE of a pack in GET_PACKS: 0 connected, 1 held off, 2 MATCHWAIT. -/
def packState (s : State) (m : KpfModule) : Nat :=
  if m.closed then 0
  else
    match connected s with
    | [o] => if sameKind s m o && !sameVolt s m o then 2 else 1
    | _ => 1

/-- STATE of a module in GET_MODULES (R393). -/
def modState (s : State) (m : KpfModule) : Nat :=
  if m.phase = .admitted then
    if m.cls = 1 ∧ !m.closed then (if packState s m = 2 then 4 else 3) else 1
  else if 3 ≤ m.rejects then 2 else 0

/-- The modules that are listed: all but newcomers. -/
def listed (s : State) : List KpfModule := s.kpf.modules.filter fun m => m.phase != .newcomer

/-- The module list changed (R400, R402). -/
def modEvent (m : KpfModule) (s : State) : State :=
  kQuery 9 (kEvent { code := 0x60, data := [m.port, m.id, modState s m, 0, 0, 0, 0, 0] } (some evModule) s)

/-- A module is gone: its key entry is invalid and its identifier free. -/
def dropMod (m : KpfModule) (s : State) : State :=
  let s := if m.phase = .admitted ∨ m.phase = .admitting then busWrite s (0x400B1000 + 0x40 * m.entry) 0 else s
  let s := withKpf (fun k => { k with modules := k.modules.filter fun o =>
    !(o.port == m.port && o.id == m.id && o.uid == m.uid) }) s
  if m.phase = .newcomer then s else modEvent { m with closed := false, objs := [] } s

/-! ### Sending -/

/-- KPF can send on a port. -/
def canSend (s : State) (p : Nat) : Bool :=
  kpfRuns s && feature s (5 + p) && s.on (Reg.FLOE_PCFG.EN p) && !s.on (Reg.FLOE_TXCTL.BUSY p)

/-- KPF sends a frame. -/
def kFrame (p dst type : Nat) (sec : Bool) (payload : List Byte) (s : State) : State :=
  let a := 0x400B0100 + 0x100 * p
  let s := busWrite s (a + 0x18) (dst + 2 ^ 8 * type + 2 ^ 12 * sec.toNat + 2 ^ 16 * payload.length)
  let s := (List.range ((payload.length + 3) / 4)).foldl (fun s k =>
    busWrite s (a + 0x40 + 4 * k) (leNat ((payload.drop (4 * k)).take 4))) s
  busWrite s (a + 0x1C) 1

/-- A secured DATA frame to a module (R291). -/
def kData (m : KpfModule) (op obj : Nat) (value : List Byte) (s : State) : State :=
  kFrame m.port m.id 8 true (b1 op ++ b1 obj ++ value) s

/-- An authentication message's frame (R288). -/
def kAuth (m : KpfModule) (msg off : Nat) (data : List Byte) (s : State) : State :=
  kFrame m.port m.id 4 false (b1 msg ++ b1 off ++ data) s

/-! ### Enumeration (R285, R286) -/

/-- DISCOVER on a port; with RESTART every session and identifier is dropped. -/
def discoverPort (p : Nat) (restart : Bool) (s : State) : State :=
  let s := if restart then (s.kpf.modules.filter (·.port == p)).foldl (fun s m => dropMod m s) s
    else (s.kpf.modules.filter fun m => m.port == p && m.phase != .admitted && m.phase != .admitting).foldl (fun s m =>
      if 3 ≤ m.missed then dropMod m s else putMod m { m with missed := m.missed + 1 } s) s
  let s := withKpf (fun k => { k with
    restarted := if k.restarted.contains p then k.restarted else k.restarted ++ [p]
    discAt := Sparse.put 0 p s.tbase k.discAt }) s
  kFrame p 0xFF 1 false (b1 restart.toNat) s

/-- KPF's DISCOVER: with RESTART once after each port enable, then every second. -/
def discoverDue (p : Nat) (s : State) : State :=
  if !canSend s p then s
  else if !s.kpf.restarted.contains p then discoverPort p true s
  else if Sparse.get 0 p s.kpf.discAt + 1000000 ≤ s.tbase then discoverPort p false s
  else s

/-- A module announces itself. -/
def presence (p src : Nat) (b : List Byte) (s : State) : State :=
  if b.length < 12 then s
  else
    let uid := natAt b 0 8
    let m : KpfModule := { port := p, id := src, uid := uid, cls := natAt b 8 1 }
    if src = 0xFE then
      let s := (s.kpf.modules.filter fun o => o.port == p && o.uid == uid && o.phase != .admitted).foldl
        (fun s o => dropMod o s) s
      withKpf (fun k => { k with modules := k.modules ++ [m] }) s
    else
      match findMod s p src with
      | some o => putMod o { o with missed := 0 } s
      | none => modEvent { m with phase := .stranger } (withKpf (fun k => { k with
          modules := k.modules ++ [{ m with phase := .stranger, since := s.tbase }] }) s)

/-- An identifier is held on a port, or promised to a module whose ADMIT has not been sent (R279). -/
def idTaken (s : State) (p i : Nat) : Bool :=
  s.kpf.modules.any fun m => m.port == p && (m.id == i || (m.phase == .confGood && m.newId == i))

/-- The lowest free identifier from `lo` to `hi`. -/
def freeId (s : State) (p lo hi : Nat) : Option Nat :=
  ((List.range (hi + 1 - lo)).map (lo + ·)).find? fun i => !idTaken s p i

/-- QASSIGN to a newcomer (R280, R285). -/
def quarantine (p uid : Nat) (s : State) : State :=
  match s.kpf.modules.find? fun m => m.port == p && m.phase == .newcomer && m.uid == uid, freeId s p 0xF0 0xFD with
  | some m, some q =>
    if !canSend s p then s
    else
      let n := { m with id := q, phase := .stranger, since := s.tbase, missed := 0 }
      modEvent n (putMod m n (kFrame p 0xFE 3 false (b8 uid ++ b1 q) s))
  | _, _ => s

/-! ### Authentication (R287 to R290) -/

/-- A stranger may be asked for its certificate: it is new, or 60 s have passed since its last REJECT, of fewer than
three. -/
def certDue (s : State) (m : KpfModule) : Bool :=
  m.phase == .stranger && (m.rejects == 0 || (m.rejects < 3 && m.since + 60000000 ≤ s.tbase))

/-- CERT_REQ. -/
def certRequest (p id : Nat) (s : State) : State :=
  match findMod s p id with
  | some m =>
    if canSend s p && certDue s m then
      putMod m { m with phase := .certWait, since := s.tbase, msg := [] } (kAuth m 1 0 [] s)
    else s
  | none => s

/-- The REASON that a certificate earns; 0 when it is good. DESIGN CHOICE (log 60). -/
def certReason (s : State) (m : KpfModule) (c : List Byte) : Nat :=
  let root := natAt c 3 1
  match Config.rootKey s.kpf.version root with
  | none => 1
  | some key =>
    let q := Crypto.p256.pubKey (beBytes 64 key.toNat)
    if natAt c 0 2 ≠ 0x4C46 ∨ natAt c 2 1 ≠ 1 ∨ 3 < root then 1
    else if q = none ∨ !Crypto.p256.verify q (Crypto.sha Crypto.sha256 (c.take 0x50)) (c.drop 0x50) then 2
    else if natAt c 8 8 ≠ m.uid ∨ natAt c 4 1 ≠ m.cls then 3
    else 0

/-- A module is to be rejected. -/
def toReject (m : KpfModule) (reason : Nat) : KpfModule := { m with phase := .rejecting, reason := reason, msg := [] }

/-- Bytes of a message arrive; all of them once it is complete. -/
def message (m : KpfModule) (off total : Nat) (data : List Byte) : KpfModule × Option (List Byte) :=
  let m := { m with msg := ((List.range data.length).zip data).foldl (fun l p =>
    if off + p.1 < total then Sparse.insert (off + p.1) p.2 (Sparse.erase (off + p.1) l) else l) m.msg }
  (m, if m.msg.length = total then some (m.msg.map (·.2)) else none)

/-- CERT arrives. DEDUCED (log 59). -/
def certIn (m : KpfModule) (off : Nat) (data : List Byte) (s : State) : State :=
  if m.phase ≠ .certWait then s
  else
    match message m off 144 data with
    | (n, none) => putMod m n s
    | (n, some c) =>
      let r := if n.since + 100000 < s.tbase then 4 else certReason s n c
      putMod m (if r = 0 then { n with phase := .certGood, cert := c, msg := [], parts := 0 } else toReject n r) s

/-- The first or second part of CHALLENGE: 62 bytes, then 18. -/
def challenge (p id : Nat) (s : State) : State :=
  match findMod s p id with
  | none => s
  | some m =>
    if !canSend s p ∨ m.phase ≠ .certGood then s
    else if m.parts = 0 then
      let r := drawBytes 56 s
      let d := Crypto.p256.scalar (beNat (r.1.drop 16))
      let n := { m with nonceC := r.1.take 16, ephemeral := d, parts := 1 }
      putMod m n (kAuth m 3 0 ((n.nonceC ++ Crypto.p256.public d).take 62) r.2)
    else
      putMod m { m with phase := .respWait, since := s.tbase, parts := 0 }
        (kAuth m 3 62 ((m.nonceC ++ Crypto.p256.public m.ephemeral).drop 62) s)

/-- The session key (R289). DEDUCED (log 59). -/
def sessionKey (m : KpfModule) (nonceM : List Byte) : List Byte :=
  let z := Crypto.p256.shared m.ephemeral (Crypto.p256.pubKey ((m.cert.drop 0x10).take 64))
  let ctx := Crypto.ascii "FLOE-SK" ++ b8 m.uid ++ m.nonceC ++ nonceM
  Crypto.cmac z (1 :: ctx) ++ Crypto.cmac z (2 :: ctx)

/-- The identifier range of a class (R280). -/
def classRange (c : Nat) : Nat × Nat :=
  match c with
  | 1 => (0x10, 0x2F)
  | 2 => (0x30, 0x4F)
  | 3 => (0x50, 0x7F)
  | 4 => (0x80, 0xBF)
  | 5 => (0xC0, 0xEF)
  | _ => (1, 0)

/-- The identifier for a module: the one its UID last held on the port, if free; else the lowest free of its class. -/
def newId (s : State) (m : KpfModule) : Option Nat :=
  match s.kpf.lastIds.find? fun e => e.1 == m.port && e.2.1 == m.uid && !idTaken s m.port e.2.2 with
  | some e => some e.2.2
  | none => freeId s m.port (classRange m.cls).1 (classRange m.cls).2

/-- A free key entry of a port: neither valid nor promised. -/
def freeEntry (s : State) (p : Nat) : Option Nat :=
  ((List.range 16).map (16 * p + ·)).find? fun e =>
    !s.on (Reg.FLOE_KCFG.VALID e) && !s.kpf.modules.any fun m => m.phase == .confGood && m.entry == e

/-- RESPONSE arrives: CONF_M, then the checks that are left. DEDUCED (log 59). -/
def responseIn (m : KpfModule) (off : Nat) (data : List Byte) (s : State) : State :=
  if m.phase ≠ .respWait then s
  else
    match message m off 24 data with
    | (n, none) => putMod m n s
    | (n, some r) =>
      let ks := sessionKey n (r.take 16)
      let conf := (Crypto.cmac ks (Crypto.ascii "MCONF" ++ n.nonceC ++ b1 n.id)).take 8
      let dup := s.kpf.modules.any fun o => o.phase == .admitted && o.uid == n.uid
      if n.since + 2000000 < s.tbase then putMod m (toReject n 4) s
      else if conf ≠ r.drop 16 then putMod m (toReject n 5) s
      else if dup then putMod m (toReject n 6) s
      else
        match newId s n, freeEntry s n.port with
        | some i, some e =>
          putMod m { n with phase := .confGood, nonceM := r.take 16, key := ks, newId := i, entry := e, msg := [] } s
        | _, _ => putMod m (toReject n 7) s

/-- ADMIT: the key entry, the frame, and the new identifier (R290). -/
def admitModule (p id : Nat) (s : State) : State :=
  match findMod s p id with
  | none => s
  | some m =>
    if !canSend s p ∨ m.phase ≠ .confGood then s
    else
      let a := 0x400B1000 + 0x40 * m.entry
      let s := (List.range 8).foldl (fun s k => busWrite s (a + 0x20 + 4 * k) (leNat ((m.key.drop (4 * k)).take 4))) s
      let s := busWrite s a (m.newId + 2 ^ 8)
      let conf := (Crypto.cmac m.key (Crypto.ascii "CCONF" ++ m.nonceM ++ b1 m.newId)).take 8
      let s := kAuth m 5 0 (b8 m.uid ++ b1 m.newId ++ conf) s
      putMod m { m with id := m.newId, phase := .admitting, missed := 0, pingAt := 0, key := [], cert := [] } s

/-- The REASON for which a module is to be rejected now, if any. -/
def rejectReason (s : State) (m : KpfModule) : Option Nat :=
  match m.phase with
  | .rejecting => some m.reason
  | .certWait => if m.since + 100000 < s.tbase then some 4 else none
  | .respWait => if m.since + 2000000 < s.tbase then some 4 else none
  | _ => none

/-- REJECT. -/
def reject (p id : Nat) (s : State) : State :=
  match findMod s p id with
  | none => s
  | some m =>
    match rejectReason s m with
    | none => s
    | some r =>
      if !canSend s p then s
      else
        let s := kAuth m 6 0 (b8 m.uid ++ b1 r) s
        let n := { m with phase := .stranger, reason := r, rejects := m.rejects + 1, since := s.tbase, msg := [] }
        modEvent n (kRecord 3 (putMod m n s))

/-! ### Secured traffic (R291) -/

/-- The objects that carry a service dongle's package (R360). -/
def pieceObj (m : KpfModule) (obj : Nat) : Bool := m.cls == 5 && decide (0x40 ≤ obj ∧ obj ≤ 0x43)

/-- The lowest piece of the session that is missing. -/
def missingPiece (s : State) : Option Nat :=
  (List.range (min (sessionPieces s) 125)).find? fun i => !pieceStored s i

/-- What KPF has to ask of a service dongle next: PKGINFO at its admission; then, of a dongle that has joined the open
session, CURSOR, the chunks and PIECECRC of each missing piece in index order (R360).  An operation, its object and its
value. DEDUCED (log 84). -/
def dongleNext (m : KpfModule) (s : State) : Option (Nat × Nat × List Byte) :=
  let info := Sparse.get [] 0x40 m.objs
  let me := some (m.port, m.id)
  if m.cls ≠ 5 ∨ m.phase ≠ .admitted then none
  else if info.isEmpty then some (1, 0x40, [])
  else if info.length ≠ 52 ∨ !sessionOpen s ∨ sessionState s ≠ 1 ∨ !s.kpf.members.contains (srcDongle, m.uid)
      ∨ (s.kpf.dongleOf.isSome ∧ s.kpf.dongleOf ≠ me) then none
  else
    (missingPiece s).map fun i =>
      let got := if s.kpf.donglePiece = i then s.kpf.dongle.length else 0
      if s.kpf.dongleOf ≠ me ∨ s.kpf.donglePiece ≠ i then (2, 0x41, b2 i ++ b1 (got / 32))
      else if got < min 4096 (sessionLen s - 4096 * i) then (1, 0x42, [])
      else (1, 0x43, [])

/-- KPF's request to a dongle goes out; a CURSOR for another piece discards the chunks at hand. -/
def dongleSend (m : KpfModule) (r : Nat × Nat × List Byte) (s : State) : State :=
  let i := natAt r.2.2 0 2
  withKpf (fun k => { k with
    dongleAsk := some (m.port, m.id, r.2.1, s.tbase)
    dongleOf := if r.1 = 2 then none else k.dongleOf
    dongle := if r.1 = 2 ∧ k.donglePiece ≠ i then [] else k.dongle
    donglePiece := if r.1 = 2 then i else k.donglePiece }) (kData m r.1 r.2.1 r.2.2 s)

/-- An operation on a dongle's package objects goes out only as the next that KPF has for it, none being awaited. -/
def dongleMay (m : KpfModule) (op obj : Nat) (value : List Byte) (s : State) : Bool :=
  s.kpf.dongleAsk.isNone && dongleNext m s == some (op, obj, value)

/-- A request that is not answered in 50 ms is given up, and CURSOR is written anew (R291); then the next request goes
to the first dongle that has one (R360). -/
def dongleStep (s : State) : State :=
  match s.kpf.dongleAsk with
  | some a =>
    if s.tbase < a.2.2.2 + 50000 then s else withKpf (fun k => { k with dongleAsk := none, dongleOf := none }) s
  | none =>
    match s.kpf.modules.find? fun m => m.cls == 5 && canSend s m.port && (dongleNext m s).isSome with
    | some m => (dongleNext m s).elim s fun r => dongleSend m r s
    | none => s

/-- READ of an object. -/
def readObj (p id obj : Nat) (s : State) : State :=
  match findMod s p id with
  | some m =>
    if !(canSend s p && m.phase == .admitted) then s
    else if pieceObj m obj then (if dongleMay m 1 obj [] s then dongleSend m (1, obj, []) s else s)
    else kData m 1 obj [] s
  | none => s

/-- KPF writes the object: the SWITCH of a battery as R191 has it, a dongle's CURSOR as its next request, or what a host
command asks. -/
def mayWrite (s : State) (m : KpfModule) (obj : Nat) (value : List Byte) : Bool :=
  if m.cls = 1 ∧ obj = 0x0A then value == [0] || (value == [1] && mayClose s m)
  else dongleMay m 2 obj value s
    || s.kpf.wait.any fun w => w.code == 0x0803 && w.port == m.port && w.id == m.id && w.obj == obj && w.data == value

/-- A host's access to a package object moves the dongle's CURSOR: KPF writes its own again. -/
def cursorMoved (m : KpfModule) (obj : Nat) (s : State) : State :=
  if pieceObj m obj ∧ s.kpf.dongleOf = some (m.port, m.id) then withKpf (fun k => { k with dongleOf := none }) s else s

/-- WRITE of an object. -/
def writeObj (p id obj : Nat) (value : List Byte) (s : State) : State :=
  match findMod s p id with
  | some m =>
    if canSend s p && m.phase == .admitted && value.length ≤ 62 && mayWrite s m obj value then
      if dongleMay m 2 obj value s then dongleSend m (2, obj, value) s
      else
        let s := cursorMoved m obj (kData m 2 obj value s)
        if m.cls = 1 ∧ obj = 0x0A then
          let n := { m with closed := value == [1] }
          if n.closed == m.closed then s else modEvent n (putMod m n s)
        else s
    else s
  | none => s

/-- PING, or after three without a PONG the module's removal. -/
def ping (p id : Nat) (s : State) : State :=
  match findMod s p id with
  | none => s
  | some m =>
    if !canSend s p ∨ (m.phase ≠ .admitted ∧ m.phase ≠ .admitting) then s
    else if m.pingAt ≠ 0 ∧ s.tbase < m.pingAt + 1000000 then s
    else if 3 ≤ m.missed then dropMod m s
    else putMod m { m with missed := m.missed + 1, pingAt := s.tbase } (kData m 3 0 [] s)

/-- An accepted PONG; the first admits the module. -/
def pong (m : KpfModule) (s : State) : State :=
  if m.phase = .admitting then
    let n := { m with phase := .admitted, missed := 0, order := s.kpf.admissions }
    let s := putMod m n s
    let s := withKpf (fun k => { k with
      admissions := k.admissions + 1
      lastIds := (m.port, m.uid, m.id) :: k.lastIds.filter fun e => !(e.1 == m.port && e.2.1 == m.uid) }) s
    modEvent n (kRecord 2 s)
  else putMod m { m with missed := 0 } s

/-- The command that waits for this module's answer to an operation on an object. -/
def waitsFor (s : State) (code : Nat) (m : KpfModule) (obj : Nat) : Bool :=
  s.kpf.wait.any fun w => w.code == code && w.port == m.port && w.id == m.id && w.obj == obj

/-- The answer to KPF's request for a dongle's object has come. -/
def dongleAnswers (s : State) (m : KpfModule) (obj : Nat) : Bool :=
  s.kpf.dongleAsk.any fun a => a.1 == m.port && a.2.1 == m.id && a.2.2.1 == obj

/-- What a service dongle's objects give KPF: a session opened or joined, a chunk of the piece, or the piece's CRC, with
which it is a delivered piece (R358, R360). -/
def dongleValue (m : KpfModule) (obj : Nat) (v : List Byte) (s : State) : State :=
  let src := (srcDongle, m.uid)
  if !dongleAnswers s m obj then s
  else
    let s := withKpf (fun k => { k with dongleAsk := none }) s
    match obj with
    | 0x40 => if v.length = 52 then (sessionRequest src (v.take 48) (natAt v 48 4) s).2 else s
    | 0x42 => withKpf (fun k => { k with dongle := k.dongle ++ v }) s
    | 0x43 =>
      let r := storePiece src s.kpf.donglePiece s.kpf.dongle (leNat v) s
      completePackage (withKpf (fun k => { k with dongle := [], dongleOf := none }) r.2)
    | _ => s

/-- READ_RESP: the object's value. -/
def readResp (m : KpfModule) (obj : Nat) (v : List Byte) (s : State) : State :=
  let n := { m with objs := Sparse.put [] obj v m.objs }
  let s := putMod m n s
  let s := if waitsFor s 0x0802 m obj then kWaited rsOk (b1 v.length ++ zeros 3 ++ v) s else s
  if m.cls = 5 then dongleValue n obj v s else s

/-- WRITE_ACK: STATUS.  A switch that the pack refused to close is open; a CURSOR that a dongle took stands. -/
def writeAck (m : KpfModule) (obj : Nat) (v : List Byte) (s : State) : State :=
  let s := if waitsFor s 0x0803 m obj then kWaited rsOk (v.take 1) s else s
  if m.cls = 1 ∧ obj = 0x0A ∧ v.headD 0 ≠ 0 ∧ m.closed then
    let n := { m with closed := false }
    modEvent n (putMod m n s)
  else if dongleAnswers s m obj then
    withKpf (fun k => { k with
      dongleAsk := none, dongleOf := if v.headD 0 = 0 then some (m.port, m.id) else none }) s
  else s

/-- ERROR: the command that waits is answered BAD_PARAM (R393).  A dongle that errs on a package object offers no
package. DEDUCED (log 84). -/
def moduleError (m : KpfModule) (obj : Nat) (s : State) : State :=
  if waitsFor s 0x0802 m obj || waitsFor s 0x0803 m obj then kWaited rsBadParam [] s
  else if dongleAnswers s m obj then
    putMod m { m with objs := Sparse.put [] 0x40 [0] m.objs }
      (withKpf (fun k => { k with dongleAsk := none, dongleOf := none }) s)
  else s

/-! ### Receiving -/

/-- KPF acts on a frame. -/
def frameIn (p : Nat) (f : FloeFrame) (s : State) : State :=
  let b := f.payload
  let x := natAt b 1 1
  let src := f.src.toNat
  if f.type = 2 then presence p src b s
  else
    match findMod s p src with
    | none => s
    | some m =>
      if f.type = 4 then
        match natAt b 0 1 with
        | 2 => certIn m x (b.drop 2) s
        | 4 => responseIn m x (b.drop 2) s
        | _ => s
      else if b.length < 2 then s
      else
        match natAt b 0 1 with
        | 0x81 => readResp m x (b.drop 2) s
        | 0x82 => writeAck m x (b.drop 2) s
        | 0x83 => pong m s
        | 0x84 => putMod m { m with objs := Sparse.put [] x (b.drop 2) m.objs } s
        | 0xFF => moduleError m x s
        | _ => s

/-- KPF takes the frames of a port's receive FIFO in order. -/
def drainFrames (p : Nat) : Nat → State → State
  | 0, s => s
  | n + 1, s =>
    match (floe s p).fifo with
    | [] => s
    | f :: _ => drainFrames p n (frameIn p f (rxPop p s))

/-- A module's frame arrives and KPF acts on it; `kind` says which of a frame's kinds this command is. -/
def moduleFrame (kind : FloeFrame → Bool) (p : Nat) (f : FloeFrame) (x : FloeSignal) (s : State) : State :=
  if !kind f then s
  else
    let s := recvFrame p f x s
    if kpfRuns s && s.kpf.state != 3 && feature s (5 + p) then drainFrames p 8 s else s

/-- The kinds: PRESENCE, an AUTH message, and a DATA operation. -/
def isPresence (f : FloeFrame) : Bool := f.type == 2
def isAuth (msg : Nat) (f : FloeFrame) : Bool := f.type == 4 && natAt f.payload 0 1 == msg
def isData (op : Nat) (f : FloeFrame) : Bool := f.type == 8 && natAt f.payload 0 1 == op

end Sys2Proof.Machine
end

