-- ==== Sys2Proof/Machine/KpfCharge.lean ====
section
/-! DEFINITION. KPF's battery data, charging, gauge check, thermal policy and fan profiles (R188 to R190, R387, R390,
R398, R402). -/

namespace Sys2Proof.Machine

/-! ### Battery data -/

/-- QACC with what was counted before the last domain reset (R188). -/
def qTotal (s : State) : Int := signed 32 (s.rd Reg.CHG_QACC.QACC) + s.kpf.qCarry

/-- The Smart Battery pack has not answered for 10 s (R189). -/
def packSilent (s : State) : Bool := s.kpf.pack.at_ + 10000000 < s.tbase

/-- The Smart Battery pack is the battery that is read: the model has one and no Floe module is connected. -/
def smartBattery (s : State) : Bool := feature s 10 && (connected s).isEmpty

/-- The battery's data (R387). -/
structure BatView where
  source : Nat
  volt : Nat
  /-- Two's complement in 16 bits, in 8 bits. -/
  curr : Nat
  temp : Nat
  rsoc : Nat
  remcap : Nat
  fullcap : Nat
  deriving DecidableEq, Repr

/-- The data as the gauges give them. -/
def gaugeView (s : State) : Option BatView :=
  let p := s.kpf.pack
  match connected s with
  | [] =>
    if feature s 10 && p.answered && !packSilent s then
      some ⟨1, p.volt, p.curr, s.freeVal % 256, p.rsoc, p.remcap, p.fullcap⟩
    else none
  | [m] => some ⟨2, modObj m 4, modObj m 5, modObj m 6, modObj m 7, modObj m 8, modObj m 9⟩
  | ms =>
    let c (o w : Nat) : Nat := Config.combined o (ms.map fun m => modObj m o) % 2 ^ w
    some ⟨2, c 4 16, c 5 16, c 6 8, c 7 8, c 8 16, c 9 16⟩

/-- The battery's data; none while no battery is present, a removal is latched or the pack is silent (R387).  Of a pack
that is DISTRUSTED the charge is KPF's own estimate against the last full charge (R190). DESIGN CHOICE (log 46). -/
def battery (s : State) : Option BatView :=
  if !batteryPresent s then none
  else
    match gaugeView s with
    | none => none
    | some v =>
      if s.kpf.pack.distrusted then
        match s.kpf.pack.full with
        | some (q, cap) =>
          let rem := max 0 (min (cap : Int) (cap + (qTotal s - q) / 3600))
          some { v with source := 3, remcap := rem.toNat, fullcap := cap
                        rsoc := if cap = 0 then 0 else rem.toNat * 100 / cap }
        | none => some { v with source := 3, remcap := Config.estimate 0 (qTotal s) % 2 ^ 16
                                rsoc := Config.estimate 1 (qTotal s) % 256 }
      else some v

/-! ### Charging (R189, R390, R402) -/

/-- The current and the voltage per cell that the battery asks for. -/
def batteryAsks (s : State) : Option (Nat × Nat) :=
  let p := s.kpf.pack
  match connected s with
  | [] => if feature s 10 && p.answered && !packSilent s then some (p.chgCurr, p.chgVolt / cells s) else none
  | m :: ms =>
    (m :: ms).foldl (fun acc m =>
      match Sparse.get [] 0x0B m.objs, acc with
      | [], _ => acc
      | v, none => some (natAt v 2 2, natAt v 0 2)
      | v, some (i, u) => some (min i (natAt v 2 2), min u (natAt v 0 2))) none

/-- ICHG and VREG as KPF writes them: the settings values, bounded by what the battery asks for, and ICHG at half its
value under POLICY 2. -/
def chargeLimits (s : State) : Nat × Nat :=
  let (i, u) := match batteryAsks s with
    | some (i, u) => (min i s.kpf.ichg, min u s.kpf.vreg)
    | none => (s.kpf.ichg, s.kpf.vreg)
  (min 1000 ((if s.kpf.policy = 2 then i / 2 else i) / 10), min u 8191)

/-- Charging is permitted. -/
def chargeAllowed (s : State) : Bool :=
  s.kpf.wantEn && !s.kpf.limitHold && !s.kpf.terminated && !(smartBattery s && packSilent s)

/-- The temperature band for a connected module's report (R179). DESIGN CHOICE (log 47). -/
def moduleBand (s : State) : Nat :=
  match (connected s).filter fun m => !(Sparse.get [] 6 m.objs).isEmpty with
  | [] => 2
  | m :: ms => (m :: ms).foldl (fun b m =>
      let c := Config.packBand (modObj m 6) % 5
      if bandDistance b < bandDistance c then c else b) 2

/-- KPF sets the charger as it stands. -/
def chargeApply (s : State) : State :=
  let l := chargeLimits s
  let s := kSet Reg.CHG_ICHG.ICHG l.1 s
  let v := max 3500 (min l.2 (s.rd Reg.CHG_LIMIT.VREGMAX))
  let s := if s.rd Reg.CHG_VREG.VREG = v then s else kField Reg.CHG_VREG.VREG l.2 s
  let s := kSet Reg.CHG_BANDFW.BAND (moduleBand s) s
  kSet Reg.CHG_CTRL.EN (chargeAllowed s).toNat s

/-- CHGLIMIT's hold: charging ends at that RSOC and may go on 5 % below it. -/
def limitCheck (s : State) : State :=
  let l := s.kpf.chgLimit
  if l = 0 ∨ l = 100 then withKpf (fun k => { k with limitHold := false }) s
  else
    match battery s with
    | some v =>
      if l ≤ v.rsoc then withKpf (fun k => { k with limitHold := true }) s
      else if v.rsoc + 5 ≤ l then withKpf (fun k => { k with limitHold := false }) s else s
    | none => s

/-- The Smart Battery read, every 2 s (R189). PRESUMED (log 45). -/
def packPoll (r : Option PackReading) (s : State) : State :=
  if !kpfRuns s ∨ !feature s 10 ∨ s.tbase < s.kpf.pack.pollAt + 2000000 then s
  else
    let p := { s.kpf.pack with pollAt := s.tbase }
    let s :=
      match r with
      | none => withKpf (fun k => { k with pack := p }) s
      | some r =>
        let p := { p with
          answered := true, at_ := s.tbase, volt := r.volt.toNat, curr := r.curr.toNat, rsoc := r.rsoc.toNat % 256
          remcap := r.remcap.toNat, fullcap := r.fullcap.toNat, chgCurr := r.chgCurr.toNat, chgVolt := r.chgVolt.toNat
          status := r.status.toNat }
        withKpf (fun k => { k with pack := p, terminated := r.status.toNat.testBit 14 }) s
    chargeApply (limitCheck s)

/-- RemainingCapacity and FullChargeCapacity of the battery's own gauge. -/
def gaugeCaps (s : State) : Option (Nat × Nat) := (gaugeView s).map fun v => (v.remcap, v.fullcap)

/-- A full charge: what QACC and the gauge show when the charger comes to DONE is kept for the estimate (R190). -/
def fullCharge (s : State) : State :=
  let done := chgState s == csDone
  match gaugeCaps s with
  | some (_, cap) => withKpf (fun k => { k with pack := { k.pack with
      done := done, full := if done && !k.pack.done then some (qTotal s, cap) else k.pack.full } }) s
  | none => s

/-- The gauge check, every 10 minutes (R190).  The first reading begins a window and closes none. DEDUCED (log 115). -/
def gaugeCheck (s : State) : State :=
  let p := s.kpf.pack
  match gaugeCaps s with
  | none => s
  | some (rem, full) =>
    if !kpfRuns s ∨ s.tbase < p.gaugeAt + 600000000 then s
    else
      let d : Int := ((rem : Int) - p.gaugeRem) * 3600 - (qTotal s - p.gaugeQ)
      let off := p.gaugeOpen && decide ((full : Int) * 3600 * 5 < 100 * d.natAbs)
      let n := if off then p.differed + 1 else 0
      let new := { p with gaugeAt := s.tbase, gaugeQ := qTotal s, gaugeRem := rem, gaugeOpen := true, differed := n
                          distrusted := p.distrusted || decide (2 ≤ n) }
      let s := withKpf (fun k => { k with pack := new }) s
      if new.distrusted && !p.distrusted then kRecord 4 s else s

/-- A pack that is removed is trusted again, and a new window of the check begins with the next one. -/
def packRemoved (s : State) : State :=
  if batteryPresent s then s
  else withKpf (fun k => { k with pack := { k.pack with
    distrusted := false, differed := 0, gaugeAt := s.tbase, gaugeQ := qTotal s, gaugeRem := 0, gaugeOpen := false, full := none } }) s

/-! ### Fan profiles and the thermal policy (R389, R390) -/

/-- The setting that holds the profiles' curves. -/
def fanSetting (s : State) : List Byte := (settingOf s 0x0040).getD []

/-- A channel's curve registers take a profile's curve. DESIGN CHOICE (log 56). -/
def loadCurve (profile n : Nat) (s : State) : State :=
  [0, 1, 2, 3].foldl (fun s p =>
    busWrite s (0x40090118 + 0x40 * n + 4 * p) (Config.fanCurve (fanSetting s) profile n p % 2 ^ 32)) s

/-- The channels in CURVE. -/
def curveFans (s : State) : List Nat := [0, 1, 2, 3].filter fun n => s.rd (Reg.FAN_CTRL.MODE n) == 3

/-- Channels take curves from the settings, which KPF reads by checked reads (R350): channel and profile. -/
def loadCurves (l : List (Nat × Nat)) (s : State) : State :=
  l.foldl (fun s p => loadCurve p.2 p.1 s) (kpfScan firnSettings 0x40000 s)

/-- Every channel in CURVE, with one profile. -/
def curvesOf (profile : Nat) (s : State) : List (Nat × Nat) := (curveFans s).map fun n => (n, profile)

/-- The profile of a channel in CURVE: performance under POLICY 2, else the active one (R390). -/
def liveProfile (s : State) : Nat := if s.kpf.policy = 2 then 2 else s.kpf.profile

/-- Some channel is in STALL. -/
def anyStall (s : State) : Bool := [0, 1, 2, 3].any fun n => fanState s n == fnStall

/-- POLICY changes (R400, R402). -/
def setPolicy (v : Nat) (s : State) : State :=
  if s.kpf.policy = v then s
  else kQuery 8 (kEvent { code := 0x32, data := [v, 0, 0, 0, 0, 0, 0, 0] } (some evThermal)
    (withKpf (fun k => { k with policy := v }) s))

/-- POLICY while no channel stalls: 1 shows the quiet profile. -/
def calmPolicy (s : State) : Nat := if s.kpf.profile = 0 then 1 else 0

/-- POLICY is 2 while a channel is in STALL: BOOST on the others, the performance curve, half of ICHG.
DEDUCED (log 95). -/
def policyCheck (s : State) : State :=
  if anyStall s then
    let s := withKpf (fun k => { k with stallAt := s.tbase }) s
    let s := ([0, 1, 2, 3].filter fun n => fanState s n != fnStall).foldl (fun s n =>
      kSet (Reg.FAN_CTRL.BOOST n) 1 s) s
    if s.kpf.policy = 2 then s else chargeApply (loadCurves (curvesOf 2 s) (setPolicy 2 s))
  else if s.kpf.policy = 2 then s
  else setPolicy (calmPolicy s) s

/-- No channel has been in STALL for 10 s: the profile and ICHG are restored. DEDUCED (log 95). -/
def policyRestore (s : State) : State :=
  if !kpfRuns s ∨ anyStall s ∨ s.kpf.policy ≠ 2 ∨ s.tbase < s.kpf.stallAt + 10000000 then s
  else
    let s := [0, 1, 2, 3].foldl (fun s n => kSet (Reg.FAN_CTRL.BOOST n) 0 s) s
    chargeApply (loadCurves (curvesOf s.kpf.profile s) (setPolicy 0 s))

/-- A profile is selected: its curves are loaded, in every mode (R389); a channel in CURVE under POLICY 2 keeps the
performance curve (R390). DEDUCED (log 95). -/
def setProfile (p : Nat) (s : State) : State :=
  let s := withKpf (fun k => { k with profile := p }) s
  let l := [0, 1, 2, 3].map fun n => (n, if (curveFans s).contains n then liveProfile s else p)
  policyCheck (loadCurves l s)

end Sys2Proof.Machine
end

