-- ==== Sys2Proof/Machine/KpfSystem.lean ====
section
/-! DEFINITION. The meanings of KPF's commands of groups 0x01 to 0x03: system and identity, power states and rails,
battery and charge (R385 to R387). -/

namespace Sys2Proof.Machine

/-! ### Group 0x01 (R385) -/

/-- GET_IDENTITY. -/
def actGetIdentity : KpfAct := fun _ s =>
  kOk (b4 s.kpf.version ++ [4, 0] ++ b1 s.kpf.state ++ identFlags s ++ deviceBytes s ++ b2 (s.rd Reg.SYS_ID.PART)
    ++ b1 (s.rd Reg.SYS_ID.STEP) ++ b1 (lcs s) ++ b4 (s.board.features % 0x1000) ++ b2 (groupMap s) ++ zeros 2) s

/-- The bitmap of a group's codes that the profile answers, as FEATURES permits (R382). DEDUCED (log 92). -/
def capsMap (s : State) (group : Nat) : Nat :=
  kpfTable.foldl (fun m r =>
    if r.code / 256 = group ∧ rowProfile s.kpf.state r.code ∧ rowFeature s r then m ||| 2 ^ (r.code % 256) else m) 0

/-- GET_CAPS. -/
def actGetCaps : KpfAct := fun q s =>
  kOk (b1 (q.u8 0) ++ zeros 3 ++ leBytes 32 (capsMap s (q.u8 0))) s

/-- The bytes of an event record (R400). -/
def eventBytes (e : KpfEvent) : List Byte :=
  b2 e.code ++ b1 e.tag ++ b1 e.result ++ b4 e.aux ++ ((e.data ++ List.replicate 8 0).take 8).map (BitVec.ofNat 8 ·)

/-- GET_EVENTS: the oldest records leave the queue; what overflowed it is reported, and recorded as event 0x0001.
DEDUCED (log 88). -/
def actGetEvents : KpfAct := fun q s =>
  let n := q.u8 0
  if n = 0 ∨ 30 < n then kNo rsBadParam s
  else
    let out := s.kpf.events.take n
    let left := s.kpf.events.drop n
    let ovf := s.kpf.ovf
    let s := withKpf (fun k => { k with events := left, ovf := false }) s
    let s := if ovf then kEvent { code := 1 } none s else s
    kOk (b1 out.length ++ b1 ovf.toNat ++ b2 s.kpf.events.length ++ (out.map eventBytes).flatten) s

/-- SEAL. -/
def actSeal : KpfAct := fun _ s => kOk [] (withKpf (fun k => { k with sealed := true }) s)

/-- GET_TIME. -/
def actGetTime : KpfAct := fun _ s => kOk (b8 s.tbase ++ b4 s.kpf.restarts) s

/-- RESTART_FW. -/
def actRestartFw : KpfAct := fun _ s => kOk [] s

/-! ### Group 0x02 (R386) -/

/-- GET_POWER_STATE. -/
def actGetPowerState : KpfAct := fun _ s =>
  kOk (b1 (s.rd Reg.RAIL_CTRL.TSEL) ++ b1 (s.rd Reg.RAIL_STAT.DECODED) ++ b1 (s.rd Reg.RAIL_CTRL.AUTO)
    ++ b1 (s.rd Reg.RAIL_STAT.FLTHOLD) ++ b1 (s.rd Reg.RAIL_STAT.SETDONE) ++ zeros 3
    ++ b8 (pairMask s Reg.RAIL_FAULT0.CH Reg.RAIL_FAULT1.CH) ++ b8 (pairMask s Reg.RAIL_WARN0.CH Reg.RAIL_WARN1.CH)) s

/-- GET_RAIL. -/
def actGetRail : KpfAct := fun q s =>
  let n := q.u8 0
  if 39 < n then kNo rsBadParam s
  else
    let f (x : Field) : Nat := kRead s x
    kOk (b1 (f (Reg.RAIL_CHSTAT.STATE n)) ++ b1 (f (Reg.RAIL_CHSTAT.CAUSE n)) ++ b1 (f (Reg.RAIL_CHSTAT.TRIES n))
      ++ flagByte [f (Reg.RAIL_CHSTAT.EN n) == 1, f (Reg.RAIL_CHSTAT.PG n) == 1,
          f (Reg.RAIL_CHSTAT.DEMANDED n) == 1]) s

/-- CLEAR_RAIL_FAULT. -/
def actClearRailFault : KpfAct := fun q s =>
  let n := q.u8 0
  if n = 0xFF then
    kOk [] (busWrite (busWrite s Reg.RAIL_CLR0.CH.addr 0xFFFFFFFF) Reg.RAIL_CLR1.CH.addr 0xFF)
  else if 39 < n then kNo rsBadParam s
  else if n < 32 then kOk [] (busWrite s Reg.RAIL_CLR0.CH.addr (2 ^ n))
  else kOk [] (busWrite s Reg.RAIL_CLR1.CH.addr (2 ^ (n - 32)))

/-- RESUME_DECODER: refused while a channel of FLTSET is in FAULT. -/
def actResumeDecoder : KpfAct := fun _ s =>
  let m := railSet s (s.rd Reg.RAIL_CTRL.FLTSET)
  if (List.range 40).any fun n => m.testBit n && chState s n == chFault then kNo rsFaulted s
  else kOk [] (kField Reg.RAIL_STAT.FLTHOLD 1 s)

/-- SET_WAKE: an ALARM of 0 leaves the alarm at a time that is not reached. -/
def actSetWake : KpfAct := fun q s =>
  if 512 ≤ q.u16 0 then kNo rsBadParam s
  else
    let at_ := if q.u32 4 = 0 then 2 ^ 64 - 1 else s.tbase + q.u32 4 * 1000000
    let s := busWrite s Reg.SYS_WAKEEN.INPUT.addr (q.u16 0)
    let s := busWrite s Reg.SYS_WAKEALARMLO.ALARMLO.addr (at_ % 2 ^ 32)
    kOk [] (busWrite s Reg.SYS_WAKEALARMHI.ALARMHI.addr (at_ / 2 ^ 32))

/-- ENTER_SHIP. -/
def actEnterShip : KpfAct := fun q s =>
  if q.u16 0 = 0 ∨ 600 < q.u16 0 then kNo rsBadParam s
  else kJob 0x0206 q (s.tbase + q.u16 0 * 1000000) 0 [] s

/-! ### Group 0x03 (R387) -/

/-- Some battery module waits for its voltage to match. -/
def matchWait (s : State) : Bool := s.kpf.modules.any fun m => isBattery m && packState s m == 2

/-- GET_BATTERY. -/
def actGetBattery : KpfAct := fun _ s =>
  match battery s with
  | none => kNo rsNotPresent s
  | some v =>
    kOk ([1] ++ b1 v.source ++ b1 (cells s)
      ++ flagByte [s.kpf.pack.distrusted, 2 ≤ (connected s).length, matchWait s]
      ++ b2 v.volt ++ b2 v.curr ++ b1 v.rsoc ++ b1 v.temp ++ b2 v.remcap ++ b2 v.fullcap
      ++ b4 (unsigned 32 (qTotal s))) s.drawn

/-- GET_CHARGER. -/
def actGetCharger : KpfAct := fun _ s =>
  kOk (b1 (chgState s) ++ b1 (s.rd Reg.CHG_STAT.LOOP) ++ b1 (s.rd Reg.CHG_STAT.BAND) ++ b1 (s.rd Reg.CHG_STAT.FCAUSE)
    ++ b2 (10 * s.rd Reg.CHG_ICHG.ICHG) ++ b2 (s.rd Reg.CHG_VREG.VREG) ++ b2 (s.rd Reg.CHG_MEAS.IBAT)
    ++ b1 (s.rd Reg.CHG_STAT.TPHASE) ++ b1 (s.rd Reg.CHG_REVSTAT.ACTIVE) ++ b4 (s.rd Reg.CHG_TMRCNT.COUNT)) s

/-- GET_PACKS. -/
def actGetPacks : KpfAct := fun _ s =>
  let ms := (s.kpf.modules.filter isBattery).take 60
  kOk (b1 ms.length ++ zeros 3 ++ (ms.map fun m =>
    b1 m.port ++ b1 m.id ++ b1 (packState s m) ++ [0] ++ b2 (modObj m 4) ++ b1 (modObj m 7) ++ b1 (modObj m 6)).flatten) s

/-- CLEAR_CHARGE_FAULT. -/
def actClearChargeFault : KpfAct := fun _ s =>
  let s := kField Reg.CHG_CTRL.FLTCLR 1 s
  if chgFaulted s then kNo rsFaulted s else kOk [] s

/-- Setting 0x0020: the charge limits in force outlast the image. -/
def storeLimits (s : State) : Bool × State := writeSetting 0x0020 (b2 s.kpf.ichg ++ b2 s.kpf.vreg) false s

/-- SET_CHARGE_LIMITS: a field written as 0 is unchanged. DEDUCED (log 49). -/
def actSetChargeLimits : KpfAct := fun q s =>
  if 1 < q.u8 4 ∨ 1 < q.u8 5 then kNo rsBadParam s
  else
    let keep (v old : Nat) : Nat := if v = 0 then old else v
    let s := withKpf (fun k => { k with
      ichg := keep (q.u16 0) k.ichg, vreg := keep (q.u16 2) k.vreg, wantEn := k.wantEn || q.u8 4 == 1 }) s
    let r := if q.u8 5 = 1 then storeLimits s else (true, s)
    let s := chargeApply r.2
    if r.1 then kOk (b2 (ichgBase s) ++ b2 (s.rd Reg.CHG_VREG.VREG)) s else kNo rsFaulted s

/-! ### The commands -/

/-- GET_IDENTITY (R385): Returns the identity of the controller and firmware. -/
def execGetIdentity (tag : Fin 8) (s : State) : Host.Outcome State Fault Refusal :=
  .next (kCommand 0x0101 actGetIdentity noMore tag.val s)

/-- GET_CAPS (R385): Returns the command bitmap of a group. -/
def execGetCaps (tag : Fin 8) (s : State) : Host.Outcome State Fault Refusal :=
  .next (kCommand 0x0102 actGetCaps noMore tag.val s)

/-- GET_EVENTS (R385): Returns queued event records. -/
def execGetEvents (tag : Fin 8) (s : State) : Host.Outcome State Fault Refusal :=
  .next (kCommand 0x0103 actGetEvents noMore tag.val s)

/-- SEAL (R385): Seals the host. -/
def execSealHost (tag : Fin 8) (s : State) : Host.Outcome State Fault Refusal :=
  .next (kCommand 0x0104 actSeal noMore tag.val s)

/-- GET_TIME (R385): Returns TBASE and RESTARTS. -/
def execGetTime (tag : Fin 8) (s : State) : Host.Outcome State Fault Refusal :=
  .next (kCommand 0x0105 actGetTime noMore tag.val s)

/-- RESTART_FW (R385): Hands over to the running slot. -/
def execRestartFw (tag : Fin 8) (s : State) : Host.Outcome State Fault Refusal :=
  .next (kCommand 0x0106 actRestartFw (fun _ s => restartRunning s) tag.val s)

/-- GET_POWER_STATE (R386): Returns the rail target set and fault state. -/
def execGetPowerState (tag : Fin 8) (s : State) : Host.Outcome State Fault Refusal :=
  .next (kCommand 0x0201 actGetPowerState noMore tag.val s)

/-- GET_RAIL (R386): Returns one rail channel's state. -/
def execGetRail (tag : Fin 8) (s : State) : Host.Outcome State Fault Refusal :=
  .next (kCommand 0x0202 actGetRail noMore tag.val s)

/-- CLEAR_RAIL_FAULT (R386): Writes RAIL_CLR for one or all channels. -/
def execClearRailFault (tag : Fin 8) (s : State) : Host.Outcome State Fault Refusal :=
  .next (kCommand 0x0203 actClearRailFault noMore tag.val s)

/-- RESUME_DECODER (R386): Clears FLTHOLD unless an FLTSET channel is in FAULT. -/
def execResumeDecoder (tag : Fin 8) (s : State) : Host.Outcome State Fault Refusal :=
  .next (kCommand 0x0204 actResumeDecoder noMore tag.val s)

/-- SET_WAKE (R386): Sets the wake enables and the alarm. -/
def execSetWake (tag : Fin 8) (s : State) : Host.Outcome State Fault Refusal :=
  .next (kCommand 0x0205 actSetWake noMore tag.val s)

/-- ENTER_SHIP (R386): After DELAY requests ship mode. -/
def execEnterShip (tag : Fin 8) (s : State) : Host.Outcome State Fault Refusal :=
  .next (kCommand 0x0206 actEnterShip noMore tag.val s)

/-- GET_BATTERY (R387): Returns the battery data. -/
def execGetBattery (tag : Fin 8) (s : State) : Host.Outcome State Fault Refusal :=
  .next (kCommand 0x0301 actGetBattery noMore tag.val s)

/-- GET_CHARGER (R387): Returns the charger state. -/
def execGetCharger (tag : Fin 8) (s : State) : Host.Outcome State Fault Refusal :=
  .next (kCommand 0x0302 actGetCharger noMore tag.val s)

/-- GET_PACKS (R387): Returns the Floe battery modules. -/
def execGetPacks (tag : Fin 8) (s : State) : Host.Outcome State Fault Refusal :=
  .next (kCommand 0x0303 actGetPacks noMore tag.val s)

/-- CLEAR_CHARGE_FAULT (R387): Writes FLTCLR. -/
def execClearChargeFault (tag : Fin 8) (s : State) : Host.Outcome State Fault Refusal :=
  .next (kCommand 0x0304 actClearChargeFault noMore tag.val s)

/-- SET_CHARGE_LIMITS (R387): Sets ICHG, VREG and EN, optionally persisting them. -/
def execSetChargeLimits (tag : Fin 8) (s : State) : Host.Outcome State Fault Refusal :=
  .next (kCommand 0x0305 actSetChargeLimits noMore tag.val s)

end Sys2Proof.Machine
end

