-- ==== Sys2Proof/Machine/KpfPower.lean ====
section
/-! DEFINITION. The meanings of KPF's commands of groups 0x04 and 0x05: Type-C and PD, thermal and fans (R388 to
R390). -/

namespace Sys2Proof.Machine

/-! ### Group 0x04 (R388) -/

/-- What stands in the way of a command to a port of the PD block: no such port, or one the model lacks. -/
def pdPort (q : KpfReq) (s : State) : Option Nat :=
  if 1 < q.u8 0 then some rsBadParam else if !feature s (2 + q.u8 0) then some rsUnsupported else none

/-- GET_PORT. -/
def actGetPort : KpfAct := fun q s =>
  match pdPort q s with
  | some r => kNo r s
  | none =>
    let p := q.u8 0
    let f (x : Field) : Nat := kRead s x
    let on (x : Field) : Bool := kRead s x == 1
    kOk (b4 (busRead s (Reg.PD_STAT.ATTACHED p).addr).1 ++ b2 (f (Reg.PD_CONTRACT.VOLT p))
      ++ b2 (10 * f (Reg.PD_CONTRACT.CURR p)) ++ b1 (f (Reg.PWR_INSTAT.TRK p))
      ++ flagByte [on (Reg.PWR_INSTAT.QUAL p), on (Reg.PWR_INSTAT.UNSTABLE p), on (Reg.PWR_INSTAT.FLOOR p)]
      ++ b2 (10 * f (Reg.PWR_INLIM.ILIM p)) ++ b2 (f (Reg.PWR_INVI.VIN p)) ++ b2 (f (Reg.PWR_INVI.IIN p))
      ++ b2 (10 * f (Reg.PWR_INGOOD.LASTGOOD p))) s

/-- GET_SOURCE_CAPS. -/
def actGetSourceCaps : KpfAct := fun q s =>
  match pdPort q s with
  | some r => kNo r s
  | none =>
    let p := q.u8 0
    let n := s.rd (Reg.PD_STAT.NPDO p)
    kOk (b1 n ++ zeros 3 ++ ((List.range n).map fun k => b4 (s.rd (Reg.PD_RXPDO.PDO p k))).flatten) s

/-- REQUEST_PDO: the events of an earlier contract are cleared before PD_REQ is written. -/
def actRequestPdo : KpfAct := fun q s =>
  match pdPort q s with
  | some r => kNo r s
  | none =>
    let p := q.u8 0
    let obj := q.u8 1
    if 11 < obj ∨ 127 < q.u16 4 / 50 then kNo rsBadParam s
    else
      let s := kField (Reg.PD_EVT.REQREJ p) 1 (kField (Reg.PD_EVT.CONTRACT p) 1 s)
      let s := if obj = 0 then kField (Reg.PD_REQ.AUTO p) 1 s
        else kWrite (Reg.PD_REQ.GO p).addr [(Reg.PD_REQ.OBJPOS p, obj), (Reg.PD_REQ.VOLT p, q.u16 2 / 20),
          (Reg.PD_REQ.CURR p, q.u16 4 / 50), (Reg.PD_REQ.GO p, 1)] s
      kJob 0x0403 q (s.tbase + 500000) p [] s

/-- SEND_VDM; `acked` says that the partner answers with GoodCRC. -/
def actSendVdm (acked : Bool) : KpfAct := fun q s =>
  match pdPort q s with
  | some r => kNo r s
  | none =>
    let p := q.u8 0
    let n := q.u8 2
    if n = 0 ∨ 8 < n ∨ 2 < q.u8 1 then kNo rsBadParam s
    else if s.on (Reg.PD_VDMCTL.TXBUSY p) then kNo rsBusy s
    else
      let s := (List.range n).foldl (fun s k => busWrite s (Reg.PD_VDMTX.WORD p k).addr (q.u32 (4 + 4 * k))) s
      let s := kField (Reg.PD_EVT.VDMTXFAIL p) 1 (kField (Reg.PD_EVT.VDMTXDONE p) 1 s)
      let v := inWord (Reg.PD_VDMCTL.TXLEN p) n (inWord (Reg.PD_VDMCTL.TXSOP p) (q.u8 1)
        (inWord (Reg.PD_VDMCTL.TXGO p) 1 0))
      kJob 0x0404 q 0 p [] (vdmCtlWrite p v acked s)

/-- KPF takes a VDM out of a port's buffer, if it holds fewer than eight of that port (R388). -/
def takeVdm (p : Nat) (s : State) : State :=
  if s.on (Reg.PD_VDMCTL.RXFULL p) && (s.kpf.vdms.filter (·.port == p)).length < 8 then
    let n := s.rd (Reg.PD_VDMCTL.RXLEN p)
    let v : KpfVdm := ⟨p, s.rd (Reg.PD_VDMCTL.RXSOP p), (List.range n).map fun k => s.rd (Reg.PD_VDMRX.WORD p k)⟩
    let s := kField (Reg.PD_EVT.VDMRX p) 1 (kField (Reg.PD_VDMCTL.RXREL p) 1 s)
    kEvent { code := 0x21, data := [p] } (some evPd) (withKpf (fun k => { k with vdms := k.vdms ++ [v] }) s)
  else s

/-- Leave out the first element that `p` holds of. -/
def dropFirst {α : Type} (p : α → Bool) : List α → List α
  | [] => []
  | a :: l => if p a then l else a :: dropFirst p l

/-- GET_VDM: the oldest VDM of the port. -/
def actGetVdm : KpfAct := fun q s =>
  match pdPort q s with
  | some r => kNo r s
  | none =>
    let p := q.u8 0
    let s := takeVdm p s
    match s.kpf.vdms.find? fun v => v.port == p with
    | none => kNo rsNotPresent s
    | some v =>
      kOk (b1 v.sop ++ b1 v.words.length ++ zeros 2 ++ (v.words.map b4).flatten)
        (withKpf (fun k => { k with vdms := dropFirst (fun w => w.port == p) k.vdms }) s)

/-- SET_PORT_POLICY. -/
def actSetPortPolicy : KpfAct := fun q s =>
  match pdPort q s with
  | some r => kNo r s
  | none =>
    let p := q.u8 0
    let f := q.u8 2
    if 3 < q.u8 1 ∨ 15 < f ∨ 3 < q.u8 3 ∨ 511 < q.u16 4 / 100 ∨ 127 < q.u16 6 / 100 ∨ 1023 < q.u16 10 / 10 then
      kNo rsBadParam s
    else
      let s := kWrite (Reg.PD_SNKPOL.VMAX p).addr [(Reg.PD_SNKPOL.VMAX p, q.u16 4 / 100),
        (Reg.PD_SNKPOL.IMAX p, q.u16 6 / 100), (Reg.PD_SNKPOL.PDP p, q.u8 8)] s
      let s := kWrite (Reg.PD_CFG.ROLE p).addr [(Reg.PD_CFG.ROLE p, q.u8 1), (Reg.PD_CFG.PPSEN p, bitsOf f 0 1),
        (Reg.PD_CFG.EPREN p, bitsOf f 1 1), (Reg.PD_CFG.PRSWAP p, bitsOf f 2 1)] s
      kOk [] (kWrite (Reg.PWR_INCFG.EN p).addr [(Reg.PWR_INCFG.TRACK p, q.u8 3),
        (Reg.PWR_INCFG.BEYONDRP p, bitsOf f 3 1), (Reg.PWR_INCFG.ILIMMAX p, q.u16 10 / 10)] s)

/-- SET_REVERSE. -/
def actSetReverse : KpfAct := fun q s =>
  if 1 < q.u8 0 ∨ 7 < q.u8 1 ∨ 127 < q.u8 2 ∨ 511 < q.u16 4 / 10 then kNo rsBadParam s
  else
    let s := kWrite Reg.CHG_REVCTL.REVEN.addr [(Reg.CHG_REVCTL.REVEN, q.u8 0), (Reg.CHG_REVCTL.VMASK, q.u8 1),
      (Reg.CHG_REVCTL.PMAX, q.u8 2), (Reg.CHG_REVCTL.IMAX, q.u16 4 / 10)] s
    kOk (b1 (s.rd Reg.CHG_REVSTAT.ACTIVE) ++ b1 (s.rd Reg.CHG_REVSTAT.PORT) ++ b1 (s.rd Reg.CHG_REVSTAT.CAUSE)
      ++ b1 (s.rd Reg.CHG_REVSTAT.LOCKOUT0 + 2 * s.rd Reg.CHG_REVSTAT.LOCKOUT1)) s

/-! ### Group 0x05 (R389) -/

/-- GET_THERMAL. -/
def actGetThermal : KpfAct := fun _ s =>
  kOk (b1 (s.rd Reg.THM_STAT.LEVEL) ++ b1 (s.rd Reg.THM_STAT.PROCHOT) ++ b1 s.kpf.policy
    ++ b1 (kRead s Reg.FAN_STAT.STALLED)
    ++ ((List.range 20).map fun n => b2 (s.rd (Reg.THM_TEMP.TEMP n)) ++ b1 (s.rd (Reg.THM_TEMP.LEVEL n))
        ++ b1 (s.rd (Reg.THM_TEMP.FAULT n))).flatten) s

/-- GET_FANS. -/
def actGetFans : KpfAct := fun _ s =>
  let f (x : Field) : Nat := kRead s x
  kOk (((List.range 4).map fun n =>
    b1 (f (Reg.FAN_STATn.STATE n)) ++ b1 (f (Reg.FAN_STATn.CAUSE n)) ++ b1 (f (Reg.FAN_STATn.TRIES n))
      ++ flagByte [f (Reg.FAN_STATn.TACHLOST n) == 1, f (Reg.FAN_STATn.FORCED n) == 1]
      ++ b2 (f (Reg.FAN_SPD.TRPM n)) ++ b2 (f (Reg.FAN_SPD.RRPM n)) ++ b2 (f (Reg.FAN_OUT.VOUT n))
      ++ b2 (f (Reg.FAN_OUT.IOUT n))).flatten) s

/-- SET_FAN: MODE=CURVE restores the curve of the active profile. DEDUCED (log 81). -/
def actSetFan : KpfAct := fun q s =>
  let n := q.u8 0
  let mode := q.u8 1
  if 3 < n ∨ 3 < mode ∨ (mode = 1 ∧ 16383 < q.u16 2) then kNo rsBadParam s
  else
    let s := if mode = 1 then kField (Reg.FAN_VOLT.VSET n) (q.u16 2) s
      else if mode = 2 then kField (Reg.FAN_TGT.TGT n) (q.u16 2) s
      else if mode = 3 then loadCurves [(n, liveProfile s)] s else s
    kOk [] (kField (Reg.FAN_CTRL.MODE n) mode s)

/-- CLEAR_STALL. -/
def actClearStall : KpfAct := fun q s =>
  if 3 < q.u8 0 then kNo rsBadParam s else kOk [] (kField (Reg.FAN_CTRL.CLR (q.u8 0)) 1 s)

/-- SET_PROFILE. -/
def actSetProfile : KpfAct := fun q s =>
  if 2 < q.u8 0 then kNo rsBadParam s else kOk [] (setProfile (q.u8 0) s)

/-! ### The commands -/

/-- GET_PORT (R388): Returns a port's PD and tracker state. -/
def execGetPort (tag : Fin 8) (s : State) : Host.Outcome State Fault Refusal :=
  .next (kCommand 0x0401 actGetPort noMore tag.val s)

/-- GET_SOURCE_CAPS (R388): Returns the last source PDOs. -/
def execGetSourceCaps (tag : Fin 8) (s : State) : Host.Outcome State Fault Refusal :=
  .next (kCommand 0x0402 actGetSourceCaps noMore tag.val s)

/-- REQUEST_PDO (R388): Writes PD_REQ and completes on contract, REQREJ or timeout. -/
def execRequestPdo (tag : Fin 8) (s : State) : Host.Outcome State Fault Refusal :=
  .next (kCommand 0x0403 actRequestPdo noMore tag.val s)

/-- SEND_VDM (R388): Sends a VDM. -/
def execSendVdm (tag : Fin 8) (acked : Bool) (s : State) : Host.Outcome State Fault Refusal :=
  .next (kCommand 0x0404 (actSendVdm acked) noMore tag.val s)

/-- GET_VDM (R388): Returns a received VDM. -/
def execGetVdm (tag : Fin 8) (s : State) : Host.Outcome State Fault Refusal :=
  .next (kCommand 0x0405 actGetVdm noMore tag.val s)

/-- SET_PORT_POLICY (R388): Sets a port's role, PD and tracker policy. -/
def execSetPortPolicy (tag : Fin 8) (s : State) : Host.Outcome State Fault Refusal :=
  .next (kCommand 0x0406 actSetPortPolicy noMore tag.val s)

/-- SET_REVERSE (R388): Sets the reverse-supply parameters. -/
def execSetReverse (tag : Fin 8) (s : State) : Host.Outcome State Fault Refusal :=
  .next (kCommand 0x0407 actSetReverse noMore tag.val s)

/-- GET_THERMAL (R389): Returns the thermal inputs and levels. -/
def execGetThermal (tag : Fin 8) (s : State) : Host.Outcome State Fault Refusal :=
  .next (kCommand 0x0501 actGetThermal noMore tag.val s)

/-- GET_FANS (R389): Returns the fan channels. -/
def execGetFans (tag : Fin 8) (s : State) : Host.Outcome State Fault Refusal :=
  .next (kCommand 0x0502 actGetFans noMore tag.val s)

/-- SET_FAN (R389): Sets a fan's mode and value. -/
def execSetFan (tag : Fin 8) (s : State) : Host.Outcome State Fault Refusal :=
  .next (kCommand 0x0503 actSetFan noMore tag.val s)

/-- CLEAR_STALL (R389): Clears a fan stall. -/
def execClearStall (tag : Fin 8) (s : State) : Host.Outcome State Fault Refusal :=
  .next (kCommand 0x0504 actClearStall noMore tag.val s)

/-- SET_PROFILE (R389): Loads a fan profile's curves. -/
def execSetProfile (tag : Fin 8) (s : State) : Host.Outcome State Fault Refusal :=
  .next (kCommand 0x0505 actSetProfile noMore tag.val s)

end Sys2Proof.Machine
end

