-- ==== Sys2Proof/Machine/KpfLight.lean ====
section
/-! DEFINITION. The meanings of KPF's commands of groups 0x06 and 0x07: keyboard and lighting (R391, R392). -/

namespace Sys2Proof.Machine

/-! ### Group 0x06 (R391) -/

/-- GET_KBD_CONFIG. -/
def actGetKbdConfig : KpfAct := fun _ s =>
  kOk (b1 (s.rd Reg.KSC_GEOM.NDRV) ++ b1 (s.rd Reg.KSC_DEB.DBPRESS) ++ b1 (s.rd Reg.KSC_DEB.DBREL)
    ++ b1 (s.rd Reg.KSC_STUCKCFG.STUCKTO) ++ b4 (s.rd Reg.KSC_SENSEEN.SENSEEN) ++ b4 (s.rd Reg.KSC_NODIODE.NODIODE)) s

/-- STUCKTO and EXEMPT as a request or a setting gives them. -/
def loadStuck (b : List Byte) (s : State) : State :=
  (List.range 24).foldl (fun s i => busWrite s (Reg.KSC_EXEMPT.EXEMPT i).addr (natAt b (4 + 4 * i) 4))
    (kField Reg.KSC_STUCKCFG.STUCKTO (natAt b 0 1) s)

/-- The unlock sequence as a request or a setting gives it. -/
def loadSequence (b : List Byte) (s : State) : State :=
  let s := (List.range 8).foldl (fun s k =>
    let e := b.drop (4 + 12 * k)
    let s := busWrite s (Reg.KSC_SEQA.KEY0 k).addr
      (natAt e 0 2 % 1024 + 2 ^ 10 * (natAt e 2 2 % 1024) + 2 ^ 20 * (natAt e 4 2 % 1024))
    busWrite s (Reg.KSC_SEQB.KEY3 k).addr (natAt e 6 2 % 1024 + 2 ^ 16 * natAt e 8 1)) s
  kField Reg.KSC_LOCKCTL.NSTEPS (natAt b 0 1) s

/-- The setting that holds STUCKTO and EXEMPT: the spec names no key for it. DEDUCED (log 50). -/
def stuckKey : Nat := 0x0052

/-- A setting is stored; FAULTED when the store has no room. -/
def kStore (key : Nat) (value : List Byte) (s : State) : Option (Nat × List Byte) × State :=
  let r := writeSetting key value false s
  if r.1 then kOk [] r.2 else kNo rsFaulted r.2

/-- SET_STUCK. DEDUCED (log 50). -/
def actSetStuck : KpfAct := fun q s => kStore stuckKey (q.body.take 100) (loadStuck q.body s)

/-- LOCK. -/
def actLock : KpfAct := fun _ s => kOk [] (kField Reg.KSC_LOCKCTL.LOCK 1 s)

/-- A token is submitted and its check carried to its end; a check that runs already has it refused (R300).
DEDUCED (log 65). -/
def checkToken (tok : List Byte) (s : State) : State :=
  if s.sec.seq.isSome then tokSubmit tok s else tokDone (tokSubmit tok s)

/-- UNLOCK_SIGNED. DEDUCED (log 65). -/
def actUnlockSigned : KpfAct := fun q s =>
  let tok := q.body.take 272
  if tokKind tok ≠ 6 then kNo rsBadParam s
  else
    let s := checkToken tok s
    if s.on Reg.SEC_TOKCTL.KEYOK then
      kOk [0] (kField Reg.SEC_TOKCTL.KEYOK 1 (kField Reg.KSC_LOCKCTL.UNLOCK 1 s))
    else (some (rsDenied, b1 (s.rd Reg.SEC_TOKCTL.RESULT)), s)

/-- SET_UNLOCK_SEQ. -/
def actSetUnlockSeq : KpfAct := fun q s =>
  if kbdLocked s then kNo rsDenied s
  else if 8 < q.u8 0 ∨ (List.range 8).any (fun k => (List.range 4).any fun i => 1023 < q.u16 (4 + 12 * k + 2 * i)) then
    kNo rsBadParam s
  else kStore 0x0050 (q.body.take 100) (loadSequence q.body s)

/-! ### Group 0x07 (R392) -/

/-- GET_LIGHTING; while LUX is off its registers show nothing. -/
def actGetLighting : KpfAct := fun _ s =>
  let s := if luxOn s then kCollect [Reg.LUX_CNT.REPEAT, Reg.LUX_CNT.LATE, Reg.LUX_CNT.PAR] s else s
  let f (x : Field) : Nat := if luxOn s then s.rd x else 0
  let b (x : Field) : Bool := f x == 1
  kOk (flagByte [luxOn s, b Reg.LUX_STAT.RUNNING, b Reg.LUX_STAT.PENDING, b Reg.LUX_STAT.SYNCLOST, b Reg.LUX_STAT.VLEDOV,
      b Reg.LUX_STAT.ATMAX]
    ++ b1 (f Reg.LUX_STAT.BACK) ++ b1 (f Reg.CHN_STAT.STATE) ++ b1 (f Reg.CHN_STAT.CV) ++ b4 (f Reg.LUX_FRAME.FRAME)
    ++ b2 (f Reg.CHN_STAT.EPOCH) ++ b1 (f Reg.CHN_STAT.NFOUND) ++ [0] ++ b2 (f Reg.LUX_DERSTAT.FACTOR) ++ zeros 2
    ++ b4 (kSum s Reg.LUX_CNT.REPEAT) ++ b4 (kSum s Reg.LUX_CNT.LATE) ++ b4 (kSum s Reg.LUX_CNT.PAR)) s

/-- The engine controls of a SET_LIGHTING request. -/
def setLighting (b : List Byte) (s : State) : State :=
  let f := natAt b 0 1
  let s := kField Reg.LUX_SYNC.SRC (natAt b 1 1) s
  let s := kField Reg.LUX_BRIGHT.BRIGHT (natAt b 2 2) s
  let s := kField Reg.LUX_PERIOD.PERIOD (natAt b 4 4) s
  kWrite Reg.LUX_CTRL.EN.addr [(Reg.LUX_CTRL.EN, bitsOf f 0 1), (Reg.LUX_CTRL.DIRECT, bitsOf f 1 1),
    (Reg.LUX_CTRL.BLANK, bitsOf f 2 1), (Reg.LUX_CTRL.DIAGPULSE, bitsOf f 3 1)] s

/-- KPF switches LUX on. -/
def luxUp (s : State) : State := busWrite s 0x40000010 1

/-- SET_LIGHTING: with EN=1 LUX is switched on, and the answer waits for LUXRDY. A brightness that waited for LUX is
overtaken by it (R381). DEDUCED (log 82). -/
def actSetLighting : KpfAct := fun q s =>
  if 15 < q.u8 0 ∨ 3 < q.u8 1 ∨ 2047 < q.u16 2 ∨ 2 ^ 24 ≤ q.u32 4 then kNo rsBadParam s
  else if luxOn s then kOk [] (withKpf (fun k => { k with brightDue := false }) (setLighting q.body s))
  else if (q.u8 0).testBit 0 then
    kWait { tag := q.tag, code := 0x0702, data := q.body.take 8 }
      (withKpf (fun k => { k with brightDue := false }) (luxUp s))
  else kOk [] s

/-- An act on registers of LUX: refused for the moment while LUX is off. DEDUCED (log 82). -/
def onLux (s : State) (act : Option (Nat × List Byte) × State) : Option (Nat × List Byte) × State :=
  if luxOn s then act else kNo rsBusy s

/-- SET_LAMP_REGION. -/
def actSetLampRegion : KpfAct := fun q s =>
  let r := q.u8 0
  if 15 < r ∨ 3 < q.u8 1 ∨ 1023 < q.u16 2 ∨ 32767 < q.u16 4 ∨ 1 < q.u8 8 then kNo rsBadParam s
  else
    onLux s (kOk [] (kWrite (Reg.LUX_LAMPB.COUNT r).addr [(Reg.LUX_LAMPB.COUNT r, q.u16 6),
        (Reg.LUX_LAMPB.FADET r, q.u16 2), (Reg.LUX_LAMPB.CURVE r, q.u8 8)]
      (kWrite (Reg.LUX_LAMPA.START r).addr [(Reg.LUX_LAMPA.START r, q.u16 4), (Reg.LUX_LAMPA.WIDTH r, q.u8 1)] s)))

/-- SET_CCM. -/
def actSetCcm : KpfAct := fun q s =>
  let m := q.u8 0
  if 63 < m then kNo rsBadParam s
  else onLux s (kOk [] ((List.range 9).foldl (fun s k => kField (Reg.LUX_CCM.COEF m k) (q.u16 (2 + 2 * k)) s) s))

/-- SET_CHAIN_DRIVER. -/
def actSetChainDriver : KpfAct := fun q s =>
  let j := q.u8 0
  if 63 < j ∨ 1 < q.u8 1 ∨ 1023 < q.u16 2 ∨ 32767 < q.u16 4 then kNo rsBadParam s
  else
    let s1 := kWrite (Reg.CHN_DCFG.BASE j).addr [(Reg.CHN_DCFG.BASE j, q.u16 4), (Reg.CHN_DCFG.EN j, q.u8 1),
      (Reg.CHN_DCFG.NCH j, q.u16 2)] s
    onLux s (kOk [] ((List.range 4).foldl (fun s k =>
      kField (Reg.CHN_DPAR.PARAM j k) (q.u32 (8 + 4 * k)) s) s1))

/-- CHAIN_COMMIT: the job keeps the epoch and FRAME before it. -/
def actChainCommit : KpfAct := fun q s =>
  if !luxOn s then kNo rsBusy s
  else
    kJob 0x0706 q (s.rd Reg.LUX_FRAME.FRAME) (s.rd Reg.CHN_STAT.EPOCH) [] (kField Reg.CHN_CTRL.COMMIT 1 s)

/-- An entry of GET_CHAIN: the driver's status is read, and the counters of that register with it. -/
def chainEntry (r : List Byte × State) (j : Nat) : List Byte × State :=
  let s := r.2
  (r.1 ++ b1 j ++ b1 (s.rd (Reg.CHN_DSTAT.FLAGS j)) ++ b1 (s.rd (Reg.CHN_DINFO.XCAUSE j)) ++ b1 (s.rd (Reg.CHN_DSTAT.TEMP j))
    ++ b2 (s.rd (Reg.CHN_DERR.NOPEN j)) ++ b2 (s.rd (Reg.CHN_DERR.NSHORT j)),
   (busRead s (Reg.CHN_DSTAT.FLAGS j).addr).2)

/-- GET_CHAIN. -/
def actGetChain : KpfAct := fun q s =>
  if !luxOn s then kNo rsBusy s
  else
    let n := min 56 (s.rd Reg.CHN_STAT.NFOUND - q.u8 0)
    let r := ((List.range n).map (q.u8 0 + ·)).foldl chainEntry ([], s)
    kOk (b1 (s.rd Reg.CHN_STAT.NFOUND) ++ b1 (s.rd Reg.CHN_STAT.CV) ++ b2 (s.rd Reg.CHN_STAT.EPOCH) ++ b1 n ++ zeros 3
      ++ r.1) r.2

/-- Two bits a channel, from a list of diagnosis states. -/
def packPairs : List Nat → List Byte
  | [] => []
  | [a] => b1 a
  | [a, b] => b1 (a + 4 * b)
  | [a, b, c] => b1 (a + 4 * b + 16 * c)
  | a :: b :: c :: d :: l => b1 (a + 4 * b + 16 * c + 64 * d) ++ packPairs l

/-- GET_DIAG. -/
def actGetDiag : KpfAct := fun q s =>
  let a := q.u16 0
  let n := q.u16 2
  if n = 0 ∨ 768 < n ∨ 768 < a + n then kNo rsBadParam s
  else onLux s (kOk (b2 a ++ b2 n ++ packPairs ((List.range n).map fun i => diagOf s (a + i))) s)

/-- CLEAR_DIAG. -/
def actClearDiag : KpfAct := fun q s =>
  let c := q.u16 0
  if c = 0xFFFF then onLux s (kOk [] (kField Reg.LUX_DIAGCLR.ALL 1 s))
  else if 767 < c then kNo rsBadParam s
  else onLux s (kOk [] (kField Reg.LUX_DIAGCLR.CH c s))

/-! ### The commands -/

/-- GET_KBD_CONFIG (R391): Returns the keyboard configuration. -/
def execGetKbdConfig (tag : Fin 8) (s : State) : Host.Outcome State Fault Refusal :=
  .next (kCommand 0x0601 actGetKbdConfig noMore tag.val s)

/-- SET_STUCK (R391): Sets STUCKTO and the exempt keys. -/
def execSetStuck (tag : Fin 8) (s : State) : Host.Outcome State Fault Refusal :=
  .next (kCommand 0x0602 actSetStuck noMore tag.val s)

/-- LOCK (R391): Locks the keyboard. -/
def execLock (tag : Fin 8) (s : State) : Host.Outcome State Fault Refusal :=
  .next (kCommand 0x0603 actLock noMore tag.val s)

/-- UNLOCK_SIGNED (R391): Submits a KEYUNLOCK token and unlocks the keyboard on success. -/
def execUnlockSigned (tag : Fin 8) (s : State) : Host.Outcome State Fault Refusal :=
  .next (kCommand 0x0604 actUnlockSigned noMore tag.val s)

/-- SET_UNLOCK_SEQ (R391): Sets the unlock sequence. -/
def execSetUnlockSeq (tag : Fin 8) (s : State) : Host.Outcome State Fault Refusal :=
  .next (kCommand 0x0605 actSetUnlockSeq noMore tag.val s)

/-- GET_LIGHTING (R392): Returns the lighting status. -/
def execGetLighting (tag : Fin 8) (s : State) : Host.Outcome State Fault Refusal :=
  .next (kCommand 0x0701 actGetLighting noMore tag.val s)

/-- SET_LIGHTING (R392): Sets the engine controls. -/
def execSetLighting (tag : Fin 8) (s : State) : Host.Outcome State Fault Refusal :=
  .next (kCommand 0x0702 actSetLighting noMore tag.val s)

/-- SET_LAMP_REGION (R392): Sets a lamp region. -/
def execSetLampRegion (tag : Fin 8) (s : State) : Host.Outcome State Fault Refusal :=
  .next (kCommand 0x0703 actSetLampRegion noMore tag.val s)

/-- SET_CCM (R392): Sets a colour matrix. -/
def execSetCcm (tag : Fin 8) (s : State) : Host.Outcome State Fault Refusal :=
  .next (kCommand 0x0704 actSetCcm noMore tag.val s)

/-- SET_CHAIN_DRIVER (R392): Sets a chain driver's registers. -/
def execSetChainDriver (tag : Fin 8) (s : State) : Host.Outcome State Fault Refusal :=
  .next (kCommand 0x0705 actSetChainDriver noMore tag.val s)

/-- CHAIN_COMMIT (R392): Writes COMMIT and completes when the new epoch syncs. -/
def execChainCommit (tag : Fin 8) (s : State) : Host.Outcome State Fault Refusal :=
  .next (kCommand 0x0706 actChainCommit noMore tag.val s)

/-- GET_CHAIN (R392): Returns the chain drivers' status. -/
def execGetChain (tag : Fin 8) (s : State) : Host.Outcome State Fault Refusal :=
  .next (kCommand 0x0707 actGetChain noMore tag.val s)

/-- GET_DIAG (R392): Returns on-chip diagnosis states. -/
def execGetDiag (tag : Fin 8) (s : State) : Host.Outcome State Fault Refusal :=
  .next (kCommand 0x0708 actGetDiag noMore tag.val s)

/-- CLEAR_DIAG (R392): Clears diagnosis states. -/
def execClearDiag (tag : Fin 8) (s : State) : Host.Outcome State Fault Refusal :=
  .next (kCommand 0x0709 actClearDiag noMore tag.val s)

end Sys2Proof.Machine
end

