-- ==== Sys2Proof/Machine/KpfSecure.lean ====
section
/-! DEFINITION. The meanings of KPF's commands of groups 0x08 to 0x0A: Floe modules, security and attestation, flash
guard (R345, R346, R393 to R395). -/

namespace Sys2Proof.Machine

/-! ### Group 0x08 (R393) -/

/-- What stands in the way of a command to a Floe port. -/
def floePort (q : KpfReq) (s : State) : Option Nat :=
  if 1 < q.u8 0 then some rsBadParam else if !feature s (5 + q.u8 0) then some rsUnsupported else none

/-- GET_MODULES. -/
def actGetModules : KpfAct := fun q s =>
  let all := listed s
  let ms := (all.drop (q.u8 0)).take 30
  kOk (b1 all.length ++ b1 ms.length ++ zeros 2 ++ (ms.map fun m =>
    b1 m.port ++ b1 m.id ++ b1 m.cls ++ b1 (modState s m) ++ b1 m.reason ++ b1 m.rejects ++ zeros 2 ++ b8 m.uid).flatten) s

/-- A module that is admitted. -/
def admitted (s : State) (p id : Nat) : Option KpfModule := (findMod s p id).filter fun m => m.phase == .admitted

/-- A try of the command that waits for a module: sent once the port can send. -/
def tryModule (s : State) : State :=
  match s.kpf.wait with
  | some w =>
    match admitted s w.port w.id with
    | some m =>
      if (w.code == 0x0802 || w.code == 0x0803) && w.tries < 3 && w.due ≤ s.tbase + 150000 - 50000 * w.tries
          && canSend s w.port then
        cursorMoved m w.obj (kData m (if w.code = 0x0802 then 1 else 2) w.obj w.data
          (withKpf (fun k => { k with wait := some { w with tries := w.tries + 1 } }) s))
      else s
    | none => s
  | none => s

/-- A command to an admitted module: its first try is sent, and its answer waits. -/
def moduleAct (code : Nat) (refuse : KpfModule → Option Nat) (data : List Byte) (q : KpfReq) (s : State) :
    Option (Nat × List Byte) × State :=
  match floePort q s, admitted s (q.u8 0) (q.u8 1) with
  | some r, _ => kNo r s
  | none, none => kNo rsNotPresent s
  | none, some m =>
    match refuse m with
    | some r => kNo r s
    | none =>
      let w : KpfWait := { tag := q.tag, code := code, port := m.port, id := m.id, obj := q.u8 2
                           due := s.tbase + 150000, data := data }
      (none, tryModule (withKpf (fun k => { k with wait := some w }) s))

/-- MODULE_READ. -/
def actModuleRead : KpfAct := fun q s => moduleAct 0x0802 (fun _ => none) [] q s

/-- MODULE_WRITE. -/
def actModuleWrite : KpfAct := fun q s =>
  let n := q.u8 3
  if n = 0 ∨ 62 < n then kNo rsBadParam s
  else
    moduleAct 0x0803 (fun m => if m.cls = 1 ∧ q.u8 2 = 0x0A then some rsDenied else none) ((q.body.drop 4).take n) q s

/-- REDISCOVER: DISCOVER with RESTART=1, at once or as the next. -/
def actRediscover : KpfAct := fun q s =>
  match floePort q s with
  | some r => kNo r s
  | none =>
    let p := q.u8 0
    if canSend s p then kOk [] (discoverPort p true s)
    else kOk [] (withKpf (fun k => { k with restarted := k.restarted.filter (· != p) }) s)

/-! ### Group 0x09 (R394) -/

/-- GET_NONCE. -/
def actGetNonce : KpfAct := fun _ s =>
  let s := kField Reg.SEC_TOKCTL.NEWNONCE 1 s
  kOk (liveNonce s) s

/-- RESULT and REFCAUSE. -/
def tokenEnd (s : State) : List Byte := b1 (s.rd Reg.SEC_TOKCTL.RESULT) ++ b1 (s.rd Reg.SEC_LCS.REFCAUSE)

/-- SUBMIT_TOKEN: KINDs 2 to 4 are submitted after the answer. DEDUCED (log 65). -/
def actSubmitToken : KpfAct := fun q s =>
  let tok := q.body.take 272
  let kind := tokKind tok
  if kind = 6 then kNo rsBadParam s
  else if 2 ≤ kind ∧ kind ≤ 4 then kJob 0x0902 q 0 0 tok s
  else
    let s := checkToken tok (kField Reg.SEC_EVT.REFUSED 1 s)
    if s.rd Reg.SEC_TOKCTL.RESULT = 0 && !s.on Reg.SEC_EVT.REFUSED then kOk (tokenEnd s) s
    else (some (rsDenied, tokenEnd s), s)

/-- The submission that follows an ACCEPTED; a check that runs already has it refused, and the command ends. -/
def afterSubmit (result : Nat) (s : State) : State :=
  match jobOf s 0x0902 with
  | some j =>
    if result ≠ rsAccepted then s
    else if s.sec.seq.isSome then
      let s := tokSubmit j.data s
      kComplete 0x0902 rsDenied (tokenEnd s) s
    else tokSubmit j.data s
  | none => s

/-- ATTEST: an earlier report is gone (R394). -/
def actAttest : KpfAct := fun q s =>
  kJob 0x0903 q 0 0 (q.body.take 32) (withKpf (fun k => { k with report := none }) s)

/-- The part of a report that firmware supplies (R322, R346). -/
def reportEntries (s : State) : List Byte :=
  let rs := s.fgd.act.regions.take 16
  let ms := (listed s).take 32
  b1 rs.length ++ b1 ms.length ++ zeros 6
    ++ (rs.map fun r => b2 r.region ++ b1 r.state ++ b1 r.copy ++ zeros 4 ++ (r.computed ++ zeros 48).take 48).flatten
    ++ (ms.map fun m => b1 m.port ++ b1 m.id ++ b1 m.cls ++ b1 (m.phase == .admitted).toNat ++ zeros 4 ++ b8 m.uid).flatten

/-- The report, as the engine's ATTEST makes it; none where it is refused. -/
def makeReport (nonce : List Byte) (s : State) : Option (List Byte) × State :=
  match slotKey s 15 2 3 with
  | none => (none, s)
  | some key =>
    if lcs s = lcRetired || s.on Reg.SEC_LCS.DBGOPENED || s.on Reg.SEC_TRNGSTAT.FAIL then (none, s)
    else
      let body := reportHead nonce s ++ reportEntries s
      let r := drawBytes 56 s
      let k := Crypto.p384.scalar (beNat r.1)
      (some (body ++ Crypto.p384.sign (beNat key) (Crypto.sha Crypto.sha384 body) k), r.2)

/-- ATTEST ends, once the engine is free. -/
def attestEnds (s : State) : State :=
  match jobOf s 0x0903 with
  | none => s
  | some j =>
    if s.on Reg.SEC_CMDSTAT.BUSY then s
    else
      match makeReport j.data s with
      | (some rep, t) => kComplete 0x0903 rsOk (b2 rep.length) (withKpf (fun k => { k with report := some rep }) t)
      | (none, t) => kComplete 0x0903 rsFaulted [] t

/-- GET_REPORT. DEDUCED (log 81). -/
def actGetReport : KpfAct := fun q s =>
  match s.kpf.report with
  | none => kNo rsNotPresent s
  | some rep =>
    let off := q.u16 0
    if rep.length ≤ off then kNo rsBadParam s
    else
      let d := (rep.drop off).take 480
      kOk (b2 off ++ b2 d.length ++ d) s

/-- GET_IDENTITY_KEY. -/
def actGetIdentityKey : KpfAct := fun _ s =>
  if lcs s = lcRetired then kNo rsNotPresent s
  else kOk (deviceBytes s ++ getBytes Reg.SEC_IKPUB.IKPUB 24 s) s

/-- GET_LIFE_CYCLE. -/
def actGetLifeCycle : KpfAct := fun _ s =>
  kOk (b1 (lcs s) ++ b1 (s.rd Reg.SEC_LCS.SVCCNT) ++ b1 (s.rd Reg.SEC_FUSESTAT.FWARB) ++ b1 (s.rd Reg.SEC_FUSESTAT.HOSTARB)
    ++ b1 (s.rd Reg.SEC_FUSESTAT.OEMPROG) ++ b1 (s.rd Reg.SEC_FUSESTAT.OEMREV)
    ++ flagByte [s.on Reg.SEC_LCS.DBGOPEN, s.on Reg.SEC_LCS.DBGOPENED] ++ [0]) s

/-! ### Group 0x0A (R395) -/

/-- The entries of the region table in use. -/
def validRegions (s : State) : List Nat := (List.range 16).filter fun r => s.on (Reg.FGD_REGSTAT.VALID r)

/-- GET_FLASH_STATUS. -/
def actGetFlashStatus : KpfAct := fun _ s =>
  let rs := validRegions s
  kOk (b1 (s.rd Reg.FGD_STAT.VERDICT) ++ b1 (s.rd Reg.FGD_STAT.FAILCAUSE) ++ b1 (s.rd Reg.FGD_STAT.ACTMAN)
    ++ flagByte [s.on Reg.FGD_STAT.SPAREVALID] ++ b1 (s.rd Reg.FGD_STAT.PROMO) ++ b1 rs.length ++ zeros 2
    ++ b4 (s.rd Reg.FGD_TOP.TOP) ++ b4 (s.rd Reg.FGD_ACTSEQ.MSEQ) ++ b4 (s.rd Reg.FGD_SPARESEQ.MSEQ)
    ++ (rs.map fun r => b2 (s.rd (Reg.FGD_REGSTAT.REGION r)) ++ b1 (s.rd (Reg.FGD_REGSTAT.STATE r))
        ++ b1 (s.rd (Reg.FGD_REGSTAT.RSTATE r))
        ++ flagByte [s.on (Reg.FGD_REGSTAT.COPY r), s.on (Reg.FGD_REGSTAT.REQ r)] ++ zeros 3
        ++ b4 (s.rd (Reg.FGD_REGHB.HBASE r)) ++ b4 (s.rd (Reg.FGD_REGLEN.LEN r))).flatten) s

/-- PROMOTE: BUSY while a check runs; without a verdict that permits one the request is refused. -/
def actPromote : KpfAct := fun q s =>
  let v := s.rd Reg.FGD_STAT.VERDICT
  if s.rd Reg.FGD_STAT.PROMO = 1 then kNo rsBusy s
  else if v ≠ 1 ∧ v ≠ 2 then kNo rsFaulted s
  else kJob 0x0A02 q 0 0 [] (kField Reg.FGD_PROMO.GO 1 (kField Reg.FGD_EVT.PROMODONE 1 s))

/-- CANCEL_PROMOTE. DEDUCED (log 91). -/
def actCancelPromote : KpfAct := fun _ s => kOk [] (kField Reg.FGD_PROMO.CANCEL 1 s)

/-- The HSVN that HOSTARB advances to (R345). -/
def hostTarget (s : State) : Nat :=
  let a := s.fgd.act
  if a.arbNow || !s.on Reg.FGD_STAT.SPAREVALID then a.hsvn else min a.hsvn s.fgd.spare.hsvn

/-- CONFIRM_BOOT. -/
def actConfirmBoot : KpfAct := fun _ s =>
  let target := hostTarget s
  let refused := s.sec.seq.isSome || lcs s == lcRetired || s.fgd.act.regions.isEmpty
  let t := if s.fgd.act.regions.isEmpty then s
    else kWrite Reg.SEC_ARBADV.HOSTTGT.addr [(Reg.SEC_ARBADV.HOSTTGT, target), (Reg.SEC_ARBADV.GOHOST, 1)] s
  if refused || t.rd Reg.SEC_FUSESTAT.HOSTARB < target then kNo rsFaulted t
  else kOk (b1 (t.rd Reg.SEC_FUSESTAT.HOSTARB)) t

/-- GET_DIGEST. -/
def actGetDigest : KpfAct := fun q s =>
  match (validRegions s).find? fun r => s.rd (Reg.FGD_REGSTAT.REGION r) == q.u16 0 with
  | some r => kOk (getBytes (Reg.FGD_DIG.DIGEST r) 12 s) s
  | none => kNo rsNotPresent s

/-! ### The commands -/

/-- GET_MODULES (R393): Returns the Floe module list. -/
def execGetModules (tag : Fin 8) (s : State) : Host.Outcome State Fault Refusal :=
  .next (kCommand 0x0801 actGetModules noMore tag.val s)

/-- MODULE_READ (R393): Reads a module object. -/
def execModuleRead (tag : Fin 8) (s : State) : Host.Outcome State Fault Refusal :=
  .next (kCommand 0x0802 actModuleRead noMore tag.val s)

/-- MODULE_WRITE (R393): Writes a module object. -/
def execModuleWrite (tag : Fin 8) (s : State) : Host.Outcome State Fault Refusal :=
  .next (kCommand 0x0803 actModuleWrite noMore tag.val s)

/-- REDISCOVER (R393): Sends DISCOVER with RESTART on a port. -/
def execRediscover (tag : Fin 8) (s : State) : Host.Outcome State Fault Refusal :=
  .next (kCommand 0x0804 actRediscover noMore tag.val s)

/-- GET_NONCE (R394): Writes NEWNONCE and returns the nonce. -/
def execGetNonce (tag : Fin 8) (s : State) : Host.Outcome State Fault Refusal :=
  .next (kCommand 0x0901 actGetNonce noMore tag.val s)

/-- SUBMIT_TOKEN (R394): Submits a token. -/
def execSubmitToken (tag : Fin 8) (s : State) : Host.Outcome State Fault Refusal :=
  .next (kCommand 0x0902 actSubmitToken afterSubmit tag.val s)

/-- ATTEST (R394): Builds an attestation report. -/
def execAttest (tag : Fin 8) (s : State) : Host.Outcome State Fault Refusal :=
  .next (kCommand 0x0903 actAttest (fun _ s => attestEnds s) tag.val s)

/-- GET_REPORT (R394): Returns a piece of the report. -/
def execGetReport (tag : Fin 8) (s : State) : Host.Outcome State Fault Refusal :=
  .next (kCommand 0x0904 actGetReport noMore tag.val s)

/-- GET_IDENTITY_KEY (R394): Returns DEVID and IKPUB. -/
def execGetIdentityKey (tag : Fin 8) (s : State) : Host.Outcome State Fault Refusal :=
  .next (kCommand 0x0905 actGetIdentityKey noMore tag.val s)

/-- GET_LIFE_CYCLE (R394): Returns the life-cycle and fuse state. -/
def execGetLifeCycle (tag : Fin 8) (s : State) : Host.Outcome State Fault Refusal :=
  .next (kCommand 0x0906 actGetLifeCycle noMore tag.val s)

/-- GET_FLASH_STATUS (R395): Returns the Serac status and regions. -/
def execGetFlashStatus (tag : Fin 8) (s : State) : Host.Outcome State Fault Refusal :=
  .next (kCommand 0x0A01 actGetFlashStatus noMore tag.val s)

/-- PROMOTE (R395): Writes FGD_PROMO.GO and completes on PENDING or FAILED. -/
def execPromote (tag : Fin 8) (s : State) : Host.Outcome State Fault Refusal :=
  .next (kCommand 0x0A02 actPromote noMore tag.val s)

/-- CANCEL_PROMOTE (R395): Cancels a promotion. -/
def execCancelPromote (tag : Fin 8) (s : State) : Host.Outcome State Fault Refusal :=
  .next (kCommand 0x0A03 actCancelPromote noMore tag.val s)

/-- CONFIRM_BOOT (R395): Advances HOSTARB under R345. -/
def execConfirmBoot (tag : Fin 8) (s : State) : Host.Outcome State Fault Refusal :=
  .next (kCommand 0x0A04 actConfirmBoot noMore tag.val s)

/-- GET_DIGEST (R395): Returns a region digest. -/
def execGetDigest (tag : Fin 8) (s : State) : Host.Outcome State Fault Refusal :=
  .next (kCommand 0x0A05 actGetDigest noMore tag.val s)

end Sys2Proof.Machine
end

