-- ==== Sys2Proof/Machine/KpfStore.lean ====
section
/-! DEFINITION. The meanings of KPF's commands of groups 0x0B to 0x0D: update, log, settings (R396 to R398). -/

namespace Sys2Proof.Machine

/-! ### Group 0x0B (R396) -/

/-- NPIECE and STORED. -/
def pieceCounts (s : State) : List Byte :=
  b2 (if sessionValid s then sessionPieces s else 0) ++ b2 (storedPieces s).length

/-- OPEN. -/
def actOpen : KpfAct := fun q s =>
  if 1 < q.u8 52 then kNo rsBadParam s
  else
    let joins := sessionOpen s && sessionDigest s == q.body.take 48
    let r := sessionRequest (srcHost, 0) (q.body.take 48) (q.u32 48) s
    if r.1 = rsOk then
      let s := withKpf (fun k => { k with autoAct := if joins then k.autoAct else q.u8 52 == 1 }) r.2
      kOk (pieceCounts s ++ b1 (sessionState s) ++ zeros 3) s
    else kNo r.1 r.2

/-- The part of a piece that is there; a chunk of another discards it. -/
def pieceOf (i crc : Nat) (s : State) : State :=
  if s.kpf.pieceIndex = i ∧ s.kpf.pieceCrc = crc then s
  else withKpf (fun k => { k with pieceIndex := i, pieceCrc := crc, piece := [] }) s

/-- The part of a piece that is there, with a chunk of it. -/
def addChunk (i crc off : Nat) (data : List Byte) (s : State) : State :=
  withKpf (fun k =>
    { k with piece := ((List.range data.length).zip data).foldl (fun l p =>
        Sparse.insert (off + p.1) p.2 (Sparse.erase (off + p.1) l)) k.piece }) (pieceOf i crc s)

/-- The answer of PIECE: OUTCOME and STORED. -/
def pieceAnswer (outcome : Nat) (s : State) : Option (Nat × List Byte) × State :=
  kOk (b1 outcome ++ [0] ++ b2 (storedPieces s).length) s

/-- PIECE. DEDUCED (log 83). -/
def actPiece : KpfAct := fun q s =>
  let s := kpfScan sessionOff 4096 s
  let i := q.u16 0
  let off := q.u16 2
  let n := q.u16 4
  let crc := q.u32 8
  if n = 0 ∨ 480 < n then kNo rsBadParam s
  else if !sessionOpen s then kNo rsNotPresent s
  else if !s.kpf.members.contains (srcHost, 0) then kNo rsBusyOther s
  else if sessionPieces s ≤ i ∨ pieceLen s i < off + n then kNo rsBadParam s
  else if pieceStored s i then pieceAnswer 2 (pieceOf i crc s)
  else
    let s := addChunk i crc off ((q.body.drop 12).take n) s
    if s.kpf.piece.length < pieceLen s i then pieceAnswer 0 s
    else
      let r := storePiece (srcHost, 0) i (s.kpf.piece.map (·.2)) crc s
      let s := withKpf (fun k => { k with piece := [] }) r.2
      match r.1 with
      | .stored => pieceAnswer 1 s
      | .already => pieceAnswer 2 s
      | .notMember => kNo rsBusyOther s
      | .refused => kNo rsBadParam s

/-- STATUS. -/
def actStatus : KpfAct := fun _ s =>
  let s := kpfScan sessionOff 4096 s
  let v := sessionValid s
  let idle := if sessionOpen s then (s.tbase - s.kpf.idleRef) / 1000000 else 0
  kOk (b1 (sessionState s) ++ b1 (if v then (sessionOwner s).1 else 0) ++ pieceCounts s ++ zeros 2 ++ b4 idle
    ++ (if v then sessionDigest s else zeros 48)
    ++ leBytes 16 ((storedPieces s).foldl (fun m i => m ||| 2 ^ i) 0)) s

/-- ACTIVATE. -/
def actActivate : KpfAct := fun q s =>
  let s := kpfScan sessionOff 4096 s
  if !(sessionValid s && marked s mkApplied) then kNo rsNotPresent s
  else if bootStateIs s bcStarted then kNo rsBusy s
  else kJob 0x0B04 q 0 0 [] s

/-- CANCEL; a marker that the NVC controller refuses to program leaves the session open. DESIGN CHOICE (log 71). -/
def actCancel : KpfAct := fun _ s =>
  let s := kpfScan sessionOff 4096 s
  if !sessionOpen s then kNo rsNotPresent s
  else
    let t := mark mkCancelled s
    if marked t mkCancelled then kOk [] (sessionEvent t) else kNo rsFaulted t

/-- CONFIRM. -/
def actConfirm : KpfAct := fun _ s => if onTrial s then kOk [] (confirmSlot s) else kNo rsNotPresent s

/-! ### Group 0x0C (R397) -/

/-- GET_LOG_INFO. -/
def actGetLogInfo : KpfAct := fun _ s =>
  let s := kCollect [Reg.LOG_CNT.DROPCORE, Reg.LOG_CNT.DROPHW] s
  kOk (b2 (s.rd Reg.LOG_STAT.HEAD) ++ b1 s.log.front.length ++ [0] ++ b4 (kSum s Reg.LOG_CNT.DROPCORE)
    ++ b4 (kSum s Reg.LOG_CNT.DROPHW)) s

/-- The slots from `k` on that hold records, at most `n`, in ring order up to HEAD or the erased sector. -/
def logRun (s : State) : Nat → Nat → List Nat
  | 0, _ => []
  | n + 1, k =>
    if k = s.rd Reg.LOG_STAT.HEAD ∨ logSectorErased s (k / 128) then [] else k :: logRun s n ((k + 1) % 8192)

/-- READ_LOG, once the front end is empty (R375). -/
def actReadLog : KpfAct := fun q s =>
  let a := q.u16 0
  if 8191 < a ∨ q.u8 2 = 0 ∨ 15 < q.u8 2 then kNo rsBadParam s
  else
    let s := flushLog 64 s
    let ks := logRun s (q.u8 2) a
    let s' := ks.foldl (fun s k => kpfScan (logSlot k) 32 s) s
    kOk (b1 ks.length ++ [0] ++ b2 ((a + ks.length) % 8192) ++ (ks.map fun k => s.firnBytes (logSlot k) 32).flatten) s'

/-- WRITE_LOG. -/
def actWriteLog : KpfAct := fun q s =>
  if 3 < q.u8 0 then kNo rsBadParam s
  else
    let r := commitRecord 0xC0 (q.u8 0) (q.u16 2) (((q.body.drop 4).take 16).map (·.toNat)) s
    if r.1 then kOk [] r.2 else kNo rsBusy r.2

/-! ### Group 0x0D (R398) -/

/-- The default of a key: HOSTCONF 0, and the reset values of ICHG and VREG for the charge limits; no bytes for any
other. -/
def settingDefault (key : Nat) : List Byte :=
  if key = 0x0010 then [0] else if key = 0x0020 then b2 1000 ++ b2 4200 else []

/-- GET_SETTING. DEDUCED (log 81). -/
def actGetSetting : KpfAct := fun q s =>
  let key := q.u16 0
  if 0xC000 ≤ key then kNo rsBadParam s
  else
    let s := kpfScan firnSettings 0x40000 s
    let v := (settingOf s key).getD (settingDefault key)
    let v := v.take 488
    kOk (b2 key ++ b1 (ownFmt s key) ++ flagByte [(settingOf s key).isNone] ++ b2 v.length ++ zeros 2 ++ v) s

/-- The keys that KPF defines and takes from the host, those it alone writes. -/
def hostKeys : List Nat := [0x0010, 0x0020, 0x0030, 0x0040]
def ownKeys : List Nat := [0x0050, 0x0051, stuckKey]

/-- What stands in the way of a write of a key. -/
def keyRefusal (key : Nat) (s : State) : Option Nat :=
  if 0xC000 ≤ key then some rsBadParam
  else if 0x8000 ≤ key then none
  else if s.kpf.sealed then some rsDenied
  else if ownKeys.contains key then some rsDenied
  else if hostKeys.contains key then none else some rsNotPresent

/-- The value of a KPF key is one that it takes. -/
def valueGood (key : Nat) (v : List Byte) : Bool :=
  if key = 0x0010 then v.length == 1 && decide (natAt v 0 1 < 2) else if key = 0x0020 then v.length == 4 else true

/-- The charge limits follow their setting. -/
def takeLimits (s : State) : State :=
  let v := (settingOf s 0x0020).getD (settingDefault 0x0020)
  withKpf (fun k => { k with ichg := natAt v 0 2, vreg := natAt v 2 2 }) s

/-- The end of a write of a key: the settings values of R189 act at once. -/
def keyWritten (key : Nat) (r : Bool × State) : Option (Nat × List Byte) × State :=
  if !r.1 then kNo rsFaulted r.2
  else kOk [] (if key = 0x0020 then chargeApply (takeLimits r.2) else r.2)

/-- SET_SETTING. -/
def actSetSetting : KpfAct := fun q s =>
  let key := q.u16 0
  let v := (q.body.drop 4).take (q.u16 2)
  match keyRefusal key s with
  | some r => kNo r s
  | none =>
    if 480 < q.u16 2 ∨ (key < 0x8000 ∧ !valueGood key v) then kNo rsBadParam s
    else keyWritten key (writeSetting key v false s)

/-- DELETE_SETTING. DEDUCED (log 83). -/
def actDeleteSetting : KpfAct := fun q s =>
  let key := q.u16 0
  match keyRefusal key s with
  | some r => kNo r s
  | none =>
    let s := kpfScan firnSettings 0x40000 s
    if (settingOf s key).isNone then kNo rsNotPresent s else keyWritten key (writeSetting key [] true s)

/-! ### The commands -/

/-- OPEN (R396): Opens or joins an update session. -/
def execSessionOpen (tag : Fin 8) (s : State) : Host.Outcome State Fault Refusal :=
  .next (kCommand 0x0B01 actOpen noMore tag.val s)

/-- PIECE (R396): Carries a chunk of a package piece. -/
def execPiece (tag : Fin 8) (s : State) : Host.Outcome State Fault Refusal :=
  .next (kCommand 0x0B02 actPiece (fun _ s => completePackage s) tag.val s)

/-- STATUS (R396): Returns the session status. -/
def execStatus (tag : Fin 8) (s : State) : Host.Outcome State Fault Refusal :=
  .next (kCommand 0x0B03 actStatus noMore tag.val s)

/-- ACTIVATE (R396): Activates an APPLIED package. -/
def execActivate (tag : Fin 8) (s : State) : Host.Outcome State Fault Refusal :=
  .next (kCommand 0x0B04 actActivate (fun r s => if r = rsAccepted then activate s else s) tag.val s)

/-- CANCEL (R396): Cancels the session. -/
def execCancel (tag : Fin 8) (s : State) : Host.Outcome State Fault Refusal :=
  .next (kCommand 0x0B05 actCancel noMore tag.val s)

/-- CONFIRM (R396): Confirms a trial slot. -/
def execConfirm (tag : Fin 8) (s : State) : Host.Outcome State Fault Refusal :=
  .next (kCommand 0x0B06 actConfirm noMore tag.val s)

/-- GET_LOG_INFO (R397): Returns HEAD and the drop counts. -/
def execGetLogInfo (tag : Fin 8) (s : State) : Host.Outcome State Fault Refusal :=
  .next (kCommand 0x0C01 actGetLogInfo noMore tag.val s)

/-- READ_LOG (R397): Returns log records. -/
def execReadLog (tag : Fin 8) (s : State) : Host.Outcome State Fault Refusal :=
  .next (kCommand 0x0C02 actReadLog noMore tag.val s)

/-- WRITE_LOG (R397): Commits a host log record. -/
def execWriteLog (tag : Fin 8) (s : State) : Host.Outcome State Fault Refusal :=
  .next (kCommand 0x0C03 actWriteLog noMore tag.val s)

/-- GET_SETTING (R398): Returns a setting. -/
def execGetSetting (tag : Fin 8) (s : State) : Host.Outcome State Fault Refusal :=
  .next (kCommand 0x0D01 actGetSetting noMore tag.val s)

/-- SET_SETTING (R398): Writes a setting. -/
def execSetSetting (tag : Fin 8) (s : State) : Host.Outcome State Fault Refusal :=
  .next (kCommand 0x0D02 actSetSetting noMore tag.val s)

/-- DELETE_SETTING (R398): Deletes a setting. -/
def execDeleteSetting (tag : Fin 8) (s : State) : Host.Outcome State Fault Refusal :=
  .next (kCommand 0x0D03 actDeleteSetting noMore tag.val s)

end Sys2Proof.Machine
end

