-- ==== Sys2Proof/Machine/KpfTick.lean ====
section
/-! DEFINITION. What KPF does between commands: waits and long-running commands that end, events, the key window, the
EC image and its write queue, the bulk targets that it serves (R112, R113, R122, R333, R339, R375, R380, R386 to R402).
It is a part of what the block does when no command waits. -/

namespace Sys2Proof.Machine

/-! ### Waits and long-running commands (R380, R386 to R395) -/

/-- The answer that waits for a module or for LUX. -/
def waitStep (s : State) : State :=
  match s.kpf.wait with
  | none => s
  | some w =>
    if w.code = 0x0702 then (if luxOn s then kWaited rsOk [] (setLighting w.data s) else s)
    else if (admitted s w.port w.id).isNone then kWaited rsNotPresent [] s
    else if w.due ≤ s.tbase then kWaited rsTimeout [] s
    else tryModule s

/-- ENTER_SHIP: the request is made when DELAY has passed; a refusal completes with DENIED. -/
def shipEnds (s : State) : State :=
  match jobOf s 0x0206 with
  | none => s
  | some j =>
    if s.tbase < j.due then s
    else
      let t := busWrite s 0x40000010 (s.rd Reg.SYS_DOMCTRL.LUXEN + 2 ^ 16 + 2 ^ 9 + 0xA5 * 2 ^ 24)
      if t.on Reg.SYS_DOMCTRL.REFUSED then kComplete 0x0206 rsDenied [] t
      else withKpf (fun k => { k with jobs := k.jobs.filter fun i => i.code != 0x0206 }) t

/-- REQUEST_PDO. -/
def pdoEnds (s : State) : State :=
  match jobOf s 0x0403 with
  | none => s
  | some j =>
    if s.on (Reg.PD_EVT.REQREJ j.arg) then kComplete 0x0403 rsDenied [] s
    else if s.on (Reg.PD_EVT.CONTRACT j.arg) then kComplete 0x0403 rsOk [] s
    else if j.due ≤ s.tbase then kComplete 0x0403 rsTimeout [] s
    else s

/-- SEND_VDM. -/
def vdmEnds (s : State) : State :=
  match jobOf s 0x0404 with
  | none => s
  | some j =>
    if s.on (Reg.PD_EVT.VDMTXDONE j.arg) then kComplete 0x0404 rsOk [] s
    else if s.on (Reg.PD_VDMCTL.TXBUSY j.arg) then s
    else kComplete 0x0404 rsTimeout [] s

/-- CHAIN_COMMIT: the new epoch's returned sync, or 100 frame cycles. -/
def chainEnds (s : State) : State :=
  match jobOf s 0x0706 with
  | none => s
  | some j =>
    let epoch := s.rd Reg.CHN_STAT.EPOCH
    let n := s.chn.included.length
    let data := b2 epoch ++ b1 n ++ b1 (s.rd Reg.CHN_STAT.NFOUND - n)
    if !s.chn.commit && epoch != j.arg && s.chn.returned == some epoch then kComplete 0x0706 rsOk data s
    else if 100 ≤ (s.rd Reg.LUX_FRAME.FRAME + 2 ^ 32 - j.due) % 2 ^ 32 then kComplete 0x0706 rsTimeout data s
    else s

/-- SUBMIT_TOKEN of KINDs 2 to 4: a failure; a success resets the controller. -/
def tokenEnds (s : State) : State :=
  if (jobOf s 0x0902).isSome && s.sec.seq.isNone then kComplete 0x0902 rsDenied (tokenEnd s) s else s

/-- PROMOTE. DEDUCED (log 91). -/
def promoteEnds (s : State) : State :=
  if (jobOf s 0x0A02).isNone || s.rd Reg.FGD_STAT.PROMO == 1 then s
  else if s.on Reg.FGD_EVT.PROMODONE then kComplete 0x0A02 rsOk [] s
  else kComplete 0x0A02 rsFaulted (b1 (s.rd Reg.FGD_STAT.FAILCAUSE)) s

/-- Every long-running command that has come to its end completes. -/
def jobsEnd (s : State) : State :=
  attestEnds (promoteEnds (tokenEnds (chainEnds (vdmEnds (pdoEnds (shipEnds s))))))

/-! ### What events report on (R400, R402) -/

/-- An event of a code with its DATA. -/
def report (code : Nat) (data : List Nat) (bit : Nat) (s : State) : State :=
  kEvent { code := code, data := data } (some bit) s

/-- A thing that KPF watches: its number, its value as seen, and what a change from an old value to a new one brings. -/
structure Watch where
  key : Nat
  see : State → Nat
  act : Nat → Nat → State → State

/-- Bit `i` rose from `old` to `new`. -/
def rose (old new i : Nat) : Bool := !old.testBit i && new.testBit i

/-- Input `n`: attached, valid, selected, UNSTABLE. -/
def watchInput (n : Nat) : Watch where
  key := 0x1000 + n
  see s := (pin s n).attached.toNat + 2 * (pin s n).valid.toNat + 4 * (s.pwr.sel == some n).toNat
    + 8 * (pin s n).unstable.toNat
  act old new s :=
    let s := if rose old new 2 || rose new old 1 || rose old new 3 then
        report 0x10 [s.rd Reg.PWR_STAT.SEL, n, (pin s n).unstable.toNat] evPower s
      else s
    kQuery 1 s

/-- The battery: present, DISTRUSTED. -/
def watchBattery : Watch where
  key := 0x1100
  see s := (batteryPresent s).toNat + 2 * s.kpf.pack.distrusted.toNat
  act old new s :=
    let s := report 0x11 [new % 2, (battery s).elim 0 (·.source)] evPower s
    if old % 2 = new % 2 then s else kQuery 2 s

/-- The charger's state. -/
def watchCharger : Watch where
  key := 0x1200
  see := chgState
  act _ new s := kQuery 3 (report 0x12 [new, s.rd Reg.CHG_STAT.LOOP] evPower s)

/-- RSOC. -/
def watchRsoc : Watch where
  key := 0x1201
  see s := (battery s).elim 0 (·.rsoc)
  act _ _ s := kQuery 3 s

/-- The latched charge fault. -/
def watchFault : Watch where
  key := 0x1300
  see s := s.rd Reg.CHG_STAT.FCAUSE
  act _ new s := if new = 0 then s else report 0x13 [new] evPower s

/-- The contract of port `p`. -/
def watchContract (p : Nat) : Watch where
  key := 0x2000 + p
  see s := if s.on (Reg.PD_STAT.CONTRACT p) then (busRead s (Reg.PD_CONTRACT.VOLT p).addr).1 + 2 ^ 32 else 0
  act _ new s :=
    if new = 0 then s
    else
      let v := s.rd (Reg.PD_CONTRACT.VOLT p) / 100
      let i := s.rd (Reg.PD_CONTRACT.CURR p)
      report 0x20 [p, v % 256, v / 256, i % 256, i / 256] evPd s

/-- The thermal level. -/
def watchLevel : Watch where
  key := 0x3000
  see s := s.rd Reg.THM_STAT.LEVEL
  act _ new s := kQuery 4 (report 0x30 [new] evThermal s)

/-- Fan channel `n`. -/
def watchFan (n : Nat) : Watch where
  key := 0x3100 + n
  see s := fanState s n
  act _ new s :=
    let s := if new = fnStall ∨ new = fnNoload then report 0x31 [n, new] evThermal s else s
    if new = fnStall then kQuery 8 s else s

/-- The number of bits set below bit `n`. -/
def bitCount (m : Nat) : Nat → Nat
  | 0 => 0
  | n + 1 => bitCount m n + (m.testBit n).toNat

/-- The stuck mask. -/
def watchStuck : Watch where
  key := 0x4000
  see s := s.kbd.masked
  act _ new s := report 0x40 [bitCount new 768 % 256, bitCount new 768 / 256] evKeyState s

/-- The keyboard's lock state as KSC_LOCKST shows it, and FAILS. -/
def lockState (s : State) : Nat := kRead s Reg.KSC_LOCKST.STATE
def lockFails (s : State) : Nat := s.rd Reg.KSC_LOCKST.FAILS

/-- The lock; KPF keeps its state in setting 0x0051 (R211). -/
def watchLock : Watch where
  key := 0x4100
  see s := lockState s + 4 * lockFails s
  act _ _ s :=
    let s := (writeSetting 0x0051 (b1 (lockState s) ++ b1 (lockFails s)) false s).2
    kQuery 7 (report 0x41 [lockState s, lockFails s] evKeyState s)

/-- Word `i` of the on-chip diagnosis states: channels newly OPEN or SHORT. -/
def watchLamps (i : Nat) : Watch where
  key := 0x5000 + i
  see s := if luxOn s then s.rd (Reg.LUX_DIAG.STATE i) else 0
  act old new s := (List.range 16).foldl (fun s c =>
    let v := bitsOf new (2 * c) 2
    if 2 ≤ v ∧ v ≠ bitsOf old (2 * c) 2 then
      report 0x50 [(16 * i + c) % 256, (16 * i + c) / 256, Config.eventKind (v - 2) % 256] evLight s
    else s) s

/-- The excluded chain drivers. -/
def watchExcluded : Watch where
  key := 0x5100
  see s := if luxOn s then s.rd Reg.CHN_EXCLLO.MAP + 2 ^ 32 * s.rd Reg.CHN_EXCLHI.MAP else 0
  act old new s := (List.range 64).foldl (fun s j =>
    if rose old new j then report 0x50 [j, 0, Config.eventKind 2 % 256] evLight s else s) s

/-- The verdict. -/
def watchVerdict : Watch where
  key := 0x7000
  see s := s.rd Reg.FGD_STAT.VERDICT
  act _ new s := if new = 0 then s else report 0x70 [Config.eventKind 3 % 256, new] evFlash s

/-- Channels in FAULT. -/
def watchRails : Watch where
  key := 0x9000
  see s := (List.range 40).foldl (fun m n => m + (chState s n == chFault).toNat * 2 ^ n) 0
  act old new s := (List.range 40).foldl (fun s n =>
    if rose old new n then report 0x90 [n, s.rd (Reg.RAIL_CHSTAT.CAUSE n)] evPower s else s) s

/-- The lid. -/
def watchLid : Watch where
  key := 0x0500
  see s := s.board.lid.toNat
  act _ _ s := kQuery 5 s

/-- Everything that KPF watches. -/
def watches : List Watch :=
  [0, 1, 2].map watchInput ++ [watchBattery, watchCharger, watchRsoc, watchFault, watchContract 0, watchContract 1,
    watchLevel, watchFan 0, watchFan 1, watchFan 2, watchFan 3, watchStuck, watchLock]
  ++ (List.range 48).map watchLamps ++ [watchExcluded, watchVerdict, watchRails, watchLid]

/-- The values as KPF last saw them are those of now. -/
def watchSnapshot (s : State) : State :=
  withKpf (fun k => { k with watch := watches.foldl (fun l w => Sparse.put 0 w.key (w.see s) l) [] }) s

/-- What has changed since KPF looked last. DESIGN CHOICE (log 86). -/
def watchStep (s : State) : State :=
  watches.foldl (fun s w =>
    let old := Sparse.get 0 w.key s.kpf.watch
    let new := w.see s
    if old = new then s
    else w.act old new (withKpf (fun k => { k with watch := Sparse.put 0 w.key new k.watch }) s)) s

/-- Event bits of hardware that KPF takes and clears: a promotion applied, a refusal of the flash guard, the power
button, the lid's wake, and CREDITHALF (R122). -/
def flagStep (s : State) : State :=
  let take (f : Field) (act : State → State) (s : State) : State := if s.on f then act (kField f 1 s) else s
  let s := take Reg.FGD_EVT.PROMOTED (report 0x70 [Config.eventKind 4 % 256, s.rd Reg.FGD_STAT.VERDICT] evFlash) s
  let s := take Reg.FGD_EVT.REFUSED (report 0x70 [Config.eventKind 5 % 256, s.rd Reg.FGD_STAT.FAILCAUSE] evFlash) s
  let s := take Reg.SYS_WAKESTAT.PWRBTN (kQuery 6) s
  let s := take Reg.SYS_WAKESTAT.LID id s
  take Reg.MBX_EVT.CREDITHALF (kPost { bytes := evPost (2 ^ evBulk) }) s

/-! ### The key window (R112, R113) -/

/-- The 96 bytes of a key set. -/
def keyBytes (m : Nat) : List Byte := leBytes 96 m

/-- Window offsets 0x2004 to 0x20D3, for what KPF latched. -/
def keyWindow (f : KeyView) (s : State) : List Byte :=
  flagByte [f.stat.testBit 2, f.stat.testBit 3, kbdLocked s] ++ zeros 11 ++ keyBytes f.deliv ++ keyBytes f.stuck
    ++ b1 (lockState s) ++ b1 (lockFails s) ++ zeros 2

/-- GEN as posted last: of a post that awaits promotion, or else in the host view. -/
def keyGen (s : State) : Nat :=
  leNat ((List.range 4).map fun i =>
    (((s.link.closed.getD {}).bytes.lookup (0x2000 + i)).map (BitVec.ofNat 8)).getD (Sparse.get 0 (0x2000 + i) s.link.view))

/-- The post of a change of the key window: EVSTAT, GEN one higher, and the bytes that differ. -/
def keyPostOf (f : KeyView) (s : State) : Post :=
  { bytes := evPost (2 ^ evKey) ++ changed 0x2000 [] (b4 (keyGen s + 1)) ++ changed 0x2004 s.kpf.keyWin (keyWindow f s) }

/-- The post buffer has room for a post of KPF's with the identity page's changes. -/
def postFits (q : Post) (s : State) : Bool :=
  decide (((s.link.closed.getD {}).merge (Post.merge { bytes := changed 0x10 s.kpf.page (identPage s) } q)).size ≤ 512)

/-- A change of the key window is posted whole (R113). -/
def keyPostView (f : KeyView) (s : State) : State :=
  let w := keyWindow f s
  if w == s.kpf.keyWin then s else kPost (keyPostOf f s) (withKpf (fun k => { k with keyWin := w }) s)

/-- What KPF latched is posted in order while the post buffer has room, and then a change of the lock. -/
def keyPosts : List KeyView → State → State
  | [], s => if postFits (keyPostOf s.kbd.latched s) s then keyPostView s.kbd.latched s else s
  | f :: fs, s =>
    if postFits (keyPostOf f s) s then keyPosts fs (keyPostView f (withKpf (fun k => { k with keyViews := fs }) s))
    else s

/-- Every change of the key window is posted, CHANGE being taken; a post of firmware's that is open comes first.
DESIGN CHOICE (log 86). -/
def keyPost (s : State) : State :=
  if !s.hostOn then withKpf (fun k => { k with keyViews := [] }) s
  else if s.link.opened.isSome then s
  else keyPosts s.kpf.keyViews (if s.kpf.keyViews.isEmpty then s else kField Reg.KSC_EVT.CHANGE 1 s)

/-! ### The EC image and the write queue (R401, R402) -/

/-- A charging state. -/
def charging (s : State) : Bool := chgState s == csPre || chgState s == csCc || chgState s == csCv

/-- Input power in 0.1 W. -/
def inPower (s : State) : Nat :=
  match s.pwr.sel with
  | some n => (pin s n).vin * (pin s n).iin / 100000
  | none => 0

/-- LUX_BRIGHT in %, so that a percentage written to it reads back. -/
def brightPercent (s : State) : Nat := (min (s.rd Reg.LUX_BRIGHT.BRIGHT) 1024 * 100 + 1023) / 1024

/-- The lighting brightness (R401): LUX_BRIGHT's, and while LUX is off, or a value waits for it, what was last set.
DEDUCED (log 86). -/
def lightBright (s : State) : Nat := if luxOn s && !s.kpf.brightDue then brightPercent s else s.kpf.bright

/-- A brightness in % goes into LUX_BRIGHT. -/
def writeBright (v : Nat) (s : State) : State := kField Reg.LUX_BRIGHT.BRIGHT (v * 1024 / 100) s

/-- KPF keeps the brightness as LUX_BRIGHT has it, and gives LUX the one that it could not take while it was off. -/
def lightStep (s : State) : State :=
  if !luxOn s then s
  else
    let s := if s.kpf.brightDue then writeBright s.kpf.bright s else s
    withKpf (fun k => { k with bright := brightPercent s, brightDue := false }) s

/-- The 256 bytes of the EC image. -/
def ecImageOf (s : State) : List Byte :=
  let v := battery s
  let num (f : BatView → Nat) : Nat := v.elim 0 f
  [1] ++ flagByte [s.pwr.sel.isSome, batteryPresent s, charging s, chgState s == csDone, chgFaulted s, s.board.lid,
      s.kpf.pack.distrusted, s.on Reg.CHG_REVSTAT.ACTIVE]
    ++ b1 (s.rd Reg.PWR_STAT.SEL) ++ b1 (num (·.rsoc)) ++ b2 (num (·.volt)) ++ b2 (num (·.curr)) ++ b2 (num (·.remcap))
    ++ b2 (num (·.fullcap)) ++ b2 (inPower s) ++ b1 (s.rd Reg.THM_STAT.LEVEL) ++ b1 s.kpf.policy
    ++ ((List.range 20).map fun n => BitVec.ofInt 8 (consumerTemp s n))
    ++ ((List.range 4).map fun n => b2 (fanSpeed s n)).flatten
    ++ b1 (s.rd Reg.RAIL_CTRL.TSEL) ++ b1 (lockState s)
    ++ b1 (s.kpf.modules.filter fun m => m.phase == .admitted).length ++ zeros 81
    ++ b1 s.kpf.chgLimit ++ b1 (lightBright s) ++ b1 s.kpf.profile ++ zeros 125

/-- The EC image is refreshed, once no post is pending. DESIGN CHOICE (log 86). -/
def ecPost (s : State) : State :=
  if !s.hostOn || !feature s 8 || s.link.closed.isSome || s.link.opened.isSome then s
  else
    let w := ecImageOf s
    if w == s.kpf.ecImage then s
    else kPost { bytes := changed 0x10000 s.kpf.ecImage w } (withKpf (fun k => { k with ecImage := w }) s)

/-- KPF acts on a WR_EC pair. -/
def ecPair (p : Byte × Byte) (s : State) : State :=
  let v := p.2.toNat
  match p.1.toNat with
  | 0x80 => if v ≤ 100 then chargeApply (limitCheck (withKpf (fun k => { k with chgLimit := v }) s)) else s
  | 0x81 =>
    if v ≤ 100 then
      withKpf (fun k => { k with bright := v, brightDue := !luxOn s }) (if luxOn s then writeBright v s else s)
    else s
  | 0x82 => if v ≤ 2 then setProfile v s else s
  | 0x83 => if v = 1 ∧ feature s 7 then kField Reg.KSC_LOCKCTL.LOCK 1 s else s
  | _ => s

/-- KPF takes the pairs of the write queue in order. -/
def drainPairs : Nat → State → State
  | 0, s => s
  | n + 1, s =>
    match s.ec.wq with
    | [] => s
    | p :: _ => drainPairs n (ecPair p (ecWqRead s).2)

/-- Forwarded bytes are discarded. -/
def drainForwarded : Nat → State → State
  | 0, s => s
  | n + 1, s => if s.ec.inq.isEmpty then s else drainForwarded n (ecInRead s).2

/-- The EC ports. -/
def ecStep (s : State) : State :=
  if !feature s 8 then withKpf (fun k => { k with queries := [] }) s
  else kPush (ecPost (drainPairs 32 (drainForwarded 32 s)))

/-! ### Bulk targets 4 and 6 (R333, R375) -/


/-- A record goes into the read FIFO. -/
def sendRecord (k : Nat) (s : State) : State :=
  let s := kpfScan (logSlot k) 32 s
  (List.range 8).foldl (fun s i => bulkWr (leNat (s.firnBytes (logSlot k + 4 * i) 4)) s) s

/-- Records go into the read FIFO while they fit, up to HEAD or the erased sector. -/
def sendLog : Nat → State → State
  | 0, s => s
  | n + 1, s =>
    match s.kpf.logPos with
    | none => s
    | some k =>
      if 4096 < s.bulk.rfifo.length + 32 ∨ logRun s 1 k = [] then s
      else sendLog n (withKpf (fun x => { x with logPos := some ((k + 1) % 8192) }) (sendRecord k s))

/-- Target 4: a unit begins at the slot in BULK_ADDR. -/
def logReadout (s : State) : State :=
  if !s.hostOn || bulkTarget s != 4 then s
  else
    let a := s.rd Reg.HW_BULK_ADDR.ADDR
    let s := if s.kpf.logPos.isNone && decide (a < 8192) then
        withKpf (fun k => { k with logPos := some a }) (flushLog 64 s)
      else s
    sendLog 128 s

/-- The response to a tunnel request, padded to words. -/
def tunnelAnswer (tag status : Nat) (data : List Byte) (s : State) : State :=
  let b := b4 tag ++ b1 status ++ [0] ++ b2 data.length ++ data
  let s := (List.range ((b.length + 3) / 4)).foldl (fun s k => bulkWr (leNat ((b.drop (4 * k)).take 4)) s) s
  withKpf (fun k => { k with unit := [], relay := none }) s

/-- The SRAM buffer that KPF uses for tunnel requests: the spec gives no address. DESIGN CHOICE (log 93). -/
def tunnelBuf : Nat := 0x200FE000

/-- A closed unit of target 6: a request is relayed, or refused with STATUS 3. -/
def tunnelStart (s : State) : State :=
  let u := s.kpf.unit
  let op := natAt u 0 1
  let len := natAt u 2 2
  let s := bulkAck true false s
  let shaped := op = 1 ∧ u.length = 12 ∧ 1 ≤ len ∧ len ≤ 4080 ∨ op = 2 ∧ u.length = 12 + len ∧ 1 ≤ len ∧ len ≤ 4080
    ∨ op = 3 ∧ u.length = 12 ∧ len = 0
  if s.on Reg.HW_BULK_STAT.INCOMPLETE ∨ !s.spi ∨ ¬ shaped ∨ natAt u 1 1 ≠ 0 then tunnelAnswer (natAt u 8 4) 3 [] s
  else
    let s := if op = 2 then s.setBytes tunnelBuf (u.drop 12) else s
    let s := busWrite s Reg.FGD_FADDR.ADDR.addr (natAt u 4 4)
    let s := kField Reg.FGD_FLEN.LEN len s
    let s := kField Reg.FGD_FBUF.BUF (tunnelBuf / 4) s
    withKpf (fun k => { k with unit := [], relay := some (natAt u 8 4, op) })
      (busWrite s Reg.FGD_FREQ.OP.addr (op + 4 + 8))

/-- Target 6.  Under eSPI flash service never uses the bulk port: a request is refused (R123). DEDUCED (log 105). -/
def tunnelStep (s : State) : State :=
  match s.kpf.relay with
  | some (tag, op) =>
    if s.on Reg.FGD_FREQ.BUSY then s
    else
      let r := s.rd Reg.FGD_FREQ.RESULT
      tunnelAnswer tag r (if op = 1 ∧ r = 0 then s.bytes tunnelBuf (s.rd Reg.FGD_FLEN.LEN) else []) s
  | none =>
    if !s.hostOn || bulkTarget s != 6 then s
    else
      let s := takeUnit s
      if s.bulk.closeReq && !s.on Reg.FGD_FREQ.BUSY then tunnelStart s else s

/-- Target 5: the bytes of the open unit move into KPF's memory; its close is PIECE_DELIVERED. -/
def stagingStep (s : State) : State := if s.hostOn && bulkTarget s == 5 then takeUnit s else s

/-! ### All of it -/

/-- RSMEN is set once the S5 rail set shows SETDONE (R339). -/
def rsmStep (s : State) : State :=
  if feature s 9 && s.rd Reg.RAIL_CTRL.TSEL == 3 && s.on Reg.RAIL_STAT.SETDONE then kSet Reg.FGD_CTRL.RSMEN 1 s else s

/-- The 10 s of R363 count anew while FWREADY is clear or the first watchdog stage has passed. -/
def readyStep (s : State) : State :=
  if s.on Reg.MBX_CTRL.FWREADY && s.rd Reg.TMR_WDSTAT.STAGE == 0 then s
  else withKpf (fun k => { k with readyAt := s.tbase }) s

/-- The channels in FAULT. -/
def faultChannels (s : State) : List Nat := (List.range 40).filter fun n => chState s n == chFault

/-- Step 1 of R142: RAIL_CLR is written for every channel in FAULT, with a record for each; the rail events begin anew.
DEDUCED (log 115). -/
def offBegin (s : State) : State :=
  let ch := faultChannels s
  let m := ch.foldl (fun m n => m + 2 ^ n) 0
  let s := ch.foldl (fun s _ => kRecord 5 s) (busWrite s Reg.RAIL_EVT.FAULT.addr 0xF)
  let s := busWrite (busWrite s Reg.RAIL_CLR0.CH.addr (m % 2 ^ 32)) Reg.RAIL_CLR1.CH.addr (m / 2 ^ 32)
  withKpf (fun k => { k with offAt := some s.tbase, offStep := some s.rail.steps }) s

/-- Steps 2 and 3 of R142: COREOFF is requested, and a refusal is recorded. DEDUCED (log 115). -/
def offAsk (s : State) : State :=
  let lux := if s.on Reg.SYS_DOMCTRL.LUXEN then 1 else 0
  let s := busWrite (withKpf (fun k => { k with offStep := none }) s) Reg.SYS_DOMCTRL.COREOFF.addr (0xA5010100 + lux)
  if s.on Reg.SYS_DOMCTRL.REFUSED then kRecord 6 s else s

/-- KPF with rail set 4 selected (R142): once SETDONE shows for that set it clears the faults and asks for the AON-only
state after the next rail step; a refused request is tried again after a later rail event, at most once per second.
DEDUCED (log 115). -/
def powerDown (s : State) : State :=
  if s.rd Reg.RAIL_CTRL.TSEL ≠ 4 then withKpf (fun k => { k with offAt := none, offStep := none }) s
  else if s.sys.offReq.isSome then s
  else
    match s.kpf.offStep with
    | some n => if n < s.rail.steps then offAsk s else s
    | none =>
      let due := match s.kpf.offAt with
        | none => true
        | some t => decide (t + 1000000 ≤ s.tbase) && s.regWord Reg.RAIL_EVT.FAULT.addr != 0
      if due && s.on Reg.RAIL_STAT.SETDONE && setDone s then offBegin s else s

/-- Charging follows CHGLIMIT, the battery modules and a pack that is removed; a full charge is noted. -/
def chargeStep (s : State) : State :=
  let t := limitCheck (fullCharge (packRemoved s))
  if t.kpf.limitHold != s.kpf.limitHold || !(connected t).isEmpty then chargeApply t else t

/-- Frames that wait in the receive FIFOs. -/
def framesStep (s : State) : State :=
  [0, 1].foldl (fun s p => if feature s (5 + p) then drainFrames p 8 s else s) s

/-- Mailboxes: tags are taken, unknown commands refused, lost completions repeated. DEDUCED (log 35). -/
def mailStep (s : State) : State := kPage (kRepeat (kUnknown (kTake s)))

/-- KPF, when no command waits. DEDUCED (log 85). -/
def kpfTick (s : State) : State :=
  if !kpfRuns s then s
  else if s.kpf.state = 3 then mailStep s
  else
    let s := dongleStep (framesStep (waitStep (mailStep s)))
    let s := takeVdm 1 (takeVdm 0 (policyCheck (chargeStep s)))
    let s := watchStep (flagStep (jobsEnd s))
    let s := tunnelStep (logReadout (stagingStep s))
    powerDown (ecStep (lightStep (keyPost (readyStep (rsmStep s)))))

end Sys2Proof.Machine
end

