-- ==== Sys2Proof/Machine/KpfStart.lean ====
section
/-! DEFINITION. The start of KPF 4.0 in a slot: what it takes over, what it programs and what it tells the host (R111,
R133, R163, R211, R261, R324, R357, R359, R365, R379, R382, R400). -/

namespace Sys2Proof.Machine

/-! ### What memory holds -/

/-- A module as a new image takes it over: what a dongle offers is asked for anew. -/
def takenOver (m : KpfModule) : KpfModule := { m with objs := Sparse.put [] 0x40 [] m.objs }

/-- What it finds after any core reset: retained RAM, what stands in the host view and in the hardware, the sessions of
admitted modules, whose keys the key table keeps (R293), and what the pack last said. DESIGN CHOICE (log 75). -/
def keptOver (k : Kpf) : Kpf :=
  { restarts := k.restarts, idleRef := k.idleRef, autoAct := k.autoAct, qCarry := k.qCarry, page := k.page
    keyWin := k.keyWin, ecImage := k.ecImage, pack := k.pack, policy := k.policy, stallAt := k.stallAt
    modules := (tableModules k).map takenOver, admissions := k.admissions, lastIds := k.lastIds
    restarted := k.restarted, discAt := k.discAt, arbNow := k.arbNow }

/-- An item of a hand-over block, if it is there. -/
def item (l : List (Nat × List Byte)) (type : Nat) {α : Type} (read : List Byte → α) (none_ : α) : α :=
  (l.lookup type).elim none_ read

/-- The modules of item 0x0004, with what the hardware and the modules' traffic have shown of them. -/
def handedModules (k : Kpf) (b : List Byte) : List KpfModule :=
  (recordsIn modIn (fun _ => 20) 64 b).map fun m =>
    match k.modules.find? fun o => o.port == m.port && o.id == m.id && o.uid == m.uid with
    | some o => takenOver { m with objs := o.objs, missed := o.missed, pingAt := o.pingAt }
    | none => m

/-- What a start finds of KPF's memory after a hand-over: the items of the block (R365), and the limits and profiles
that the outgoing image had set, with whether it charges and why not. DESIGN CHOICE (log 75). -/
def handedOver (block : List Byte) (k : Kpf) : Kpf :=
  let l := itemsIn 64 block
  { keptOver k with
    qCarry := item l 1 (fun b => signed 64 (natAt b 0 8)) 0
    jobs := item l 2 (fun b => recordsIn jobIn jobSize 64 b) []
    stored := item l 3 (fun b => recordsIn storedIn storedSize 64 b) []
    modules := item l 4 (handedModules k) []
    idleRef := item l 5 (fun b => natAt b 0 8) 0
    ecImage := item l 6 (fun b => (b.drop 2).take (natAt b 0 2)) []
    queries := item l 6 (fun b => (b.drop (2 + natAt b 0 2)).map (·.toNat)) []
    ovf := item l 7 (fun b => natAt b 0 1 == 1) false
    events := item l 7 (fun b => recordsIn queuedIn queuedSize 64 (b.drop 1)) []
    chgLimit := k.chgLimit, wantEn := k.wantEn, limitHold := k.limitHold, terminated := k.terminated
    bright := k.bright, brightDue := k.brightDue, profile := k.profile, sealed := k.sealed }

/-- HOST_RSMRST_N and PLTRST_N are both deasserted (R379). -/
def hostReleased (s : State) : Bool := rsmReleased s && s.hostOn && !s.on Reg.HOST_VWIN.PLTRST

/-- KPF's memory as the started slot finds it; `ho` says that the hand-over block was accepted. -/
def kpfMemory (ho : Bool) (slot : Bool) (s : State) : State :=
  withKpf (fun k =>
    let m := if ho then handedOver (s.bytes (retBase + 64) (s.loadNat (retBase + 0x0C) 4)) k else { keptOver k with sealed := hostReleased s }
    { m with
      restarts := k.restarts + 1, version := imageVersion s slot, state := if s.sec.safe then 2 else 1
      members := if sessionOpen s then [sessionOwner s] else [], readyAt := s.tbase }) s

/-! ### Registers -/

/-- The slots of Icefall as KPF programs them: number, action, ARG, period and phase (R133). -/
def kpfSlots : List (Nat × Nat × Nat × Nat × Nat) :=
  [(0, 3, 0, 100, 0), (1, 4, 0, 125, 10), (2, 6, 0, 1000, 20), (3, 6, 1, 1000, 40), (4, 6, 2, 1000, 60),
   (5, 6, 3, 1000, 80), (6, 1, 0, 1000, 100), (7, 1, 1, 10000, 300), (8, 2, 0, 10000, 500), (9, 2, 1, 10000, 2500),
   (10, 2, 2, 10000, 4500), (11, 2, 3, 10000, 6500), (12, 5, 0, 4166, 700), (63, 0, 0, 10000, 900)]

/-- KPF programs one slot. -/
def startSlot (s : State) (r : Nat × Nat × Nat × Nat × Nat) : State :=
  let n := r.1
  let s := busWrite (busWrite s (Reg.LPE_SPER.PERIOD n).addr r.2.2.2.1) (Reg.LPE_SPH.PHASE n).addr r.2.2.2.2
  let crit := if n ≤ 11 then 2 else 0
  busWrite s (Reg.LPE_SCFG.EN n).addr (1 + crit + 2 ^ 4 * r.2.1 + 2 ^ 8 * r.2.2.1)

/-- Icefall is programmed once after a domain reset: a locked schedule stays (R132). DEDUCED (log 94). -/
def startIcefall (s : State) : State :=
  if s.on Reg.LPE_CTRL.LOCK then s else kField Reg.LPE_CTRL.LOCK 1 (kField Reg.LPE_CTRL.RUN 1 (kpfSlots.foldl startSlot s))

/-- A mask of mux inputs. -/
def inputMask (is : List Nat) : Nat := is.foldl (fun m i => m + 2 ^ i) 0

/-- The two ADC sequences that KPF uses. -/
def sequence0 : List Nat := (List.range 8).map (16 + ·) ++ (List.range 19).map (28 + ·)
def sequence1 : List Nat := List.range 16 ++ (List.range 4).map (24 + ·)

/-- KPF programs an ADC sequence. -/
def startSequence (j : Nat) (is : List Nat) (s : State) : State :=
  busWrite (busWrite s (Reg.THM_SEQLO.MASKLO j).addr (inputMask is % 2 ^ 32)) (Reg.THM_SEQHI.MASKHI j).addr
    (inputMask is / 2 ^ 32)

/-- The registers that THM_CTRL.LOCK locks (R261). -/
def thermalRegs : List Nat :=
  [0x400A0010] ++ (List.range 40).map (0x400A0400 + 4 * ·)
    ++ ((List.range 33).map (0x400A0800 + 4 * ·) ++ (List.range 33).map (0x400A0900 + 4 * ·))

/-- The thermal tables and thresholds come from setting 0x0030, if it is there, and are locked.
DESIGN CHOICE (log 56). -/
def startThermal (s : State) : State :=
  if s.on Reg.THM_CTRL.LOCK then s
  else
    let s := startSequence 1 sequence1 (startSequence 0 sequence0 s)
    let s :=
      match settingOf s 0x0030 with
      | some b => thermalRegs.foldl (fun s a => busWrite s a (Config.thermalTable b a % 2 ^ 32)) s
      | none => s
    kField Reg.THM_CTRL.LOCK 1 s

/-- The keyboard takes its stuck keys and its unlock sequence from the settings store, and at the first start since a
cold reset its lock state and FAILS (R211). DEDUCED (log 51). -/
def startKeyboard (s : State) : State :=
  let s := (settingOf s stuckKey).elim s fun b => loadStuck b s
  let s := (settingOf s 0x0050).elim s fun b => loadSequence b s
  match settingOf s 0x0051 with
  | some b =>
    if s.kpf.restarts = 1 then
      let s := kField Reg.KSC_LOCKST.FAILS (natAt b 1 1) s
      if natAt b 0 1 = 0 then s else kField Reg.KSC_LOCKCTL.LOCK 1 s
    else s
  | none => s

/-- Ports ignore the Rp advertisement (R163). DEDUCED (log 94). -/
def startPorts (s : State) : State :=
  if s.sec.coreOnly then s else kSet (Reg.PWR_INCFG.BEYONDRP 1) 1 (kSet (Reg.PWR_INCFG.BEYONDRP 0) 1 s)

/-- Verification starts at the first start after a domain reset (R338). DEDUCED (log 94). -/
def startSerac (s : State) : State :=
  if !s.sec.coreOnly && feature s 9 && s.rd Reg.FGD_STAT.VERDICT == 0 then
    busWrite s Reg.FGD_CTRL.EN.addr 3
  else s

/-- A key entry of no module that KPF knows is invalidated: its session has gone with KPF's memory.
DEDUCED (log 94). -/
def startFloe (s : State) : State :=
  (List.range 32).foldl (fun s e =>
    if s.on (Reg.FLOE_KCFG.VALID e) && !s.kpf.modules.any (fun m => m.entry == e) then
      busWrite s (0x400B1000 + 0x40 * e) 0
    else s) s

/-- Every tag that an earlier image owned is completed FAULTED, and the answer stored (R111). DEDUCED (log 90). -/
def answerOwned (s : State) : State :=
  (List.range 8).foldl (fun s t => if tagState s t = tagOwned then kAnswer t rsFaulted [] false s else s) s

/-- The completion of an activation reaches the image that it started (R380, R396). -/
def activated (s : State) : State := kComplete 0x0B04 rsOk (b4 s.kpf.version) s

/-- The sums of counters begin with the start: what the counters had before is read away (R392, R397).
DEDUCED (log 117). -/
def startCounts (s : State) : State :=
  let s := if luxOn s then (busRead s Reg.LUX_CNT.REPEAT.addr).2 else s
  (busRead s Reg.LOG_CNT.DROPCORE.addr).2

/-- KPF starts; `ho` says that it took a hand-over block, whose MAGIC it zeroes, and `fell` that the slot is the
fallback of a trial. DESIGN CHOICE (log 38). DEDUCED (log 78, 88, 94). -/
def kpfStart (ho fell : Bool) (slot : Bool) (s : State) : State :=
  let s := readAtStart (kpfMemory ho slot (kpfScan sessionOff 4096 s))
  let s := if ho then s.setBytes retBase (zeros 4) else s
  let s := startFloe (startSerac (startPorts (startKeyboard (startThermal (startIcefall s)))))
  let s := startCounts (busRead s 0x40060100).2
  let s := takeLimits (withKpf (fun k => { k with wantEn := if ho then k.wantEn else s.on Reg.CHG_CTRL.EN }) s)
  let s := if ho then activated s else answerOwned s
  let s := if sessionOpen s && sessionState s == 2 then applyPackage s else s
  let s := if fell then report 0x81 ((b4 s.kpf.version).map (·.toNat) ++ [0, 0, 0, 0]) evUpdate s else s
  let cause := (busRead s Reg.SYS_RSTCAUSE.POR.addr).1 % 65536
  let flags := (identFlags s).map (·.toNat)
  let s := report 0x03 ([cause % 256, cause / 256, s.kpf.state] ++ flags ++ [0, 0, 0, 0]) evRestart (watchSnapshot s)
  kPage (kField Reg.MBX_CTRL.FWREADY 1 s)

end Sys2Proof.Machine
end

