-- ==== Sys2Proof/Machine/Boot.lean ====
section
/-! DEFINITION. The boot ROM: wipes, selection and verification of a slot, the hand-over block, and ROM recovery (R299,
R314 to R316, R362, R363, R365, R456). -/

namespace Sys2Proof.Machine

/-! ### Wipes (R299) -/

/-- A settings header names another state or SVCCNT than the fuses. -/
def settingsForeign (s : State) : Bool :=
  (List.range 64).any fun i =>
    let b := s.firnBytes (setSector i) 8
    (sectorGen s i).isSome && (natAt b 5 1 != s.rd Reg.SEC_LCS.STATE || natAt b 6 1 != s.rd Reg.SEC_LCS.SVCCNT)

/-- The oldest record of the log: the first written slot from HEAD on. -/
def oldestSlot (s : State) : Option Nat :=
  let h := s.rd Reg.LOG_STAT.HEAD
  ((List.range 8192).map fun j => (h + j) % 8192).find? fun k => !slotErased s k

/-- The log begins with a retirement record. -/
def logRetired (s : State) : Bool :=
  match oldestSlot s with
  | some k =>
    let b := s.firnBytes (logSlot k) 32
    natAt b 8 1 == 1 && natAt b 10 2 == 4 && natAt b 28 4 == crc32 (b.take 28)
  | none => false

/-- The log is erased and begins with the retirement record. -/
def retireLog (s : State) : State :=
  let s := (s.eraseFirn firnLog (firnLog + 0x40000)).wr Reg.LOG_STAT.HEAD 0
  logWrite ⟨s.tbase, 1, 2, 4, logData ((deviceBytes s).map (·.toNat))⟩ s

/-- The wipes of settings and log before a slot starts at a domain or cold reset. -/
def bootWipes (s : State) : State :=
  if s.sec.coreOnly then s
  else
    let s := (List.range 64).foldl (fun s i => s.firnScan (setSector i) 16) s
    let s := if settingsForeign s then s.eraseFirn firnSettings (firnSettings + 0x40000) else s
    let s := logReady s
    let s := (oldestSlot s).elim s fun k => s.firnScan (logSlot k) 32
    if lcs s = lcRetired ∧ !logRetired s then retireLog s else s

/-! ### Selection (R362) -/

/-- A boot-control record to append: slot, PREV and state. -/
structure BootAppend where
  slot : Bool
  prev : Bool
  state : Nat
  deriving DecidableEq, Repr

/-- The row of R362 that holds: the slot named, the one tried first, what is written when that one starts and when the
other does, and whether starting the first means a fallback from an unconfirmed slot. -/
structure BootPlan where
  named : Bool
  first : Bool
  ifFirst : Option BootAppend
  ifOther : Option BootAppend
  unconfirmed : Bool := false
  deriving DecidableEq, Repr

/-- The plan for the latest record. DEDUCED (log 74). -/
def bootPlan (r : Option BootRec) : BootPlan :=
  match r with
  | none => ⟨false, false, some ⟨false, false, bcConfirmed⟩, some ⟨true, true, bcConfirmed⟩, false⟩
  | some r =>
    let sure (b : Bool) : Option BootAppend := some ⟨b, r.prev, bcConfirmed⟩
    match r.state with
    | 1 => ⟨r.slot, r.slot, some ⟨r.slot, r.prev, bcStarted⟩, sure r.prev, false⟩
    | 2 => ⟨r.slot, r.prev, sure r.prev, sure r.slot, true⟩
    | _ => ⟨r.slot, r.slot, none, sure (!r.slot), false⟩

/-- A Moraine record of the boot ROM. -/
def bootLog (sev code : Nat) (data : List Nat) (s : State) : State := (commitRecord 1 sev code data s).2

/-- A slot is verified: the words that the steps read are checked, and a failure is recorded.  True when it verifies. -/
def tryBoot (b : Bool) (s : State) : Bool × State :=
  let step := slotFails s b
  let t := s.firnScan (firnSlot b) (if step = 3 ∨ step = 4 then 0x100 else imageLen s b)
  if step = 0 then (true, t) else (false, bootLog 4 1 [b.toNat, step] t)

/-! ### The hand-over block (R365) -/

/-- A parity error lies in the block. -/
def blockParity (s : State) : Bool :=
  (s.firstBad retBase (64 + min (s.loadNat (retBase + 0x0C) 4) 16320)).isSome

/-- The block's header and CRC are good, and no parity error lies in it. -/
def blockGood (s : State) : Bool :=
  let h := s.bytes retBase 64
  let n := natAt h 0x0C 4
  natAt h 0 4 == 0x4F48544B && natAt h 4 2 == 1 && natAt h 6 1 < 2 && natAt h 7 1 == 0 && n ≤ 16320
    && allZero (h.drop 0x14) && !blockParity s
    && natAt h 0x10 4 == crc32 (s.bytes (retBase + 64) (min n 16320))

/-- The block is accepted for the slot that started. -/
def blockAccepted (slot : Bool) (s : State) : Bool :=
  s.sec.handover && blockGood s && (natAt (s.bytes retBase 8) 6 1 == 1) == slot

/-- A hand-over to the active slot restarts the running image and leaves boot control unchanged; any other reset goes by
the latest record (R362, R365). DEDUCED (log 74). -/
def resetPlan (s : State) : BootPlan :=
  let plan := bootPlan (latestBoot s)
  let active := s.sys.activeSlot
  if blockAccepted active s then
    ⟨(latestBoot s).elim active (·.slot), active, none,
      some ⟨!active, (latestBoot s).elim active (·.prev), bcConfirmed⟩, false⟩
  else plan

/-! ### Start (R315, R316) -/

/-- The decode table and the microcode RAM of the image, or none. -/
def loadUcode (slot : Bool) (c : Cpu) (s : State) : Cpu :=
  if imageUcode s slot then
    { c with
      table := (((List.range 64).zip (ucEntries s slot)).filter fun p => p.2 != 0)
      ucode := (((List.range 512).zip (ucWords s slot)).filter fun p => p.2 != 0), ucodeBad := [] }
  else { c with table := [], ucode := [], ucodeBad := [] }

/-- What the boot ROM leaves in registers before it jumps: SEC_MEASFW, SEC_BOOTINFO, NVC_BOOTST, the locks and the
entry. DEDUCED (log 78). -/
def enterSlot (plan : BootPlan) (slot ho : Bool) (s : State) : State :=
  let s := putBytes Reg.SEC_MEASFW.DIGEST 12 (imageDigest s slot) s
  let s := (s.wrB Reg.SEC_BOOTINFO.SLOT slot).wrB Reg.SEC_BOOTINFO.FALLBACK (slot != plan.named)
  let s := (s.wrB Reg.SEC_BOOTINFO.UCODE (imageUcode s slot)).wr Reg.SEC_BOOTINFO.SVN (imageSvn s slot)
  let s := s.wr Reg.SEC_BOOTINFO.KEYSLOT ((anchorOf s (imageKey s slot)).getD 0xFF)
  let s := (s.wrB Reg.NVC_BOOTST.HOVALID ho).wrB Reg.NVC_BOOTST.TRIAL ((latestBoot s).any (·.state == bcStarted))
  let s := (s.clr Reg.NVC_BOOTST.ROMREC).wr Reg.NVC_BOOTST.BCSEQ ((latestBoot s).elim 0 (·.seq))
  let s := if lcDeployed ≤ lcs s then s.set Reg.SEC_LOCK.UCODE else s
  let pc : Word := BitVec.ofNat 32 (windowBase + imageEntry s slot)
  { s.set Reg.SEC_LOCK.MEAS with
    cpu := { loadUcode slot s.cpu s with pc := pc, priv := true }
    sys := { s.sys with activeSlot := slot }
    sec := { s.sec with booting := false } }

/-- Append a record. -/
def appendPlan (a : Option BootAppend) (s : State) : State :=
  match a with
  | some a => appendBoot a.slot a.prev a.state s
  | none => s

/-- A slot starts: its record, the confirmation window of a trial, the fallback record, the hand-over block, and
KPF. DEDUCED (log 74). -/
def startSlotFw (plan : BootPlan) (slot : Bool) (s : State) : State :=
  let isFirst := slot == plan.first
  let a := if isFirst then plan.ifFirst else plan.ifOther
  let fell := slot != plan.named && (plan.unconfirmed || (latestBoot s).any (·.state == bcTrial))
  let s := appendPlan a s
  let s := if a.any (·.state == bcStarted) then confArm s else s
  let s := if isFirst && plan.unconfirmed then bootLog 4 3 [slot.toNat, plan.named.toNat] s else s
  let ho := blockAccepted slot s
  let s := if ho then s else s.setBytes retBase (zeros 64)
  kpfStart ho fell slot (enterSlot plan slot ho s)

/-- Neither slot starts: ROM recovery. DEDUCED (log 85). -/
def romRecovery (s : State) : State :=
  let s := bootLog 5 2 [] (s.setBytes retBase (zeros 64))
  let s := (((s.set Reg.CHG_LAMP.OVR).wr Reg.CHG_LAMP.STAT0 2).wr Reg.CHG_LAMP.STAT1 3).set Reg.NVC_BOOTST.ROMREC
  let s := (s.clr Reg.NVC_BOOTST.HOVALID).clr Reg.NVC_BOOTST.TRIAL
  let s := s.wr Reg.NVC_BOOTST.BCSEQ ((latestBoot s).elim 0 (·.seq))
  let s := { s with sec := { s.sec with booting := false } }
  let s := withKpf (fun k => { keptOver k with
    state := 3, sealed := hostReleased s, members := if sessionOpen s then [sessionOwner s] else [] }) s
  let s := kPage (kField Reg.MBX_CTRL.FWREADY 1 s)
  if sessionOpen s && sessionState s == 2 then applyPackage s else s

/-- The boot ROM's post is discarded, with what KPF believes of the host view. -/
def discardPost (s : State) : State :=
  if s.link.opened.isNone then s
  else postAbort (withKpf (fun k => { k with page := [], keyWin := [], ecImage := [] }) s)

/-- The boot ROM reads the hand-over block after a hand-over request; a parity error in it is reported (R44). -/
def readBlock (s : State) : State :=
  if s.sec.handover && blockParity s then s.set Reg.ERR_MEMSTAT.RETRAM else s

/-- The boot ROM runs to its end. -/
def bootRom (s : State) : State :=
  let s := readBlock (bootWipes (discardPost (clearSlots 15 s)))
  let s := s.firnScan (8 * bcWord 0) 8192
  let plan := resetPlan s
  match tryBoot plan.first s with
  | (true, s) => startSlotFw plan plan.first s
  | (false, s) =>
    match tryBoot (!plan.first) s with
    | (true, s) => startSlotFw plan (!plan.first) s
    | (false, s) => romRecovery s

/-- BOOT_SLOT_START (R315): The boot ROM selects, verifies and starts a slot, writing the boot-control record.
DEDUCED (log 16). -/
def execBootSlotStart (t : Nat) (s : State) : Host.Outcome State Fault Refusal :=
  let s := s.seen t
  .next (if s.coreUp && s.sec.booting && s.on Reg.SEC_LCS.IKRDY && !s.sys.dbgHalted then bootRom s else s)

end Sys2Proof.Machine
end

