-- ==== Sys2Proof/Machine/PowerCmd.lean ====
section
/-! DEFINITION. The meanings of the commands of the power path and of USB PD (chapter 05). -/

namespace Sys2Proof.Machine

/-- A word with the bit of a one-bit field set: a command that names the bit it writes. -/
def withBit (f : Field) (v : Word) : Nat := v.toNat ||| 2 ^ f.lo

/-- INPUT_VALID (R150): VIN of an input moves; it becomes valid or invalid and its qualification timer starts
or stops. -/
def execInputValid (n : Fin 3) (vin t : Nat) (s : State) : Host.Outcome State Fault Refusal :=
  .next (inputSeen n.val vin (s.seen t))

/-- QUALIFIED (R150): An input that has stayed valid for 150 ms is qualified. -/
def execQualified (n : Fin 3) (t : Nat) (s : State) : Host.Outcome State Fault Refusal :=
  .next (inputTimed n.val (s.seen t))

/-- DEAD_TIME_END (R153): After the dead time the gates of the next-ranked input turn on. -/
def execDeadTimeEnd (t : Nat) (s : State) : Host.Outcome State Fault Refusal :=
  let s := s.seen t
  .next (match s.pwr.deadUntil with
    | some d => if d ≤ s.tbase then reselect { s with pwr := { s.pwr with deadUntil := none } } else s
    | none => s)

/-- UNPLUG (R151): An input is unplugged; UNSTABLE, BOUNCES, LASTGOOD and PDSEEN clear. -/
def execUnplug (n : Fin 3) (t : Nat) (s : State) : Host.Outcome State Fault Refusal :=
  .next (unplug n.val (s.seen t))

/-- INPUT_LOSS (R168): The selected input's VIN stays below a loss threshold and the battery takes over. -/
def execInputLoss (n : Fin 3) (vin t : Nat) (s : State) : Host.Outcome State Fault Refusal :=
  .next (inputLoss n.val vin (s.seen t))

/-- TAKE (R156): PWR_CTRL.TAKE ends boot regulation and held values. -/
def execTake (v : Word) (s : State) : Host.Outcome State Fault Refusal :=
  .next (coreStore 0x40030000 (pwrBlockWrite 0x40030000 (withBit Reg.PWR_CTRL.TAKE v)) s)

/-- REPROBE (R167): Ten seconds after a settle or in CEILING the tracker measures VOC again, if its Icefall slot runs. -/
def execReprobe (n : Fin 3) (t : Nat) (s : State) : Host.Outcome State Fault Refusal :=
  let s := s.seen t
  let x := pin s n.val
  .next (if s.pwr.mode = .run ∧ s.pwr.sel = some n.val ∧ (x.trk = 3 ∨ x.trk = 4) ∧ x.reprobeAt ≤ s.tbase
      ∧ trackerSlot s n.val then
      startVoc n.val true s
    else s)

/-- FLOOR_LOOP (R165): VIN of the selected input reaches FLOOR and the analog loop reduces its current. -/
def execFloorLoop (n : Fin 3) (t : Nat) (s : State) : Host.Outcome State Fault Refusal :=
  let s := s.seen t
  .next (if s.pwr.sel = some n.val then setPin n.val { pin s n.val with floorNow := true } s else s)

/-- BATTERY_REMOVAL (R170): The supervisor latches a removal: 0 BATPRES_N, 1 open thermistor, 2 VBAT jump. -/
def execBatteryRemoval (cond : Fin 3) (t : Nat) (s : State) : Host.Outcome State Fault Refusal :=
  .next (removalLatch cond.val (s.seen t))

/-- REMOVAL_CLEAR (R171): Presence and thermistor held in range for 500 ms; the latch clears, the stage moves VSYS to
VBAT, and BATFET closes once they are within 200 mV. -/
def execRemovalClear (t : Nat) (s : State) : Host.Outcome State Fault Refusal := .next (removalClear (s.seen t))

/-- OVP (R172): An input over-voltage turns its gates off and makes the input invalid. -/
def execOvp (n : Fin 3) (vin t : Nat) (s : State) : Host.Outcome State Fault Refusal :=
  let s := s.seen t
  .next (if ovpThreshold s n.val ≤ vin then overVoltage n.val vin s else s)

/-- OCP (R172): Input current above 7.5 A turns the gates off for 100 ms. -/
def execOcp (n : Fin 3) (t : Nat) (s : State) : Host.Outcome State Fault Refusal :=
  let s := s.seen t
  .next (protectOff n.val
    ((setPin n.val { pin s n.val with blockedUntil := s.tbase + 100000 } s).set Reg.PWR_EVT.OCP))

/-- REVERSE_CURRENT (R172): Input current below −100 mA turns the gates off for 100 ms. -/
def execReverseCurrent (n : Fin 3) (t : Nat) (s : State) : Host.Outcome State Fault Refusal :=
  let s := s.seen t
  .next (protectOff n.val
    ((setPin n.val { pin s n.val with blockedUntil := s.tbase + 100000 } s).set Reg.PWR_EVT.REVCUR))

/-- VSYS_OVERVOLTAGE (R172): VSYS above 1.10 × its target stops the stage switching. -/
def execVsysOvervoltage (vsys t : Nat) (s : State) : Host.Outcome State Fault Refusal :=
  let s := s.seen t
  .next (if vsysTarget s * 110 < vsys * 100 then { s with pwr := { s.pwr with vsysOv := true } } else s)

/-- VSYS_UNDERVOLTAGE (R172): VSYS below 0.90 × VSYSMIN sets VSYSUV and writes a Moraine record. -/
def execVsysUndervoltage (vsys t : Nat) (s : State) : Host.Outcome State Fault Refusal :=
  let s := s.seen t
  .next (if vsys * 100 < vsysMin s * 90 then
      (s.set Reg.PWR_EVT.VSYSUV).hwLog 0x04 4 2 [vsys % 256, vsys / 256 % 256]
    else s)

/-- TYPEC_ATTACH (R157): A partner attaches; `source` says that the port takes the source role. -/
def execTypecAttach (p : Fin 2) (source flipped : Bool) (rp : Fin 4) (t : Nat) (s : State) :
    Host.Outcome State Fault Refusal :=
  .next (attach p.val source flipped rp.val (s.seen t))

/-- TYPEC_DETACH (R157): A partner detaches and the contract ends. -/
def execTypecDetach (p : Fin 2) (t : Nat) (s : State) : Host.Outcome State Fault Refusal :=
  .next (detach p.val (s.seen t))

/-- SOURCE_CAPABILITIES (R159): The sink policy engine requests the fixed PDO with the highest power. -/
def execSourceCapabilities (p : Fin 2) (pdos : List Word) (eprOk : Bool) (t : Nat) (s : State) :
    Host.Outcome State Fault Refusal :=
  .next (sourceCaps p.val pdos eprOk (s.seen t))

/-- KEEP_ALIVE (R159): The engine sends an EPR keep-alive or a PPS refresh. -/
def execKeepAlive (p : Fin 2) (t : Nat) (s : State) : Host.Outcome State Fault Refusal :=
  let s := s.seen t
  .next (if pdRuns s p.val && (s.on (Reg.PD_STAT.EPR p.val) || s.on (Reg.PD_STAT.PPS p.val)) then
      pdSend p.val .keepAlive (setPort p.val { port s p.val with keptAt := s.tbase } s)
    else s)

/-- PD_REQ (R160): A write of PD_REQp: a firmware request is sent, or not sent with REQREJ. -/
def execPdReq (p : Fin 2) (v : Word) (s : State) : Host.Outcome State Fault Refusal :=
  .next (coreStore (0x4005011C + 0x100 * p.val) (pdReqWrite p.val (withBit (Reg.PD_REQ.GO p.val) v)) s)

/-- REQUEST_REPLY (R160): The source accepts and makes a contract, or rejects, which sets REQREJ. -/
def execRequestReply (p : Fin 2) (accepted : Bool) (obj curr t : Nat) (s : State) :
    Host.Outcome State Fault Refusal :=
  .next (requestReply p.val accepted obj curr (s.seen t))

/-- VDM_RECEIVED (R161): A VDM fills the receive buffer, or is refused BUSY or dropped when it is full. -/
def execVdmReceived (p : Fin 2) (sop : Fin 3) (words : List Word) (t : Nat) (s : State) :
    Host.Outcome State Fault Refusal :=
  .next (vdmReceive p.val sop.val words (s.seen t))

/-- RXREL (R161): Firmware releases the VDM receive buffer. -/
def execRxrel (p : Fin 2) (v : Word) (s : State) : Host.Outcome State Fault Refusal :=
  .next (coreStore (0x40050120 + 0x100 * p.val)
    (fun s => pdWrite (0x40050120 + 0x100 * p.val) (withBit (Reg.PD_VDMCTL.RXREL p.val) v) s) s)

/-- TXGO (R161): Firmware sends the VDM transmit buffer; the partner answers with GoodCRC or not. -/
def execTxgo (p : Fin 2) (v : Word) (acked : Bool) (s : State) : Host.Outcome State Fault Refusal :=
  .next (coreStore (0x40050120 + 0x100 * p.val)
    (vdmCtlWrite p.val (withBit (Reg.PD_VDMCTL.TXGO p.val) v) acked) s)

/-- VDM_TIMEOUT (R161): A structured request unanswered for 25 ms is answered BUSY by the PD block. -/
def execVdmTimeout (p : Fin 2) (t : Nat) (s : State) : Host.Outcome State Fault Refusal :=
  .next (vdmTimeout p.val (s.seen t))

/-- HARD_RESET (R162): A Hard Reset is sent or received and HRCNT counts it. -/
def execHardReset (p : Fin 2) (t : Nat) (s : State) : Host.Outcome State Fault Refusal :=
  .next (hardReset p.val (s.seen t))

/-- PR_SWAP (R157): A PR_Swap to source is accepted only with PRSWAP=1. -/
def execPrSwap (p : Fin 2) (toSource : Bool) (t : Nat) (s : State) : Host.Outcome State Fault Refusal :=
  .next (prSwap p.val toSource (s.seen t))

/-- DR_SWAP (R157): A DR_Swap is accepted towards DRPREF and rejected away from it. -/
def execDrSwap (p : Fin 2) (toDfp : Bool) (t : Nat) (s : State) : Host.Outcome State Fault Refusal :=
  .next (drSwap p.val toDfp (s.seen t))

/-- VCONN_SWAP (R157): A VCONN_Swap is accepted. -/
def execVconnSwap (p : Fin 2) (t : Nat) (s : State) : Host.Outcome State Fault Refusal :=
  .next (vconnSwap p.val (s.seen t))

/-- ALERT_RECEIVED (R157): A PD Alert message sets ALERTRX. -/
def execAlertReceived (p : Fin 2) (t : Nat) (s : State) : Host.Outcome State Fault Refusal :=
  let s := s.seen t
  .next (if pdRuns s p.val && (port s p.val).attached then s.set (Reg.PD_EVT.ALERTRX p.val) else s)

/-- NOT_SUPPORTED_MESSAGE (R158): An unsupported PD message is answered Not_Supported. -/
def execNotSupportedMessage (p : Fin 2) (t : Nat) (s : State) : Host.Outcome State Fault Refusal :=
  let s := s.seen t
  .next (if pdRuns s p.val && (port s p.val).attached then pdReply p.val .notSupported s else s)

end Sys2Proof.Machine
end

