-- ==== Sys2Proof/Machine/ChargeCmd.lean ====
section
/-! DEFINITION. The meanings of the commands of the charger and of reverse supply (chapter 06). -/

namespace Sys2Proof.Machine

/-- BAND_CHANGE (R178): The thermistor code has pointed to a band for 100 ms; the band takes effect. -/
def execBandChange (code : BitVec 12) (t : Nat) (s : State) : Host.Outcome State Fault Refusal :=
  let s := (s.seen t).wr Reg.CHG_MEAS.BATTH code.toNat
  let cur := s.rd Reg.CHG_STAT.BAND
  let b := bandPoint s code.toNat cur
  .next (if b = cur then s else (s.wr Reg.CHG_STAT.BAND b).set Reg.CHG_EVT.BAND)

/-- THSHORT (R184): BATTH below 0.05 of bias latches fault THSHORT. -/
def execThshort (code : BitVec 12) (t : Nat) (s : State) : Host.Outcome State Fault Refusal :=
  let s := (s.seen t).wr Reg.CHG_MEAS.BATTH code.toNat
  .next (if code.toNat < 205 then latchFault 3 s else s)

/-- BATOV (R184): Battery over-voltage holds charge off and latches at the third event in a cycle. -/
def execBatov (vbat t : Nat) (s : State) : Host.Outcome State Fault Refusal :=
  let s := vbatSeen vbat (s.seen t)
  .next (if (vregEff s + 100) * cells s < vbat && !s.on Reg.CHG_STAT.BATOVACT then batovEvent s else s)

/-- CHGOCP (R184): Charge over-current for 100 µs stops charge and latches CHGOCP. -/
def execChgocp (ibat : Int) (t : Nat) (s : State) : Host.Outcome State Fault Refusal :=
  let s := (s.seen t).wr Reg.CHG_MEAS.IBAT (ibat % 2 ^ 16).toNat
  .next (if (ocpLimit s : Int) < ibat then latchFault 5 s else s)

/-- DIE_STOP (R180): The die exceeds 115 °C; the stage and reverse supply stop and TSHUT is set. -/
def execDieStop (t : Nat) (s : State) : Host.Outcome State Fault Refusal := .next (dieStop (s.seen t))

/-- DIE_RESUME (R180, R258): The die falls below 100 °C and the stage resumes, unless its sensor counts at +127 °C.
DEDUCED (log 114). -/
def execDieResume (t : Nat) (s : State) : Host.Outcome State Fault Refusal :=
  let s := s.seen t
  .next (if stageDieFaulted s then s else s.clr Reg.CHG_STAT.TSHUT)

/-- SAFETY_TIMER_TICK (R181): The safety timer advances COUNT at full or half speed. -/
def execSafetyTimerTick (t : Nat) (s : State) : Host.Outcome State Fault Refusal :=
  .next (timerTick (s.seen t))

/-- TIMER_FAULT (R183): COUNT at its phase limit latches PRETMR or FASTTMR. -/
def execTimerFault (t : Nat) (s : State) : Host.Outcome State Fault Refusal := .next (timerCheck (s.seen t))

/-- CYCLE_TIMEOUT (R181): Sixty minutes without charge current end the charge cycle. -/
def execCycleTimeout (t : Nat) (s : State) : Host.Outcome State Fault Refusal :=
  let s := s.seen t
  .next (if s.on Reg.CHG_STAT.CYCLE && s.rd Reg.CHG_STAT.LOOP == 0
      && decide (s.chg.currentAt + 3600000000 ≤ s.tbase) then endCycle s else s)

/-- FLTCLR (R185): CHG_CTRL.FLTCLR clears a latched fault whose condition is absent, or sets CLRREF. -/
def execFltclr (v : Word) (s : State) : Host.Outcome State Fault Refusal :=
  .next (coreStore 0x40040000 (chgWrite 0x40040000 (withBit Reg.CHG_CTRL.FLTCLR v)) s)

/-- QCLR (R188): CHG_CTRL.QCLR zeroes QACC. -/
def execQclr (v : Word) (s : State) : Host.Outcome State Fault Refusal :=
  .next (coreStore 0x40040000 (chgWrite 0x40040000 (withBit Reg.CHG_CTRL.QCLR v)) s)

/-- CHG_LOCK (R175): CHG_CTRL.LOCK locks CHG_LIMIT. -/
def execChgLock (v : Word) (s : State) : Host.Outcome State Fault Refusal :=
  .next (coreStore 0x40040000 (chgWrite 0x40040000 (withBit Reg.CHG_CTRL.LOCK v)) s)

/-- QACC_WRAP (R188): Charge in mC enters QACC, which sets QWRAP when it wraps. -/
def execQaccWrap (charge : Int) (t : Nat) (s : State) : Host.Outcome State Fault Refusal :=
  .next (qaccAdd charge (s.seen t))

/-- REVERSE_STOP (R196): A standing cause stops reverse supply. -/
def execReverseStop (t : Nat) (s : State) : Host.Outcome State Fault Refusal :=
  let s := s.seen t
  .next (match reverseCause s with
    | some c => reverseStop c s
    | none => s)

/-- REVERSE_OCP (R195): VBUS below 0.8 of the contract voltage stops reverse supply; the third OCP in 60 s
sets LOCKOUT. -/
def execReverseOcp (x : VbusReading) (s : State) : Host.Outcome State Fault Refusal :=
  let s := s.seen x.t
  .next (if s.on Reg.CHG_REVSTAT.ACTIVE && decide (x.vbus * 10 < reverseVolt s * 8) then reverseOcp s else s)

/-- REVERSE_VBAT_LOW (R196): VBAT below REVVMIN × CELLS for 100 ms stops reverse supply. -/
def execReverseVbatLow (vbat t : Nat) (s : State) : Host.Outcome State Fault Refusal :=
  let s := vbatSeen vbat (s.seen t)
  .next (if vbat < s.rd Reg.CHG_REVVMIN.REVVMIN * cells s then reverseStop rvVbatLow s else s)

end Sys2Proof.Machine
end

