-- ==== Sys2Proof/Machine/CoreOps.lean ====
section
/-! DEFINITION. What the operations of the Generdy-32 do, once for plain instructions and for micro-ops: ALU,
memory, accumulators, predicates, control flow, control registers, block instructions, return stack
and custom instructions (R415 to R430, R446, R449 to R454), and the one frame around every instruction
(R403, R404, R424, R439). -/

namespace Sys2Proof.Machine

/-! ### The register ALU (R415, R416, R429) -/

/-- A right shift by up to 255 with sign fill. -/
def sarBy (a : Word) (n : Nat) : Word := a.sshiftRight n

/-- The result of a register ALU operation; `cin` is the value of Pc. -/
def aluResult (f : Alu) (a b : Word) (cin : Bool) : Word :=
  match f with
  | .add => a + b
  | .sub => a - b
  | .and => a &&& b
  | .or => a ||| b
  | .xor => a ^^^ b
  | .andn => a &&& ~~~b
  | .shl => a <<< (b.toNat % 256)
  | .shr => a >>> (b.toNat % 256)
  | .sar => sarBy a (b.toNat % 256)
  | .rol => a.rotateLeft (b.toNat % 32)
  | .ror => a.rotateRight (b.toNat % 32)
  | .mul => a * b
  | .mulhs => BitVec.ofInt 32 (a.toInt * b.toInt / 2 ^ 32)
  | .mulhu => BitVec.ofNat 32 (a.toNat * b.toNat / 2 ^ 32)
  | .divs => divs a b
  | .divu => divu a b
  | .rems => rems a b
  | .remu => remu a b
  | .min => if a.toInt < b.toInt then a else b
  | .max => if a.toInt < b.toInt then b else a
  | .minu => if a.toNat < b.toNat then a else b
  | .maxu => if a.toNat < b.toNat then b else a
  | .addc => a + b
  | .addx => a + b + BitVec.ofNat 32 cin.toNat
  | .subc => a - b
  | .subx => a - b - BitVec.ofNat 32 cin.toNat
  | .neg => 0 - a
  | .not => ~~~a
  | .abs => if a.toInt < 0 then 0 - a else a
  | .clz => clz a
  | .sextb => sext (a.setWidth 8)
  | .sexth => sext (a.setWidth 16)
  | .zextb => zext (a.setWidth 8)
  | .zexth => zext (a.setWidth 16)
  | .bswap => a.extractLsb' 0 8 ++ a.extractLsb' 8 8 ++ a.extractLsb' 16 8 ++ a.extractLsb' 24 8
  | .mov => a
  | .sel => if cin then a else b

/-- The operation sets the sticky V (R415, R429). -/
def aluV (f : Alu) (a b : Word) : Bool :=
  match f with
  | .add => addOverflow a b
  | .sub => subOverflow a b
  | .neg | .abs => mostNegative a
  | .divs | .rems => divOverflow a b
  | _ => false

/-- The operation divides by zero (R430). -/
def aluDz (f : Alu) (b : Word) : Bool :=
  (f == .divs || f == .divu || f == .rems || f == .remu) && b == 0

/-- What a carry operation writes to Pc (R415). -/
def aluCarry (f : Alu) (a b : Word) (cin : Bool) : Bool :=
  match f with
  | .addc => carryOut a b false
  | .addx => carryOut a b cin
  | .subc => borrowOut a b false
  | .subx => borrowOut a b cin
  | _ => false

/-- A register ALU operation. -/
def Cpu.alu (c : Cpu) (f : Alu) (d s t : DReg) (pc : PredNo) : Cpu :=
  let a := c.dr s
  let b := c.dr t
  let cin := c.pr pc
  let c' := { c.setDr d (aluResult f a b cin) with v := c.v || aluV f a b, dz := c.dz || aluDz f b }
  if f.carry then c'.setPr pc (aluCarry f a b cin) else c'

/-- An immediate operation (R416). -/
def Cpu.imm (c : Cpu) (f : ImmOp) (d s : DReg) (imm : BitVec 14) : Cpu :=
  match f with
  | .addi => { c.setDr d (c.dr s + sext imm) with v := c.v || addOverflow (c.dr s) (sext imm) }
  | .andi => c.setDr d (c.dr s &&& zext imm)
  | .ori => c.setDr d (c.dr s ||| zext imm)
  | .xori => c.setDr d (c.dr s ^^^ zext imm)
  | .muli => c.setDr d (c.dr s * sext imm)

/-- The shift of SHI by KIND (R416). -/
def shiResult (kind : Fin 8) (a : Word) (amt : Fin 32) : Word :=
  match kind.val with
  | 0 => a <<< amt.val
  | 1 => a >>> amt.val
  | 2 => sarBy a amt.val
  | 3 => a.rotateLeft amt.val
  | _ => a.rotateRight amt.val

/-- Address arithmetic (R417): it wraps and sets no flag. -/
def Cpu.addrOp (c : Cpu) (f : ArOp) (x y z : DReg) : Cpu :=
  match f with
  | .mova => c.setAr x (c.ar y)
  | .addad => c.setAr x (c.ar y + c.dr z)
  | .subad => c.setAr x (c.ar y - c.dr z)
  | .addaw => c.setAr x (c.ar y + 4 * c.dr z)
  | .addah => c.setAr x (c.ar y + 2 * c.dr z)
  | .movad => c.setAr x (c.dr y)
  | .movda => c.setDr x (c.ar y)
  | .subaa => c.setDr x (c.ar y - c.ar z)

/-! ### Accumulators (R419) -/

/-- Write Q with an exact value clipped to 64 bits, QSAT when clipped (MACSAT). -/
def Cpu.satQ (c : Cpu) (q : Fin 2) (x : Int) : Cpu :=
  { c.setQr q (BitVec.ofInt 64 (clipTo 63 x)) with qsat := c.qsat || clipTo 63 x != x }

/-- An accumulator operation. -/
def Cpu.accOp (c : Cpu) (f : AccOp) (q : Fin 2) (x y : DReg) (sh : Fin 64) : Cpu :=
  let p : BitVec 64 := (c.dr x).signExtend 64 * (c.dr y).signExtend 64
  let u : BitVec 64 := (c.dr x).setWidth 64 * (c.dr y).setWidth 64
  match f with
  | .macs => c.setQr q (c.qr q + p)
  | .macu => c.setQr q (c.qr q + u)
  | .msbs => c.setQr q (c.qr q - p)
  | .mulq => c.setQr q p
  | .macsat => c.satQ q ((c.qr q).toInt + (c.dr x).toInt * (c.dr y).toInt)
  | .clrq => c.setQr q 0
  | .rdql => c.setDr x ((c.qr q).setWidth 32)
  | .rdqh => c.setDr x ((c.qr q).extractLsb' 32 32)
  | .rdqs =>
    let v := ((c.qr q).sshiftRight sh.val).toInt
    { c.setDr x (BitVec.ofInt 32 (clipTo 31 v)) with qsat := c.qsat || clipTo 31 v != v }
  | .wrql => c.setQr q ((c.qr q).extractLsb' 32 32 ++ c.dr x)
  | .wrqh => c.setQr q (c.dr x ++ (c.qr q).setWidth 32)
  | .shq => c.setQr q ((c.qr q).sshiftRight sh.val)

/-- Predicate logic (R420). -/
def plogResult (f : PlogOp) (a b : Bool) : Bool :=
  match f with
  | .pand => a && b
  | .por => a || b
  | .pxor => a != b
  | .pandn => a && !b
  | .pmov => a
  | .pnot => !a
  | .pset => true
  | .pclr => false

/-! ### The outcome of one operation -/

/-- What an operation that raised no exception leaves: the state, where the program goes on, the load whose
slot is next, and a division by zero to trap. -/
structure Done where
  s : State
  pc : Word
  load : Option (LoadDest × Word) := none
  dz : Bool := false
  deriving DecidableEq, Repr

/-- An operation's outcome: done, or an exception with the state it leaves (for all but a block
instruction, the state before it). -/
abbrev OpOut := Except (Exc × State) Done

/-- Done, with the core's registers changed and the next instruction following. -/
def State.done (s : State) (c : Cpu) : OpOut := .ok { s := { s with cpu := c }, pc := s.cpu.pc + 4 }

/-! ### Loads and stores (R410 to R412, R418) -/

/-- Bytes of a load, and its value. -/
def LoadOp.size : LoadOp → Nat
  | .ldw | .lda | .ldwp => 4
  | .ldh | .ldhu => 2
  | .ldb | .ldbu => 1

/-- Extension of a loaded value (R410). -/
def LoadOp.extend (f : LoadOp) (v : Word) : Word :=
  match f with
  | .ldh => sext (v.setWidth 16)
  | .ldb => sext (v.setWidth 8)
  | _ => v

/-- Where a load writes. -/
def loadDest (isA : Bool) (t : DReg) : LoadDest :=
  if isA then .addr ⟨t.val % 8, by omega⟩ else .data t

/-- A load (R418): the value waits for its slot, a post-increment takes effect at once. -/
def loadOp (s : State) (micro : Bool) (f : LoadOp) (t a : DReg) (disp : BitVec 14) : OpOut :=
  let addr := if f = .ldwp then s.cpu.ar a else s.cpu.based a disp
  match dataLoad s micro addr f.size with
  | .error e => .error (e, s)
  | .ok (v, s') =>
    let c := if f = .ldwp then s'.cpu.setAr a (addr + sext disp) else s'.cpu
    .ok { s := { s' with cpu := c }, pc := s.cpu.pc + 4, load := some (loadDest (f == .lda) t, f.extend v) }

/-- Bytes of a store. -/
def StoreOp.size : StoreOp → Nat
  | .stw | .sta | .stwp => 4
  | .sth => 2
  | .stb => 1

/-- A store (R418). -/
def storeOp (s : State) (micro : Bool) (f : StoreOp) (t a : DReg) (disp : BitVec 14) : OpOut :=
  let addr := if f = .stwp then s.cpu.ar a else s.cpu.based a disp
  match dataStore s micro addr f.size (if f = .sta then s.cpu.ar t else s.cpu.dr t) with
  | .error e => .error (e, s)
  | .ok s' =>
    let c := if f = .stwp then s'.cpu.setAr a (addr + sext disp) else s'.cpu
    .ok { s := { s' with cpu := c }, pc := s.cpu.pc + 4 }

/-- A direct load or store (R411). -/
def directOp (s : State) (micro st : Bool) (t : DReg) (bank byte : Bool) (off : BitVec 16) : OpOut :=
  let addr := s.cpu.direct bank off
  let n := if byte then 1 else 4
  if st then
    match dataStore s micro addr n (s.cpu.dr t) with
    | .error e => .error (e, s)
    | .ok s' => .ok { s := s', pc := s.cpu.pc + 4 }
  else
    match dataLoad s micro addr n with
    | .error e => .error (e, s)
    | .ok (v, s') => .ok { s := s', pc := s.cpu.pc + 4, load := some (.data t, v) }

/-- PUSH and POP on A7 (R412). -/
def stackOp (s : State) (micro pop : Bool) (t : DReg) (isA : Bool) : OpOut :=
  let sp := s.cpu.ar 7
  if pop then
    match dataLoad s micro sp 4 with
    | .error e => .error (e, s)
    | .ok (v, s') =>
      .ok { s := { s' with cpu := s'.cpu.setAr 7 (sp + 4) }, pc := s.cpu.pc + 4
            load := some (loadDest isA t, v) }
  else
    match dataStore s micro (sp - 4) 4 (if isA then s.cpu.ar t else s.cpu.dr t) with
    | .error e => .error (e, s)
    | .ok s' => .ok { s := { s' with cpu := s'.cpu.setAr 7 (sp - 4) }, pc := s.cpu.pc + 4 }

/-! ### The return stack (R413, R446) -/

/-- STACK, with RSP in EADDR (R436). DEDUCED (log 118). -/
def stackExc (s : State) : Exc := { vec := 7, eaddr := BitVec.ofNat 32 (rsOff s.cpu.rsp) }

/-- Push an entry at RSP (R413). -/
def pushReturn (s : State) (v : Word) : State :=
  let s' := s.storeNat (rsBase + rsOff s.cpu.rsp) 4 v.toNat
  { s' with cpu := { s'.cpu with rsp := BitVec.ofNat 13 (rsOff s.cpu.rsp + 4) } }

/-- CALL and CALLR: STACK at the limit, which precedes the branch and its ALIGN (R439), otherwise push the next address
and branch (R413). DEDUCED (log 118). -/
def callTo (s : State) (target : Word) (aligned : Bool) : OpOut :=
  if rsOff s.cpu.rsl ≤ rsOff s.cpu.rsp then .error (stackExc s, s)
  else if !aligned then .error ({ vec := 3, eaddr := target }, s)
  else .ok { s := pushReturn s (s.cpu.pc + 4), pc := target }

/-- RET: STACK at the base, PARITY on a bad entry, otherwise pop and branch (R413). -/
def retOp (s : State) : OpOut :=
  if rsOff s.cpu.rsp ≤ rsOff s.cpu.rsb then .error (stackExc s, s)
  else
    let off := rsOff s.cpu.rsp - 4
    match s.firstBad (rsBase + off) 4 with
    | some b => .error ({ vec := 5, eaddr := BitVec.ofNat 32 b, mark := .parity b }, s)
    | none =>
      .ok { s := { s with cpu := { s.cpu with rsp := BitVec.ofNat 13 off } }
            pc := BitVec.ofNat 32 (s.loadNat (rsBase + off) 4) }

/-- Store return-stack entries from offset `off` at consecutive words from `a`. -/
def saveEntries (s : State) (a : Word) (off : Nat) : Nat → Except Exc State
  | 0 => .ok s
  | n + 1 =>
    match s.firstBad (rsBase + off) 4 with
    | some b => .error { vec := 5, eaddr := BitVec.ofNat 32 b, mark := .parity b }
    | none =>
      match dataStore s false a 4 (BitVec.ofNat 32 (s.loadNat (rsBase + off) 4)) with
      | .error e => .error e
      | .ok s' => saveEntries s' (a + 4) (off + 4) n

/-- RSSV (R446). DEDUCED (log 118). -/
def rssvOp (s : State) (a : DReg) : OpOut :=
  let n := (rsOff s.cpu.rsp - rsOff s.cpu.rsb) / 4
  let base := s.cpu.ar a
  match dataStore s false base 4 (BitVec.ofNat 32 n) with
  | .error e => .error (e, s)
  | .ok s1 =>
    match saveEntries s1 (base + 4) (rsOff s.cpu.rsb) n with
    | .error e => .error (e, s)
    | .ok s2 =>
      s2.done { s2.cpu.setAr a (base + 4 + BitVec.ofNat 32 (4 * n)) with
                rsp := BitVec.ofNat 13 (rsOff s.cpu.rsb) }

/-- Load `n` words from `a` into the return stack from offset `off`. -/
def loadEntries (s : State) (a : Word) (off : Nat) : Nat → Except Exc State
  | 0 => .ok s
  | n + 1 =>
    match dataLoad s false a 4 with
    | .error e => .error e
    | .ok (v, s') => loadEntries (s'.storeNat (rsBase + off) 4 v.toNat) (a + 4) (off + 4) n

/-- RSRS (R446). -/
def rsrsOp (s : State) (a : DReg) : OpOut :=
  let base := s.cpu.ar a
  match dataLoad s false base 4 with
  | .error e => .error (e, s)
  | .ok (n, s1) =>
    if rsOff s.cpu.rsl < rsOff s.cpu.rsb + 4 * n.toNat then .error (stackExc s, s)
    else
      match loadEntries s1 (base + 4) (rsOff s.cpu.rsb) n.toNat with
      | .error e => .error (e, s)
      | .ok s2 =>
        s2.done { s2.cpu.setAr a (base + 4 + 4 * n) with
                  rsp := BitVec.ofNat 13 (rsOff s.cpu.rsb + 4 * n.toNat) }

/-! ### Control registers (R407, R408) -/

/-- The value of a control register, and what reading it leaves: CYCLO latches CYCHI. -/
def mfcValue (s : State) (n : Nat) : Word × Cpu :=
  let c := s.cpu
  match n with
  | 0x00 => (c.psr, c)
  | 0x01 => (c.predWord, c)
  | 0x02 => (zext c.bkd, c)
  | 0x03 => (zext c.bkp, c)
  | 0x04 => (zext c.rsp, c)
  | 0x05 => (zext c.rsb, c)
  | 0x06 => (zext c.rsl, c)
  | 0x08 => (BitVec.ofNat 32 c.cyc, { c with cychi := BitVec.ofNat 32 (c.cyc / 2 ^ 32) })
  | 0x09 => (c.cychi, c)
  | 0x10 => (c.vbr, c)
  | 0x11 => (c.epc, c)
  | 0x12 => (c.epsr, c)
  | 0x13 => (c.code ++ (c.vec.setWidth 16), c)
  | 0x14 => (c.eaddr, c)
  | 0x15 => (ipend s, c)
  | 0x16 => (c.ien, c)
  | 0x17 => (c.ipri0, c)
  | 0x18 => (c.ipri1, c)
  | 0x19 => (BitVec.ofNat 32 (c.nmiact.toNat + 2 * c.nmipend.toNat), c)
  | 0x1A => (c.isw ++ (0 : BitVec 24), c)
  | 0x1B => (c.scr0, c)
  | 0x1C => (c.scr1, c)
  | _ => (0, c)

/-- Write a control register, fields as its map (R422); read-only registers and fields ignore the write. -/
def Cpu.mtc (c : Cpu) (n : Nat) (w : Word) : Cpu :=
  match n with
  | 0x00 => c.mtcPsr w
  | 0x01 => c.setPreds w
  | 0x02 => { c with bkd := w.setWidth 16 }
  | 0x03 => { c with bkp := w.setWidth 16 }
  | 0x04 => { c with rsp := rsReg w }
  | 0x05 => { c with rsb := rsReg w }
  | 0x06 => { c with rsl := rsReg w }
  | 0x10 => { c with vbr := w &&& 0xFFFFFF00 }
  | 0x11 => { c with epc := w &&& 0xFFFFFFFC }
  | 0x12 => { c with epsr := w &&& 0x177 }
  | 0x13 => { c with vec := w.setWidth 6, code := w.extractLsb' 16 16 }
  | 0x14 => { c with eaddr := w }
  | 0x16 => { c with ien := w }
  | 0x17 => { c with ipri0 := w }
  | 0x18 => { c with ipri1 := w }
  | 0x19 => { c with nmiact := c.nmiact && !w.getLsbD 0 }
  | 0x1A => { c with isw := w.extractLsb' 24 8 }
  | 0x1B => { c with scr0 := w }
  | 0x1C => { c with scr1 := w }
  | _ => c

/-! ### Block instructions (R426, R427) -/

/-- One element: done with the state after it, stopped at the deciding element, or an exception. -/
inductive Elem where
  | next (s : State)
  | stop (s : State)
  | exc (e : Exc)

/-- The element size in bytes. -/
def elemSize (sz : Fin 4) : Nat := 2 ^ sz.val

/-- One element of a block instruction (R426). -/
def blockElem (f : BlkOp) (a d c v : DReg) (n : Nat) (s : State) : Elem :=
  let step (s' : State) (cpu : Cpu) : Elem := .next { s' with cpu := cpu.setDr c (cpu.dr c - 1) }
  let inc (cpu : Cpu) (r : DReg) : Cpu := cpu.setAr r (cpu.ar r + BitVec.ofNat 32 n)
  match f with
  | .bmov =>
    match dataLoad s false (s.cpu.ar a) n with
    | .error e => .exc e
    | .ok (x, s1) =>
      match dataStore s1 false (s.cpu.ar d) n x with
      | .error e => .exc e
      | .ok s2 => step s2 (inc (inc s2.cpu a) d)
  | .bfill =>
    match dataStore s false (s.cpu.ar d) n (s.cpu.dr v) with
    | .error e => .exc e
    | .ok s1 => step s1 (inc s1.cpu d)
  | .bcmp =>
    match dataLoad s false (s.cpu.ar a) n with
    | .error e => .exc e
    | .ok (x, s1) =>
      match dataLoad s1 false (s.cpu.ar d) n with
      | .error e => .exc e
      | .ok (y, s2) => if x ≠ y then .stop s2 else step s2 (inc (inc s2.cpu a) d)
  | .bscan =>
    match dataLoad s false (s.cpu.ar a) n with
    | .error e => .exc e
    | .ok (x, s1) =>
      if x.toNat = (s.cpu.dr v).toNat % 2 ^ (8 * n) then .stop s1 else step s1 (inc s1.cpu a)

/-- The elements while Dc ≠ 0 (at most `fuel`); an interrupt pending at the end of an element stops the
instruction there, to be executed again (R427). -/
def blockRun (f : BlkOp) (a d c v : DReg) (n : Nat) (s : State) : Nat → OpOut
  | 0 => .ok { s := s, pc := s.cpu.pc + 4 }
  | fuel + 1 =>
    if s.cpu.dr c = 0 then .ok { s := s, pc := s.cpu.pc + 4 }
    else
      match blockElem f a d c v n s with
      | .exc e => .error (e, s)
      | .stop s' => .ok { s := s', pc := s.cpu.pc + 4 }
      | .next s' =>
        if s'.cpu.dr c = 0 then .ok { s := s', pc := s.cpu.pc + 4 }
        else if nmiReady s' || (irqReady s').isSome then .ok { s := s', pc := s.cpu.pc }
        else blockRun f a d c v n s' fuel

/-- A block instruction: Dc elements at most. -/
def blockOp (s : State) (f : BlkOp) (a d c v : DReg) (sz : Fin 4) : OpOut :=
  blockRun f a d c v (elemSize sz) s (s.cpu.dr c).toNat

/-! ### System operations (R422, R437, R438, R444) -/

/-- A system operation; TRAP and BKPT raise their exceptions (R435), and BKPT halts the core instead
while a debugger holds breakpoints enabled. -/
def sysOp (s : State) (f : SysOp) (imm : BitVec 16) : OpOut :=
  let c := s.cpu
  match f with
  | .nop => s.done c
  | .trap => .error ({ vec := 9, code := imm, next := true }, s)
  | .rfe => .ok { s := { s with cpu := c.returnFromExc }, pc := c.epc }
  | .wait => s.done { c with waiting := !(c.nmipend || irqWaits s) }
  | .fence => s.done c
  | .ei => s.done { c with ie := true }
  | .di => s.done { c with ie := false }
  | .bkpt =>
    if s.sys.dbgBreak then .ok { s := wdHold true { s with sys := { s.sys with dbgHalted := true } }, pc := c.pc + 4 }
    else .error ({ vec := 10, code := imm, next := true }, s)
  | .rssv => rssvOp s ⟨imm.toNat / 2 ^ 12, by omega⟩
  | .rsrs => rsrsOp s ⟨imm.toNat / 2 ^ 12, by omega⟩

/-! ### Every operation but custom ones -/

/-- What an operation does once its decode checks have passed and its predicate holds; `micro` inside a
custom instruction. -/
def opExec (micro : Bool) (s : State) (op : Op) : OpOut :=
  let c := s.cpu
  match op with
  | .rr f d a b p =>
    .ok { s := { s with cpu := c.alu f d a b p }, pc := c.pc + 4, dz := aluDz f (c.dr b) }
  | .ri f d a imm => s.done (c.imm f d a imm)
  | .si d a kind amt => s.done (c.setDr d (shiResult kind (c.dr a) amt))
  | .mi hi d imm => s.done (c.setDr d (if hi then imm ++ (c.dr d).setWidth 16 else sext imm))
  | .ai a b imm => s.done (c.setAr a (c.ar b + sext imm))
  | .ar f x y z => s.done (c.addrOp f x y z)
  | .am low a imm =>
    s.done (c.setAr a (if low then (c.ar a).extractLsb' 16 16 ++ imm else imm ++ (0 : BitVec 16)))
  | .load f t a disp => loadOp s micro f t a disp
  | .store f t a disp => storeOp s micro f t a disp
  | .dir st t bank byte off => directOp s micro st t bank byte off
  | .stk pop t isA => stackOp s micro pop t isA
  | .acc f q x y sh => s.done (c.accOp f q x y sh)
  | .cmp pd cond a b => s.done (c.setPr pd (condHolds cond (c.dr a) (c.dr b)))
  | .cmpi pd cond a imm => s.done (c.setPr pd (condHolds cond (c.dr a) (cmpiImm cond imm)))
  | .cmpa pd cond a b => s.done (c.setPr pd (condHolds cond (c.ar a) (c.ar b)))
  | .plog f pd pa pb => s.done (c.setPr pd (plogResult f (c.pr pa) (c.pr pb)))
  | .br false disp => .ok { s := s, pc := branchTarget c.pc disp }
  | .br true disp => callTo s (branchTarget c.pc disp) true
  | .jmp true a => callTo s (c.ar a) ((c.ar a).toNat % 4 == 0)
  | .jmp false a =>
    if (c.ar a).toNat % 4 ≠ 0 then .error ({ vec := 3, eaddr := c.ar a }, s)
    else .ok { s := s, pc := c.ar a }
  | .ret => retOp s
  | .dbnz r disp =>
    let v := c.dr r - 1
    .ok { s := { s with cpu := c.setDr r v }, pc := if v = 0 then c.pc + 4 else branchTarget c.pc disp }
  | .cr false t creg =>
    let r := mfcValue s creg.toNat
    s.done (r.2.setDr t r.1)
  | .cr true t creg => s.done (c.mtc creg.toNat (c.dr t))
  | .sys f imm => sysOp s f imm
  | .blk f a d r v sz => blockOp s f a d r v sz
  | .custom .. => s.done c

/-! ### Custom instructions (R449 to R454) -/

/-- The custom word's operands that a substitution may name (R451). -/
structure CustomOps where
  d : RegNo
  s : RegNo
  t : RegNo
  imm : BitVec 6
  deriving DecidableEq, Repr

/-- The substitution code of register field `k` (0, 1, 2) in CTL (R450). -/
def subCode (ctl k : Nat) : Nat := fld ctl (2 + 2 * k) 2

/-- Register field `k` after substitution; none where its code is invalid (R451, R452). -/
def subField (ops : CustomOps) (w ctl k : Nat) : Option DReg :=
  match (regLos (fld w 22 6))[k]? with
  | none => if subCode ctl k = 0 ∨ (k = 2 ∧ subCode ctl k = 3) then some 0 else none
  | some lo =>
    let raw := fld w lo 4
    match subCode ctl k with
    | 0 => some (regFld w lo)
    | 1 => some ⟨16 + raw % 4, by omega⟩
    | 2 => match raw % 4 with
           | 0 => some (dreg ops.d)
           | 1 => some (dreg ops.s)
           | 2 => some (dreg ops.t)
           | _ => none
    | _ => if k = 2 then some (regFld w lo) else none

/-- Majors a micro-op may have (R452). -/
def microMajor (m : Nat) : Bool :=
  (1 ≤ m && m ≤ 0x0C) || (0x10 ≤ m && m ≤ 0x1E) || m == 0x20 || (0x24 ≤ m && m ≤ 0x27)

/-- The operation stores (R452 allows four in a sequence). -/
def Op.stores : Op → Bool
  | .store .. => true
  | .dir st .. => st
  | .stk pop .. => !pop
  | _ => false

/-- A micro-op: its predicate, its operation and its SEQ; none where it is invalid (R452). -/
def microOp (ops : CustomOps) (word : Nat) : Option (Pred × Op × Nat) :=
  let w := word % 2 ^ 32
  let ctl := word / 2 ^ 32 % 256
  let w' := if subCode ctl 2 = 3 then w / 64 * 64 + ops.imm.toNat else w
  match subField ops w ctl 0, subField ops w ctl 1, subField ops w ctl 2 with
  | some r0, some r1, some r2 =>
    if fld ctl 0 2 = 3 ∨ !microMajor (fld w 22 6) then none
    else
      match decodeWith w' (fun k => if k = 0 then r0 else if k = 1 then r1 else r2) with
      | some op =>
        if op.wellFormed && !((predOf w).neg && (predOf w).reg == 0) then
          some (predOf w, op, fld ctl 0 2)
        else none
      | none => none
  | _, _, _ => none

/-- The micro-ops of `n` words from word `i`; none when one is invalid. -/
def microOps (s : State) (ops : CustomOps) (i : Nat) : Nat → Option (List (Pred × Op × Nat))
  | 0 => some []
  | n + 1 =>
    match microOp ops (Sparse.get 0 i s.cpu.ucode), microOps s ops (i + 1) n with
    | some m, some ms => some (m :: ms)
    | _, _ => none

/-- Entry number of a custom word (R423). -/
def customEntry (major : Fin 4) (idx : RegNo) : Nat := 16 * major.val + idx.val

/-- The entry's word in the decode table. -/
def tableWord (s : State) (e : Nat) : Nat := Sparse.get 0 e s.cpu.table

/-- The entry has a valid sequence: within the microcode RAM, every micro-op valid, at most four stores. -/
def entryOps (s : State) (w : Nat) (ops : CustomOps) : Option (List (Pred × Op × Nat)) :=
  if fld w 0 9 + fld w 9 6 + 1 > 512 then none
  else
    match microOps s ops (fld w 0 9) (fld w 9 6 + 1) with
    | some ms => if (ms.filter fun m => m.2.1.stores).length ≤ 4 then some ms else none
    | none => none

/-- The decode exception of a custom word (R423, R434, R439, R449, R452): ILLEGAL of the word,
CUSTOM_UNDEF, PARITY of microcode, ILLEGAL of a micro-op. -/
def customCheck (s : State) (p : Pred) (major : Fin 4) (idx d a t : RegNo) (imm : BitVec 6) : Option Exc :=
  let word := encodeOp p (.custom major idx d a t imm)
  let w := tableWord s (customEntry major idx)
  if !s.cpu.priv && fld w 16 1 = 0 then some { vec := 1, eaddr := word }
  else if fld w 15 1 = 0 then some { vec := 2, eaddr := word }
  else if fld w 0 9 + fld w 9 6 + 1 > 512 then some { vec := 1, eaddr := word }
  else if s.cpu.ucodeBad.any (fun i => fld w 0 9 ≤ i && i ≤ fld w 0 9 + fld w 9 6) then
    some { vec := 5, mark := .ucode }
  else if (entryOps s w ⟨d, a, t, imm⟩).isNone then some { vec := 1, eaddr := word }
  else none

/-- Run micro-ops on the working copy `s`: `dz` collects divisions by zero.  The pending load of the
sequence stands in the copy's own slot (R453). -/
def microRun (s : State) (dz : Bool) : List (Pred × Op × Nat) → Except Exc (State × Bool)
  | [] => .ok (s, dz)
  | (p, op, seq) :: rest =>
    if s.cpu.holds p then
      match opExec true s op with
      | .error (e, _) => .error e
      | .ok d =>
        let s' := { d.s with cpu := { d.s.cpu.commitSlot with slot := d.load } }
        if seq = 1 then .ok (s', dz || d.dz) else microRun s' (dz || d.dz) rest
    else
      let s' := { s with cpu := s.cpu.commitSlot }
      if seq = 1 ∨ seq = 2 then .ok (s', dz) else microRun s' dz rest

/-- T0 to T3 at zero (R453). -/
def Cpu.clearT (c : Cpu) : Cpu :=
  (((c.setDr 16 0).setDr 17 0).setDr 18 0).setDr 19 0

/-- A custom instruction takes effect whole or not at all (R454): an exception in a micro-op is taken at
the custom word with nothing changed. -/
def customOp (s : State) (major : Fin 4) (idx d a t : RegNo) (imm : BitVec 6) : OpOut :=
  let e := customEntry major idx
  match entryOps s (tableWord s e) ⟨d, a, t, imm⟩ with
  | none => s.done s.cpu
  | some ms =>
    match microRun { s with cpu := { s.cpu.clearT with slot := none } } false ms with
    | .error x => .error (x, s)
    | .ok (s', dz) =>
      .ok { s := { s' with cpu := { s'.cpu.clearT with slot := s.cpu.slot, lastCustom := some e } }
            pc := s.cpu.pc + 4, load := s'.cpu.slot, dz := dz }

/-! ### The frame around every instruction -/

/-- The core can issue: CORE up, not held halted by the debug port, not stopped by WAIT with nothing
pending (R318, R444). -/
def canIssue (s : State) : Bool :=
  s.coreUp && (!s.sys.dbgHalted || s.sys.dbgStep) &&
    (!s.cpu.waiting || s.cpu.nmipend || irqWaits s)

/-- The decode checks, which precede the predicate (R404, R431, R434). -/
def decodeCheck (s : State) (p : Pred) (op : Op) : Option Exc :=
  if !wordOk p op || (op.privileged && !s.cpu.priv) then some { vec := 1, eaddr := encodeOp p op }
  else
    match op with
    | .custom major idx d a t imm => customCheck s p major idx d a t imm
    | _ => none

/-- The first instruction fetched outside the boot ROM sets SEC_LOCK.MEAS (R316). -/
def fetchMarks (s : State) : State :=
  let s := if 0x10000 ≤ s.cpu.pc.toNat then s.set Reg.SEC_LOCK.MEAS else s
  match areaOf s.cpu.pc.toNat with
  | .window => (firnReady s).firnChecked (firnIndex s s.cpu.pc.toNat)
  | _ => s

/-- The end of an instruction: the waiting load is written after the instruction's own writes, the
instruction's own load starts to wait, the pc moves on, and an open number of core clock cycles, at
least one, has passed (R424, R433). DESIGN CHOICE (log 28, 99). -/
def finish (d : Done) : State :=
  { d.s.drawn with
    cpu := { d.s.cpu.commitSlot with
             slot := d.load, pc := d.pc, cyc := (d.s.cpu.cyc + 1 + d.s.freeVal) % 2 ^ 64 } }

/-- DIVZERO after the instruction completes, with DZTRAP=1 (R430). DEDUCED (log 118). -/
def trapDz (dz : Bool) (s : State) : State :=
  if dz && s.cpu.dztrap then takeExc { vec := 8 } s.cpu.pc { s with cpu := s.cpu.commitSlot } else s

/-- What the instruction does when its predicate holds. -/
def runOp (s : State) (op : Op) : OpOut :=
  match op with
  | .custom major idx d a t imm => customOp s major idx d a t imm
  | _ => opExec false s op

/-- An instruction is issued: a wait is over, and a step of the debug port is used up, whether the instruction completes
or takes an exception (R317, R444). DEDUCED (log 118). -/
def issued (s : State) : State :=
  { s with cpu := { s.cpu with waiting := false }, sys := { s.sys with dbgStep := false } }

/-- One instruction at PC (R403, R404, R439): fetch checks, decode checks, predicate, execution. DEDUCED (log 96). -/
def runCore (p : Pred) (op : Op) (s : State) : State :=
  if !canIssue s then s
  else
    let s := issued s
    match accessCheck s .fetch s.cpu.pc 4 with
    | some e => faultAtPc e s
    | none =>
      let s := fetchMarks s
      match decodeCheck s p op with
      | some e => faultAtPc e s
      | none =>
        if s.cpu.holds p then
          match runOp s op with
          | .error (e, s') => faultAtPc e s'
          | .ok d => trapDz d.dz (finish d)
        else finish { s := s, pc := s.cpu.pc + 4 }

end Sys2Proof.Machine
end

