-- ==== Sys2Proof/Machine/CoreAcc.lean ====
section
/-! DEFINITION. The meanings of accumulators, compares and predicate logic (R419, R420): each instruction as the operation it is, run in the frame around every
instruction. -/

namespace Sys2Proof.Machine

/-- MACS (R419): Signed multiply-accumulate into Q. -/
def execMacs (p : Pred) (q : Fin 2) (s t : RegNo) (st : State) : Host.Outcome State Fault Refusal :=
  .next (runCore p (.acc .macs q (dreg s) (dreg t) 0) st)

/-- MACU (R419): Unsigned multiply-accumulate into Q. -/
def execMacu (p : Pred) (q : Fin 2) (s t : RegNo) (st : State) : Host.Outcome State Fault Refusal :=
  .next (runCore p (.acc .macu q (dreg s) (dreg t) 0) st)

/-- MSBS (R419): Signed multiply-subtract from Q. -/
def execMsbs (p : Pred) (q : Fin 2) (s t : RegNo) (st : State) : Host.Outcome State Fault Refusal :=
  .next (runCore p (.acc .msbs q (dreg s) (dreg t) 0) st)

/-- MULQ (R419): Q = Ds × Dt. -/
def execMulq (p : Pred) (q : Fin 2) (s t : RegNo) (st : State) : Host.Outcome State Fault Refusal :=
  .next (runCore p (.acc .mulq q (dreg s) (dreg t) 0) st)

/-- MACSAT (R419): Saturating multiply-accumulate. -/
def execMacsat (p : Pred) (q : Fin 2) (s t : RegNo) (st : State) : Host.Outcome State Fault Refusal :=
  .next (runCore p (.acc .macsat q (dreg s) (dreg t) 0) st)

/-- CLRQ (R419): Clear Q. -/
def execClrq (p : Pred) (q : Fin 2) (st : State) : Host.Outcome State Fault Refusal :=
  .next (runCore p (.acc .clrq q 0 0 0) st)

/-- RDQL (R419): Read the low half of Q. -/
def execRdql (p : Pred) (q : Fin 2) (d : RegNo) (st : State) : Host.Outcome State Fault Refusal :=
  .next (runCore p (.acc .rdql q (dreg d) 0 0) st)

/-- RDQH (R419): Read the high half of Q. -/
def execRdqh (p : Pred) (q : Fin 2) (d : RegNo) (st : State) : Host.Outcome State Fault Refusal :=
  .next (runCore p (.acc .rdqh q (dreg d) 0 0) st)

/-- RDQS (R419): Read Q shifted and saturated. -/
def execRdqs (p : Pred) (q : Fin 2) (d : RegNo) (sh : Fin 64) (st : State) : Host.Outcome State Fault Refusal :=
  .next (runCore p (.acc .rdqs q (dreg d) 0 sh) st)

/-- WRQL (R419): Write the low half of Q. -/
def execWrql (p : Pred) (q : Fin 2) (s : RegNo) (st : State) : Host.Outcome State Fault Refusal :=
  .next (runCore p (.acc .wrql q (dreg s) 0 0) st)

/-- WRQH (R419): Write the high half of Q. -/
def execWrqh (p : Pred) (q : Fin 2) (s : RegNo) (st : State) : Host.Outcome State Fault Refusal :=
  .next (runCore p (.acc .wrqh q (dreg s) 0 0) st)

/-- SHQ (R419): Shift Q right arithmetically. -/
def execShq (p : Pred) (q : Fin 2) (sh : Fin 64) (st : State) : Host.Outcome State Fault Refusal :=
  .next (runCore p (.acc .shq q 0 0 sh) st)

/-- CMP (R420): Compare two data registers into a predicate. -/
def execCmp (p : Pred) (d : PredNo) (cond : Fin 16) (s t : RegNo) (st : State) : Host.Outcome State Fault Refusal :=
  .next (runCore p (.cmp d cond (dreg s) (dreg t)) st)

/-- CMPI (R420): Compare with an immediate into a predicate. -/
def execCmpi (p : Pred) (d : PredNo) (cond : Fin 16) (s : RegNo) (imm : BitVec 11) (st : State) : Host.Outcome State Fault Refusal :=
  .next (runCore p (.cmpi d cond (dreg s) imm) st)

/-- CMPA (R420): Compare two address registers into a predicate. -/
def execCmpa (p : Pred) (d : PredNo) (cond : Fin 16) (s t : RegNo) (st : State) : Host.Outcome State Fault Refusal :=
  .next (runCore p (.cmpa d cond (dreg s) (dreg t)) st)

/-- PAND (R420): Pd = Pa AND Pb. -/
def execPand (p : Pred) (d a b : PredNo) (st : State) : Host.Outcome State Fault Refusal :=
  .next (runCore p (.plog .pand d a b) st)

/-- POR (R420): Pd = Pa OR Pb. -/
def execPor (p : Pred) (d a b : PredNo) (st : State) : Host.Outcome State Fault Refusal :=
  .next (runCore p (.plog .por d a b) st)

/-- PXOR (R420): Pd = Pa XOR Pb. -/
def execPxor (p : Pred) (d a b : PredNo) (st : State) : Host.Outcome State Fault Refusal :=
  .next (runCore p (.plog .pxor d a b) st)

/-- PANDN (R420): Pd = Pa AND NOT Pb. -/
def execPandn (p : Pred) (d a b : PredNo) (st : State) : Host.Outcome State Fault Refusal :=
  .next (runCore p (.plog .pandn d a b) st)

/-- PMOV (R420): Pd = Pa. -/
def execPmov (p : Pred) (d a : PredNo) (st : State) : Host.Outcome State Fault Refusal :=
  .next (runCore p (.plog .pmov d a 0) st)

/-- PNOT (R420): Pd = NOT Pa. -/
def execPnot (p : Pred) (d a : PredNo) (st : State) : Host.Outcome State Fault Refusal :=
  .next (runCore p (.plog .pnot d a 0) st)

/-- PSET (R420): Pd = 1. -/
def execPset (p : Pred) (d : PredNo) (st : State) : Host.Outcome State Fault Refusal :=
  .next (runCore p (.plog .pset d 0 0) st)

/-- PCLR (R420): Pd = 0. -/
def execPclr (p : Pred) (d : PredNo) (st : State) : Host.Outcome State Fault Refusal :=
  .next (runCore p (.plog .pclr d 0 0) st)

end Sys2Proof.Machine
end

