-- ==== Sys2Proof/Machine/CoreAlu.lean ====
section
/-! DEFINITION. The meanings of the register ALU, immediates and address arithmetic (R415 to R417): each instruction as the operation it is, run in the frame around every
instruction. -/

namespace Sys2Proof.Machine

/-- ADD (R415): Dd = Ds + Dt with V on overflow. -/
def execAdd (p : Pred) (d s t : RegNo) (st : State) : Host.Outcome State Fault Refusal :=
  .next (runCore p (.rr .add (dreg d) (dreg s) (dreg t) 0) st)

/-- SUB (R415): Dd = Ds − Dt with V on overflow. -/
def execSub (p : Pred) (d s t : RegNo) (st : State) : Host.Outcome State Fault Refusal :=
  .next (runCore p (.rr .sub (dreg d) (dreg s) (dreg t) 0) st)

/-- AND (R415): Bitwise AND. -/
def execAnd (p : Pred) (d s t : RegNo) (st : State) : Host.Outcome State Fault Refusal :=
  .next (runCore p (.rr .and (dreg d) (dreg s) (dreg t) 0) st)

/-- OR (R415): Bitwise OR. -/
def execOr (p : Pred) (d s t : RegNo) (st : State) : Host.Outcome State Fault Refusal :=
  .next (runCore p (.rr .or (dreg d) (dreg s) (dreg t) 0) st)

/-- XOR (R415): Bitwise XOR. -/
def execXor (p : Pred) (d s t : RegNo) (st : State) : Host.Outcome State Fault Refusal :=
  .next (runCore p (.rr .xor (dreg d) (dreg s) (dreg t) 0) st)

/-- ANDN (R415): Ds AND NOT Dt. -/
def execAndn (p : Pred) (d s t : RegNo) (st : State) : Host.Outcome State Fault Refusal :=
  .next (runCore p (.rr .andn (dreg d) (dreg s) (dreg t) 0) st)

/-- SHL (R415): Shift left by Dt[7:0]. -/
def execShl (p : Pred) (d s t : RegNo) (st : State) : Host.Outcome State Fault Refusal :=
  .next (runCore p (.rr .shl (dreg d) (dreg s) (dreg t) 0) st)

/-- SHR (R415): Logical shift right by Dt[7:0]. -/
def execShr (p : Pred) (d s t : RegNo) (st : State) : Host.Outcome State Fault Refusal :=
  .next (runCore p (.rr .shr (dreg d) (dreg s) (dreg t) 0) st)

/-- SAR (R415): Arithmetic shift right by Dt[7:0]. -/
def execSar (p : Pred) (d s t : RegNo) (st : State) : Host.Outcome State Fault Refusal :=
  .next (runCore p (.rr .sar (dreg d) (dreg s) (dreg t) 0) st)

/-- ROL (R415): Rotate left by Dt[4:0]. -/
def execRol (p : Pred) (d s t : RegNo) (st : State) : Host.Outcome State Fault Refusal :=
  .next (runCore p (.rr .rol (dreg d) (dreg s) (dreg t) 0) st)

/-- ROR (R415): Rotate right by Dt[4:0]. -/
def execRor (p : Pred) (d s t : RegNo) (st : State) : Host.Outcome State Fault Refusal :=
  .next (runCore p (.rr .ror (dreg d) (dreg s) (dreg t) 0) st)

/-- MUL (R415): Low 32 bits of the product. -/
def execMul (p : Pred) (d s t : RegNo) (st : State) : Host.Outcome State Fault Refusal :=
  .next (runCore p (.rr .mul (dreg d) (dreg s) (dreg t) 0) st)

/-- MULHS (R415): High 32 bits of the signed product. -/
def execMulhs (p : Pred) (d s t : RegNo) (st : State) : Host.Outcome State Fault Refusal :=
  .next (runCore p (.rr .mulhs (dreg d) (dreg s) (dreg t) 0) st)

/-- MULHU (R415): High 32 bits of the unsigned product. -/
def execMulhu (p : Pred) (d s t : RegNo) (st : State) : Host.Outcome State Fault Refusal :=
  .next (runCore p (.rr .mulhu (dreg d) (dreg s) (dreg t) 0) st)

/-- DIVS (R415): Signed division truncated towards zero. -/
def execDivs (p : Pred) (d s t : RegNo) (st : State) : Host.Outcome State Fault Refusal :=
  .next (runCore p (.rr .divs (dreg d) (dreg s) (dreg t) 0) st)

/-- DIVU (R415): Unsigned division. -/
def execDivu (p : Pred) (d s t : RegNo) (st : State) : Host.Outcome State Fault Refusal :=
  .next (runCore p (.rr .divu (dreg d) (dreg s) (dreg t) 0) st)

/-- REMS (R415): Signed remainder. -/
def execRems (p : Pred) (d s t : RegNo) (st : State) : Host.Outcome State Fault Refusal :=
  .next (runCore p (.rr .rems (dreg d) (dreg s) (dreg t) 0) st)

/-- REMU (R415): Unsigned remainder. -/
def execRemu (p : Pred) (d s t : RegNo) (st : State) : Host.Outcome State Fault Refusal :=
  .next (runCore p (.rr .remu (dreg d) (dreg s) (dreg t) 0) st)

/-- MIN (R415): Signed minimum. -/
def execMin (p : Pred) (d s t : RegNo) (st : State) : Host.Outcome State Fault Refusal :=
  .next (runCore p (.rr .min (dreg d) (dreg s) (dreg t) 0) st)

/-- MAX (R415): Signed maximum. -/
def execMax (p : Pred) (d s t : RegNo) (st : State) : Host.Outcome State Fault Refusal :=
  .next (runCore p (.rr .max (dreg d) (dreg s) (dreg t) 0) st)

/-- MINU (R415): Unsigned minimum. -/
def execMinu (p : Pred) (d s t : RegNo) (st : State) : Host.Outcome State Fault Refusal :=
  .next (runCore p (.rr .minu (dreg d) (dreg s) (dreg t) 0) st)

/-- MAXU (R415): Unsigned maximum. -/
def execMaxu (p : Pred) (d s t : RegNo) (st : State) : Host.Outcome State Fault Refusal :=
  .next (runCore p (.rr .maxu (dreg d) (dreg s) (dreg t) 0) st)

/-- ADDC (R415): Add with carry out to Pc. -/
def execAddc (p : Pred) (d s t : RegNo) (c : PredNo) (st : State) : Host.Outcome State Fault Refusal :=
  .next (runCore p (.rr .addc (dreg d) (dreg s) (dreg t) c) st)

/-- ADDX (R415): Add with carry in and out. -/
def execAddx (p : Pred) (d s t : RegNo) (c : PredNo) (st : State) : Host.Outcome State Fault Refusal :=
  .next (runCore p (.rr .addx (dreg d) (dreg s) (dreg t) c) st)

/-- SUBC (R415): Subtract with borrow out to Pc. -/
def execSubc (p : Pred) (d s t : RegNo) (c : PredNo) (st : State) : Host.Outcome State Fault Refusal :=
  .next (runCore p (.rr .subc (dreg d) (dreg s) (dreg t) c) st)

/-- SUBX (R415): Subtract with borrow in and out. -/
def execSubx (p : Pred) (d s t : RegNo) (c : PredNo) (st : State) : Host.Outcome State Fault Refusal :=
  .next (runCore p (.rr .subx (dreg d) (dreg s) (dreg t) c) st)

/-- NEG (R415): Negate. -/
def execNeg (p : Pred) (d s : RegNo) (st : State) : Host.Outcome State Fault Refusal :=
  .next (runCore p (.rr .neg (dreg d) (dreg s) 0 0) st)

/-- NOT (R415): Bitwise NOT. -/
def execNot (p : Pred) (d s : RegNo) (st : State) : Host.Outcome State Fault Refusal :=
  .next (runCore p (.rr .not (dreg d) (dreg s) 0 0) st)

/-- ABS (R415): Absolute value. -/
def execAbs (p : Pred) (d s : RegNo) (st : State) : Host.Outcome State Fault Refusal :=
  .next (runCore p (.rr .abs (dreg d) (dreg s) 0 0) st)

/-- CLZ (R415): Count leading zeros. -/
def execClz (p : Pred) (d s : RegNo) (st : State) : Host.Outcome State Fault Refusal :=
  .next (runCore p (.rr .clz (dreg d) (dreg s) 0 0) st)

/-- SEXTB (R415): Sign-extend a byte. -/
def execSextb (p : Pred) (d s : RegNo) (st : State) : Host.Outcome State Fault Refusal :=
  .next (runCore p (.rr .sextb (dreg d) (dreg s) 0 0) st)

/-- SEXTH (R415): Sign-extend a half-word. -/
def execSexth (p : Pred) (d s : RegNo) (st : State) : Host.Outcome State Fault Refusal :=
  .next (runCore p (.rr .sexth (dreg d) (dreg s) 0 0) st)

/-- ZEXTB (R415): Zero-extend a byte. -/
def execZextb (p : Pred) (d s : RegNo) (st : State) : Host.Outcome State Fault Refusal :=
  .next (runCore p (.rr .zextb (dreg d) (dreg s) 0 0) st)

/-- ZEXTH (R415): Zero-extend a half-word. -/
def execZexth (p : Pred) (d s : RegNo) (st : State) : Host.Outcome State Fault Refusal :=
  .next (runCore p (.rr .zexth (dreg d) (dreg s) 0 0) st)

/-- BSWAP (R415): Reverse the bytes. -/
def execBswap (p : Pred) (d s : RegNo) (st : State) : Host.Outcome State Fault Refusal :=
  .next (runCore p (.rr .bswap (dreg d) (dreg s) 0 0) st)

/-- MOV (R415): Dd = Ds. -/
def execMov (p : Pred) (d s : RegNo) (st : State) : Host.Outcome State Fault Refusal :=
  .next (runCore p (.rr .mov (dreg d) (dreg s) 0 0) st)

/-- SEL (R415): Select Ds or Dt by Pc. -/
def execSel (p : Pred) (d s t : RegNo) (c : PredNo) (st : State) : Host.Outcome State Fault Refusal :=
  .next (runCore p (.rr .sel (dreg d) (dreg s) (dreg t) c) st)

/-- ADDI (R416): Add an immediate. -/
def execAddi (p : Pred) (d s : RegNo) (imm : BitVec 14) (st : State) : Host.Outcome State Fault Refusal :=
  .next (runCore p (.ri .addi (dreg d) (dreg s) imm) st)

/-- ANDI (R416): AND with an immediate. -/
def execAndi (p : Pred) (d s : RegNo) (imm : BitVec 14) (st : State) : Host.Outcome State Fault Refusal :=
  .next (runCore p (.ri .andi (dreg d) (dreg s) imm) st)

/-- ORI (R416): OR with an immediate. -/
def execOri (p : Pred) (d s : RegNo) (imm : BitVec 14) (st : State) : Host.Outcome State Fault Refusal :=
  .next (runCore p (.ri .ori (dreg d) (dreg s) imm) st)

/-- XORI (R416): XOR with an immediate. -/
def execXori (p : Pred) (d s : RegNo) (imm : BitVec 14) (st : State) : Host.Outcome State Fault Refusal :=
  .next (runCore p (.ri .xori (dreg d) (dreg s) imm) st)

/-- SHI (R416): Shift or rotate by an immediate of the selected kind. -/
def execShi (p : Pred) (d s : RegNo) (kind : Fin 8) (amt : Fin 32) (st : State) : Host.Outcome State Fault Refusal :=
  .next (runCore p (.si (dreg d) (dreg s) kind amt) st)

/-- MOVI (R416): Load a sign-extended immediate. -/
def execMovi (p : Pred) (d : RegNo) (imm : BitVec 16) (st : State) : Host.Outcome State Fault Refusal :=
  .next (runCore p (.mi false (dreg d) imm) st)

/-- MOVHI (R416): Set the upper half of Dd. -/
def execMovhi (p : Pred) (d : RegNo) (imm : BitVec 16) (st : State) : Host.Outcome State Fault Refusal :=
  .next (runCore p (.mi true (dreg d) imm) st)

/-- MULI (R416): Multiply by an immediate. -/
def execMuli (p : Pred) (d s : RegNo) (imm : BitVec 14) (st : State) : Host.Outcome State Fault Refusal :=
  .next (runCore p (.ri .muli (dreg d) (dreg s) imm) st)

/-- ADDA (R417): Ad = As + immediate. -/
def execAdda (p : Pred) (a s : RegNo) (imm : BitVec 14) (st : State) : Host.Outcome State Fault Refusal :=
  .next (runCore p (.ai (dreg a) (dreg s) imm) st)

/-- MOVA (R417): Ad = As. -/
def execMova (p : Pred) (d s : RegNo) (st : State) : Host.Outcome State Fault Refusal :=
  .next (runCore p (.ar .mova (dreg d) (dreg s) 0) st)

/-- ADDAD (R417): Ad = As + Dt. -/
def execAddad (p : Pred) (d s t : RegNo) (st : State) : Host.Outcome State Fault Refusal :=
  .next (runCore p (.ar .addad (dreg d) (dreg s) (dreg t)) st)

/-- SUBAD (R417): Ad = As − Dt. -/
def execSubad (p : Pred) (d s t : RegNo) (st : State) : Host.Outcome State Fault Refusal :=
  .next (runCore p (.ar .subad (dreg d) (dreg s) (dreg t)) st)

/-- ADDAW (R417): Ad = As + 4 × Dt. -/
def execAddaw (p : Pred) (d s t : RegNo) (st : State) : Host.Outcome State Fault Refusal :=
  .next (runCore p (.ar .addaw (dreg d) (dreg s) (dreg t)) st)

/-- ADDAH (R417): Ad = As + 2 × Dt. -/
def execAddah (p : Pred) (d s t : RegNo) (st : State) : Host.Outcome State Fault Refusal :=
  .next (runCore p (.ar .addah (dreg d) (dreg s) (dreg t)) st)

/-- MOVAD (R417): Ad = Ds. -/
def execMovad (p : Pred) (d s : RegNo) (st : State) : Host.Outcome State Fault Refusal :=
  .next (runCore p (.ar .movad (dreg d) (dreg s) 0) st)

/-- MOVDA (R417): Dd = As. -/
def execMovda (p : Pred) (d s : RegNo) (st : State) : Host.Outcome State Fault Refusal :=
  .next (runCore p (.ar .movda (dreg d) (dreg s) 0) st)

/-- SUBAA (R417): Dd = As − At. -/
def execSubaa (p : Pred) (d s t : RegNo) (st : State) : Host.Outcome State Fault Refusal :=
  .next (runCore p (.ar .subaa (dreg d) (dreg s) (dreg t)) st)

/-- MOVIA (R417): Ad = IMM16 << 16. -/
def execMovia (p : Pred) (a : RegNo) (imm : BitVec 16) (st : State) : Host.Outcome State Fault Refusal :=
  .next (runCore p (.am false (dreg a) imm) st)

/-- MOVLA (R417): Set the low half of Ad. -/
def execMovla (p : Pred) (a : RegNo) (imm : BitVec 16) (st : State) : Host.Outcome State Fault Refusal :=
  .next (runCore p (.am true (dreg a) imm) st)

end Sys2Proof.Machine
end

