-- ==== Sys2Proof/Machine/CoreFlow.lean ====
section
/-! DEFINITION. The meanings of control flow and the return stack (R413, R421, R446): each instruction as the operation it is, run in the frame around every
instruction. -/

namespace Sys2Proof.Machine

/-- BR (R421): Relative branch. -/
def execBr (p : Pred) (disp : BitVec 22) (st : State) : Host.Outcome State Fault Refusal :=
  .next (runCore p (.br false disp) st)

/-- CALL (R413): Push the return address and branch. -/
def execCall (p : Pred) (disp : BitVec 22) (st : State) : Host.Outcome State Fault Refusal :=
  .next (runCore p (.br true disp) st)

/-- JMP (R421): Branch to As. -/
def execJmp (p : Pred) (a : RegNo) (st : State) : Host.Outcome State Fault Refusal :=
  .next (runCore p (.jmp false (dreg a)) st)

/-- CALLR (R413): Push the return address and branch to As. -/
def execCallr (p : Pred) (a : RegNo) (st : State) : Host.Outcome State Fault Refusal :=
  .next (runCore p (.jmp true (dreg a)) st)

/-- RET (R413): Pop the return stack and branch. -/
def execRet (p : Pred) (st : State) : Host.Outcome State Fault Refusal :=
  .next (runCore p (.ret) st)

/-- DBNZ (R421): Decrement Dc and branch if it is non-zero. -/
def execDbnz (p : Pred) (c : RegNo) (disp : BitVec 18) (st : State) : Host.Outcome State Fault Refusal :=
  .next (runCore p (.dbnz (dreg c) disp) st)

/-- RSSV (R446): Save return-stack entries to main SRAM. -/
def execRssv (p : Pred) (a : RegNo) (st : State) : Host.Outcome State Fault Refusal :=
  .next (runCore p (.sys .rssv (BitVec.ofNat 16 (a.val * 2 ^ 12))) st)

/-- RSRS (R446): Restore return-stack entries from main SRAM. -/
def execRsrs (p : Pred) (a : RegNo) (st : State) : Host.Outcome State Fault Refusal :=
  .next (runCore p (.sys .rsrs (BitVec.ofNat 16 (a.val * 2 ^ 12))) st)

end Sys2Proof.Machine
end

