-- ==== Sys2Proof/Machine/CoreIrq.lean ====
section
/-! DEFINITION. The meanings of interrupt and NMI entry, the watchdog, the microcode registers and the debug
port's hold on the core (R443, R445, R447, R455, R318). -/

namespace Sys2Proof.Machine

/-- An instruction boundary: the core is up and not halted, and no load waits for its slot (R425, R443). -/
def atBoundary (s : State) : Bool := s.coreUp && !s.sys.dbgHalted && s.cpu.slot.isNone

/-- INTERRUPT_ENTRY (R443): A pending enabled line of highest priority is taken at an instruction
boundary. DEDUCED (log 96). -/
def execInterruptEntry (s : State) : Host.Outcome State Fault Refusal :=
  .next (match atBoundary s, irqReady s with
    | true, some n => takeExc { vec := 32 + n } s.cpu.pc s
    | _, _ => s)

/-- NMI_ENTRY (R445): A pending NMI is taken once NMIACT and ERRACT are clear. -/
def execNmiEntry (s : State) : Host.Outcome State Fault Refusal :=
  .next (if atBoundary s && nmiReady s then takeExc { vec := 11 } s.cpu.pc s else s)

/-- WATCHDOG_STAGE1_EXPIRY (R447): The first watchdog stage expires, raises NMI and starts stage 2. -/
def execWatchdogStage1Expiry (t : Nat) (s : State) : Host.Outcome State Fault Refusal :=
  let s := s.seen t
  .next (if wdDue s && !s.on Reg.TMR_WDSTAT.STAGE then wdExpire1 s else s)

/-- WATCHDOG_STAGE2_EXPIRY (R447): The second watchdog stage expires and performs a core reset with
WDOG2. -/
def execWatchdogStage2Expiry (t : Nat) (s : State) : Host.Outcome State Fault Refusal :=
  let s := s.seen t
  .next (if wdDue s && s.on Reg.TMR_WDSTAT.STAGE then wdExpire2 s else s)

/-- TMR_WDKICK (R447): A write of the kick key restarts stage 1; any other value is a bad kick. -/
def execTmrWdkick (v : Word) (s : State) : Host.Outcome State Fault Refusal :=
  .next (coreStore 0x40140108 (wdKick v.toNat) s)

/-- SYS_UCLO (R455): A write commits a decode-table entry, or is ignored with LOCKERR. -/
def execSysUclo (v : Word) (s : State) : Host.Outcome State Fault Refusal :=
  .next (coreStore 0x40000104 (ucLoWrite v.toNat) s)

/-- SYS_UCHI (R455): A write commits a microcode word, or is ignored with LOCKERR. -/
def execSysUchi (v : Word) (s : State) : Host.Outcome State Fault Refusal :=
  .next (coreStore 0x40000108 (ucHiWrite v.toNat) s)

/-- The debug port is open: level 1 or above, so that it can halt, step, set breakpoints and reach the core registers
(R317). -/
def debugOpen (s : State) : Bool := s.on Reg.SEC_LCS.DBGOPEN

/-- The debug port reaches core addresses: level 2 (R317). -/
def debugReaches (s : State) : Bool := debugOpen s && s.rd Reg.SEC_LCS.DBGLEVEL == 2

/-- A core register as the debug port reads it, and what the read leaves. -/
def debugRegRead (s : State) : CoreReg → Word × Cpu
  | .data n => (s.cpu.dr (dreg n), s.cpu)
  | .addr n => (s.cpu.a[n], s.cpu)
  | .acc q high => ((s.cpu.qr q).extractLsb' (if high then 32 else 0) 32, s.cpu)
  | .pc => (s.cpu.pc, s.cpu)
  | .control n => mfcValue s n.toNat

/-- A core register as the debug port writes it: a control register as privileged code writes it, the mode staying, and PC
at a word. DESIGN CHOICE (log 116). -/
def debugRegWrite (c : Cpu) (v : Word) : CoreReg → Cpu
  | .data n => c.setDr (dreg n) v
  | .addr n => { c with a := c.a.set n v }
  | .acc q false => c.setQr q ((c.qr q).extractLsb' 32 32 ++ v)
  | .acc q true => c.setQr q (v ++ (c.qr q).extractLsb' 0 32)
  | .pc => { c with pc := v &&& 0xFFFFFFFC }
  | .control n => { ({ c with priv := true } : Cpu).mtc n.toNat v with priv := c.priv }

/-- An access of the debug port with privileged rights: the exception that the core would take for it.  The port takes
none, and the access has no effect but the marks of a parity error (R44). DESIGN CHOICE (log 116). -/
def debugRefused (k : AKind) (a : Word) (n : Nat) (s : State) : Option Exc :=
  accessCheck { s with cpu := { s.cpu with priv := true } } k a n

/-- A read of core memory by the debug port; the value stands in `rdata`. -/
def debugRead (a : Word) (n : Nat) (s : State) : State :=
  match debugRefused .load a n s with
  | some e => applyMark s e.mark
  | none => { (readValue s a n).2 with rdata := (readValue s a n).1.toNat }

/-- A write of core memory by the debug port. -/
def debugWrite (a : Word) (n : Nat) (v : Word) (s : State) : State :=
  match debugRefused .store a n s with
  | some e => applyMark s e.mark
  | none => writeValue s a n v

/-- DEBUG_PORT_HALT (R317, R318): The debug port halts, steps or resumes the core, and the watchdog stops or
restarts counting while the core is held halted; it reaches the core registers, and at level 2 core addresses.  A closed
port does nothing. -/
def execDebugPortHalt (op : DebugOp) (s : State) : Host.Outcome State Fault Refusal :=
  .next (if !s.coreUp || !debugOpen s then s
    else
      match op with
      | .halt => wdHold true { s with sys := { s.sys with dbgHalted := true, dbgStep := false } }
      | .step => if s.sys.dbgHalted then { s with sys := { s.sys with dbgStep := true } } else s
      | .resume => wdHold false { s with sys := { s.sys with dbgHalted := false, dbgStep := false } }
      | .breakpoints on => { s with sys := { s.sys with dbgBreak := on } }
      | .readReg r => { s with cpu := (debugRegRead s r).2, rdata := (debugRegRead s r).1.toNat }
      | .writeReg r v => { s with cpu := debugRegWrite s.cpu v r }
      | .read a size => if debugReaches s then debugRead a (2 ^ size.val) s else s
      | .write a size v => if debugReaches s then debugWrite a (2 ^ size.val) v s else s)

end Sys2Proof.Machine
end

