-- ==== Sys2Proof/Machine/CoreMem.lean ====
section
/-! DEFINITION. The meanings of loads, stores and the data stack (R410 to R412, R418): each instruction as the operation it is, run in the frame around every
instruction. -/

namespace Sys2Proof.Machine

/-- LDW (R418): Load a word with load delay. -/
def execLdw (p : Pred) (t a : RegNo) (disp : BitVec 14) (st : State) : Host.Outcome State Fault Refusal :=
  .next (runCore p (.load .ldw (dreg t) (dreg a) disp) st)

/-- LDH (R418): Load a sign-extended half-word. -/
def execLdh (p : Pred) (t a : RegNo) (disp : BitVec 14) (st : State) : Host.Outcome State Fault Refusal :=
  .next (runCore p (.load .ldh (dreg t) (dreg a) disp) st)

/-- LDHU (R418): Load a zero-extended half-word. -/
def execLdhu (p : Pred) (t a : RegNo) (disp : BitVec 14) (st : State) : Host.Outcome State Fault Refusal :=
  .next (runCore p (.load .ldhu (dreg t) (dreg a) disp) st)

/-- LDB (R418): Load a sign-extended byte. -/
def execLdb (p : Pred) (t a : RegNo) (disp : BitVec 14) (st : State) : Host.Outcome State Fault Refusal :=
  .next (runCore p (.load .ldb (dreg t) (dreg a) disp) st)

/-- LDBU (R418): Load a zero-extended byte. -/
def execLdbu (p : Pred) (t a : RegNo) (disp : BitVec 14) (st : State) : Host.Outcome State Fault Refusal :=
  .next (runCore p (.load .ldbu (dreg t) (dreg a) disp) st)

/-- STW (R418): Store a word. -/
def execStw (p : Pred) (t a : RegNo) (disp : BitVec 14) (st : State) : Host.Outcome State Fault Refusal :=
  .next (runCore p (.store .stw (dreg t) (dreg a) disp) st)

/-- STH (R418): Store a half-word. -/
def execSth (p : Pred) (t a : RegNo) (disp : BitVec 14) (st : State) : Host.Outcome State Fault Refusal :=
  .next (runCore p (.store .sth (dreg t) (dreg a) disp) st)

/-- STB (R418): Store a byte. -/
def execStb (p : Pred) (t a : RegNo) (disp : BitVec 14) (st : State) : Host.Outcome State Fault Refusal :=
  .next (runCore p (.store .stb (dreg t) (dreg a) disp) st)

/-- LDA (R418): Load an address register. -/
def execLda (p : Pred) (t a : RegNo) (disp : BitVec 14) (st : State) : Host.Outcome State Fault Refusal :=
  .next (runCore p (.load .lda (dreg t) (dreg a) disp) st)

/-- STA (R418): Store an address register. -/
def execSta (p : Pred) (t a : RegNo) (disp : BitVec 14) (st : State) : Host.Outcome State Fault Refusal :=
  .next (runCore p (.store .sta (dreg t) (dreg a) disp) st)

/-- LDD (R418): Load from a direct address. -/
def execLdd (p : Pred) (t : RegNo) (bank byte : Bool) (off : BitVec 16) (st : State) : Host.Outcome State Fault Refusal :=
  .next (runCore p (.dir false (dreg t) bank byte off) st)

/-- STD (R418): Store to a direct address. -/
def execStd (p : Pred) (t : RegNo) (bank byte : Bool) (off : BitVec 16) (st : State) : Host.Outcome State Fault Refusal :=
  .next (runCore p (.dir true (dreg t) bank byte off) st)

/-- LDWP (R418): Load a word and post-increment the base. -/
def execLdwp (p : Pred) (t a : RegNo) (disp : BitVec 14) (st : State) : Host.Outcome State Fault Refusal :=
  .next (runCore p (.load .ldwp (dreg t) (dreg a) disp) st)

/-- STWP (R418): Store a word and post-increment the base. -/
def execStwp (p : Pred) (t a : RegNo) (disp : BitVec 14) (st : State) : Host.Outcome State Fault Refusal :=
  .next (runCore p (.store .stwp (dreg t) (dreg a) disp) st)

/-- PUSH (R412): Decrement A7 and store a register. -/
def execPush (p : Pred) (t : RegNo) (isA : Bool) (st : State) : Host.Outcome State Fault Refusal :=
  .next (runCore p (.stk false (dreg t) isA) st)

/-- POP (R412): Load from A7 and increment it. -/
def execPop (p : Pred) (t : RegNo) (isA : Bool) (st : State) : Host.Outcome State Fault Refusal :=
  .next (runCore p (.stk true (dreg t) isA) st)

end Sys2Proof.Machine
end

