-- ==== Sys2Proof/Machine/CoreSys.lean ====
section
/-! DEFINITION. The meanings of control registers, system operations, block and custom instructions (R422, R426, R454): each instruction as the operation it is, run in the frame around every
instruction. -/

namespace Sys2Proof.Machine

/-- MFC (R422): Read a control register. -/
def execMfc (p : Pred) (t : RegNo) (creg : BitVec 6) (st : State) : Host.Outcome State Fault Refusal :=
  .next (runCore p (.cr false (dreg t) creg) st)

/-- MTC (R422): Write a control register. -/
def execMtc (p : Pred) (t : RegNo) (creg : BitVec 6) (st : State) : Host.Outcome State Fault Refusal :=
  .next (runCore p (.cr true (dreg t) creg) st)

/-- NOP (R422): No operation. -/
def execNop (p : Pred) (st : State) : Host.Outcome State Fault Refusal :=
  .next (runCore p (.sys .nop 0) st)

/-- TRAP (R435): Raise the TRAP exception with IMM16. -/
def execTrap (p : Pred) (imm : BitVec 16) (st : State) : Host.Outcome State Fault Refusal :=
  .next (runCore p (.sys .trap imm) st)

/-- RFE (R438): Return from exception, restoring PC and PSR. -/
def execRfe (p : Pred) (st : State) : Host.Outcome State Fault Refusal :=
  .next (runCore p (.sys .rfe 0) st)

/-- WAIT (R444): Stop issuing until an interrupt or NMI is pending. -/
def execWait (p : Pred) (st : State) : Host.Outcome State Fault Refusal :=
  .next (runCore p (.sys .wait 0) st)

/-- FENCE (R432): Wait for posted stores and refetch. -/
def execFence (p : Pred) (st : State) : Host.Outcome State Fault Refusal :=
  .next (runCore p (.sys .fence 0) st)

/-- EI (R422): Enable interrupts. -/
def execEi (p : Pred) (st : State) : Host.Outcome State Fault Refusal :=
  .next (runCore p (.sys .ei 0) st)

/-- DI (R422): Disable interrupts. -/
def execDi (p : Pred) (st : State) : Host.Outcome State Fault Refusal :=
  .next (runCore p (.sys .di 0) st)

/-- BKPT (R435): Breakpoint: halt under a debugger or raise BKPT. -/
def execBkpt (p : Pred) (imm : BitVec 16) (st : State) : Host.Outcome State Fault Refusal :=
  .next (runCore p (.sys .bkpt imm) st)

/-- BMOV (R426): Block copy, interruptible between elements. -/
def execBmov (p : Pred) (s d c : RegNo) (sz : Fin 4) (st : State) : Host.Outcome State Fault Refusal :=
  .next (runCore p (.blk .bmov (dreg s) (dreg d) (dreg c) 0 sz) st)

/-- BFILL (R426): Block fill. -/
def execBfill (p : Pred) (d c v : RegNo) (sz : Fin 4) (st : State) : Host.Outcome State Fault Refusal :=
  .next (runCore p (.blk .bfill 0 (dreg d) (dreg c) (dreg v) sz) st)

/-- BCMP (R426): Block compare. -/
def execBcmp (p : Pred) (s d c : RegNo) (sz : Fin 4) (st : State) : Host.Outcome State Fault Refusal :=
  .next (runCore p (.blk .bcmp (dreg s) (dreg d) (dreg c) 0 sz) st)

/-- BSCAN (R426): Block scan for a value. -/
def execBscan (p : Pred) (s c v : RegNo) (sz : Fin 4) (st : State) : Host.Outcome State Fault Refusal :=
  .next (runCore p (.blk .bscan (dreg s) 0 (dreg c) (dreg v) sz) st)

/-- CUSTOM_INSTRUCTION (R454): A microcode sequence runs atomically and commits together. -/
def execCustomInstruction (p : Pred) (major : Fin 4) (idx d s t : RegNo) (imm : BitVec 6) (st : State) : Host.Outcome State Fault Refusal :=
  .next (runCore p (.custom major idx d s t imm) st)

end Sys2Proof.Machine
end

