-- ==== Sys2Proof/Machine/LinkCmd.lean ====
section
/-! DEFINITION. The meanings of the host's transactions and of the core's writes to the HOST and MBX blocks
(chapters 02 and 03). -/

namespace Sys2Proof.Machine

/-! ### Transactions (R52 to R54) -/

/-- One step of the CRC-8: polynomial 0x07, most significant bit first (R81). -/
def crc8Step (c : Nat) : Nat := if 128 ≤ c then (2 * c ^^^ 7) % 256 else 2 * c

/-- The CRC-8 of R81, and of eSPI. PRESUMED (log 29). -/
def crc8 (bs : List Byte) : Byte :=
  BitVec.ofNat 8 (bs.foldl (fun c b =>
    (List.range 8).foldl (fun c _ => crc8Step c) (c ^^^ b.toNat)) 0)

/-- The eSPI status: what is free and what is available for the host to fetch. PRESUMED (log 29). -/
def espiStatus (s : State) : Nat :=
  0x0107 + 2 ^ 3 * (!s.on Reg.HOST_OOBRX.FULL).toNat + 2 ^ 6 * (wireAvail s).toNat + 2 ^ 7 * (oobAvail s).toNat
    + 2 ^ 9 * (!s.link.flashBusy).toNat + 2 ^ 12 * (flashAvail s).toNat

/-- How a transaction is served: its answer, whether it counts as a FRAME error, and what its commit does. -/
structure Served where
  resp : LinkResp
  frame : Bool := false
  commit : State → State := id

/-- An answer that counts in HOST_ERRCNT.FRAME and has no effect (R72). -/
def refusedAs (c : RespCode) : Served := { resp := { code := c }, frame := true }

/-- The answer of the link is recorded. -/
def State.answer (s : State) (r : LinkResp) : State := { s with link := { s.link with resp := r } }

/-- The response code on the wire: a full slot shows in the status of an ACCEPT. PRESUMED (log 29). -/
def respByte (c : RespCode) : Byte :=
  match c with
  | .accept | .notFree => 0x08
  | .nonFatal => 0x02
  | .fatal => 0x03
  | .noResponse | .spi _ | .ignored => 0xFF

/-- A response with the status as at the snapshot edge and the CRC over all of it; a NO_RESPONSE is nothing at all
(R71). PRESUMED (log 29). -/
def framed (s : State) (r : LinkResp) : LinkResp :=
  if r.code = .noResponse then r
  else
    let st := leBytes 2 (espiStatus s)
    { r with status := st, crc := [crc8 (respByte r.code :: r.head ++ r.data ++ st)] }

/-- An eSPI transaction: its snapshot edge, its answer, and its commit if it completed with a good CRC.
Nothing happens on a link that is not eSPI or not powered. DEDUCED (log 32). -/
def espiTxn (x : Txn) (serve : State → Served) (s : State) : State :=
  if !(s.hostOn && s.espi) then s
  else
    let s := snapshotEdge x.recent (s.seen x.t)
    if !x.crcOk then (s.answer { code := .noResponse }).count Reg.HOST_ERRCNT.CRC
    else
      let r := serve s
      let s := s.answer (framed s r.resp)
      let s := if r.frame then s.count Reg.HOST_ERRCNT.FRAME else s
      if x.completed then r.commit (s.set Reg.HOST_STAT.LINKUP) else s

/-! ### Address decoding (R50, R76, R77) -/

/-- The configuration pair's index port. -/
def pairPort (s : State) : Nat := if s.rd Reg.HOST_STAT.MODE = 0 then 0x4E else 0x2E

/-- What an I/O port address selects. -/
inductive PortSel where
  | ecData | ecCmd | cfgIndex | cfgData | nothing
  deriving DecidableEq, Repr

/-- The EC ports and the configuration pair decoded now, with their addresses. -/
def portRanges (s : State) : List (Nat × PortSel) :=
  (if s.on Reg.CFG_ENABLE.ECDEC then
     [(s.rd Reg.CFG_ECDATA.ECDATA, .ecData), (s.rd Reg.CFG_ECCMD.ECCMD, .ecCmd)] else [])
    ++ [(pairPort s, .cfgIndex), (pairPort s + 1, .cfgData)]

/-- A port overlaps another decoded range: one address selects two things (R77). DEDUCED (log 103). -/
def portClash (s : State) (p : PortSel) : Bool :=
  let mine := (portRanges s).filter (fun r => r.2 == p || (p == .cfgIndex && r.2 == .cfgData)
    || (p == .cfgData && r.2 == .cfgIndex))
  mine.any fun m => (portRanges s).any fun r => r.1 == m.1 && r.2 != m.2

/-- What a port address selects; a range that overlaps another is not decoded (R77). -/
def portSel (s : State) (a : Nat) : PortSel :=
  match (portRanges s).find? (fun r => r.1 == a && !portClash s r.2) with
  | some r => r.2
  | none => .nothing

/-- The window offset of a memory address, when the window is decoded there. -/
def windowOff (s : State) (a : Nat) : Option Nat :=
  let base := s.rd Reg.CFG_WINBASE.WINBASE / 2 ^ 16 * 2 ^ 16
  if s.on Reg.CFG_ENABLE.WINDEC && base ≤ a && a < base + 0x10000 then some (a - base) else none

/-- A byte of the configuration registers (R76). -/
def cfgByte (s : State) (i : Nat) : Nat :=
  match i with
  | 0x20 => 0x88
  | 0x21 => 0x40
  | 0x22 => 0xB0
  | 0x30 => s.rd Reg.CFG_ENABLE.WINDEC + 2 * s.rd Reg.CFG_ENABLE.ECDEC
  | 0x62 => s.rd Reg.CFG_WINBASE.WINBASE / 2 ^ 16 % 256
  | 0x63 => s.rd Reg.CFG_WINBASE.WINBASE / 2 ^ 24 % 256
  | 0x64 => s.rd Reg.CFG_ECDATA.ECDATA % 256
  | 0x65 => s.rd Reg.CFG_ECDATA.ECDATA / 256
  | 0x66 => s.rd Reg.CFG_ECCMD.ECCMD % 256
  | 0x67 => s.rd Reg.CFG_ECCMD.ECCMD / 256
  | 0x70 => s.rd Reg.CFG_IRQSEL.IRQSEL
  | 0x7F => s.rd Reg.CFG_LOCK.LOCK
  | _ => 0

/-- Replace byte `i` of a value. -/
def setByteOf (w i b : Nat) : Nat := w - w / 2 ^ (8 * i) % 256 * 2 ^ (8 * i) + b * 2 ^ (8 * i)

/-- A write of IRQSEL: an asserted window event moves from the old wire to the new one (R68). -/
def irqselWrite (v : Nat) (s : State) : State :=
  let old := s.rd Reg.CFG_IRQSEL.IRQSEL
  let s := s.wr Reg.CFG_IRQSEL.IRQSEL v
  if s.link.eventOn && old != v then { s with link := irqChange v true (irqChange old false s.link) } else s

/-- A write of the configuration data port; LOCK locks every RW/L field (R76). -/
def cfgWrite (i v : Nat) (s : State) : State :=
  if i = 0x7F then (if v % 2 = 1 then s.set Reg.CFG_LOCK.LOCK else s)
  else if s.on Reg.CFG_LOCK.LOCK then s
  else
    match i with
    | 0x30 => (s.wr Reg.CFG_ENABLE.WINDEC v).wr Reg.CFG_ENABLE.ECDEC (v / 2)
    | 0x62 => s.wr Reg.CFG_WINBASE.WINBASE (setByteOf (s.rd Reg.CFG_WINBASE.WINBASE) 2 v)
    | 0x63 => s.wr Reg.CFG_WINBASE.WINBASE (setByteOf (s.rd Reg.CFG_WINBASE.WINBASE) 3 v)
    | 0x64 => s.wr Reg.CFG_ECDATA.ECDATA (setByteOf (s.rd Reg.CFG_ECDATA.ECDATA) 0 v)
    | 0x65 => s.wr Reg.CFG_ECDATA.ECDATA (setByteOf (s.rd Reg.CFG_ECDATA.ECDATA) 1 v)
    | 0x66 => s.wr Reg.CFG_ECCMD.ECCMD (setByteOf (s.rd Reg.CFG_ECCMD.ECCMD) 0 v)
    | 0x67 => s.wr Reg.CFG_ECCMD.ECCMD (setByteOf (s.rd Reg.CFG_ECCMD.ECCMD) 1 v)
    | 0x70 => irqselWrite v s
    | _ => s

/-! ### Serving each eSPI command -/

/-- An inline read is answered after 0 to 2 WAIT_STATEs, a free number (R73). DESIGN CHOICE (log 30). -/
def readAnswer (s : State) (data : List Byte) : LinkResp :=
  { code := .accept, waits := s.freeVal % 3, data := data }

/-- The peripheral and flash channels' enables. -/
def periphOn (s : State) : Bool := s.link.cfgPeriph.testBit 0

/-- What a completed read of `n` window bytes leaves (R106, R117). -/
def readCommit (fixed : Bool) (off n : Nat) (s : State) : State :=
  let d := dataCount s fixed off n
  let s := readParity off n s
  settle (if d = 0 then s else bulkReadCommit d s)

/-- A peripheral memory read (R53, R72).  Where two rows of R72 hold, a payload above 64 bytes comes first.
DESIGN CHOICE (log 106). -/
def serveMemRead (addr len : Nat) (s : State) : Served :=
  if 64 < len then refusedAs .fatal
  else if !periphOn s || len = 0 then refusedAs .nonFatal
  else
    match windowOff s addr with
    | none => refusedAs .nonFatal
    | some off =>
      if 0x10000 < off + len then refusedAs .nonFatal
      else { resp := readAnswer s (hostBytes s false off len)
             commit := fun t => readCommit false off len t.drawn }

/-- A peripheral memory write (R54, R72), its rows in the same order. DESIGN CHOICE (log 106). -/
def serveMemWrite (addr : Nat) (data : List Byte) (s : State) : Served :=
  if 64 < data.length then refusedAs .fatal
  else if !periphOn s || data.isEmpty then refusedAs .nonFatal
  else
    match windowOff s addr with
    | none => refusedAs .nonFatal
    | some off =>
      if 0x10000 < off + data.length then refusedAs .nonFatal
      else { resp := {}, commit := commitWrites (writesAt false off data) }

/-- A 1-byte I/O read (R73, R90, R93).  The index port reads as the index last written, 0 after HOST power-up and host
reset. DESIGN CHOICE (log 106). -/
def serveIoRead (port : Nat) (s : State) : Served :=
  let ok (b : Nat) : LinkResp := readAnswer s [BitVec.ofNat 8 b]
  if !periphOn s then refusedAs .nonFatal
  else
    match portSel s port with
    | .ecData => { resp := ok s.ec.out.toNat, commit := fun t => settle (t.drawn.clr Reg.EC_STATUS.OBF) }
    | .ecCmd => { resp := ok (ecStatus s), commit := State.drawn }
    | .cfgIndex => { resp := ok s.link.cfgIndex, commit := State.drawn }
    | .cfgData => { resp := ok (cfgByte s s.link.cfgIndex), commit := State.drawn }
    | .nothing => refusedAs .nonFatal

/-- A 1-byte I/O write (R73, R76, R90). -/
def serveIoWrite (port : Nat) (b : Byte) (s : State) : Served :=
  if !periphOn s then refusedAs .nonFatal
  else
    match portSel s port with
    | .ecData => { resp := {}, commit := ecPortWrite false b }
    | .ecCmd => { resp := {}, commit := ecPortWrite true b }
    | .cfgIndex => { resp := {}, commit := fun t => { t with link := { t.link with cfgIndex := b.toNat } } }
    | .cfgData => { resp := {}, commit := fun t => cfgWrite t.link.cfgIndex b.toNat t }
    | .nothing => refusedAs .nonFatal

/-! ### Host-driven wires (R74, R87, R88) -/

/-- PLTRST_N is asserted (R88): the configuration registers reset and any hold ends; a pending promotion is
applied (R343), and the host is unsealed (R379). DEDUCED (log 103). -/
def pltrstAsserted (s : State) : State :=
  let s := (resetConfigPair s).clr Reg.HW_HOSTCTL.HOLD
  hostUnseal (promoApply { s with link := { s.link with holdExpired := false } })

/-- The bit of HOST_VWIN behind bit `b` of host-to-target group `g`, and whether the wire is active low. -/
def hostWire (g b : Nat) : Option (Nat × Bool) :=
  match g, b with
  | 0x02, 0 => some (0, true)
  | 0x02, 1 => some (1, true)
  | 0x02, 2 => some (2, true)
  | 0x03, 0 => some (4, true)
  | 0x03, 1 => some (5, true)
  | 0x03, 2 => some (10, false)
  | 0x07, 0 => some (11, false)
  | 0x41, 0 => some (6, true)
  | 0x41, 3 => some (3, true)
  | 0x42, 0 => some (8, true)
  | 0x42, 1 => some (9, true)
  | 0x47, 0 => some (7, false)
  | _, _ => none

/-- HOST_VWIN as a word. -/
def vwin (s : State) : Nat := s.regWord 0x400C0030

/-- Set one bit of HOST_VWIN. PRESUMED (log 29). -/
def setWire (b : Nat) (v : Bool) (s : State) : State :=
  match b with
  | 0 => s.wrB Reg.HOST_VWIN.SLPS3 v
  | 1 => s.wrB Reg.HOST_VWIN.SLPS4 v
  | 2 => s.wrB Reg.HOST_VWIN.SLPS5 v
  | 3 => s.wrB Reg.HOST_VWIN.SLPA v
  | 4 => s.wrB Reg.HOST_VWIN.SUSSTAT v
  | 5 => s.wrB Reg.HOST_VWIN.PLTRST v
  | 6 => s.wrB Reg.HOST_VWIN.SUSWARN v
  | 7 => s.wrB Reg.HOST_VWIN.HOSTC10 v
  | 8 => s.wrB Reg.HOST_VWIN.SLPLAN v
  | 9 => s.wrB Reg.HOST_VWIN.SLPWLAN v
  | 10 => s.wrB Reg.HOST_VWIN.OOBRSTWARN v
  | 11 => s.wrB Reg.HOST_VWIN.HOSTRSTWARN v
  | _ => s

/-- Apply one group's valid bits. -/
def applyGroup (s : State) (p : Nat × Byte) : State :=
  (List.range 4).foldl (fun s b =>
    match hostWire p.1 b with
    | some (w, low) => if p.2.getLsbD (4 + b) then setWire w (p.2.getLsbD b != low) s else s
    | none => s) s

/-- Warning wire `f`, bit `b` of HOST_VWIN, has moved from `before`, and its acknowledge `ack` differs from it. -/
def ackMoves (before b : Nat) (f : Field) (ack : Bool) (s : State) : Bool :=
  s.on f != before.testBit b && s.on f != ack

/-- The acknowledge wires follow their warnings, a group being offered where its wire changes (R74), and
OOB_RST_WARN discards the outbound message. -/
def acknowledge (before : Nat) (s : State) : State :=
  let s := if s.on Reg.HOST_VWIN.OOBRSTWARN && !before.testBit 10 then oobDiscard s else s
  let l := s.link
  let l := if ackMoves before 10 Reg.HOST_VWIN.OOBRSTWARN l.oobRstAck s then
    { l with oobRstAck := s.on Reg.HOST_VWIN.OOBRSTWARN, groups := addGroup 0x04 l.groups } else l
  let l := if ackMoves before 11 Reg.HOST_VWIN.HOSTRSTWARN l.hostRstAck s then
    { l with hostRstAck := s.on Reg.HOST_VWIN.HOSTRSTWARN, groups := addGroup 0x06 l.groups } else l
  let l := if ackMoves before 6 Reg.HOST_VWIN.SUSWARN l.susAck s then
    { l with susAck := s.on Reg.HOST_VWIN.SUSWARN, groups := addGroup 0x40 l.groups } else l
  { s with link := l }

/-- Host-driven wires changed from `before`: VWCHG, PLTRST_N, then the power-state decoder. -/
def wiresMoved (before : Nat) (s : State) : State :=
  if vwin s = before then s
  else
    let s := s.set Reg.HOST_EVT.VWCHG
    let s := if s.on Reg.HOST_VWIN.PLTRST && !before.testBit 5 then pltrstAsserted s else s
    settle (railDecode s)

/-- A group with a valid bit for a wire that the power-state decoder reads (R143). DEDUCED (log 101). -/
def powerGroup (p : Nat × Byte) : Bool :=
  (p.1 == 0x02 && (p.2.getLsbD 4 || p.2.getLsbD 5 || p.2.getLsbD 6)) || (p.1 == 0x47 && p.2.getLsbD 4)

/-- PUT_VW (R74); the first power-state wire makes the wires valid for the decoder (R143).
DEDUCED (log 101). -/
def putWires (groups : List (Nat × Byte)) (s : State) : State :=
  let before := vwin s
  let s := { s with link := { s.link with powerWires := s.link.powerWires || groups.any powerGroup } }
  settle (railDecode (wiresMoved before (acknowledge before (groups.foldl applyGroup s))))

/-- The wires' reset values in the eSPI standard: every active-low wire asserted (R87). PRESUMED (log 29). -/
def wiresAtReset (s : State) : State :=
  (List.range 12).foldl (fun s b => setWire b (decide (b < 7) || b == 8 || b == 9) s) s

/-! ### eSPI configuration (R71, R72, R478) -/

/-- The configuration register at `addr`, with the standard's field positions (R478). PRESUMED (log 29). -/
def espiConfig (s : State) (addr : Nat) : Nat :=
  match addr with
  | 0x04 => 1
  | 0x08 => s.link.cfgGeneral + 0x0F + 4 * 2 ^ 16 + 2 ^ 19 + 3 * 2 ^ 24 + 2 ^ 31
  | 0x10 => s.link.cfgPeriph + 2 * s.link.cfgPeriph % 4 + 2 ^ 4 + 2 ^ 8 + 2 ^ 12
  | 0x20 => s.link.cfgWire + 2 * (s.link.cfgWire % 2) + 7 * 2 ^ 8
  | 0x30 => s.link.cfgOob + 2 * (s.link.cfgOob % 2) + 2 ^ 4 + 2 ^ 8
  | 0x40 => s.link.cfgFlash + 2 * (s.link.cfgFlash % 2) + 2 ^ 2 + 2 ^ 5 + 2 ^ 8 + 2 ^ 11 + 2 ^ 12
  | _ => 0

/-- The writable part of the general configuration: frequency, open drain, I/O mode, ALERT mode and maximum
WAIT_STATEs; a value beyond the capability keeps the field (R72). PRESUMED (log 29). -/
def generalWrite (v old : Nat) : Nat :=
  let freq := if bitsOf v 20 3 ≤ 4 then bitsOf v 20 3 else bitsOf old 20 3
  let mode := if bitsOf v 26 2 ≤ 2 then bitsOf v 26 2 else bitsOf old 26 2
  bitsOf v 12 4 * 2 ^ 12 + freq * 2 ^ 20 + bitsOf v 23 1 * 2 ^ 23 + mode * 2 ^ 26
    + bitsOf v 28 1 * 2 ^ 28 + bitsOf v 30 1 * 2 ^ 30

/-- The virtual-wire channel is enabled: the first time after HOST power-up or host reset every group is
offered once at its present level, an interrupt wire that IRQSEL no longer names at 0, and BOOT_LOAD_DONE is sent
once HOST_RSMRST_N is deasserted (R74). -/
def wireEnabled (s : State) : State :=
  let s := if rsmReleased s && !s.link.bootLoad then
             offer 0x05 { s with link := { s.link with bootLoad := true } } else s
  if s.link.wiresOffered then s
  else
    let n := s.rd Reg.CFG_IRQSEL.IRQSEL
    let old := ((s.link.irqChanges.map (·.1)).eraseDups.filter (· != n)).map fun k => (k, false)
    railDecode { s with link := { s.link with
      groups := [4, 5, 6, 0x40, 0x41], wiresOffered := true
      irqChanges := if n = 0 then old else old ++ [(n, s.link.eventOn)] } }

/-- SET_CONFIGURATION's effect. PRESUMED (log 29). -/
def setConfig (addr v : Nat) (s : State) : State :=
  let l := s.link
  match addr with
  | 0x08 =>
    let g := generalWrite v l.cfgGeneral
    ({ s with link := { l with cfgGeneral := g } }.wr Reg.HOST_STAT.IOMODE (bitsOf g 26 2)).wr
      Reg.HOST_STAT.FREQ (bitsOf g 20 3)
  | 0x10 => { s with link := { l with cfgPeriph := v % 2 + bitsOf v 2 1 * 4 } }
  | 0x20 =>
    let cnt := if bitsOf v 16 6 ≤ 7 then bitsOf v 16 6 else bitsOf l.cfgWire 16 6
    let t : State := { s with link := { l with cfgWire := v % 2 + cnt * 2 ^ 16 } }
    if v % 2 = 1 ∧ l.cfgWire % 2 = 0 then wireEnabled t else t
  | 0x30 => { s with link := { l with cfgOob := v % 2 } }
  | 0x40 => { s with link := { l with cfgFlash := v % 2 } }
  | _ => s

/-! ### The commands -/

/-- MEMORY_READ (R53): An eSPI peripheral memory read returns host-window bytes from its snapshot. -/
def execMemoryRead (x : Txn) (addr len : Nat) (s : State) : Host.Outcome State Fault Refusal :=
  .next (espiTxn x (serveMemRead addr len) s)

/-- MEMORY_WRITE (R54): An eSPI peripheral memory write commits its host-window writes together. -/
def execMemoryWrite (x : Txn) (addr : Nat) (data : List Byte) (s : State) : Host.Outcome State Fault Refusal :=
  .next (espiTxn x (serveMemWrite addr data) s)

/-- IO_READ (R73): A 1-byte I/O read of the EC ports or the configuration pair is served inline. -/
def execIoRead (x : Txn) (port : BitVec 16) (s : State) : Host.Outcome State Fault Refusal :=
  .next (espiTxn x (serveIoRead port.toNat) s)

/-- IO_WRITE (R73): A 1-byte I/O write takes effect at its commit. -/
def execIoWrite (x : Txn) (port : BitVec 16) (data : Byte) (s : State) : Host.Outcome State Fault Refusal :=
  .next (espiTxn x (serveIoWrite port.toNat data) s)

/-- PUT_VW (R74): The host sends virtual-wire groups; more than 8 apply none (R72). -/
def execPutVw (x : Txn) (groups : List (Nat × Byte)) (s : State) : Host.Outcome State Fault Refusal :=
  .next (espiTxn x (fun s =>
    if !wireOn s || 8 < groups.length then refusedAs .nonFatal
    else { resp := {}, commit := putWires groups }) s)

/-- A GET of a channel with nothing available: R16 leaves the answer to the standard, a fatal error; it is none of what
R72 counts. PRESUMED (log 107). -/
def getNothing : Served := { resp := { code := .fatal } }

/-- Interrupt wire changes once the first `a` of index 0 and the first `b` of index 1 have been fetched. -/
def dropIrqs : Nat → Nat → List (Nat × Bool) → List (Nat × Bool)
  | _, _, [] => []
  | a, b, c :: cs =>
    if c.1 < 128 then
      match a with
      | 0 => c :: dropIrqs 0 b cs
      | n + 1 => dropIrqs n b cs
    else
      match b with
      | 0 => c :: dropIrqs a 0 cs
      | n + 1 => dropIrqs a n cs

/-- The host has fetched these groups. -/
def wiresTaken (out : List (Nat × Byte)) (s : State) : State :=
  let taken := out.map (·.1)
  { s with link := { s.link with
      groups := s.link.groups.filter fun g => !taken.contains g
      irqChanges := dropIrqs (taken.filter (· == 0)).length (taken.filter (· == 1)).length s.link.irqChanges } }

/-- GET_VW (R74): The host fetches pending groups in ascending order of index. PRESUMED (log 107). -/
def execGetVw (x : Txn) (s : State) : Host.Outcome State Fault Refusal :=
  .next (espiTxn x (fun s =>
    if !wireOn s then refusedAs .nonFatal
    else
      let out := (waitingGroups s).take (1 + bitsOf s.link.cfgWire 16 6)
      if out.isEmpty then getNothing
      else { resp := { data := BitVec.ofNat 8 (out.length - 1) :: out.flatMap fun p => [BitVec.ofNat 8 p.1, p.2] }
             commit := wiresTaken out }) s)

/-- Put bytes into consecutive data registers from `base`, four to a word. -/
def putWords (f : Nat → Field) : Nat → List Byte → State → State
  | _, [], s => s
  | k, bs, s => (List.range ((bs.length + 3) / 4)).foldl
      (fun s i => s.wr (f (k + i)) (leNat ((bs.drop (4 * i)).take 4))) s

/-- PUT_OOB (R75): A tunnelled SMBus message, delivered, refused as not free, or answered
NON_FATAL_ERROR; a message to another address counts FRAME as well. DESIGN CHOICE (log 106). -/
def execPutOob (x : Txn) (msg : List Byte) (s : State) : Host.Outcome State Fault Refusal :=
  .next (espiTxn x (fun s =>
    if 68 < msg.length then refusedAs .fatal
    else if !oobOn s || msg.isEmpty
        || (msg.headD 0).toNat / 2 != s.rd Reg.HOST_CTRL.OOBADDR then refusedAs .nonFatal
    else if s.on Reg.HOST_OOBRX.FULL then { resp := { code := .notFree } }
    else
      { resp := {}
        commit := fun t =>
          (((putWords Reg.HOST_OOBRXDATA.DATA 0 msg t).wr Reg.HOST_OOBRX.LEN msg.length).set
            Reg.HOST_OOBRX.FULL).set Reg.HOST_EVT.OOBRX }) s)

/-- GET_OOB (R75): The host fetches the outbound OOB message, with the standard's header, and BUSY clears.
DEDUCED (log 100). -/
def execGetOob (x : Txn) (s : State) : Host.Outcome State Fault Refusal :=
  .next (espiTxn x (fun s =>
    if !oobOn s then refusedAs .nonFatal
    else if oobAvail s then
      { resp := { head := [0x21, 0, BitVec.ofNat 8 s.link.oobOut.length], data := s.link.oobOut }
        commit := fun t => t.clr Reg.HOST_OOBTX.BUSY }
    else getNothing) s)

/-- GET_STATUS (R71): The host reads the eSPI status, which every response carries. -/
def execGetStatus (x : Txn) (s : State) : Host.Outcome State Fault Refusal :=
  .next (espiTxn x (fun _ => { resp := {} }) s)

/-- GET_CONFIGURATION (R478): The host reads a capability or channel configuration register. -/
def execGetConfiguration (x : Txn) (addr : BitVec 16) (s : State) : Host.Outcome State Fault Refusal :=
  .next (espiTxn x (fun s => { resp := { data := leBytes 4 (espiConfig s addr.toNat) } }) s)

/-- SET_CONFIGURATION (R72): The host writes a configuration register; values beyond the capability keep the
old value. -/
def execSetConfiguration (x : Txn) (addr : BitVec 16) (v : Word) (s : State) :
    Host.Outcome State Fault Refusal :=
  .next (espiTxn x (fun _ => { resp := {}, commit := setConfig addr.toNat v.toNat }) s)

/-- RESET_COMMAND (R71): The host sends the in-band RESET command: the eSPI configuration takes its reset
values. -/
def execResetCommand (x : Txn) (s : State) : Host.Outcome State Fault Refusal :=
  .next (espiTxn x (fun _ => { resp := { code := .noResponse }, commit := resetEspi }) s)

/-- UNSUPPORTED_COMMAND (R72): An unknown, malformed or unsupported command is answered as R72 gives and
counted. -/
def execUnsupportedCommand (x : Txn) (kind : Unsupported) (s : State) : Host.Outcome State Fault Refusal :=
  .next (espiTxn x (fun _ =>
    match kind with
    | .opcode | .payloadOver64 => refusedAs .fatal
    | .cycle64 | .message | .controllerFlash | .wideIo | .payloadZero => refusedAs .nonFatal) s)

/-- HOLD_EXPIRY (R61): A hold expires tHOLD after the commit that set it; the next snapshot edge clears it. -/
def execHoldExpiry (t : Nat) (s : State) : Host.Outcome State Fault Refusal :=
  let s := s.seen t
  .next (if s.hostOn && s.on Reg.HW_HOSTCTL.HOLD && s.link.holdAt + 2000 ≤ s.tbase then
    { s with link := { s.link with holdExpired := true } } else s)

/-! ### SPI-target frames (R78 to R86) -/

/-- Clocks of a frame (R86). -/
def frameClocks (quad read : Bool) (len : Nat) : Nat :=
  if quad then 8 + 10 + 2 * len + 6 + (if read then 2 else 0)
  else 8 + 40 + 8 * len + 24 + (if read then 8 else 0)

/-- HOST_IRQ_N as a frame shows it: the window event of the view at its snapshot edge (R67, R82). -/
def eventInView (s : State) : Bool := s.hostOn && (s.rd Reg.HW_EVSTAT.EVSTAT &&& s.rd Reg.HW_EVMASK.EVMASK) != 0

/-- A frame of the SPI target: `data` is the write's data, none for a read (R79 to R84). DEDUCED (log 32). -/
def spiFrame (x : Txn) (quad : Bool) (addr len : Nat) (data : Option (List Byte)) (s : State) : State :=
  if !(s.hostOn && s.spi) then s
  else
    let s := snapshotEdge x.recent (s.seen x.t)
    let clocks := frameClocks quad data.isNone len
    if !x.completed then (s.answer { code := .noResponse }).count Reg.HOST_ERRCNT.FRAME
    else
      let s := s.set Reg.HOST_STAT.LINKUP
      let bad := len = 0 ∨ 512 < len ∨ 0x10000 ≤ addr ∨ 0x10000 < addr + len
      let s := if bad then s.count Reg.HOST_ERRCNT.FRAME else s
      let s := if x.crcOk then s else s.count Reg.HOST_ERRCNT.CRC
      let ok := x.crcOk && !decide bad
      let status := 0xA0 + 8 * (eventInView s).toNat + 4 * (decide bad).toNat + 2 * (!x.crcOk).toNat + ok.toNat
      match data with
      | some bs =>
        let s := s.answer { code := .spi status, clocks := clocks }
        if ok then commitWrites (writesAt true addr bs) s else s
      | none =>
        if ok then
          let out := hostBytes s true addr len
          let crc := crc8 (BitVec.ofNat 8 status :: out)
          readCommit true addr len (s.answer { code := .spi status, data := out ++ [crc], clocks := clocks })
        else s.answer { code := .spi status, data := List.replicate (len + 1) 0xFF, clocks := clocks }

/-- SINGLE_READ_FRAME (R79): A frame with opcode 0x51 reads window bytes in single mode. -/
def execSingleReadFrame (x : Txn) (addr : BitVec 24) (len : BitVec 16) (s : State) :
    Host.Outcome State Fault Refusal :=
  .next (spiFrame x false addr.toNat len.toNat none s)

/-- SINGLE_WRITE_FRAME (R79): A frame with opcode 0x52 writes window bytes in single mode. -/
def execSingleWriteFrame (x : Txn) (addr : BitVec 24) (data : List Byte) (s : State) :
    Host.Outcome State Fault Refusal :=
  .next (spiFrame x false addr.toNat data.length (some data) s)

/-- QUAD_READ_FRAME (R80): A frame with opcode 0x55 reads window bytes in quad mode. -/
def execQuadReadFrame (x : Txn) (addr : BitVec 24) (len : BitVec 16) (s : State) :
    Host.Outcome State Fault Refusal :=
  .next (spiFrame x true addr.toNat len.toNat none s)

/-- QUAD_WRITE_FRAME (R80): A frame with opcode 0x56 writes window bytes in quad mode. -/
def execQuadWriteFrame (x : Txn) (addr : BitVec 24) (data : List Byte) (s : State) :
    Host.Outcome State Fault Refusal :=
  .next (spiFrame x true addr.toNat data.length (some data) s)

/-- UNKNOWN_OPCODE (R80): A frame with another opcode is ignored and counts FRAME. -/
def execUnknownOpcode (x : Txn) (s : State) : Host.Outcome State Fault Refusal :=
  .next (if !(s.hostOn && s.spi) then s
    else ((snapshotEdge x.recent (s.seen x.t)).answer { code := .ignored }).count Reg.HOST_ERRCNT.FRAME)

/-! ### Host reset and power (R65, R87, R89) -/

/-- HOST_RESET (R87): ESPI_RESET_N is asserted and HOST state resets as R87 and R96 list. -/
def execHostReset (t : Nat) (s : State) : Host.Outcome State Fault Refusal :=
  let s := s.seen t
  .next (if !s.hostOn || !(s.espi || s.spi) then s
    else
      let s := flashHostReset (oobDiscard (resetConfigPair (resetEspi (settle s))))
      let s := (s.clr Reg.HOST_OOBRX.FULL).clr Reg.HOST_STAT.LINKUP
      let s := (s.clr Reg.HW_HOSTCTL.HOLD).wr Reg.HW_EVMASK.EVMASK 0
      let s := match s.link.opened with
        | some _ => (postAbort s).set Reg.HOST_POST.DROPPED
        | none => s
      let s := bulkClearErr (bulkFlush s)
      let s := ((s.clr Reg.EC_STATUS.OBF).clr Reg.EC_STATUS.IBF).clr Reg.EC_STATUS.BURST
      let s := s.clr Reg.EC_STATUS.CMD
      let s := { s with ec := { s.ec with inq := [], held := none, phase := .idle }
                        link := { s.link with cfgIndex := 0, holdExpired := false, wiresOffered := false, powerWires := false } }
      let before := vwin s
      let s := if s.espi then wiresAtReset s else s
      let s := if vwin s = before then s else s.set Reg.HOST_EVT.VWCHG
      let s := if s.on Reg.HOST_VWIN.PLTRST && !before.testBit 5 then hostUnseal s else s
      settle (s.set Reg.HOST_EVT.HRESET))

/-- HOST at its power-up: the view zero but for the ID word, every tag FREE, the wires at their start (R65).  A post
opened before stays open; under eSPI PLTRST_N starts asserted, which unseals the host (R379). DEDUCED (log 105). -/
def hostStarts (s0 : State) : State :=
  let s := (hostPowerState s0).set Reg.HOST_STAT.HOSTPWR
  let s := s.wr Reg.HW_ID.LINK (if s.espi then 1 else if s.spi then 2 else 0)
  let s := s.wrB Reg.HW_MBXCTL.FWREADY (s.on Reg.MBX_CTRL.FWREADY)
  let s := if s.espi then hostUnseal (wiresAtReset s) else s
  let w := s.regWord 0x400C0004
  settle { s with link := { s.link with opened := s0.link.opened, pages := w, pagesAt := s.tbase, pagesSure := w } }

/-- HOST_POWER_UP (R65): VIO_HOST rises, the view is zero but for the ID word, and HOSTUP is set, once CORE runs; VIO_HOST
is a wake source (R49).  In ship mode HOST stays removed (R47). DEDUCED (log 104). -/
def execHostPowerUp (t : Nat) (s : State) : Host.Outcome State Fault Refusal :=
  let s := s.seen t
  .next (if s.hostOn then s
    else
      let s := { s with board := { s.board with vio := true } }
      if s.sys.shipMode then s
      else
        let s := hostStarts s
        let s := if s.coreUp then s.set Reg.HOST_EVT.HOSTUP else { s with sys := { s.sys with hostUp := true } }
        wakeFire Reg.SYS_WAKESTAT.HOST Reg.SYS_WAKEEN.HOST s)

/-- HOST loses its power with all its state: posts are dropped (R64), and under eSPI the host's wires are at their reset
values, PLTRST_N asserted as HOST_STAT shows it (R87, R379). DEDUCED (log 105).  VWCHG is not set and no promotion is
applied. DESIGN CHOICE (log 123). -/
def hostStops (s : State) : State :=
  let lost := s.link.opened.isSome || s.link.closed.isSome
  let s := flashHostReset s
  let s := hostPowerState ((s.clr Reg.HOST_STAT.HOSTPWR).clr Reg.HOST_STAT.LINKUP)
  let s := ((s.clr Reg.HOST_STAT.HOLD).wr Reg.HOST_STAT.IOMODE 0).wr Reg.HOST_STAT.FREQ 0
  let s := (s.clr Reg.HOST_POST.OPEN).clr Reg.HOST_POST.PENDING
  let s := if lost then s.set Reg.HOST_POST.DROPPED else s
  let s := if s.espi then hostUnseal (wiresAtReset s) else s
  s.set Reg.HOST_EVT.HOSTDOWN

/-- HOST_POWER_LOSS (R89): VIO_HOST falls and HOST power is lost with all HOST state. DEDUCED (log 104). -/
def execHostPowerLoss (t : Nat) (s : State) : Host.Outcome State Fault Refusal :=
  let s := s.seen t
  let s := { s with board := { s.board with vio := false } }
  .next (if s.hostOn then hostStops s else s)

/-- HOST_SIGNAL_GPIO (R85): In SPI-target mode a sleep-state or platform-reset pin changes and HOST_VWIN
follows. DEDUCED (log 34). -/
def execHostSignalGpio (t : Nat) (wire : Fin 10) (asserted : Bool) (s : State) :
    Host.Outcome State Fault Refusal :=
  let s := s.seen t
  .next (if !s.spi then s
    else
      let before := vwin s
      wiresMoved before (setWire wire.val asserted { s with link := { s.link with gpioMapped := true } }))

/-! ### Core writes and reads -/

/-- POST_OPEN (R55): HOST_POST.OPEN opens a post, CLOSE or ABORT in the same write acting first. -/
def execPostOpen (v : Word) (s : State) : Host.Outcome State Fault Refusal :=
  .next (coreStore 0x400C0010 (hostPostWrite (v.toNat ||| 1)) s)

/-- POST_CLOSE (R56): HOST_POST.CLOSE closes the open post. -/
def execPostClose (v : Word) (s : State) : Host.Outcome State Fault Refusal :=
  .next (coreStore 0x400C0010 (hostPostWrite (v.toNat ||| 2)) s)

/-- POST_ABORT (R55): HOST_POST.ABORT discards the open post. -/
def execPostAbort (v : Word) (s : State) : Host.Outcome State Fault Refusal :=
  .next (coreStore 0x400C0010 (hostPostWrite (v.toNat ||| 4)) s)

/-- APERTURE_WRITE (R55): A core write to the host-window aperture enters the post buffer. -/
def execApertureWrite (off : BitVec 14) (v : Word) (s : State) : Host.Outcome State Fault Refusal :=
  .next (coreStore (0x400C4000 + off.toNat) (apertureWrite off.toNat v.toNat) s)

/-- HOST_WINEN (R59): A write changes the enabled pages at the snapshot edges a post closed now would
reach. -/
def execHostWinen (v : Word) (s : State) : Host.Outcome State Fault Refusal :=
  .next (coreStore 0x400C0004 (hostWrite 0x400C0004 v.toNat) s)

/-- OOB_REL (R75): A write of HOST_OOBRX.REL frees the inbound slot. -/
def execOobRel (v : Word) (s : State) : Host.Outcome State Fault Refusal :=
  .next (coreStore 0x400C0050 (oobRxWrite (v.toNat ||| 2 ^ 9)) s)

/-- OOB_GO (R75): A write of HOST_OOBTX with GO offers the outbound message. -/
def execOobGo (v : Word) (s : State) : Host.Outcome State Fault Refusal :=
  .next (coreStore 0x400C0054 (oobTxWrite (v.toNat ||| 2 ^ 8)) s)

/-- HOST_VWOUT (R74): A write changes target-to-host wires. -/
def execHostVwout (v : Word) (s : State) : Host.Outcome State Fault Refusal :=
  .next (coreStore 0x400C0034 (vwoutWrite v.toNat) s)

/-- HOST_ERRCNT_READ (R72): A read returns the CRC and FRAME counters and clears them. -/
def execHostErrcntRead (s : State) : Host.Outcome State Fault Refusal :=
  .next (coreLoad 0x400C0040 s)

/-- MBX_TAKE (R99): Firmware takes RUNG tags. -/
def execMbxTake (v : Word) (s : State) : Host.Outcome State Fault Refusal :=
  .next (coreStore 0x400D0014 (mbxTake v.toNat) s)

/-- FWREADY (R100): A write of MBX_CTRL. -/
def execFwready (v : Word) (s : State) : Host.Outcome State Fault Refusal :=
  .next (coreStore 0x400D0000 (mbxCtrlWrite v.toNat) s)

/-- MBX_DONE (R101): Firmware names an OWNED tag, in a post, or sets DONEERR. -/
def execMbxDone (v : Word) (s : State) : Host.Outcome State Fault Refusal :=
  .next (coreStore 0x400D0018 (mbxWrite 0x400D0018 v.toNat) s)

/-- DIRECT_WINDOW_WRITE (R101): A core write to mailbox RAM. -/
def execDirectWindowWrite (off : BitVec 12) (v : Word) (s : State) : Host.Outcome State Fault Refusal :=
  .next (coreStore (0x400D1000 + off.toNat) (directWrite off.toNat v.toNat) s)

/-- MBX_ECOUT (R94): Firmware posts a byte for the EC output buffer. -/
def execMbxEcout (v : Word) (s : State) : Host.Outcome State Fault Refusal :=
  .next (coreStore 0x400D008C (mbxWrite 0x400D008C v.toNat) s)

/-- MBX_ECQPUSH (R94): Firmware posts a query code. -/
def execMbxEcqpush (v : Word) (s : State) : Host.Outcome State Fault Refusal :=
  .next (coreStore 0x400D0090 (mbxWrite 0x400D0090 v.toNat) s)

/-- EC_IMAGE_WRITE (R94): Firmware posts bytes of the EC image. -/
def execEcImageWrite (off : BitVec 8) (v : Word) (s : State) : Host.Outcome State Fault Refusal :=
  .next (coreStore (0x400D8000 + off.toNat) (mbxWrite (0x400D8000 + off.toNat) v.toNat) s)

/-- MBX_ECIN_READ (R92): A read returns and removes the oldest forwarded byte. -/
def execMbxEcinRead (s : State) : Host.Outcome State Fault Refusal := .next (coreLoad 0x400D0084 s)

/-- MBX_ECWQ_READ (R92): A read returns and removes the oldest WR_EC pair. -/
def execMbxEcwqRead (s : State) : Host.Outcome State Fault Refusal := .next (coreLoad 0x400D0088 s)

/-- MBX_CNT_READ (R11): A read returns the replay and hardware-answer counters and clears them. -/
def execMbxCntRead (s : State) : Host.Outcome State Fault Refusal := .next (coreLoad 0x400D001C s)

/-- MBX_BULKRD (R118): Firmware reads and removes 4 bytes of the write FIFO. -/
def execMbxBulkrd (s : State) : Host.Outcome State Fault Refusal := .next (coreLoad 0x400D00A8 s)

/-- MBX_BULKWR (R118): Firmware appends 4 bytes to the read FIFO. -/
def execMbxBulkwr (v : Word) (s : State) : Host.Outcome State Fault Refusal :=
  .next (coreStore 0x400D00AC (bulkWr v.toNat) s)

/-- MBX_BULKACK (R119): Firmware completes the close of a firmware-target unit. -/
def execMbxBulkack (v : Word) (s : State) : Host.Outcome State Fault Refusal :=
  .next (coreStore 0x400D00B0 (mbxWrite 0x400D00B0 v.toNat) s)

/-! ### EC commands: an I/O write of the command byte and of each byte that follows (R91) -/

/-- Write the EC command port, then the data port byte by byte, each in a transaction of its own. -/
def ecSequence (x : Txn) (cmd : Byte) (data : List Byte) (s : State) : State :=
  let s := espiTxn x (serveIoWrite (s.rd Reg.CFG_ECCMD.ECCMD) cmd) s
  data.foldl (fun s b => espiTxn x (serveIoWrite (s.rd Reg.CFG_ECDATA.ECDATA) b) s) s

/-- RD_EC (R91): The output buffer loads the EC image byte at the address that follows. -/
def execRdEc (x : Txn) (addr : Byte) (s : State) : Host.Outcome State Fault Refusal :=
  .next (ecSequence x 0x80 [addr] s)

/-- WR_EC (R91): An address and data pair enters the EC write queue. -/
def execWrEc (x : Txn) (addr data : Byte) (s : State) : Host.Outcome State Fault Refusal :=
  .next (ecSequence x 0x81 [addr, data] s)

/-- BE_EC (R91): Burst is enabled and the output buffer loads 0x90. -/
def execBeEc (x : Txn) (s : State) : Host.Outcome State Fault Refusal := .next (ecSequence x 0x82 [] s)

/-- BD_EC (R91): Burst is disabled. -/
def execBdEc (x : Txn) (s : State) : Host.Outcome State Fault Refusal := .next (ecSequence x 0x83 [] s)

/-- QR_EC (R91): The output buffer loads the oldest query code, or 0x00. -/
def execQrEc (x : Txn) (s : State) : Host.Outcome State Fault Refusal := .next (ecSequence x 0x84 [] s)

/-- EC_FORWARDED_COMMAND (R91): Another EC command byte and its data bytes enter the EC input queue.  A
command byte that the HOST domain serves itself is no forwarded command. -/
def execEcForwardedCommand (x : Txn) (cmd : Byte) (data : List Byte) (s : State) :
    Host.Outcome State Fault Refusal :=
  .next (if 0x80 ≤ cmd.toNat ∧ cmd.toNat ≤ 0x84 then s else ecSequence x cmd data s)

end Sys2Proof.Machine
end

