-- ==== Sys2Proof/Machine/FgdCmd.lean ====
section
/-! DEFINITION. The meanings of the commands of the host flash guard (chapter 12). -/

namespace Sys2Proof.Machine

/-- A request of the host's flash channel: one it does not support, or that nothing can serve, ends unsuccessful
(R331). -/
def hostFlash (tag : Nat) (ask : FlashAsk) (s : State) : State :=
  let s := { s with link := { s.link with flashBusy := true } }
  let bad : State := { s with link := { s.link with flashDone := some ⟨tag, false, []⟩ } }
  let go (op a n : Nat) (d : List Byte) : State :=
    if s.coreUp then
      reqArrive { host := true, op := op, policy := true, addr := a, len := n, data := d, tag := tag } s
    else bad
  match ask with
  | .read a n => if 1 ≤ n ∧ n ≤ 64 then go 1 a n [] else bad
  | .write a d => if 1 ≤ d.length ∧ d.length ≤ 64 then go 2 a d.length d else bad
  | .erase a => go 3 a 0 []
  | .other => bad

/-- PUT_FLASH (R331): The host posts a flash access request of read, write or erase on the flash channel. -/
def execPutFlash (x : Txn) (tag : Fin 16) (ask : FlashAsk) (s : State) : Host.Outcome State Fault Refusal :=
  .next (espiTxn x (fun s =>
    if !flashOn s then refusedAs .nonFatal
    else if s.link.flashBusy then { resp := { code := .notFree } }
    else { resp := {}, commit := hostFlash tag.val ask }) s)

/-- The header of a flash completion: its cycle type, the request's tag with the length's upper bits, the length.
PRESUMED (log 29). -/
def doneHead (d : FlashDone) : List Byte :=
  [if !d.ok then 0x0E else if d.data.isEmpty then 0x06 else 0x0F, BitVec.ofNat 8 (16 * d.tag),
    BitVec.ofNat 8 d.data.length]

/-- GET_FLASH (R331): The host fetches the completion of its non-posted flash request. -/
def execGetFlash (x : Txn) (s : State) : Host.Outcome State Fault Refusal :=
  .next (espiTxn x (fun s =>
    if !flashOn s then refusedAs .nonFatal
    else
      match (if flashAvail s then s.link.flashDone else none) with
      | none => getNothing
      | some d =>
        { resp := { head := doneHead d, data := d.data }
          commit := fun t => { t with link := { t.link with flashDone := none, flashBusy := false } } }) s)

/-- FGD_START (R338): FGD_CTRL.START begins discovery, manifest checks and streaming, or is refused. -/
def execFgdStart (v : Word) (dev0 dev1 : Sfdp) (s : State) : Host.Outcome State Fault Refusal :=
  .next (coreStore 0x400F0000 (fgdWrite 0x400F0000 (withBit Reg.FGD_CTRL.START v))
    { s with board := { s.board with flash0 := dev0, flash1 := dev1 } })

/-- VERIFICATION_DONE (R338): Streaming ends with the verdict PASS, RECOVERED or FAIL. -/
def execVerificationDone (t : Nat) (s : State) : Host.Outcome State Fault Refusal :=
  let s := s.seen t
  .next (if s.coreUp then fgdVerify s else s)

/-- RSMEN (R339): A write of FGD_CTRL.RSMEN releases or holds HOST_RSMRST_N according to the verdict. -/
def execRsmen (v : Word) (s : State) : Host.Outcome State Fault Refusal :=
  .next (coreStore 0x400F0000 (fgdWrite 0x400F0000 v.toNat) s)

/-- FGD_PLOCK (R329): FGD_CTRL.PLOCK locks the SPI configuration, manifest offsets and policy map. -/
def execFgdPlock (v : Word) (s : State) : Host.Outcome State Fault Refusal :=
  .next (coreStore 0x400F0000 (fgdWrite 0x400F0000 (withBit Reg.FGD_CTRL.PLOCK v)) s)

/-- FLASH_READ (R332): FGD_FREQ queues a read. -/
def execFlashRead (v : Word) (s : State) : Host.Outcome State Fault Refusal :=
  .next (coreStore 0x400F0040 (fgdWrite 0x400F0040 (v.toNat / 16 * 16 + v.toNat / 4 % 2 * 4 + 9)) s)

/-- FLASH_WRITE (R332): FGD_FREQ queues a page-split write. -/
def execFlashWrite (v : Word) (s : State) : Host.Outcome State Fault Refusal :=
  .next (coreStore 0x400F0040 (fgdWrite 0x400F0040 (v.toNat / 16 * 16 + v.toNat / 4 % 2 * 4 + 10)) s)

/-- FLASH_ERASE (R332): FGD_FREQ queues a 4 KiB sector erase. -/
def execFlashErase (v : Word) (s : State) : Host.Outcome State Fault Refusal :=
  .next (coreStore 0x400F0040 (fgdWrite 0x400F0040 (v.toNat / 16 * 16 + v.toNat / 4 % 2 * 4 + 11)) s)

/-- FLASH_OPERATION_DONE (R332): A flash device operation completes; R330 marks copies DIRTY. -/
def execFlashOperationDone (t : Nat) (s : State) : Host.Outcome State Fault Refusal :=
  .next (flashDone (s.seen t))

/-- DEVICE_TIMEOUT (R332): A flash device operation times out; it counts DEVERR and writes a Moraine record. -/
def execDeviceTimeout (t : Nat) (s : State) : Host.Outcome State Fault Refusal :=
  .next (flashTimeout (s.seen t))

/-- FGD_CNT_READ (R332): A read returns the DENIED and DEVERR counters and clears them. -/
def execFgdCntRead (s : State) : Host.Outcome State Fault Refusal := .next (coreLoad 0x400F0050 s)

/-- PROMO_GO (R342): FGD_PROMO.GO starts a promotion check of the spare manifest. -/
def execPromoGo (v : Word) (s : State) : Host.Outcome State Fault Refusal :=
  .next (coreStore 0x400F0034 (fgdWrite 0x400F0034 (withBit Reg.FGD_PROMO.GO v)) s)

/-- PROMO_CANCEL (R344): FGD_PROMO.CANCEL returns PROMO to NONE. -/
def execPromoCancel (v : Word) (s : State) : Host.Outcome State Fault Refusal :=
  .next (coreStore 0x400F0034 (fgdWrite 0x400F0034 (withBit Reg.FGD_PROMO.CANCEL v)) s)

/-- PROMOTION_VERIFIED (R342): The promotion check ends PENDING or FAILED. -/
def execPromotionVerified (t : Nat) (s : State) : Host.Outcome State Fault Refusal :=
  let s := s.seen t
  .next (if s.coreUp then promoVerify s else s)

end Sys2Proof.Machine
end

