-- ==== Sys2Proof/Machine/FloeCmd.lean ====
section
/-! DEFINITION. The meanings of the commands of the Floe ports (chapter 10, hardware). -/

namespace Sys2Proof.Machine

/-- FRAME_RECEIVED (R281): A Floe frame is received, filtered, acknowledged or refused, and placed in the receive
FIFO. -/
def execFrameReceived (p : Fin 2) (f : FloeFrame) (x : FloeSignal) (t : Nat) (s : State) :
    Host.Outcome State Fault Refusal :=
  .next (recvFrame p.val f x (s.seen t))

/-- TXCTL_GO (R284): FLOEn_TXCTL.GO sends the frame, adding counter and MAC, or is refused. -/
def execTxctlGo (p : Fin 2) (v : Word) (s : State) : Host.Outcome State Fault Refusal :=
  let a := 0x400B011C + 0x100 * p.val
  .next (coreStore a (floeWrite a (withBit (Reg.FLOE_TXCTL.GO p.val) v)) s)

/-- ATTEMPT_END (R277): A transmit attempt ends acknowledged, without ACK, with a bit error or with lost
arbitration. -/
def execAttemptEnd (p : Fin 2) (how : FloeEnd) (x : FloeSignal) (t : Nat) (s : State) :
    Host.Outcome State Fault Refusal :=
  .next (attemptEnd p.val how x (s.seen t))

/-- RETRY_BACKOFF_END (R278): After the random backoff on an idle bus the sender tries again, or abandons with
TXFAIL. -/
def execRetryBackoffEnd (p : Fin 2) (t : Nat) (s : State) : Host.Outcome State Fault Refusal :=
  .next (backoffEnd p.val (s.seen t))

/-- KCFG_VALID (R282): A write of VALID=1 binds a key entry and zeroes its counters, or is refused. -/
def execKcfgValid (e : Fin 32) (v : Word) (s : State) : Host.Outcome State Fault Refusal :=
  let a := 0x400B1000 + 0x40 * e.val
  .next (coreStore a (floeWrite a (withBit (Reg.FLOE_KCFG.VALID e.val) v)) s)

/-- RXPOP (R281): Firmware removes the oldest frame from the receive FIFO. -/
def execRxpop (p : Fin 2) (v : Word) (s : State) : Host.Outcome State Fault Refusal :=
  let a := 0x400B012C + 0x100 * p.val
  .next (coreStore a (floeWrite a (withBit (Reg.FLOE_RXPOP.POP p.val) v)) s)

/-- PORT_ENABLE (R271): A write of FLOEn_PCFG.EN enables a port, or releases the wire and discards learnt values. -/
def execPortEnable (p : Fin 2) (v : Word) (s : State) : Host.Outcome State Fault Refusal :=
  let a := 0x400B0100 + 0x100 * p.val
  .next (coreStore a (floeWrite a v.toNat) s)

/-- FLOE_PERR_READ (R281): A read returns a port's error counters and clears them. -/
def execFloePerrRead (p : Fin 2) (k : Fin 3) (s : State) : Host.Outcome State Fault Refusal :=
  .next (coreLoad (0x400B010C + 0x100 * p.val + 4 * k.val) s)

end Sys2Proof.Machine
end

