-- ==== Sys2Proof/Machine/KeysCmd.lean ====
section
/-! DEFINITION. The meanings of the commands of the keyboard (chapter 07). -/

namespace Sys2Proof.Machine

/-- KSC_DELIV0_READ (R203): A read of KSC_DELIV0 latches the last completed frame's results. -/
def execKscDeliv0Read (s : State) : Host.Outcome State Fault Refusal := .next (coreLoad 0x40060100 s)

/-- STUCK_MASK (R206): A key closed for STUCKTO seconds is masked unless exempt. -/
def execStuckMask (t : Nat) (s : State) : Host.Outcome State Fault Refusal := .next (stuckMask (s.seen t))

/-- SLEEP_SCAN (R207): Every 20 ms the AON sleep scanner samples the matrix. -/
def execSleepScan (keys : List (Fin 768)) (t : Nat) (s : State) : Host.Outcome State Fault Refusal :=
  .next (sleepScan keys (s.seen t))

/-- SCANNER_HANDOVER (R209): A write of KSC_CTRL passes scanning between the scanners. -/
def execScannerHandover (v : Word) (s : State) : Host.Outcome State Fault Refusal :=
  .next (coreStore 0x40060000 (kscWrite 0x40060000 v.toNat) s)

/-- KSC_LOCK (R210): KSC_LOCKCTL.LOCK locks the keyboard. -/
def execKscLock (v : Word) (s : State) : Host.Outcome State Fault Refusal :=
  .next (coreStore 0x40060024 (lockCtlWrite (v.toNat ||| 1)) s)

/-- KSC_UNLOCK (R210): KSC_LOCKCTL.UNLOCK unlocks; closed keys become held-over. -/
def execKscUnlock (v : Word) (s : State) : Host.Outcome State Fault Refusal :=
  .next (coreStore 0x40060024 (lockCtlWrite (v.toNat ||| 2)) s)

/-- SEQUENCE_WRITE (R211): A write of KSC_SEQAk or, `upper`, KSC_SEQBk; ignored with SEQERR while locked. -/
def execSequenceWrite (k : Fin 8) (upper : Bool) (v : Word) (s : State) : Host.Outcome State Fault Refusal :=
  let a := 0x40060400 + 8 * k.val + 4 * upper.toNat
  .next (coreStore a (seqWrite a v.toNat) s)

/-- STEP_TIMEOUT (R212): The step timer reaches STEPTO; the attempt fails and FAILS counts. -/
def execStepTimeout (t : Nat) (s : State) : Host.Outcome State Fault Refusal := .next (stepTimedOut (s.seen t))

/-- BACKOFF_END (R213): The back-off has elapsed; with the keys released the matcher returns to IDLE. -/
def execBackoffEnd (t : Nat) (s : State) : Host.Outcome State Fault Refusal := .next (matcherRun (s.seen t))

end Sys2Proof.Machine
end

