-- ==== Sys2Proof/Machine/KpfRows.lean ====
section
/-! DEFINITION. The meanings of what KPF does of its own accord: Floe enumeration, authentication and secured traffic,
pieces, the session's end, confirmation, the battery and the thermal policy (R189, R190, R280, R285 to R291, R357, R358,
R363, R390). -/

namespace Sys2Proof.Machine

/-- What KPF does, if an image of it answers. -/
def asKpf (act : State → State) (t : Nat) (s : State) : State :=
  let s := s.seen t
  if kpfRuns s && s.kpf.state != 3 then act s else s

/-- DISCOVER (R286): KPF sends DISCOVER on an enabled port every second, with RESTART=1 once after each port enable. -/
def execDiscover (p : Fin 2) (t : Nat) (s : State) : Host.Outcome State Fault Refusal :=
  .next (asKpf (discoverDue p.val) t s)

/-- PRESENCE (R285): A newcomer or stranger answers DISCOVER with PRESENCE. -/
def execPresence (p : Fin 2) (f : FloeFrame) (x : FloeSignal) (t : Nat) (s : State) :
    Host.Outcome State Fault Refusal :=
  .next (moduleFrame isPresence p.val f x (s.seen t))

/-- QASSIGN (R285): KPF assigns a newcomer an identifier and it becomes a stranger. -/
def execQassign (p : Fin 2) (uid t : Nat) (s : State) : Host.Outcome State Fault Refusal :=
  .next (asKpf (quarantine p.val uid) t s)

/-- CERT_REQ (R288): KPF asks a stranger for its certificate. -/
def execCertReq (p : Fin 2) (id t : Nat) (s : State) : Host.Outcome State Fault Refusal :=
  .next (asKpf (certRequest p.val id) t s)

/-- CERT (R290): A stranger sends its certificate and KPF checks it. -/
def execCert (p : Fin 2) (f : FloeFrame) (x : FloeSignal) (t : Nat) (s : State) : Host.Outcome State Fault Refusal :=
  .next (moduleFrame (isAuth 2) p.val f x (s.seen t))

/-- CHALLENGE (R288): KPF sends its nonce and ephemeral key. -/
def execChallenge (p : Fin 2) (id t : Nat) (s : State) : Host.Outcome State Fault Refusal :=
  .next (asKpf (challenge p.val id) t s)

/-- RESPONSE (R290): A module answers the challenge and KPF checks its confirmation. -/
def execResponse (p : Fin 2) (f : FloeFrame) (x : FloeSignal) (t : Nat) (s : State) :
    Host.Outcome State Fault Refusal :=
  .next (moduleFrame (isAuth 4) p.val f x (s.seen t))

/-- ADMIT (R290): KPF writes the key entry and admits the module under its new identifier. -/
def execModuleAdmit (p : Fin 2) (id t : Nat) (s : State) : Host.Outcome State Fault Refusal :=
  .next (asKpf (admitModule p.val id) t s)

/-- REJECT (R290): KPF rejects a module with a reason. -/
def execReject (p : Fin 2) (id t : Nat) (s : State) : Host.Outcome State Fault Refusal :=
  .next (asKpf (reject p.val id) t s)

/-- READ (R291): KPF reads an object of an admitted module. -/
def execRead (p : Fin 2) (id obj t : Nat) (s : State) : Host.Outcome State Fault Refusal :=
  .next (asKpf (readObj p.val id obj) t s)

/-- WRITE (R291): KPF writes an object of an admitted module. -/
def execWrite (p : Fin 2) (id obj : Nat) (value : List Byte) (t : Nat) (s : State) :
    Host.Outcome State Fault Refusal :=
  .next (asKpf (writeObj p.val id obj value) t s)

/-- PING (R291): KPF pings an admitted module; three without an answer remove it. -/
def execPing (p : Fin 2) (id t : Nat) (s : State) : Host.Outcome State Fault Refusal :=
  .next (asKpf (ping p.val id) t s)

/-- READ_RESP (R291): A module returns an object's value. -/
def execReadResp (p : Fin 2) (f : FloeFrame) (x : FloeSignal) (t : Nat) (s : State) :
    Host.Outcome State Fault Refusal :=
  .next (moduleFrame (isData 0x81) p.val f x (s.seen t))

/-- WRITE_ACK (R291): A module acknowledges a write with a status. -/
def execWriteAck (p : Fin 2) (f : FloeFrame) (x : FloeSignal) (t : Nat) (s : State) :
    Host.Outcome State Fault Refusal :=
  .next (moduleFrame (isData 0x82) p.val f x (s.seen t))

/-- PONG (R291): A module answers a ping; the first accepted one admits it. -/
def execPong (p : Fin 2) (f : FloeFrame) (x : FloeSignal) (t : Nat) (s : State) : Host.Outcome State Fault Refusal :=
  .next (moduleFrame (isData 0x83) p.val f x (s.seen t))

/-- NOTIFY (R291): A module sends an object's value unasked. -/
def execNotify (p : Fin 2) (f : FloeFrame) (x : FloeSignal) (t : Nat) (s : State) : Host.Outcome State Fault Refusal :=
  .next (moduleFrame (isData 0x84) p.val f x (s.seen t))

/-- ERROR (R291): A module refuses an operation. -/
def execError (p : Fin 2) (f : FloeFrame) (x : FloeSignal) (t : Nat) (s : State) : Host.Outcome State Fault Refusal :=
  .next (moduleFrame (isData 0xFF) p.val f x (s.seen t))

/-- PIECE_DELIVERED (R358): KPF checks a delivered package piece and stores it; the last one brings the package's
application (R359). -/
def execPieceDelivered (t : Nat) (s : State) : Host.Outcome State Fault Refusal :=
  .next (asKpf unitDelivered t s)

/-- SESSION_IDLE_EXPIRY (R357): An open session without a new piece for 72 hours ends. -/
def execSessionIdleExpiry (t : Nat) (s : State) : Host.Outcome State Fault Refusal :=
  .next (asKpf sessionIdle t s)

/-- AUTO_CONFIRM (R363): KPF confirms a trial slot after 10 s with FWREADY set and no first watchdog stage. -/
def execAutoConfirm (t : Nat) (s : State) : Host.Outcome State Fault Refusal := .next (asKpf autoConfirm t s)

/-- SMART_BATTERY_POLL (R189): KPF reads the Smart Battery pack over SMBus and bounds charging by its answers. -/
def execSmartBatteryPoll (r : Option PackReading) (t : Nat) (s : State) : Host.Outcome State Fault Refusal :=
  .next (asKpf (packPoll r) t s)

/-- GAUGE_CHECK (R190): KPF compares the pack's gauge with QACC and marks a pack that differs twice DISTRUSTED. -/
def execGaugeCheck (t : Nat) (s : State) : Host.Outcome State Fault Refusal := .next (asKpf gaugeCheck t s)

/-- POLICY_RESTORE (R390): With no channel in STALL for 10 s, KPF restores the profile and the charge current. -/
def execPolicyRestore (t : Nat) (s : State) : Host.Outcome State Fault Refusal := .next (asKpf policyRestore t s)

end Sys2Proof.Machine
end

