-- ==== Sys2Proof/Machine/LpeCmd.lean ====
section
/-! DEFINITION. The meanings of the commands of Icefall and of the rail channels (chapter 04), but for
ACTION_START and ACTION_FINISH. -/

namespace Sys2Proof.Machine

/-- SLOT_ENABLE (R125): A write that sets EN in LPE_SCFGn enables the slot or is refused with CFGERR. -/
def execSlotEnable (n : Fin 64) (v : Word) (s : State) : Host.Outcome State Fault Refusal :=
  .next (coreStore (0x40011000 + 0x20 * n.val) (scfgWrite n.val (v.toNat ||| 1)) s)

/-- SLOT_DISABLE (R131): EN=0 stops further releases while a started action finishes. -/
def execSlotDisable (n : Fin 64) (v : Word) (s : State) : Host.Outcome State Fault Refusal :=
  .next (coreStore (0x40011000 + 0x20 * n.val) (scfgWrite n.val (v.toNat / 2 * 2)) s)

/-- LPE_RUN (R132): LPE_CTRL.RUN starts Icefall releasing slots. -/
def execLpeRun (v : Word) (s : State) : Host.Outcome State Fault Refusal :=
  .next (coreStore 0x40010000 (lpeCtrlWrite (v.toNat ||| 1)) s)

/-- LPE_LOCK (R132): LPE_CTRL.LOCK locks CATCHUP, CRIT bits and CRIT slot registers. -/
def execLpeLock (v : Word) (s : State) : Host.Outcome State Fault Refusal :=
  .next (coreStore 0x40010000 (lpeCtrlWrite (v.toNat ||| 2)) s)

/-- LPE_NOWLO_READ (R124): A read returns TBASE [31:0] and latches the upper half. -/
def execLpeNowloRead (s : State) : Host.Outcome State Fault Refusal := .next (coreLoad 0x40010008 s)

/-- LPE_SSTAT_READ (R129): A read returns the slot counters and clears them. -/
def execLpeSstatRead (n : Fin 64) (s : State) : Host.Outcome State Fault Refusal :=
  .next (coreLoad (0x4001101C + 0x20 * n.val) s)

/-- SLOT_RELEASE (R124): A slot reaches its release time and its action waits for its unit. -/
def execSlotRelease (n : Fin 64) (t : Nat) (s : State) : Host.Outcome State Fault Refusal :=
  .next (slotRelease n.val (s.seen t))

/-- RAIL_CLR (R137): A write of RAIL_CLR; a FAULT channel it names moves to OFF at the next step. -/
def execRailClr (upper : Bool) (v : Word) (s : State) : Host.Outcome State Fault Refusal :=
  .next (if upper then coreStore 0x4002001C (railClr 32 v.toNat) s else coreStore 0x40020018 (railClr 0 v.toNat) s)

/-- FLTHOLD_CLEAR (R143): Firmware clears FLTHOLD and TSEL takes DECODED at once. -/
def execFltholdClear (v : Word) (s : State) : Host.Outcome State Fault Refusal :=
  .next (coreStore 0x40020004 (railStatWrite (v.toNat ||| 2)) s)

/-- POWER_GOOD_CHANGE (R134): An RCnn_PG pin changes its level, which counts once it has held for PGFILT. -/
def execPowerGoodChange (n : Fin 40) (level : Bool) (t : Nat) (s : State) :
    Host.Outcome State Fault Refusal :=
  .next (pinMoves n.val level (s.seen t))

end Sys2Proof.Machine
end

