-- ==== Sys2Proof/Machine/LuxCmd.lean ====
section
/-! DEFINITION. The meanings of the commands of the Rime engine and chain (chapter 08), and of the bulk mover. -/

namespace Sys2Proof.Machine

/-- TIMER_SYNC (R221): The internal timer gives a sync every PERIOD. -/
def execTimerSync (t : Nat) (s : State) : Host.Outcome State Fault Refusal := .next (timerSync (s.seen t))

/-- LSYNC_IN_EDGE (R221): A rising edge on LSYNC_IN gives a sync under SRC=1. -/
def execLsyncInEdge (t : Nat) (s : State) : Host.Outcome State Fault Refusal := .next (edgeSync (s.seen t))

/-- SYNCNOW (R221): A write of LUX_CTRL.SYNCNOW gives a sync under SRC=2. -/
def execSyncnow (v : Word) (s : State) : Host.Outcome State Fault Refusal :=
  .next (coreStore 0x40070000 (luxCtrlWrite (withBit Reg.LUX_CTRL.SYNCNOW v)) s)

/-- SYNC_FALLBACK (R221): No LSYNC_IN edge for SYNCTO; the engine falls back to the timer. -/
def execSyncFallback (t : Nat) (s : State) : Host.Outcome State Fault Refusal := .next (syncFallback (s.seen t))

/-- FWCLOSE (R223): LUX_CTRL.FWCLOSE closes the back frame as complete and sets PENDING. -/
def execFwclose (v : Word) (s : State) : Host.Outcome State Fault Refusal :=
  .next (coreStore 0x40070000 (luxCtrlWrite (withBit Reg.LUX_CTRL.FWCLOSE v)) s)

/-- OCCLOSE (R223): LUX_CTRL.OCCLOSE closes the back on-chip frame and sets OCPENDING. -/
def execOcclose (v : Word) (s : State) : Host.Outcome State Fault Refusal :=
  .next (coreStore 0x40070000 (luxCtrlWrite (withBit Reg.LUX_CTRL.OCCLOSE v)) s)

/-- PRESENT (R224): The matrix takes the new values at a line boundary; FRAME is set. -/
def execPresent (t : Nat) (s : State) : Host.Outcome State Fault Refusal := .next (present (s.seen t))

/-- LUX_EN_SET (R232): LUX_CTRL.EN is set; the matrix timing is checked and the engine runs. -/
def execLuxEnSet (v : Word) (s : State) : Host.Outcome State Fault Refusal :=
  .next (coreStore 0x40070000 (luxCtrlWrite (withBit Reg.LUX_CTRL.EN v)) s)

/-- LUX_EN_CLEAR (R224): LUX_CTRL.EN is cleared; a running frame cycle ends at once and every output goes
off. -/
def execLuxEnClear (v : Word) (s : State) : Host.Outcome State Fault Refusal :=
  .next (coreStore 0x40070000 (luxCtrlWrite (v.toNat / 2 * 2)) s)

/-- MATRIX_TIMING_WRITE (R232): A write of LUX_MTIM or, `cfg`, LUX_MCFG is checked. -/
def execMatrixTimingWrite (cfg : Bool) (v : Word) (s : State) : Host.Outcome State Fault Refusal :=
  let a := if cfg then 0x40070034 else 0x40070030
  .next (coreStore a (fun s => timingCheck (s.regWrite a v.toNat)) s)

/-- SCAN_END (R234): At the end of each scan the engine adjusts VSET from the sampled sink voltages. -/
def execScanEnd (r : ScanReading) (t : Nat) (s : State) : Host.Outcome State Fault Refusal :=
  .next (scanEnd r (s.seen t))

/-- VLED_OVERVOLTAGE (R235): VLED_FB above VLEDMAX + 1,000 mV stops the boost and the matrix. -/
def execVledOvervoltage (vled t : Nat) (s : State) : Host.Outcome State Fault Refusal :=
  .next (vledOver vled (s.seen t))

/-- LUX_DIAGCLR (R237): A write returns an OPEN or SHORT channel, or all, to UNTESTED. -/
def execLuxDiagclr (v : Word) (s : State) : Host.Outcome State Fault Refusal :=
  .next (coreStore 0x40070500 (diagClr v.toNat) s)

/-- LUX_CNT_READ (R221): A read returns the REPEAT, LATE and PAR counters and clears them. -/
def execLuxCntRead (s : State) : Host.Outcome State Fault Refusal := .next (coreLoad 0x4007001C s)

/-- CHN_ENABLE (R246): CHN_CTRL.EN=1 starts enumeration with a STATUS to position 63. -/
def execChnEnable (v : Word) (s : State) : Host.Outcome State Fault Refusal :=
  .next (coreStore 0x40080000 (chnCtrlWrite (withBit Reg.CHN_CTRL.EN v)) s)

/-- CHN_DISABLE (R246): CHN_CTRL.EN=0 broadcasts CONFIG with BLANK and stops the chain. -/
def execChnDisable (v : Word) (s : State) : Host.Outcome State Fault Refusal :=
  .next (coreStore 0x40080000 (chnCtrlWrite (v.toNat / 2 * 2)) s)

/-- ENUM_STATUS_RETURN (R246): The enumeration STATUS returns unanswered; NFOUND is taken from its HOPS. -/
def execEnumStatusReturn (hops : Fin 64) (t : Nat) (s : State) : Host.Outcome State Fault Refusal :=
  let s := s.seen t
  .next (if chnState s = cnEnum ∧ s.chn.probing then
      let s := enumFound (63 - hops.val) s
      if hops.val = 63 then configState s else s
    else s)

/-- STATUS_RESPONSE (R250): A driver's STATUS response fills its registers; when all are in, enumeration
moves on or STATUSDONE is set. -/
def execStatusResponse (r : ChainStatus) (t : Nat) (s : State) : Host.Outcome State Fault Refusal :=
  .next (statusResponse r (s.seen t))

/-- COMMIT (R246): CHN_CTRL.COMMIT advances the epoch and sends CONFIG to every included driver. -/
def execCommit (v : Word) (s : State) : Host.Outcome State Fault Refusal :=
  .next (coreStore 0x40080000 (chnCtrlWrite (withBit Reg.CHN_CTRL.COMMIT v)) s)

/-- REENUM (R246): CHN_CTRL.REENUM returns the chain to ENUM. -/
def execReenum (v : Word) (s : State) : Host.Outcome State Fault Refusal :=
  .next (coreStore 0x40080000 (chnCtrlWrite (withBit Reg.CHN_CTRL.REENUM v)) s)

/-- ENUM_RETRY (R246): Ten milliseconds after an enumeration break, enumeration is retried. -/
def execEnumRetry (t : Nat) (s : State) : Host.Outcome State Fault Refusal := .next (enumRetry (s.seen t))

/-- RETURNED_SYNC (R249): The returned BROADCAST_SYNC records MMAP and DMAP and triggers CONFIG resends. -/
def execReturnedSync (mmap dmap : BitVec 64) (crcOk : Bool) (t : Nat) (s : State) :
    Host.Outcome State Fault Refusal :=
  .next (returnedSync mmap dmap crcOk (s.seen t))

/-- BREAK (R249): No return within RETTO counts BREAK and sets CHN_EVT.BREAK. -/
def execChainBreak (t : Nat) (s : State) : Host.Outcome State Fault Refusal := .next (chainBreak (s.seen t))

/-- CHN_DIAGREQ (R250): Firmware queues a DIAG request for step 6, or it is refused with CFGERR. -/
def execChnDiagreq (v : Word) (s : State) : Host.Outcome State Fault Refusal :=
  .next (coreStore 0x40080030 (diagReqWrite (withBit Reg.CHN_DIAGREQ.GO v)) s)

/-- DIAG_RESPONSE (R250): A DIAG response fills CHN_DIAGBUF and sets DIAGDONE. -/
def execDiagResponse (first count : Nat) (states : List Byte) (t : Nat) (s : State) :
    Host.Outcome State Fault Refusal :=
  .next (diagResponse first count states (s.seen t))

/-- CHN_CNT_READ (R249): A read returns the CRCERR, BREAK and RESEND counters and clears them. -/
def execChnCntRead (s : State) : Host.Outcome State Fault Refusal := .next (coreLoad 0x40080010 s)

/-- CHN_DSTAT_READ (R249): A read returns a driver's status and clears MMCNT and DECNT. -/
def execChnDstatRead (j : Fin 64) (s : State) : Host.Outcome State Fault Refusal :=
  .next (coreLoad (0x4008101C + 0x40 * j.val) s)

/-- ADDRESSED_REQUEST_RETURNED (R246): In RUN an addressed request returns unanswered; the chain goes back to
ENUM at the end of the frame cycle. -/
def execAddressedRequestReturned (t : Nat) (s : State) : Host.Outcome State Fault Refusal :=
  let s := s.seen t
  .next (if chnState s = cnRun then toEnum s else s)

/-- BULK_MOVER_TRANSFER (R118): The mover drains up to `n` write-FIFO bytes into lighting memory, or drops
them with RANGE. -/
def execBulkMoverTransfer (n t : Nat) (s : State) : Host.Outcome State Fault Refusal :=
  .next (bulkMove n (s.seen t))

/-- UNIT_CLOSE_COMPLETE (R119): The mover has placed every byte of a closed unit; its outcome goes to the Rime
engine. -/
def execUnitCloseComplete (t : Nat) (s : State) : Host.Outcome State Fault Refusal :=
  .next (unitClosed (s.seen t))

end Sys2Proof.Machine
end

