-- ==== Sys2Proof/Machine/NvcCmd.lean ====
section
/-! DEFINITION. The meanings of the commands of the NVC controller, the confirmation window and the LOG block
(chapter 13). -/

namespace Sys2Proof.Machine

/-- NVC_CTRL as the word `v` writes it, with CMD `cmd` and GO. -/
def nvcWord (cmd : Nat) (v : Word) : Nat := v.toNat / 8 * 8 + 4 + cmd

/-- NVC_PROGRAM (R348): NVC programs Firn words from main SRAM, or refuses. -/
def execNvcProgram (v : Word) (s : State) : Host.Outcome State Fault Refusal :=
  .next (coreStore 0x40100000 (nvcWrite 0x40100000 (nvcWord 1 v)) s)

/-- NVC_ERASE (R349): NVC erases a Firn sector, or refuses. -/
def execNvcErase (v : Word) (s : State) : Host.Outcome State Fault Refusal :=
  .next (coreStore 0x40100000 (nvcWrite 0x40100000 (nvcWord 2 v)) s)

/-- NVC_READ (R350): NVC copies Firn words to main SRAM by checked read. -/
def execNvcRead (v : Word) (s : State) : Host.Outcome State Fault Refusal :=
  .next (coreStore 0x40100000 (nvcWrite 0x40100000 (nvcWord 3 v)) s)

/-- NVC_DONE (R350): An NVC command finishes with RESULT and sets DONE; `bad` is the word of a program that fails
its check. -/
def execNvcDone (bad : Option Nat) (t : Nat) (s : State) : Host.Outcome State Fault Refusal :=
  let s := s.seen t
  .next (if s.coreUp then nvcDone bad s else s)

/-- CONF_ARM (R363): NVC_CONFCTL.ARM arms the 120 s confirmation window. -/
def execConfArm (v : Word) (s : State) : Host.Outcome State Fault Refusal :=
  .next (coreStore 0x40100024 (nvcWrite 0x40100024 (withBit Reg.NVC_CONFCTL.ARM v)) s)

/-- NVC_CONFIRM (R363): CONFIRM with KEY 0xC5 disarms the confirmation window. -/
def execNvcConfirm (v : Word) (s : State) : Host.Outcome State Fault Refusal :=
  .next (coreStore 0x40100024 (nvcWrite 0x40100024 (withBit Reg.NVC_CONFCTL.CONFIRM v)) s)

/-- CONFIRMATION_EXPIRY (R363): The confirmation window expires and a core reset with cause CONFEXP follows. -/
def execConfirmationExpiry (t : Nat) (s : State) : Host.Outcome State Fault Refusal :=
  let s := s.seen t
  .next (if s.coreUp && confExpired s then
    coreReset Reg.SYS_RSTCAUSE.CONFEXP ((s.clr Reg.NVC_CONFCTL.ARMED).set Reg.NVC_CONFCTL.EXPIRED) else s)

/-- LOG_COMMIT (R373): LOG_WCOMMIT.GO enters a firmware record into the front end, or refuses it with DROPCORE. -/
def execLogCommit (v : Word) (s : State) : Host.Outcome State Fault Refusal :=
  .next (coreStore 0x40110034 (logRegWrite 0x40110034 (v.toNat ||| 1)) s)

/-- RECORD_WRITTEN (R374): The LOG block writes a front-end record into the ring at HEAD and erases ahead. -/
def execRecordWritten (t : Nat) (s : State) : Host.Outcome State Fault Refusal :=
  let s := s.seen t
  .next (if s.coreUp then recordWritten s else s)

/-- LOG_FLUSH (R375): LOG_CTRL.FLUSH reads 1 until the front end is empty. -/
def execLogFlush (v : Word) (s : State) : Host.Outcome State Fault Refusal :=
  .next (coreStore 0x40110000 (logRegWrite 0x40110000 (v.toNat ||| 1)) s)

/-- LOG_CNT_READ (R373): A read returns DROPCORE and DROPHW and clears them. -/
def execLogCntRead (s : State) : Host.Outcome State Fault Refusal := .next (coreLoad 0x40110010 s)

end Sys2Proof.Machine
end

