-- ==== Sys2Proof/Machine/SecCmd.lean ====
section
/-! DEFINITION. The meanings of the commands of security (chapter 11), but for the life-cycle reset and the boot
ROM.  A crypto command is a write of SEC_CMD.GO whose descriptor names the operation. -/

namespace Sys2Proof.Machine

/-- The AON supply as a request that may burn a fuse meets it. -/
def atSupply (mv : Nat) (s : State) : State := { s with board := { s.board with supply := mv } }

/-- SEC_LCREQ (R297): A keyed request for a life-cycle transition is accepted or refused. -/
def execSecLcreq (v : Word) (supply : Nat) (s : State) : Host.Outcome State Fault Refusal :=
  .next (coreStore 0x400E0010 (secWrite 0x400E0010 v.toNat) (atSupply supply s))

/-- GOFW (R303): SEC_ARBADV.GOFW advances FWARB to its target or is refused. -/
def execGofw (v : Word) (supply : Nat) (s : State) : Host.Outcome State Fault Refusal :=
  .next (coreStore 0x400E0014 (secWrite 0x400E0014 (withBit Reg.SEC_ARBADV.GOFW v)) (atSupply supply s))

/-- GOHOST (R303): SEC_ARBADV.GOHOST advances HOSTARB to its target or is refused. -/
def execGohost (v : Word) (supply : Nat) (s : State) : Host.Outcome State Fault Refusal :=
  .next (coreStore 0x400E0014 (secWrite 0x400E0014 (withBit Reg.SEC_ARBADV.GOHOST v)) (atSupply supply s))

/-- OEM_PROG (R302): SEC_OEMPROG.PROG programs an OEM key slot hash. -/
def execOemProg (v : Word) (supply : Nat) (s : State) : Host.Outcome State Fault Refusal :=
  .next (coreStore 0x400E0018 (secWrite 0x400E0018 (withBit Reg.SEC_OEMPROG.PROG v)) (atSupply supply s))

/-- OEM_REVOKE (R302): SEC_OEMPROG.REVOKE revokes an OEM key slot. -/
def execOemRevoke (v : Word) (supply : Nat) (s : State) : Host.Outcome State Fault Refusal :=
  .next (coreStore 0x400E0018 (secWrite 0x400E0018 (withBit Reg.SEC_OEMPROG.REVOKE v)) (atSupply supply s))

/-- NEWNONCE (R306): SEC_TOKCTL.NEWNONCE replaces the live nonce from the TRNG. -/
def execNewnonce (v : Word) (s : State) : Host.Outcome State Fault Refusal :=
  .next (coreStore 0x400E0020 (secWrite 0x400E0020 (withBit Reg.SEC_TOKCTL.NEWNONCE v)) s)

/-- SUBMIT (R305): SEC_TOKCTL.SUBMIT starts the token check and consumes the nonce. -/
def execSubmit (v : Word) (s : State) : Host.Outcome State Fault Refusal :=
  .next (coreStore 0x400E0020 (secWrite 0x400E0020 (withBit Reg.SEC_TOKCTL.SUBMIT v)) s)

/-- TOKEN_CHECK_DONE (R305): The token check ends with RESULT, and a passing token acts by its KIND. -/
def execTokenCheckDone (supply t : Nat) (s : State) : Host.Outcome State Fault Refusal :=
  .next (tokDone (atSupply supply (s.seen t)))

/-- DEBUG_PORT_TOKEN (R317): A token submitted from the debug port's own register goes to the sequencer. -/
def execDebugPortToken (tok : List Byte) (t : Nat) (s : State) : Host.Outcome State Fault Refusal :=
  let s := s.seen t
  .next (if s.coreUp then tokSubmit (tok.take 272) s else s)

/-- HASH256 (R308): The crypto engine hashes input with SHA-256 between FIRST and LAST. -/
def execHash256 (v : Word) (s : State) : Host.Outcome State Fault Refusal :=
  .next (coreStore 0x400E0040 (fun s => if v.toNat.testBit 0 then cmdWriteOp 1 (opHash false) s else s) s)

/-- HASH384 (R308): The crypto engine hashes input with SHA-384 between FIRST and LAST. -/
def execHash384 (v : Word) (s : State) : Host.Outcome State Fault Refusal :=
  .next (coreStore 0x400E0040 (fun s => if v.toNat.testBit 0 then cmdWriteOp 2 (opHash true) s else s) s)

/-- GCM (R308): The crypto engine encrypts or decrypts with AES-256 GCM. -/
def execGcm (v : Word) (s : State) : Host.Outcome State Fault Refusal :=
  .next (coreStore 0x400E0040 (fun s => if v.toNat.testBit 0 then cmdWriteOp 3 (opGcm) s else s) s)

/-- CMAC (R308): The crypto engine computes an AES-256 CMAC. -/
def execCmac (v : Word) (s : State) : Host.Outcome State Fault Refusal :=
  .next (coreStore 0x400E0040 (fun s => if v.toNat.testBit 0 then cmdWriteOp 4 (opCmac) s else s) s)

/-- VERIFY256 (R308): The crypto engine verifies a P-256 signature. -/
def execVerify256 (v : Word) (s : State) : Host.Outcome State Fault Refusal :=
  .next (coreStore 0x400E0040 (fun s => if v.toNat.testBit 0 then cmdWriteOp 5 (opVerify Crypto.p256) s else s) s)

/-- VERIFY384 (R308): The crypto engine verifies a P-384 signature. -/
def execVerify384 (v : Word) (s : State) : Host.Outcome State Fault Refusal :=
  .next (coreStore 0x400E0040 (fun s => if v.toNat.testBit 0 then cmdWriteOp 6 (opVerify Crypto.p384) s else s) s)

/-- SIGN256 (R308): The crypto engine signs a digest with a P-256 slot key. -/
def execSign256 (v : Word) (s : State) : Host.Outcome State Fault Refusal :=
  .next (coreStore 0x400E0040 (fun s => if v.toNat.testBit 0 then cmdWriteOp 7 (opSign Crypto.p256 1) s else s) s)

/-- SIGN384 (R308): The crypto engine signs a digest with a P-384 slot key. -/
def execSign384 (v : Word) (s : State) : Host.Outcome State Fault Refusal :=
  .next (coreStore 0x400E0040 (fun s => if v.toNat.testBit 0 then cmdWriteOp 8 (opSign Crypto.p384 2) s else s) s)

/-- ECDH256 (R308): The crypto engine computes a P-256 shared secret. -/
def execEcdh256 (v : Word) (s : State) : Host.Outcome State Fault Refusal :=
  .next (coreStore 0x400E0040 (fun s => if v.toNat.testBit 0 then cmdWriteOp 9 (opEcdh) s else s) s)

/-- GENERATE (R308): The crypto engine generates a new key into a slot. -/
def execGenerate (v : Word) (s : State) : Host.Outcome State Fault Refusal :=
  .next (coreStore 0x400E0040 (fun s => if v.toNat.testBit 0 then cmdWriteOp 10 (opGenerate) s else s) s)

/-- DERIVE (R308): The crypto engine derives a key from the device secret into a slot. -/
def execDerive (v : Word) (s : State) : Host.Outcome State Fault Refusal :=
  .next (coreStore 0x400E0040 (fun s => if v.toNat.testBit 0 then cmdWriteOp 11 (opDerive) s else s) s)

/-- LOAD (R308): The crypto engine loads a key into a slot. -/
def execLoad (v : Word) (s : State) : Host.Outcome State Fault Refusal :=
  .next (coreStore 0x400E0040 (fun s => if v.toNat.testBit 0 then cmdWriteOp 12 (opLoad) s else s) s)

/-- CRYPTO_ATTEST (R308): The crypto engine builds the attestation report and signs it with IK. -/
def execCryptoAttest (v : Word) (s : State) : Host.Outcome State Fault Refusal :=
  .next (coreStore 0x400E0040 (fun s => if v.toNat.testBit 0 then cmdWriteOp 13 (opAttest) s else s) s)

/-- RANDOM (R308): The crypto engine writes DLEN bytes from the TRNG. -/
def execRandom (v : Word) (s : State) : Host.Outcome State Fault Refusal :=
  .next (coreStore 0x400E0040 (fun s => if v.toNat.testBit 0 then cmdWriteOp 14 (opRandom) s else s) s)

/-- COMMAND_DONE (R307): A crypto command finishes, writes RESULT and sets CMDDONE. -/
def execCommandDone (t : Nat) (s : State) : Host.Outcome State Fault Refusal := .next (commandDone (s.seen t))

/-- KSLOT_CLR (R309): SEC_KSLOTk.CLR clears a key slot other than slot 15. -/
def execKslotClr (k : Fin 16) (v : Word) (s : State) : Host.Outcome State Fault Refusal :=
  let a := 0x400E0200 + 4 * k.val
  .next (coreStore a (secWrite a (withBit (Reg.SEC_KSLOT.CLR k.val) v)) s)

/-- TRNG_FAIL (R311): A TRNG health test fails and sets FAIL and TRNGFAIL. -/
def execTrngFail (t : Nat) (s : State) : Host.Outcome State Fault Refusal :=
  let s := s.seen t
  .next (if s.coreUp then (s.set Reg.SEC_TRNGSTAT.FAIL).set Reg.SEC_EVT.TRNGFAIL else s)

/-- TRNG_RECOVER (R311): The health tests pass for 1,024 samples and the TRNG delivers again. -/
def execTrngRecover (t : Nat) (s : State) : Host.Outcome State Fault Refusal :=
  let s := s.seen t
  .next (if s.coreUp then s.clr Reg.SEC_TRNGSTAT.FAIL else s)

/-- SEC_TRNG_READ (R311): A read of SEC_TRNG takes 32 random bits. -/
def execSecTrngRead (s : State) : Host.Outcome State Fault Refusal := .next (coreLoad 0x400E0058 s)

/-- IK_READY (R310): The key unit finishes computing IK and SEC_IKPUB and sets IKRDY. -/
def execIkReady (t : Nat) (s : State) : Host.Outcome State Fault Refusal := .next (ikReady (s.seen t))

/-- UCODE_LOCK (R316): SEC_LOCK.UCODE locks the decode table and microcode RAM. -/
def execUcodeLock (v : Word) (s : State) : Host.Outcome State Fault Refusal :=
  .next (coreStore 0x400E0064 (secWrite 0x400E0064 (withBit Reg.SEC_LOCK.UCODE v)) s)

end Sys2Proof.Machine
end

