-- ==== Sys2Proof/Machine/SysReset.lean ====
section
/-! DEFINITION. The domain and cold resets, the AON-only state and ship mode (R18, R23, R24, R29 to R34, R36, R47,
R475, R476). -/

namespace Sys2Proof.Machine

/-! ### What CORE loses -/

/-- Give every field outside the ranges its reset value. -/
def resetOutside (rs : List (Nat × Nat)) (s : State) : State :=
  let kept := s.fields.filter (fun p => inCells p.1 rs)
  let fresh := resetCells.filter (fun p => !inCells p.1 rs)
  { s with fields := Sparse.merge (s.fields.length + resetCells.length) kept fresh }

/-- The fields that a domain reset keeps: AON's, HOST's, and those that show HOST's state, the straps sampled at the cold
reset (R12, R148) and what only unplug clears (R151). -/
def keptCells : List (Nat × Nat) :=
  aonCells ++ hostCells
    ++ [(Reg.HOST_STAT.MODE.key, Reg.HOST_STAT.FREQ.key), (Reg.HOST_VWIN.SLPS3.key, Reg.HOST_VWIN.HOSTRSTWARN.key)]
    ++ ([Reg.HW_ID.LINK, Reg.PWR_STAT.CELLS, Reg.PWR_STAT.CELLSBAD, Reg.PD_STAT.PDSEEN 0, Reg.PD_STAT.PDSEEN 1].map
      fun f => (f.key, f.key))

/-- What KPF keeps in retained RAM through a domain reset (R188, R357), and its count of starts. DEDUCED (log 22). -/
def kpfRetained (s : State) : Kpf :=
  { restarts := s.kpf.restarts, idleRef := s.kpf.idleRef, autoAct := s.kpf.autoAct, arbNow := s.kpf.arbNow
    page := s.kpf.page, keyWin := s.kpf.keyWin, ecImage := s.kpf.ecImage
    qCarry := s.kpf.qCarry + signed 32 (s.rd Reg.CHG_QACC.QACC)
    pack := { distrusted := s.kpf.pack.distrusted, full := s.kpf.pack.full } }

/-- CORE and LUX reset, or lose their power, reverse supply having stopped (R29, R196): every register of theirs at its reset value, every engine stopped.
`keep` says that the sleep scanner takes over the frame scanner's keys (R208). -/
def coreLost (keep : Bool) (s : State) : State :=
  let wasFrame := frameOn s
  let reverse := s.on Reg.CHG_REVSTAT.ACTIVE
  let s := reverseStop rvDomain s
  let k := kpfRetained s
  let pages := pagesCertain s
  let s := fgdDomainReset (logDomainReset s)
  let s := fwReadyLost (vwoutWrite 0 (postAbort s))
  let s := pdDomainReset (pwrDomainReset (holdTerms s))
  let s := (resetOutside keptCells s).clr Reg.CHG_LAMP.OVR
  let s := if reverse then (s.wr Reg.CHG_REVSTAT.CAUSE rvDomain).set Reg.CHG_EVT.REVSTOP else s
  let s := senseFuses (secDomainReset s)
  let s := kbdCoreLost wasFrame keep (floeDomainReset (thmDomainReset (chgDomainReset s)))
  settle { s with
    cpu := {}, lpe := {}, rail := { pins := s.rail.pins, passed := s.rail.pins, held := s.rail.held }, lux := {}, chn := {}, nvc := {}, wdog := {}
    log := { s.log with front := [] }
    mbx := { s.mbx with taken := [] }
    link := { s.link with pagesAt := s.tbase, pagesSure := pages }
    kpf := k
    sys := { s.sys with
      offReq := none, waiting := none, waitingCauses := 0, selInEffect := 7, pllBack := false
      dbgHalted := false, dbgStep := false, dbgBreak := false } }

/-- The crystal and the PLL as they show in SYS_CLKCFG. -/
def showClocks (s : State) : State :=
  (s.wrB Reg.SYS_CLKCFG.XTAL32 s.sys.xtal).wrB Reg.SYS_CLKCFG.PLLLOCK (s.sys.coreOn && s.sys.v18pg)

/-- A life-cycle change zeroes the retained RAM (R29, R33), and with it what KPF keeps there: the QACC carry and the
idle reference (R188, R357). DEDUCED (log 22). -/
def retainedZeroed (s : State) : State :=
  let t := s.wipe retBase (retBase + 0x8000)
  { t with kpf := { t.kpf with idleRef := 0, qCarry := 0 } }

/-! ### Domain reset (R29, R31) -/

/-- A domain reset begins: AON holds the rails and the power path, CORE and LUX reset, and, with V18 good, the wipe
runs. DEDUCED (log 21). -/
def domainReset (causes : Nat) (s : State) : State :=
  let causes := s.sys.causes ||| s.sys.waitingCauses ||| causes
  let s := coreLost false ((holdRails s).set Reg.SYS_PADHOLD.HOLD)
  showClocks { s with sys := { s.sys with
    coreOn := s.sys.v18pg, wiping := s.sys.v18pg, waitPg := !s.sys.v18pg, pgSince := s.tbase, causes := causes } }

/-- CORE and LUX get power: what events left in their registers while they had none is not there
(R24); a domain reset that stopped reverse supply shows it (R196), and FUSEERR what the reset found (R298). -/
def coreFresh (s : State) : State :=
  let stop := s.on Reg.CHG_EVT.REVSTOP && !s.sys.causes.testBit Reg.SYS_RSTCAUSE.AONWAKE.lo
  let s := { s with sec := { s.sec with halfBad := s.on Reg.SEC_FUSESTAT.FUSEERR } }
  let s := senseFuses (secDomainReset ((resetOutside keptCells s).clr Reg.CHG_LAMP.OVR))
  let s := pdDomainReset (chgDomainReset s)
  if stop then (s.wr Reg.CHG_REVSTAT.CAUSE rvDomain).set Reg.CHG_EVT.REVSTOP else s

/-- V18_PG arrives: CORE is powered, every register of it as after a domain reset, the PLL locks and the wipe
starts. -/
def v18Good (s : State) : State :=
  if s.sys.aonOn && s.sys.waitPg then
    let s := coreFresh s
    showClocks { s with sys := { s.sys with
      v18pg := true, coreOn := true, wiping := true, waitPg := false, attempts := 0 } }
  else s

/-- The wipe is complete: the causes are recorded, AON's log records enter, and the boot ROM runs. -/
def wipeComplete (s : State) : State :=
  if !s.sys.wiping then s
  else
    let s := ((s.wipe sramBase (sramBase + 0x100000)).wipe rsBase (rsBase + 0x1000)).wipe luxBase (luxBase + 0x40000)
    let s := logRelease (recordCauses s.sys.causes s)
    let s := if s.sys.hostUp then s.set Reg.HOST_EVT.HOSTUP else s
    { s with sys := { s.sys with wiping := false, causes := 0, hostUp := false } }

/-- V18_PG was not asserted in 20 ms (R36): V18_EN falls, the first time with the end of any hold, and a retry
follows, or after three the series is abandoned. -/
def v18Timeout (s : State) : State :=
  if !(s.sys.aonOn && s.sys.waitPg && s.sys.pgSince + 20000 ≤ s.tbase) then s
  else
    let n := s.sys.attempts + 1
    let s := if n = 1 then
        let s := ((s.clr Reg.SYS_PADHOLD.HOLD).wr Reg.RAIL_HELD0.CH 0).wr Reg.RAIL_HELD1.CH 0
        { s with pwr := { s.pwr with mode := .boot } }
      else s
    let s := if n < 3 then s else s.set Reg.SYS_RSTCAUSE.V18FAIL
    { s with sys := { s.sys with
        v18en := false, waitPg := false, retryWait := decide (n < 3), pgSince := s.tbase, attempts := n } }

/-- One second later V18_EN is asserted again. -/
def v18Retry (s : State) : State :=
  if s.sys.aonOn && s.sys.retryWait && s.sys.pgSince + 1000000 ≤ s.tbase then
    { s with sys := { s.sys with v18en := true, waitPg := true, retryWait := false, pgSince := s.tbase } }
  else s

/-! ### Cold reset (R34, R475) -/

/-- The straps are sampled (R50, R148). DESIGN CHOICE (log 18). -/
def sampleStraps (s : State) : State :=
  let n := s.board.ncell
  let ok := 1 ≤ n && n ≤ 5
  ((s.wr Reg.HOST_STAT.MODE s.board.hmode).wr Reg.PWR_STAT.CELLS (if ok then n else 1)).wrB Reg.PWR_STAT.CELLSBAD (!ok)

/-- The inputs are seen anew by the AON that was reset. DESIGN CHOICE (log 18). -/
def seeInputs (old : List (Nat × PwrIn)) (s : State) : State :=
  old.foldl (fun s p => inputSeen p.1 p.2.vinNow s) s

/-- Everything at its cold-reset value, AON, CORE, LUX and HOST without power: the Firn store, the fuses and what lies
outside the part stay. DEDUCED (log 104). -/
def coldState (s : State) : State :=
  let s := fgdDomainReset (nvcInterrupted s)
  { fields := resetCells, firn := s.firn, firnCorr := s.firnCorr, firnDed := s.firnDed
    tbase := s.tbase, rdata := s.rdata, free := s.free, pending := s.pending
    sys := { aonOn := false, coreOn := false, v18en := false, v18pg := false
             xtal := s.sys.xtal, activeSlot := s.sys.activeSlot }
    rail := { pins := s.rail.pins, passed := s.rail.pins }, thm := { fanvin := s.thm.fanvin }
    pwr := { ins := s.pwr.ins.foldl (fun l p => Sparse.put {} p.1 { vinNow := p.2.vinNow } l) [] }
    link := { resp := s.link.resp }
    sec := { fuses := s.sec.fuses, halfBad := s.sec.halfBad, trngAt := s.tbase + 1 }
    fgd := { flash := s.fgd.flash }, board := { s.board with vio := s.board.vio || s.hostOn } }

/-- With VIO_HOST present the HOST domain starts as at HOST power-up (R18, R475). DEDUCED (log 104). -/
def hostRestarts (s : State) : State := if s.board.vio then hostStarts s else s

/-- A cold reset, to the assertion of V18_EN: all AON state and HOST reset; the Firn store, the fuses and what lies
outside the part stay.  `start` is TBASE then. DESIGN CHOICE (log 14, 18). -/
def coldReset (causes start : Nat) (s : State) : State :=
  let t := coldState s
  let t := { t with
    tbase := start, pwr := {}, sec := { t.sec with trngAt := start + 1 }
    sys := { coreOn := false, v18pg := false, waitPg := true, pgSince := start, causes := causes
             xtal := t.sys.xtal, hostUp := t.board.vio, activeSlot := t.sys.activeSlot } }
  showClocks (seeInputs s.pwr.ins (hostRestarts (senseFuses (sampleStraps t))))

/-- The causes of a mask but for POR, which a power-up after a brownout does not set (R476). -/
def withoutPor (causes : Nat) : Nat :=
  let por := causeBit Reg.SYS_RSTCAUSE.POR
  if causes.testBit Reg.SYS_RSTCAUSE.POR.lo then causes - por else causes

/-- An AON brownout holds AON in reset, with the latch and every cause that arrived but POR; HOST, whose supply is the
host's, restarts with the straps it had (R18, R30, R476). DEDUCED (log 104). -/
def brownedOut (s : State) : State :=
  let mode := s.rd Reg.HOST_STAT.MODE
  let t := coldState s
  hostRestarts ({ t with sys := { t.sys with
    brownout := true, causes := withoutPor (s.sys.causes ||| s.sys.waitingCauses) } }.wr Reg.HOST_STAT.MODE mode)

/-- An accepted COREOFF or SHIP request is carried out (R23, R47): CORE is off and AON runs on, or the record being
written is completed, every rail enable is inactive, BATFET is open and everything is off but the comparator.
DESIGN CHOICE (log 19). -/
def offCarriedOut (s : State) : State :=
  match s.sys.offReq with
  | none => s
  | some .coreOff =>
    let s := coreLost true (holdRails s)
    showClocks { s with sys := { s.sys with coreOn := false, v18en := false, v18pg := false } }
  | some .ship =>
    let t := coldState (if s.log.front.isEmpty then s else recordWritten s)
    { t with sys := { t.sys with shipMode := true } }

/-- A reset that SYS_RSTREQ asked for, once the log front end has drained (R373). -/
def requestedReset (r : WaitingReset) (s : State) : State :=
  if s.coreUp && s.sys.waiting == some r && s.log.front.isEmpty then
    match r with
    | .domain => domainReset 0 s
    | .cold => coldReset (s.sys.causes ||| s.sys.waitingCauses) (1000 + s.freeVal) s.drawn
  else s

end Sys2Proof.Machine
end

