-- ==== Sys2Proof/Machine/SysCmd.lean ====
section
/-! DEFINITION. The meanings of the commands of the domains, resets, clocks and wake sources (chapter 01), of a core
write of any register, and of a life-cycle change. -/

namespace Sys2Proof.Machine

/-- REGISTER_WRITE (R9): A core write to a register field that has no row of its own, applied as its access code
states. DEDUCED (log 6). -/
def execRegisterWrite (a v : Word) (s : State) : Host.Outcome State Fault Refusal :=
  .next (coreStore a.toNat (fun s => writeValue s a 4 v) s)

/-- LUXEN (R21): A write of SYS_DOMCTRL.LUXEN switches LUX on, zeroing its memories, or switches its outputs and
supply off. -/
def execLuxen (v : Word) (s : State) : Host.Outcome State Fault Refusal :=
  .next (coreStore 0x40000010 (domctrlWrite v.toNat) s)

/-- LUX_READY (R21): The zeroing of the lighting memories completes and LUXRDY is set. -/
def execLuxReady (t : Nat) (s : State) : Host.Outcome State Fault Refusal := .next (luxReady (s.seen t))

/-- COREOFF (R23): A COREOFF request with KEY 0xA5 is refused or accepted against the conditions that stood before the
write. -/
def execCoreoff (v : Word) (s : State) : Host.Outcome State Fault Refusal :=
  .next (coreStore 0x40000010 (domctrlWrite (withBit Reg.SYS_DOMCTRL.COREOFF v)) s)

/-- SHIP (R47): A ship-mode request is refused, or rails drop, BATFET opens, the comparator is armed and all domains go
off. -/
def execShip (v : Word) (s : State) : Host.Outcome State Fault Refusal :=
  .next (coreStore 0x40000010 (domctrlWrite (withBit Reg.SYS_DOMCTRL.SHIP v)) s)

/-- The board's straps as they are sampled. -/
def strapped (hmode : Fin 4) (ncell : Fin 8) (s : State) : State :=
  { s with board := { s.board with hmode := hmode.val, ncell := ncell.val } }

/-- TBASE when V18_EN rises after power-up: 300 to 1,000 µs, a free value (R34). DESIGN CHOICE (log 14). -/
def startAt (s : State) : Nat := 300 + s.freeVal % 701

/-- SHIP_WAKE (R48): The ship-wake comparator fires on an input held at 4.0 V for 10 ms and starts a cold reset.  An
accepted SHIP request that is being carried out is finished first. -/
def execShipWake (hmode : Fin 4) (ncell : Fin 8) (s : State) : Host.Outcome State Fault Refusal :=
  let s := if s.sys.offReq = some .ship then offCarriedOut s else s
  .next (if s.sys.shipMode then
    coldReset (causeBit Reg.SYS_RSTCAUSE.SHIPWAKE) (startAt s) (strapped hmode ncell s.drawn) else s)

/-- A wake source fires.  The key scanner, the matcher and the alarm fire only where their own condition stands: an
unmasked key closed with the lock off, the keyboard unlocked, TBASE at SYS_WAKEALARM (R49, R208, R210).
DEDUCED (log 23). -/
def wakeSource (src : Nat) (s : State) : State :=
  let fire (s : State) : State := wakeFire ⟨0x40000044, src, 1⟩ ⟨0x40000040, src, 1⟩ s
  match src with
  | 3 => fire (if s.sys.aonOn then { s with board := { s.board with lid := !s.board.lid } } else s)
  | 4 => keySource s
  | 5 => if kbdLocked s then s else fire s
  | 7 => if s.sys.alarm ≤ s.tbase then fire s else s
  | _ => fire s

/-- WAKE_SOURCE (R49): A wake source fires, sets its SYS_WAKESTAT bit and, if enabled, wakes the KT8840 from the
AON-only state. -/
def execWakeSource (src : Fin 9) (t : Nat) (s : State) : Host.Outcome State Fault Refusal :=
  .next (wakeSource src.val (s.seen t))

/-- WAKE_ALARM (R49): TBASE reaches SYS_WAKEALARM and the alarm wake source fires. -/
def execWakeAlarm (t : Nat) (s : State) : Host.Outcome State Fault Refusal := .next (alarmCheck (s.seen t))

/-- SYS_WAKEALARMHI (R49): A write of the high alarm half takes both staged halves into effect together. -/
def execSysWakealarmhi (v : Word) (s : State) : Host.Outcome State Fault Refusal :=
  .next (coreStore 0x4000004C (alarmWrite v.toNat) s)

/-- CORESEL (R27): A write of CORESEL starts a core clock change and sets CLKBUSY, or is ignored as no change. -/
def execCoresel (v : Word) (s : State) : Host.Outcome State Fault Refusal :=
  .next (coreStore 0x40000030 (coreselWrite v.toNat) s)

/-- CLOCK_SETTLED (R27): The core regulator settles, the new core frequency takes effect and CLKBUSY clears. -/
def execClockSettled (t : Nat) (s : State) : Host.Outcome State Fault Refusal :=
  let s := s.seen t
  .next (if s.sys.coreOn then clockSettled s else s)

/-- PLL_LOSS_OF_LOCK (R28): The PLL loses lock, the clocks switch to OSC10, PLLLOCK clears and ERR records the
event. -/
def execPllLossOfLock (t : Nat) (s : State) : Host.Outcome State Fault Refusal :=
  let s := s.seen t
  .next (if s.sys.coreOn && s.on Reg.SYS_CLKCFG.PLLLOCK then pllLost s else s)

/-- PLL_LOCK_REGAINED (R28): While the clocks run on OSC10 after a loss of lock, the PLL locks again and PLLLOCK is
set. -/
def execPllLockRegained (t : Nat) (s : State) : Host.Outcome State Fault Refusal :=
  let s := s.seen t
  .next (if s.sys.coreOn && s.on Reg.SYS_CLKCFG.ONOSC10 then s.set Reg.SYS_CLKCFG.PLLLOCK else s)

/-- CRYSTAL_SOURCE_CHANGE (R26): The external 32.768 kHz crystal starts or stops running, LF passes between crystal and
internal RC, and SYS_CLKCFG.XTAL32 changes. -/
def execCrystalSourceChange (runs : Bool) (t : Nat) (s : State) : Host.Outcome State Fault Refusal :=
  let s := s.seen t
  let s := { s with sys := { s.sys with xtal := runs } }
  .next (if s.sys.coreOn then s.wrB Reg.SYS_CLKCFG.XTAL32 runs else s)

/-- A write of SYS_RSTREQ with its key and one request bit. -/
def resetRequest (bit : Nat) (v : Word) (s : State) : State :=
  coreStore 0x40000014 (rstreqWrite (0x5C000000 ||| 2 ^ bit ||| v.toNat % 16)) s

/-- SYS_RSTREQ_CORE (R29): A keyed write requests a core reset. -/
def execSysRstreqCore (v : Word) (s : State) : Host.Outcome State Fault Refusal := .next (resetRequest 0 v s)

/-- SYS_RSTREQ_DOMAIN (R29): A keyed write requests a domain reset, which waits for the log front end to drain. -/
def execSysRstreqDomain (v : Word) (s : State) : Host.Outcome State Fault Refusal := .next (resetRequest 1 v s)

/-- SYS_RSTREQ_COLD (R475): A keyed write requests a cold reset, which waits for the log front end to drain. -/
def execSysRstreqCold (v : Word) (s : State) : Host.Outcome State Fault Refusal := .next (resetRequest 2 v s)

/-- SYS_RSTREQ_HANDOVER (R365): A keyed write requests a core reset at which the boot ROM reads the hand-over block. -/
def execSysRstreqHandover (v : Word) (s : State) : Host.Outcome State Fault Refusal := .next (resetRequest 3 v s)

/-- DOMAIN_RESET (R31): CORE and LUX reset while AON holds rail enables, gate drives and VSYS regulation. -/
def execDomainReset (t : Nat) (s : State) : Host.Outcome State Fault Refusal :=
  .next (requestedReset .domain (s.seen t))

/-- COLD_RESET (R475): A cold reset with AON powered drops V18_EN, resets AON and HOST and reruns start-up. -/
def execColdReset (t : Nat) (s : State) : Host.Outcome State Fault Refusal :=
  .next (requestedReset .cold (s.seen t))

/-- AON_POWER_UP (R34): The AON supply crosses 4.0 V and start-up runs through fuse sensing to the assertion of V18_EN;
`latchKept` says that the supply stayed above 2.0 V since a brownout (R476). -/
def execAonPowerUp (hmode : Fin 4) (ncell : Fin 8) (latchKept : Bool) (s : State) :
    Host.Outcome State Fault Refusal :=
  .next (if s.sys.aonOn || s.sys.shipMode then s
    else
      let cause := if s.sys.brownout && latchKept then Reg.SYS_RSTCAUSE.AONBOR else Reg.SYS_RSTCAUSE.POR
      let waited := if s.sys.brownout && latchKept then s.sys.causes else 0
      coldReset (causeBit cause ||| waited) (startAt s) (strapped hmode ncell s.drawn))

/-- AON_BROWNOUT (R476): The AON supply falls below 3.6 V and a cold reset starts with the brownout latch kept. -/
def execAonBrownout (t : Nat) (s : State) : Host.Outcome State Fault Refusal :=
  let s := s.seen t
  .next (if s.sys.aonOn then brownedOut s else s)

/-- V18_PG_ASSERTED (R34): V18_PG arrives, the PLL locks and the hardware wipe starts. -/
def execV18PgAsserted (t : Nat) (s : State) : Host.Outcome State Fault Refusal := .next (v18Good (s.seen t))

/-- V18_PG_DEASSERTED (R36): V18_PG falls while CORE is on and a domain reset with cause CORESUP begins.  A cold reset
that waits is the deeper one (R30). -/
def execV18PgDeasserted (t : Nat) (s : State) : Host.Outcome State Fault Refusal :=
  let s := s.seen t
  .next (if !(s.sys.aonOn && s.sys.coreOn) then s
    else
      let c := causeBit Reg.SYS_RSTCAUSE.CORESUP
      if s.sys.waiting = some .cold then
        coldReset (s.sys.causes ||| s.sys.waitingCauses ||| c) (1000 + s.freeVal) s.drawn
      else domainReset c { s with sys := { s.sys with v18pg := false } })

/-- V18_PG_TIMEOUT (R36): V18_PG is not asserted within 20 ms; V18_EN drops, the fault pattern shows, and after three
attempts the series ends with V18FAIL. -/
def execV18PgTimeout (t : Nat) (s : State) : Host.Outcome State Fault Refusal := .next (v18Timeout (s.seen t))

/-- V18_RETRY (R36): One second after a failed attempt, V18_EN is asserted again. -/
def execV18Retry (t : Nat) (s : State) : Host.Outcome State Fault Refusal := .next (v18Retry (s.seen t))

/-- WIPE_COMPLETE (R33): The hardware wipe of main SRAM, lighting and return-stack memory ends and the core is released
to the boot ROM. -/
def execWipeComplete (t : Nat) (s : State) : Host.Outcome State Fault Refusal := .next (wipeComplete (s.seen t))

/-- HOLD_CLEAR (R141): Firmware clears SYS_PADHOLD.HOLD and the pins pass from AON to the channels. -/
def execHoldClear (v : Word) (s : State) : Host.Outcome State Fault Refusal :=
  .next (coreStore 0x40000018 (holdClear (v.toNat ||| 1)) s)

/-- ERR_ECCCNT_READ (R11): A read returns the Firn ECC counters and clears them. -/
def execErrEcccntRead (s : State) : Host.Outcome State Fault Refusal := .next (coreLoad 0x40150014 s)

/-- LIFE_CYCLE_CHANGE (R298): An accepted transition writes its record, burns both fuse halves and performs the
life-cycle change reset, which waits until the front end has drained (R373); a cold reset that waits is the deeper one
(R30). DEDUCED (log 22). -/
def execLifeCycleChange (aOk bOk : Bool) (t : Nat) (s : State) : Host.Outcome State Fault Refusal :=
  let s := s.seen t
  .next (match s.sec.seq with
    | some (.transition dst) =>
      if !(s.coreUp && s.log.front.isEmpty && s.nvc.cmd.isNone) then s
      else if !aOk then abandonTransition dst s
      else
        let c := causeBit Reg.SYS_RSTCAUSE.LCCHANGE
        let s := recordWritten (burned dst bOk s)
        if s.sys.waiting = some .cold then
          coldReset (s.sys.causes ||| s.sys.waitingCauses ||| c) (1000 + s.freeVal) s.drawn
        else kbdLifeCycle (retainedZeroed (domainReset c s))
    | _ => s)

end Sys2Proof.Machine
end

