-- ==== Sys2Proof/Machine/ThmCmd.lean ====
section
/-! DEFINITION. The meanings of the commands of temperature sensing and the fans (chapter 09). -/

namespace Sys2Proof.Machine

/-- STALE (R258): An enabled input not converted for 10 × STALE ms becomes STALE. -/
def execStale (n : Fin 20) (t : Nat) (s : State) : Host.Outcome State Fault Refusal :=
  .next (thmStale n.val (s.seen t))

/-- THM_LOCK (R261): THM_CTRL.LOCK locks the tables, configurations, thresholds and THM_ACT. -/
def execThmLock (v : Word) (s : State) : Host.Outcome State Fault Refusal :=
  .next (coreStore 0x400A0000 (thmWrite 0x400A0000 (withBit Reg.THM_CTRL.LOCK v)) s)

/-- FAN_SPINUP_OK (R264): Two tach edges or ripple at 300 rpm move SPINUP to RUN. -/
def execFanSpinupOk (n : Fin 4) (edges : Bool) (r : FanReading) (t : Nat) (s : State) :
    Host.Outcome State Fault Refusal :=
  .next (fanStarted n.val edges (fanRead n.val r (s.seen t)))

/-- SPINUP_TIMEOUT (R264): Spin-up fails after 1.5 s: RETRYWAIT, or STALL with BLOCKED at TRIES=3. -/
def execSpinupTimeout (n : Fin 4) (t : Nat) (s : State) : Host.Outcome State Fault Refusal :=
  .next (fanSpinFail n.val (s.seen t))

/-- RETRYWAIT_END (R264): After 2 s in RETRYWAIT the channel spins up again. -/
def execRetrywaitEnd (n : Fin 4) (t : Nat) (s : State) : Host.Outcome State Fault Refusal :=
  let s := s.seen t
  .next (if fanState s n.val == fnRetry && fanTimer s n.val 2000000 then fanGo n.val fnSpinup s else s)

/-- FAN_STALL (R264): High current without ripple for 500 ms in RUN enters STALL. -/
def execFanStall (n : Fin 4) (r : FanReading) (t : Nat) (s : State) : Host.Outcome State Fault Refusal :=
  let s := fanRead n.val r (s.seen t)
  .next (if fanState s n.val == fnRun && fanPowered s && decide (s.rd (Reg.FAN_ILIM.ISTALL n.val) ≤ fanCurrent r)
      && s.rd (Reg.FAN_SPD.RRPM n.val) == 0 then fanStall n.val 2 s else s)

/-- FAN_NOLOAD (R264): Low current, no tach and no ripple for 500 ms enter NOLOAD. -/
def execFanNoload (n : Fin 4) (r : FanReading) (t : Nat) (s : State) : Host.Outcome State Fault Refusal :=
  let s := fanRead n.val r (s.seen t)
  .next (if (fanState s n.val == fnRun || fanState s n.val == fnSpinup) && fanPowered s
      && decide (fanCurrent r < s.rd (Reg.FAN_ILIM.INOLOAD n.val)) && s.rd (Reg.FAN_SPD.TRPM n.val) == 0
      && s.rd (Reg.FAN_SPD.RRPM n.val) == 0 then fanNoload n.val s else s)

/-- NOLOAD_RETRY (R264): After 10 s in NOLOAD the channel spins up again. -/
def execNoloadRetry (n : Fin 4) (t : Nat) (s : State) : Host.Outcome State Fault Refusal :=
  let s := s.seen t
  .next (if fanState s n.val == fnNoload && fanTimer s n.val 10000000 then
      (fanGo n.val fnSpinup s).wr (Reg.FAN_STATn.TRIES n.val) 0 else s)

/-- TACHLOST (R265): A silent tach for 500 ms with ripple present sets TACHLOST. -/
def execTachlost (n : Fin 4) (r : FanReading) (t : Nat) (s : State) : Host.Outcome State Fault Refusal :=
  let s := fanRead n.val r (s.seen t)
  .next (if fanState s n.val == fnRun && fanPowered s && s.on (Reg.FAN_CTRL.TACHEN n.val) && r.period == 0
      && decide (s.rd (Reg.FAN_ILIM.INOLOAD n.val) ≤ fanCurrent r) && decide (fanCurrent r < s.rd (Reg.FAN_ILIM.ISTALL n.val))
      && decide (300 ≤ s.rd (Reg.FAN_SPD.RRPM n.val)) then
      (s.set (Reg.FAN_STATn.TACHLOST n.val)).setBit Reg.FAN_EVT.TACHLOST n.val else s)

/-- TACH_RETURN (R265): The next tach edge clears TACHLOST. -/
def execTachReturn (n : Fin 4) (t : Nat) (s : State) : Host.Outcome State Fault Refusal :=
  .next ((s.seen t).clr (Reg.FAN_STATn.TACHLOST n.val))

/-- FANVIN_UV (R262): FANVIN below 4.3 V turns every fan output off. -/
def execFanvinUv (mv t : Nat) (s : State) : Host.Outcome State Fault Refusal := .next (fanvinSeen mv (s.seen t))

/-- FANVIN_RETURN (R262): FANVIN at 4.5 V restarts the running channels in SPINUP. -/
def execFanvinReturn (mv t : Nat) (s : State) : Host.Outcome State Fault Refusal :=
  .next (fanvinSeen mv (s.seen t))

/-- FAN_CLR (R264): FAN_CTRLn.CLR moves a STALL channel to OFF. -/
def execFanClr (n : Fin 4) (v : Word) (s : State) : Host.Outcome State Fault Refusal :=
  .next (coreStore (0x40090100 + 0x40 * n.val) (fanCtrlWrite n.val (v.toNat ||| 8)) s)

/-- FAN_MODE_OFF (R264): A write of MODE=OFF turns the channel off. -/
def execFanModeOff (n : Fin 4) (v : Word) (s : State) : Host.Outcome State Fault Refusal :=
  .next (coreStore (0x40090100 + 0x40 * n.val) (fanCtrlWrite n.val (v.toNat / 4 * 4)) s)

end Sys2Proof.Machine
end

