-- ==== Sys2Proof/Machine/Dispatch.lean ====
section
/-! DEFINITION. The dispatch: one arm per command, each one direct call of its meaning. -/

namespace Sys2Proof.Machine

/-- The effect of a command on everything but the queue. -/
def exec (i : Instr) (s : State) : Host.Outcome State Fault Refusal :=
  match i with
  | .registerWrite a v => Sys2Proof.Machine.execRegisterWrite a v s
  | .luxen v => Sys2Proof.Machine.execLuxen v s
  | .luxReady t => Sys2Proof.Machine.execLuxReady t s
  | .coreoff v => Sys2Proof.Machine.execCoreoff v s
  | .ship v => Sys2Proof.Machine.execShip v s
  | .shipWake hmode ncell => Sys2Proof.Machine.execShipWake hmode ncell s
  | .wakeSource src t => Sys2Proof.Machine.execWakeSource src t s
  | .wakeAlarm t => Sys2Proof.Machine.execWakeAlarm t s
  | .sysWakealarmhi v => Sys2Proof.Machine.execSysWakealarmhi v s
  | .coresel v => Sys2Proof.Machine.execCoresel v s
  | .clockSettled t => Sys2Proof.Machine.execClockSettled t s
  | .pllLossOfLock t => Sys2Proof.Machine.execPllLossOfLock t s
  | .sysRstreqCore v => Sys2Proof.Machine.execSysRstreqCore v s
  | .sysRstreqDomain v => Sys2Proof.Machine.execSysRstreqDomain v s
  | .sysRstreqCold v => Sys2Proof.Machine.execSysRstreqCold v s
  | .sysRstreqHandover v => Sys2Proof.Machine.execSysRstreqHandover v s
  | .domainReset t => Sys2Proof.Machine.execDomainReset t s
  | .coldReset t => Sys2Proof.Machine.execColdReset t s
  | .aonPowerUp hmode ncell latchKept => Sys2Proof.Machine.execAonPowerUp hmode ncell latchKept s
  | .aonBrownout t => Sys2Proof.Machine.execAonBrownout t s
  | .v18PgAsserted t => Sys2Proof.Machine.execV18PgAsserted t s
  | .v18PgDeasserted t => Sys2Proof.Machine.execV18PgDeasserted t s
  | .v18PgTimeout t => Sys2Proof.Machine.execV18PgTimeout t s
  | .v18Retry t => Sys2Proof.Machine.execV18Retry t s
  | .wipeComplete t => Sys2Proof.Machine.execWipeComplete t s
  | .holdClear v => Sys2Proof.Machine.execHoldClear v s
  | .memoryRead x addr len => Sys2Proof.Machine.execMemoryRead x addr len s
  | .memoryWrite x addr data => Sys2Proof.Machine.execMemoryWrite x addr data s
  | .ioRead x port => Sys2Proof.Machine.execIoRead x port s
  | .ioWrite x port data => Sys2Proof.Machine.execIoWrite x port data s
  | .putVw x groups => Sys2Proof.Machine.execPutVw x groups s
  | .getVw x => Sys2Proof.Machine.execGetVw x s
  | .putOob x msg => Sys2Proof.Machine.execPutOob x msg s
  | .getOob x => Sys2Proof.Machine.execGetOob x s
  | .putFlash x tag ask => Sys2Proof.Machine.execPutFlash x tag ask s
  | .getFlash x => Sys2Proof.Machine.execGetFlash x s
  | .getStatus x => Sys2Proof.Machine.execGetStatus x s
  | .getConfiguration x addr => Sys2Proof.Machine.execGetConfiguration x addr s
  | .setConfiguration x addr v => Sys2Proof.Machine.execSetConfiguration x addr v s
  | .resetCommand x => Sys2Proof.Machine.execResetCommand x s
  | .unsupportedCommand x kind => Sys2Proof.Machine.execUnsupportedCommand x kind s
  | .holdExpiry t => Sys2Proof.Machine.execHoldExpiry t s
  | .singleReadFrame x addr len => Sys2Proof.Machine.execSingleReadFrame x addr len s
  | .singleWriteFrame x addr data => Sys2Proof.Machine.execSingleWriteFrame x addr data s
  | .quadReadFrame x addr len => Sys2Proof.Machine.execQuadReadFrame x addr len s
  | .quadWriteFrame x addr data => Sys2Proof.Machine.execQuadWriteFrame x addr data s
  | .unknownOpcode x => Sys2Proof.Machine.execUnknownOpcode x s
  | .hostReset t => Sys2Proof.Machine.execHostReset t s
  | .hostPowerUp t => Sys2Proof.Machine.execHostPowerUp t s
  | .hostPowerLoss t => Sys2Proof.Machine.execHostPowerLoss t s
  | .postOpen v => Sys2Proof.Machine.execPostOpen v s
  | .postClose v => Sys2Proof.Machine.execPostClose v s
  | .postAbort v => Sys2Proof.Machine.execPostAbort v s
  | .apertureWrite off v => Sys2Proof.Machine.execApertureWrite off v s
  | .hostWinen v => Sys2Proof.Machine.execHostWinen v s
  | .oobRel v => Sys2Proof.Machine.execOobRel v s
  | .oobGo v => Sys2Proof.Machine.execOobGo v s
  | .hostVwout v => Sys2Proof.Machine.execHostVwout v s
  | .hostErrcntRead => Sys2Proof.Machine.execHostErrcntRead s
  | .mbxTake v => Sys2Proof.Machine.execMbxTake v s
  | .fwready v => Sys2Proof.Machine.execFwready v s
  | .mbxDone v => Sys2Proof.Machine.execMbxDone v s
  | .directWindowWrite off v => Sys2Proof.Machine.execDirectWindowWrite off v s
  | .rdEc x addr => Sys2Proof.Machine.execRdEc x addr s
  | .wrEc x addr data => Sys2Proof.Machine.execWrEc x addr data s
  | .beEc x => Sys2Proof.Machine.execBeEc x s
  | .bdEc x => Sys2Proof.Machine.execBdEc x s
  | .qrEc x => Sys2Proof.Machine.execQrEc x s
  | .ecForwardedCommand x cmd data => Sys2Proof.Machine.execEcForwardedCommand x cmd data s
  | .mbxEcout v => Sys2Proof.Machine.execMbxEcout v s
  | .mbxEcqpush v => Sys2Proof.Machine.execMbxEcqpush v s
  | .ecImageWrite off v => Sys2Proof.Machine.execEcImageWrite off v s
  | .mbxEcinRead => Sys2Proof.Machine.execMbxEcinRead s
  | .mbxEcwqRead => Sys2Proof.Machine.execMbxEcwqRead s
  | .mbxCntRead => Sys2Proof.Machine.execMbxCntRead s
  | .bulkMoverTransfer n t => Sys2Proof.Machine.execBulkMoverTransfer n t s
  | .unitCloseComplete t => Sys2Proof.Machine.execUnitCloseComplete t s
  | .mbxBulkrd => Sys2Proof.Machine.execMbxBulkrd s
  | .mbxBulkwr v => Sys2Proof.Machine.execMbxBulkwr v s
  | .mbxBulkack v => Sys2Proof.Machine.execMbxBulkack v s
  | .slotEnable n v => Sys2Proof.Machine.execSlotEnable n v s
  | .slotDisable n v => Sys2Proof.Machine.execSlotDisable n v s
  | .lpeRun v => Sys2Proof.Machine.execLpeRun v s
  | .lpeLock v => Sys2Proof.Machine.execLpeLock v s
  | .lpeNowloRead => Sys2Proof.Machine.execLpeNowloRead s
  | .lpeSstatRead n => Sys2Proof.Machine.execLpeSstatRead n s
  | .slotRelease n t => Sys2Proof.Machine.execSlotRelease n t s
  | .actionStart n t data => Sys2Proof.Machine.execActionStart n t data s
  | .actionFinish n t => Sys2Proof.Machine.execActionFinish n t s
  | .railClr upper v => Sys2Proof.Machine.execRailClr upper v s
  | .fltholdClear v => Sys2Proof.Machine.execFltholdClear v s
  | .powerGoodChange n level t => Sys2Proof.Machine.execPowerGoodChange n level t s
  | .inputValid n vin t => Sys2Proof.Machine.execInputValid n vin t s
  | .qualified n t => Sys2Proof.Machine.execQualified n t s
  | .deadTimeEnd t => Sys2Proof.Machine.execDeadTimeEnd t s
  | .unplug n t => Sys2Proof.Machine.execUnplug n t s
  | .inputLoss n vin t => Sys2Proof.Machine.execInputLoss n vin t s
  | .take v => Sys2Proof.Machine.execTake v s
  | .reprobe n t => Sys2Proof.Machine.execReprobe n t s
  | .floorLoop n t => Sys2Proof.Machine.execFloorLoop n t s
  | .batteryRemoval cond t => Sys2Proof.Machine.execBatteryRemoval cond t s
  | .removalClear t => Sys2Proof.Machine.execRemovalClear t s
  | .ovp n vin t => Sys2Proof.Machine.execOvp n vin t s
  | .ocp n t => Sys2Proof.Machine.execOcp n t s
  | .reverseCurrent n t => Sys2Proof.Machine.execReverseCurrent n t s
  | .vsysOvervoltage vsys t => Sys2Proof.Machine.execVsysOvervoltage vsys t s
  | .vsysUndervoltage vsys t => Sys2Proof.Machine.execVsysUndervoltage vsys t s
  | .typecAttach p source flipped rp t => Sys2Proof.Machine.execTypecAttach p source flipped rp t s
  | .typecDetach p t => Sys2Proof.Machine.execTypecDetach p t s
  | .sourceCapabilities p pdos eprOk t => Sys2Proof.Machine.execSourceCapabilities p pdos eprOk t s
  | .keepAlive p t => Sys2Proof.Machine.execKeepAlive p t s
  | .pdReq p v => Sys2Proof.Machine.execPdReq p v s
  | .requestReply p accepted obj curr t => Sys2Proof.Machine.execRequestReply p accepted obj curr t s
  | .vdmReceived p sop words t => Sys2Proof.Machine.execVdmReceived p sop words t s
  | .rxrel p v => Sys2Proof.Machine.execRxrel p v s
  | .txgo p v acked => Sys2Proof.Machine.execTxgo p v acked s
  | .vdmTimeout p t => Sys2Proof.Machine.execVdmTimeout p t s
  | .hardReset p t => Sys2Proof.Machine.execHardReset p t s
  | .prSwap p toSource t => Sys2Proof.Machine.execPrSwap p toSource t s
  | .drSwap p toDfp t => Sys2Proof.Machine.execDrSwap p toDfp t s
  | .vconnSwap p t => Sys2Proof.Machine.execVconnSwap p t s
  | .alertReceived p t => Sys2Proof.Machine.execAlertReceived p t s
  | .notSupportedMessage p t => Sys2Proof.Machine.execNotSupportedMessage p t s
  | .bandChange code t => Sys2Proof.Machine.execBandChange code t s
  | .thshort code t => Sys2Proof.Machine.execThshort code t s
  | .batov vbat t => Sys2Proof.Machine.execBatov vbat t s
  | .chgocp ibat t => Sys2Proof.Machine.execChgocp ibat t s
  | .dieStop t => Sys2Proof.Machine.execDieStop t s
  | .dieResume t => Sys2Proof.Machine.execDieResume t s
  | .safetyTimerTick t => Sys2Proof.Machine.execSafetyTimerTick t s
  | .timerFault t => Sys2Proof.Machine.execTimerFault t s
  | .cycleTimeout t => Sys2Proof.Machine.execCycleTimeout t s
  | .fltclr v => Sys2Proof.Machine.execFltclr v s
  | .qclr v => Sys2Proof.Machine.execQclr v s
  | .chgLock v => Sys2Proof.Machine.execChgLock v s
  | .qaccWrap charge t => Sys2Proof.Machine.execQaccWrap charge t s
  | .reverseStop t => Sys2Proof.Machine.execReverseStop t s
  | .reverseOcp x => Sys2Proof.Machine.execReverseOcp x s
  | .reverseVbatLow vbat t => Sys2Proof.Machine.execReverseVbatLow vbat t s
  | .kscDeliv0Read => Sys2Proof.Machine.execKscDeliv0Read s
  | .stuckMask t => Sys2Proof.Machine.execStuckMask t s
  | .sleepScan keys t => Sys2Proof.Machine.execSleepScan keys t s
  | .scannerHandover v => Sys2Proof.Machine.execScannerHandover v s
  | .kscLock v => Sys2Proof.Machine.execKscLock v s
  | .kscUnlock v => Sys2Proof.Machine.execKscUnlock v s
  | .sequenceWrite k upper v => Sys2Proof.Machine.execSequenceWrite k upper v s
  | .stepTimeout t => Sys2Proof.Machine.execStepTimeout t s
  | .backoffEnd t => Sys2Proof.Machine.execBackoffEnd t s
  | .timerSync t => Sys2Proof.Machine.execTimerSync t s
  | .lsyncInEdge t => Sys2Proof.Machine.execLsyncInEdge t s
  | .syncnow v => Sys2Proof.Machine.execSyncnow v s
  | .syncFallback t => Sys2Proof.Machine.execSyncFallback t s
  | .fwclose v => Sys2Proof.Machine.execFwclose v s
  | .occlose v => Sys2Proof.Machine.execOcclose v s
  | .present t => Sys2Proof.Machine.execPresent t s
  | .luxEnSet v => Sys2Proof.Machine.execLuxEnSet v s
  | .luxEnClear v => Sys2Proof.Machine.execLuxEnClear v s
  | .matrixTimingWrite cfg v => Sys2Proof.Machine.execMatrixTimingWrite cfg v s
  | .scanEnd r t => Sys2Proof.Machine.execScanEnd r t s
  | .vledOvervoltage vled t => Sys2Proof.Machine.execVledOvervoltage vled t s
  | .luxDiagclr v => Sys2Proof.Machine.execLuxDiagclr v s
  | .luxCntRead => Sys2Proof.Machine.execLuxCntRead s
  | .chnEnable v => Sys2Proof.Machine.execChnEnable v s
  | .chnDisable v => Sys2Proof.Machine.execChnDisable v s
  | .enumStatusReturn hops t => Sys2Proof.Machine.execEnumStatusReturn hops t s
  | .statusResponse r t => Sys2Proof.Machine.execStatusResponse r t s
  | .commit v => Sys2Proof.Machine.execCommit v s
  | .reenum v => Sys2Proof.Machine.execReenum v s
  | .enumRetry t => Sys2Proof.Machine.execEnumRetry t s
  | .returnedSync mmap dmap crcOk t => Sys2Proof.Machine.execReturnedSync mmap dmap crcOk t s
  | .chainBreak t => Sys2Proof.Machine.execChainBreak t s
  | .chnDiagreq v => Sys2Proof.Machine.execChnDiagreq v s
  | .diagResponse first count states t => Sys2Proof.Machine.execDiagResponse first count states t s
  | .chnCntRead => Sys2Proof.Machine.execChnCntRead s
  | .chnDstatRead j => Sys2Proof.Machine.execChnDstatRead j s
  | .stale n t => Sys2Proof.Machine.execStale n t s
  | .thmLock v => Sys2Proof.Machine.execThmLock v s
  | .fanSpinupOk n edges r t => Sys2Proof.Machine.execFanSpinupOk n edges r t s
  | .spinupTimeout n t => Sys2Proof.Machine.execSpinupTimeout n t s
  | .retrywaitEnd n t => Sys2Proof.Machine.execRetrywaitEnd n t s
  | .fanStall n r t => Sys2Proof.Machine.execFanStall n r t s
  | .fanNoload n r t => Sys2Proof.Machine.execFanNoload n r t s
  | .noloadRetry n t => Sys2Proof.Machine.execNoloadRetry n t s
  | .tachlost n r t => Sys2Proof.Machine.execTachlost n r t s
  | .tachReturn n t => Sys2Proof.Machine.execTachReturn n t s
  | .fanvinUv mv t => Sys2Proof.Machine.execFanvinUv mv t s
  | .fanvinReturn mv t => Sys2Proof.Machine.execFanvinReturn mv t s
  | .fanClr n v => Sys2Proof.Machine.execFanClr n v s
  | .fanModeOff n v => Sys2Proof.Machine.execFanModeOff n v s
  | .frameReceived p f x t => Sys2Proof.Machine.execFrameReceived p f x t s
  | .txctlGo p v => Sys2Proof.Machine.execTxctlGo p v s
  | .attemptEnd p how x t => Sys2Proof.Machine.execAttemptEnd p how x t s
  | .retryBackoffEnd p t => Sys2Proof.Machine.execRetryBackoffEnd p t s
  | .kcfgValid e v => Sys2Proof.Machine.execKcfgValid e v s
  | .rxpop p v => Sys2Proof.Machine.execRxpop p v s
  | .portEnable p v => Sys2Proof.Machine.execPortEnable p v s
  | .floePerrRead p k => Sys2Proof.Machine.execFloePerrRead p k s
  | .discover p t => Sys2Proof.Machine.execDiscover p t s
  | .presence p f x t => Sys2Proof.Machine.execPresence p f x t s
  | .qassign p uid t => Sys2Proof.Machine.execQassign p uid t s
  | .certReq p id t => Sys2Proof.Machine.execCertReq p id t s
  | .cert p f x t => Sys2Proof.Machine.execCert p f x t s
  | .challenge p id t => Sys2Proof.Machine.execChallenge p id t s
  | .response p f x t => Sys2Proof.Machine.execResponse p f x t s
  | .moduleAdmit p id t => Sys2Proof.Machine.execModuleAdmit p id t s
  | .reject p id t => Sys2Proof.Machine.execReject p id t s
  | .read p id obj t => Sys2Proof.Machine.execRead p id obj t s
  | .write p id obj value t => Sys2Proof.Machine.execWrite p id obj value t s
  | .ping p id t => Sys2Proof.Machine.execPing p id t s
  | .readResp p f x t => Sys2Proof.Machine.execReadResp p f x t s
  | .writeAck p f x t => Sys2Proof.Machine.execWriteAck p f x t s
  | .pong p f x t => Sys2Proof.Machine.execPong p f x t s
  | .notify p f x t => Sys2Proof.Machine.execNotify p f x t s
  | .error p f x t => Sys2Proof.Machine.execError p f x t s
  | .secLcreq v supply => Sys2Proof.Machine.execSecLcreq v supply s
  | .lifeCycleChange aOk bOk t => Sys2Proof.Machine.execLifeCycleChange aOk bOk t s
  | .gofw v supply => Sys2Proof.Machine.execGofw v supply s
  | .gohost v supply => Sys2Proof.Machine.execGohost v supply s
  | .oemProg v supply => Sys2Proof.Machine.execOemProg v supply s
  | .oemRevoke v supply => Sys2Proof.Machine.execOemRevoke v supply s
  | .newnonce v => Sys2Proof.Machine.execNewnonce v s
  | .submit v => Sys2Proof.Machine.execSubmit v s
  | .tokenCheckDone supply t => Sys2Proof.Machine.execTokenCheckDone supply t s
  | .debugPortToken tok t => Sys2Proof.Machine.execDebugPortToken tok t s
  | .hash256 v => Sys2Proof.Machine.execHash256 v s
  | .hash384 v => Sys2Proof.Machine.execHash384 v s
  | .gcm v => Sys2Proof.Machine.execGcm v s
  | .cmac v => Sys2Proof.Machine.execCmac v s
  | .verify256 v => Sys2Proof.Machine.execVerify256 v s
  | .verify384 v => Sys2Proof.Machine.execVerify384 v s
  | .sign256 v => Sys2Proof.Machine.execSign256 v s
  | .sign384 v => Sys2Proof.Machine.execSign384 v s
  | .ecdh256 v => Sys2Proof.Machine.execEcdh256 v s
  | .generate v => Sys2Proof.Machine.execGenerate v s
  | .derive v => Sys2Proof.Machine.execDerive v s
  | .load v => Sys2Proof.Machine.execLoad v s
  | .cryptoAttest v => Sys2Proof.Machine.execCryptoAttest v s
  | .random v => Sys2Proof.Machine.execRandom v s
  | .commandDone t => Sys2Proof.Machine.execCommandDone t s
  | .kslotClr k v => Sys2Proof.Machine.execKslotClr k v s
  | .trngFail t => Sys2Proof.Machine.execTrngFail t s
  | .trngRecover t => Sys2Proof.Machine.execTrngRecover t s
  | .secTrngRead => Sys2Proof.Machine.execSecTrngRead s
  | .ikReady t => Sys2Proof.Machine.execIkReady t s
  | .ucodeLock v => Sys2Proof.Machine.execUcodeLock v s
  | .bootSlotStart t => Sys2Proof.Machine.execBootSlotStart t s
  | .fgdStart v dev0 dev1 => Sys2Proof.Machine.execFgdStart v dev0 dev1 s
  | .verificationDone t => Sys2Proof.Machine.execVerificationDone t s
  | .rsmen v => Sys2Proof.Machine.execRsmen v s
  | .fgdPlock v => Sys2Proof.Machine.execFgdPlock v s
  | .flashRead v => Sys2Proof.Machine.execFlashRead v s
  | .flashWrite v => Sys2Proof.Machine.execFlashWrite v s
  | .flashErase v => Sys2Proof.Machine.execFlashErase v s
  | .flashOperationDone t => Sys2Proof.Machine.execFlashOperationDone t s
  | .deviceTimeout t => Sys2Proof.Machine.execDeviceTimeout t s
  | .fgdCntRead => Sys2Proof.Machine.execFgdCntRead s
  | .promoGo v => Sys2Proof.Machine.execPromoGo v s
  | .promoCancel v => Sys2Proof.Machine.execPromoCancel v s
  | .promotionVerified t => Sys2Proof.Machine.execPromotionVerified t s
  | .nvcProgram v => Sys2Proof.Machine.execNvcProgram v s
  | .nvcErase v => Sys2Proof.Machine.execNvcErase v s
  | .nvcRead v => Sys2Proof.Machine.execNvcRead v s
  | .nvcDone bad t => Sys2Proof.Machine.execNvcDone bad t s
  | .confArm v => Sys2Proof.Machine.execConfArm v s
  | .nvcConfirm v => Sys2Proof.Machine.execNvcConfirm v s
  | .confirmationExpiry t => Sys2Proof.Machine.execConfirmationExpiry t s
  | .pieceDelivered t => Sys2Proof.Machine.execPieceDelivered t s
  | .sessionIdleExpiry t => Sys2Proof.Machine.execSessionIdleExpiry t s
  | .autoConfirm t => Sys2Proof.Machine.execAutoConfirm t s
  | .logCommit v => Sys2Proof.Machine.execLogCommit v s
  | .recordWritten t => Sys2Proof.Machine.execRecordWritten t s
  | .logFlush v => Sys2Proof.Machine.execLogFlush v s
  | .logCntRead => Sys2Proof.Machine.execLogCntRead s
  | .errEcccntRead => Sys2Proof.Machine.execErrEcccntRead s
  | .smartBatteryPoll r t => Sys2Proof.Machine.execSmartBatteryPoll r t s
  | .gaugeCheck t => Sys2Proof.Machine.execGaugeCheck t s
  | .policyRestore t => Sys2Proof.Machine.execPolicyRestore t s
  | .getIdentity tag => Sys2Proof.Machine.execGetIdentity tag s
  | .getCaps tag => Sys2Proof.Machine.execGetCaps tag s
  | .getEvents tag => Sys2Proof.Machine.execGetEvents tag s
  | .sealHost tag => Sys2Proof.Machine.execSealHost tag s
  | .getTime tag => Sys2Proof.Machine.execGetTime tag s
  | .restartFw tag => Sys2Proof.Machine.execRestartFw tag s
  | .getPowerState tag => Sys2Proof.Machine.execGetPowerState tag s
  | .getRail tag => Sys2Proof.Machine.execGetRail tag s
  | .clearRailFault tag => Sys2Proof.Machine.execClearRailFault tag s
  | .resumeDecoder tag => Sys2Proof.Machine.execResumeDecoder tag s
  | .setWake tag => Sys2Proof.Machine.execSetWake tag s
  | .enterShip tag => Sys2Proof.Machine.execEnterShip tag s
  | .getBattery tag => Sys2Proof.Machine.execGetBattery tag s
  | .getCharger tag => Sys2Proof.Machine.execGetCharger tag s
  | .getPacks tag => Sys2Proof.Machine.execGetPacks tag s
  | .clearChargeFault tag => Sys2Proof.Machine.execClearChargeFault tag s
  | .setChargeLimits tag => Sys2Proof.Machine.execSetChargeLimits tag s
  | .getPort tag => Sys2Proof.Machine.execGetPort tag s
  | .getSourceCaps tag => Sys2Proof.Machine.execGetSourceCaps tag s
  | .requestPdo tag => Sys2Proof.Machine.execRequestPdo tag s
  | .sendVdm tag acked => Sys2Proof.Machine.execSendVdm tag acked s
  | .getVdm tag => Sys2Proof.Machine.execGetVdm tag s
  | .setPortPolicy tag => Sys2Proof.Machine.execSetPortPolicy tag s
  | .setReverse tag => Sys2Proof.Machine.execSetReverse tag s
  | .getThermal tag => Sys2Proof.Machine.execGetThermal tag s
  | .getFans tag => Sys2Proof.Machine.execGetFans tag s
  | .setFan tag => Sys2Proof.Machine.execSetFan tag s
  | .clearStall tag => Sys2Proof.Machine.execClearStall tag s
  | .setProfile tag => Sys2Proof.Machine.execSetProfile tag s
  | .getKbdConfig tag => Sys2Proof.Machine.execGetKbdConfig tag s
  | .setStuck tag => Sys2Proof.Machine.execSetStuck tag s
  | .lock tag => Sys2Proof.Machine.execLock tag s
  | .unlockSigned tag => Sys2Proof.Machine.execUnlockSigned tag s
  | .setUnlockSeq tag => Sys2Proof.Machine.execSetUnlockSeq tag s
  | .getLighting tag => Sys2Proof.Machine.execGetLighting tag s
  | .setLighting tag => Sys2Proof.Machine.execSetLighting tag s
  | .setLampRegion tag => Sys2Proof.Machine.execSetLampRegion tag s
  | .setCcm tag => Sys2Proof.Machine.execSetCcm tag s
  | .setChainDriver tag => Sys2Proof.Machine.execSetChainDriver tag s
  | .chainCommit tag => Sys2Proof.Machine.execChainCommit tag s
  | .getChain tag => Sys2Proof.Machine.execGetChain tag s
  | .getDiag tag => Sys2Proof.Machine.execGetDiag tag s
  | .clearDiag tag => Sys2Proof.Machine.execClearDiag tag s
  | .getModules tag => Sys2Proof.Machine.execGetModules tag s
  | .moduleRead tag => Sys2Proof.Machine.execModuleRead tag s
  | .moduleWrite tag => Sys2Proof.Machine.execModuleWrite tag s
  | .rediscover tag => Sys2Proof.Machine.execRediscover tag s
  | .getNonce tag => Sys2Proof.Machine.execGetNonce tag s
  | .submitToken tag => Sys2Proof.Machine.execSubmitToken tag s
  | .attest tag => Sys2Proof.Machine.execAttest tag s
  | .getReport tag => Sys2Proof.Machine.execGetReport tag s
  | .getIdentityKey tag => Sys2Proof.Machine.execGetIdentityKey tag s
  | .getLifeCycle tag => Sys2Proof.Machine.execGetLifeCycle tag s
  | .getFlashStatus tag => Sys2Proof.Machine.execGetFlashStatus tag s
  | .promote tag => Sys2Proof.Machine.execPromote tag s
  | .cancelPromote tag => Sys2Proof.Machine.execCancelPromote tag s
  | .confirmBoot tag => Sys2Proof.Machine.execConfirmBoot tag s
  | .getDigest tag => Sys2Proof.Machine.execGetDigest tag s
  | .sessionOpen tag => Sys2Proof.Machine.execSessionOpen tag s
  | .piece tag => Sys2Proof.Machine.execPiece tag s
  | .status tag => Sys2Proof.Machine.execStatus tag s
  | .activate tag => Sys2Proof.Machine.execActivate tag s
  | .cancel tag => Sys2Proof.Machine.execCancel tag s
  | .confirm tag => Sys2Proof.Machine.execConfirm tag s
  | .getLogInfo tag => Sys2Proof.Machine.execGetLogInfo tag s
  | .readLog tag => Sys2Proof.Machine.execReadLog tag s
  | .writeLog tag => Sys2Proof.Machine.execWriteLog tag s
  | .getSetting tag => Sys2Proof.Machine.execGetSetting tag s
  | .setSetting tag => Sys2Proof.Machine.execSetSetting tag s
  | .deleteSetting tag => Sys2Proof.Machine.execDeleteSetting tag s
  | .add p d src t => Sys2Proof.Machine.execAdd p d src t s
  | .sub p d src t => Sys2Proof.Machine.execSub p d src t s
  | .and p d src t => Sys2Proof.Machine.execAnd p d src t s
  | .or p d src t => Sys2Proof.Machine.execOr p d src t s
  | .xor p d src t => Sys2Proof.Machine.execXor p d src t s
  | .andn p d src t => Sys2Proof.Machine.execAndn p d src t s
  | .shl p d src t => Sys2Proof.Machine.execShl p d src t s
  | .shr p d src t => Sys2Proof.Machine.execShr p d src t s
  | .sar p d src t => Sys2Proof.Machine.execSar p d src t s
  | .rol p d src t => Sys2Proof.Machine.execRol p d src t s
  | .ror p d src t => Sys2Proof.Machine.execRor p d src t s
  | .mul p d src t => Sys2Proof.Machine.execMul p d src t s
  | .mulhs p d src t => Sys2Proof.Machine.execMulhs p d src t s
  | .mulhu p d src t => Sys2Proof.Machine.execMulhu p d src t s
  | .divs p d src t => Sys2Proof.Machine.execDivs p d src t s
  | .divu p d src t => Sys2Proof.Machine.execDivu p d src t s
  | .rems p d src t => Sys2Proof.Machine.execRems p d src t s
  | .remu p d src t => Sys2Proof.Machine.execRemu p d src t s
  | .min p d src t => Sys2Proof.Machine.execMin p d src t s
  | .max p d src t => Sys2Proof.Machine.execMax p d src t s
  | .minu p d src t => Sys2Proof.Machine.execMinu p d src t s
  | .maxu p d src t => Sys2Proof.Machine.execMaxu p d src t s
  | .addc p d src t c => Sys2Proof.Machine.execAddc p d src t c s
  | .addx p d src t c => Sys2Proof.Machine.execAddx p d src t c s
  | .subc p d src t c => Sys2Proof.Machine.execSubc p d src t c s
  | .subx p d src t c => Sys2Proof.Machine.execSubx p d src t c s
  | .neg p d src => Sys2Proof.Machine.execNeg p d src s
  | .not p d src => Sys2Proof.Machine.execNot p d src s
  | .abs p d src => Sys2Proof.Machine.execAbs p d src s
  | .clz p d src => Sys2Proof.Machine.execClz p d src s
  | .sextb p d src => Sys2Proof.Machine.execSextb p d src s
  | .sexth p d src => Sys2Proof.Machine.execSexth p d src s
  | .zextb p d src => Sys2Proof.Machine.execZextb p d src s
  | .zexth p d src => Sys2Proof.Machine.execZexth p d src s
  | .bswap p d src => Sys2Proof.Machine.execBswap p d src s
  | .mov p d src => Sys2Proof.Machine.execMov p d src s
  | .sel p d src t c => Sys2Proof.Machine.execSel p d src t c s
  | .addi p d src imm => Sys2Proof.Machine.execAddi p d src imm s
  | .andi p d src imm => Sys2Proof.Machine.execAndi p d src imm s
  | .ori p d src imm => Sys2Proof.Machine.execOri p d src imm s
  | .xori p d src imm => Sys2Proof.Machine.execXori p d src imm s
  | .shi p d src kind amt => Sys2Proof.Machine.execShi p d src kind amt s
  | .movi p d imm => Sys2Proof.Machine.execMovi p d imm s
  | .movhi p d imm => Sys2Proof.Machine.execMovhi p d imm s
  | .muli p d src imm => Sys2Proof.Machine.execMuli p d src imm s
  | .adda p a src imm => Sys2Proof.Machine.execAdda p a src imm s
  | .mova p d src => Sys2Proof.Machine.execMova p d src s
  | .addad p d src t => Sys2Proof.Machine.execAddad p d src t s
  | .subad p d src t => Sys2Proof.Machine.execSubad p d src t s
  | .addaw p d src t => Sys2Proof.Machine.execAddaw p d src t s
  | .addah p d src t => Sys2Proof.Machine.execAddah p d src t s
  | .movad p d src => Sys2Proof.Machine.execMovad p d src s
  | .movda p d src => Sys2Proof.Machine.execMovda p d src s
  | .subaa p d src t => Sys2Proof.Machine.execSubaa p d src t s
  | .movia p a imm => Sys2Proof.Machine.execMovia p a imm s
  | .movla p a imm => Sys2Proof.Machine.execMovla p a imm s
  | .ldw p t a disp => Sys2Proof.Machine.execLdw p t a disp s
  | .ldh p t a disp => Sys2Proof.Machine.execLdh p t a disp s
  | .ldhu p t a disp => Sys2Proof.Machine.execLdhu p t a disp s
  | .ldb p t a disp => Sys2Proof.Machine.execLdb p t a disp s
  | .ldbu p t a disp => Sys2Proof.Machine.execLdbu p t a disp s
  | .stw p t a disp => Sys2Proof.Machine.execStw p t a disp s
  | .sth p t a disp => Sys2Proof.Machine.execSth p t a disp s
  | .stb p t a disp => Sys2Proof.Machine.execStb p t a disp s
  | .lda p t a disp => Sys2Proof.Machine.execLda p t a disp s
  | .sta p t a disp => Sys2Proof.Machine.execSta p t a disp s
  | .ldd p t bank byte off => Sys2Proof.Machine.execLdd p t bank byte off s
  | .std p t bank byte off => Sys2Proof.Machine.execStd p t bank byte off s
  | .ldwp p t a disp => Sys2Proof.Machine.execLdwp p t a disp s
  | .stwp p t a disp => Sys2Proof.Machine.execStwp p t a disp s
  | .push p t isA => Sys2Proof.Machine.execPush p t isA s
  | .pop p t isA => Sys2Proof.Machine.execPop p t isA s
  | .macs p q src t => Sys2Proof.Machine.execMacs p q src t s
  | .macu p q src t => Sys2Proof.Machine.execMacu p q src t s
  | .msbs p q src t => Sys2Proof.Machine.execMsbs p q src t s
  | .mulq p q src t => Sys2Proof.Machine.execMulq p q src t s
  | .macsat p q src t => Sys2Proof.Machine.execMacsat p q src t s
  | .clrq p q => Sys2Proof.Machine.execClrq p q s
  | .rdql p q d => Sys2Proof.Machine.execRdql p q d s
  | .rdqh p q d => Sys2Proof.Machine.execRdqh p q d s
  | .rdqs p q d sh => Sys2Proof.Machine.execRdqs p q d sh s
  | .wrql p q src => Sys2Proof.Machine.execWrql p q src s
  | .wrqh p q src => Sys2Proof.Machine.execWrqh p q src s
  | .shq p q sh => Sys2Proof.Machine.execShq p q sh s
  | .cmp p d cond src t => Sys2Proof.Machine.execCmp p d cond src t s
  | .cmpi p d cond src imm => Sys2Proof.Machine.execCmpi p d cond src imm s
  | .cmpa p d cond src t => Sys2Proof.Machine.execCmpa p d cond src t s
  | .pand p d a b => Sys2Proof.Machine.execPand p d a b s
  | .por p d a b => Sys2Proof.Machine.execPor p d a b s
  | .pxor p d a b => Sys2Proof.Machine.execPxor p d a b s
  | .pandn p d a b => Sys2Proof.Machine.execPandn p d a b s
  | .pmov p d a => Sys2Proof.Machine.execPmov p d a s
  | .pnot p d a => Sys2Proof.Machine.execPnot p d a s
  | .pset p d => Sys2Proof.Machine.execPset p d s
  | .pclr p d => Sys2Proof.Machine.execPclr p d s
  | .br p disp => Sys2Proof.Machine.execBr p disp s
  | .call p disp => Sys2Proof.Machine.execCall p disp s
  | .jmp p a => Sys2Proof.Machine.execJmp p a s
  | .callr p a => Sys2Proof.Machine.execCallr p a s
  | .ret p => Sys2Proof.Machine.execRet p s
  | .dbnz p c disp => Sys2Proof.Machine.execDbnz p c disp s
  | .mfc p t creg => Sys2Proof.Machine.execMfc p t creg s
  | .mtc p t creg => Sys2Proof.Machine.execMtc p t creg s
  | .nop p => Sys2Proof.Machine.execNop p s
  | .trap p imm => Sys2Proof.Machine.execTrap p imm s
  | .rfe p => Sys2Proof.Machine.execRfe p s
  | .wait p => Sys2Proof.Machine.execWait p s
  | .fence p => Sys2Proof.Machine.execFence p s
  | .ei p => Sys2Proof.Machine.execEi p s
  | .di p => Sys2Proof.Machine.execDi p s
  | .bkpt p imm => Sys2Proof.Machine.execBkpt p imm s
  | .rssv p a => Sys2Proof.Machine.execRssv p a s
  | .rsrs p a => Sys2Proof.Machine.execRsrs p a s
  | .bmov p src d c sz => Sys2Proof.Machine.execBmov p src d c sz s
  | .bfill p d c v sz => Sys2Proof.Machine.execBfill p d c v sz s
  | .bcmp p src d c sz => Sys2Proof.Machine.execBcmp p src d c sz s
  | .bscan p src c v sz => Sys2Proof.Machine.execBscan p src c v sz s
  | .customInstruction p major idx d src t imm => Sys2Proof.Machine.execCustomInstruction p major idx d src t imm s
  | .interruptEntry => Sys2Proof.Machine.execInterruptEntry s
  | .nmiEntry => Sys2Proof.Machine.execNmiEntry s
  | .watchdogStage1Expiry t => Sys2Proof.Machine.execWatchdogStage1Expiry t s
  | .watchdogStage2Expiry t => Sys2Proof.Machine.execWatchdogStage2Expiry t s
  | .tmrWdkick v => Sys2Proof.Machine.execTmrWdkick v s
  | .sysUclo v => Sys2Proof.Machine.execSysUclo v s
  | .sysUchi v => Sys2Proof.Machine.execSysUchi v s
  | .pllLockRegained t => Sys2Proof.Machine.execPllLockRegained t s
  | .crystalSourceChange runs t => Sys2Proof.Machine.execCrystalSourceChange runs t s
  | .hostSignalGpio t wire asserted => Sys2Proof.Machine.execHostSignalGpio t wire asserted s
  | .addressedRequestReturned t => Sys2Proof.Machine.execAddressedRequestReturned t s
  | .debugPortHalt op => Sys2Proof.Machine.execDebugPortHalt op s

end Sys2Proof.Machine
end

