-- ==== Sys2Proof/Machine/Tick.lean ====
section
/-! DEFINITION. What the block does when no command waits: a microsecond of TBASE passes, and what comes about by itself
comes about (R6, R23, R47, R49, R374, and KPF's own work).  A DESIGN CHOICE: the command table has no row for a tick. -/

namespace Sys2Proof.Machine

/-- One microsecond without a command.  With AON off nothing happens. DESIGN CHOICE (log 1, 19). -/
def idleTick (s : State) : State :=
  if !s.sys.aonOn then s
  else
    let s := alarmCheck (offCarriedOut (s.seen (s.tbase + 1)))
    let s := if s.lux.computing && cycleDue s ≤ s.tbase then cycleRun s else s
    if s.coreUp then kpfTick (logReady s) else s

end Sys2Proof.Machine
end

