-- ==== Sys2Proof/Safety.lean ====
section
/-! DEFINITION. What counts as a safe run, the canonical form of a state, what no step undoes, and the terms the statements
about commands are written in: when a core access or an instruction goes through, and what an instruction's results are on
exact integers. -/

namespace Sys2Proof.Machine

/-- The three tables of a state, registers, memory and the Firn store, are in canonical form: equal contents are equal
data. -/
abbrev Canonical (s : State) : Prop :=
  Sparse.wf 0 s.fields = true ∧ Memory.wf s.mem = true ∧ Sparse.wf erasedWord s.firn = true

/-- Every fuse that is burned in `f` is burned in `g`, DEVID is the same, and a programmed OEM slot keeps its hash (R298,
R301 to R303). -/
def Fuses.burntIn (f g : Fuses) : Prop :=
  g.devid = f.devid ∧ (f.mfg = true → g.mfg = true) ∧ (f.dep = true → g.dep = true) ∧ (f.ret = true → g.ret = true) ∧ f.svc ≤ g.svc
    ∧ f.fwarb ≤ g.fwarb ∧ f.hostarb ≤ g.hostarb ∧ (∀ i, f.oemRev.testBit i = true → g.oemRev.testBit i = true)
    ∧ ∀ k, Sparse.get noHash k f.oemHash ≠ noHash → Sparse.get noHash k g.oemHash = Sparse.get noHash k f.oemHash

/-- The core registers are as they are at core reset (R409). -/
abbrev StartsAfresh (c : Cpu) : Prop :=
  (∀ r : RegNo, c.dr (dreg r) = 0) ∧ (∀ k : Fin 8, k.val < 7 → c.a[k] = 0) ∧ c.q[0] = 0 ∧ c.q[1] = 0
    ∧ c.a[7] = 0x20100000 ∧ areaOf c.pc.toNat = .bootRom ∧ c.priv = true ∧ c.waiting = false

/-- The run of `k` steps from `s` reaches no fault and no refusal. -/
def SafeRun (k : Nat) (s : State) : Prop := ∃ t, core.run k s = .next t

/-! ### Commands -/

/-- Command `i` at `s` answers a next state, and `P` holds of it. -/
abbrev Answers (i : Instr) (s : State) (P : State → Prop) : Prop := ∃ u, exec i s = .next u ∧ P u

/-- A word store of the core to address `a` goes through: the core is up and the access meets no exception (R439). -/
abbrev Stores (s : State) (a : Nat) : Prop :=
  s.coreUp = true ∧ accessCheck s .store (BitVec.ofNat 32 a) 4 = none

/-- A word load of the core from address `a` goes through. -/
abbrev Loads (s : State) (a : Nat) : Prop :=
  s.coreUp = true ∧ accessCheck s .load (BitVec.ofNat 32 a) 4 = none

/-- Everything but the fields listed reads in `u` as in `s`. -/
def FieldsBut (fs : List Field) (s u : State) : Prop :=
  ∀ k, k ∉ fs.map Field.key → Sparse.get 0 k u.fields = Sparse.get 0 k s.fields

/-- The memories, the Firn store, time, the free values drawn and the waiting commands are as before. -/
abbrev SameStores (s u : State) : Prop :=
  u.mem = s.mem ∧ u.badBytes = s.badBytes ∧ u.firn = s.firn ∧ u.tbase = s.tbase ∧ u.free = s.free
    ∧ u.pending = s.pending

/-! ### Transactions of the host -/

/-- The state at a transaction's snapshot edge (R53). -/
def edge (x : Txn) (s : State) : State := snapshotEdge x.recent (s.seen x.t)

/-- A transaction of a powered eSPI link that completes with a good CRC (R52). -/
abbrev EspiOk (x : Txn) (s : State) : Prop :=
  s.hostOn = true ∧ s.espi = true ∧ x.crcOk = true ∧ x.completed = true

/-- A frame of a powered SPI-target link that completes with a good CRC. -/
abbrev SpiOk (x : Txn) (s : State) : Prop :=
  s.hostOn = true ∧ s.spi = true ∧ x.crcOk = true ∧ x.completed = true

/-- The snapshot-edge state with the answer `r` given, its status and CRC with it (R71), and LINKUP set. -/
def answered (x : Txn) (s : State) (r : LinkResp) : State :=
  { edge x s with link := { (edge x s).link with resp := framed (edge x s) r } }.set Reg.HOST_STAT.LINKUP

/-- Nothing waits for a snapshot edge: no closed post, no hold, no tag to be answered, an empty EC input queue. -/
abbrev Quiet (s : State) : Prop :=
  s.link.closed = none ∧ s.on Reg.HW_HOSTCTL.HOLD = false ∧ s.mbx.busy = [] ∧ s.ec.inq = [] ∧ s.ec.held = none

/-! ### Floe -/

/-- An image of KPF other than the boot ROM answers. -/
abbrev Acting (s : State) : Prop := kpfRuns s = true ∧ s.kpf.state ≠ 3

/-- A frame without error for the KT8840 meets an enabled, empty port `p` of a model that has it. -/
abbrev ArrivesAt (p : Nat) (f : FloeFrame) (s : State) : Prop :=
  Acting s ∧ feature s (5 + p) = true ∧ s.on (Reg.FLOE_PCFG.EN p) = true ∧ (floe s p).fifo = []
    ∧ f.stuffBad = false ∧ f.crc.toNat = crc16 f.covered ∧ f.formed = true ∧ f.dst = 1

/-- A frame of type `ty` of a newcomer or stranger passes the filter (R281). -/
abbrev PlainIn (p ty : Nat) (f : FloeFrame) (s : State) : Prop :=
  ArrivesAt p f s ∧ f.type = ty ∧ (ty = 2 ∨ ty = 4) ∧ 0xF0 ≤ f.src.toNat ∧ f.src.toNat ≤ 0xFE

/-- A secured frame passes the filter and the check against key entry `e` (R281, R283). -/
abbrev SecuredIn (p e : Nat) (f : FloeFrame) (s : State) : Prop :=
  ArrivesAt p f s ∧ f.type = 8 ∧ 0x10 ≤ f.src.toNat ∧ f.src.toNat ≤ 0xEF ∧ keyEntry s p f.src.toNat = some e
    ∧ f.mac = floeMac (entryKey s e) 1 f ∧ s.rd (Reg.FLOE_KRX.KRX e) < f.cnt.toNat

/-- Port `p` has this frame to send (R284). -/
abbrev Sends (p dst type : Nat) (sec : Bool) (payload : List Byte) (u : State) : Prop :=
  u.rd (Reg.FLOE_TXCTL.BUSY p) = 1 ∧ (floe u p).phase = .sending ∧ (floe u p).frame.src = 1
    ∧ (floe u p).frame.dst.toNat = dst ∧ (floe u p).frame.type = type ∧ (floe u p).frame.sec = sec
    ∧ (floe u p).frame.payload = payload

/-- KPF knows a module under an identifier in a range, and can send on its port. -/
abbrev CanAsk (p id : Nat) (m : KpfModule) (s : State) : Prop :=
  Acting s ∧ canSend s p = true ∧ findMod s p id = some m

/-- A secured frame can be sent to the module: its identifier is of a key entry whose counter is not exhausted (R282,
R284). -/
abbrev HasKey (p id e : Nat) (s : State) : Prop :=
  0x10 ≤ id ∧ id ≤ 0xEF ∧ keyEntry s p id = some e ∧ s.rd (Reg.FLOE_KTX.KTX e) ≠ 0xFFFFFFFF

/-! ### Security -/

/-- SEC_CMD.GO takes a descriptor of operation `op`, ended as `run` says; its end is COMMAND_DONE.  While a command runs
it sets CMDERR (R307). -/
def EngineTakes (c : Word → Instr) (op : Nat) (run : Desc → State → OpEnd) : Prop :=
  ∀ (v : Word) (s : State), Stores s 0x400E0040 → v.toNat.testBit 0 = true → fgdVerifying s = false →
    inSram (descAddr s) 32 = true → s.firstBad (descAddr s) 32 = none → (readDesc s (descAddr s)).op = op →
    let d := readDesc s (descAddr s)
    let s' := if hashGoesOn d s then s else
      { s.clr Reg.SEC_CMDSTAT.HASHOPEN with sec := { s.sec with hash := none } }
    let r := run d s'
    exec (c v) s = .next (
      if s.on Reg.SEC_CMDSTAT.BUSY then s.set Reg.SEC_EVT.CMDERR
      else { r.s.set Reg.SEC_CMDSTAT.BUSY with sec := { r.s.sec with cmd := some ⟨descAddr s, r.code, r.count⟩ } })

/-- The sequencer waits and the supply lets a fuse be burned (R300). -/
abbrev SequencerFree (supply : Nat) (s : State) : Prop :=
  s.sec.seq = none ∧ s.sys.v18pg = true ∧ 4500 ≤ supply

/-- A request is refused with a cause, and no fuse changes. -/
abbrev Refuses (cause : Nat) (s u : State) : Prop :=
  u.rd Reg.SEC_LCS.REFCAUSE = cause ∧ u.rd Reg.SEC_EVT.REFUSED = 1 ∧ u.sec.fuses = s.sec.fuses
    ∧ u.sec.seq = s.sec.seq

/-! ### Commands to KPF -/

/-- Tag `tag` is the one KPF comes to next, with a request of this code, not resent and without a parity error (R101,
R106, R108, R381). -/
abbrev IsNext (tag code : Nat) (s : State) : Prop :=
  kpfRuns s = true ∧ (kTake s).kpf.wait = none ∧ (kTake s).mbx.taken.head? = some tag ∧ boxCmd (kTake s) tag = code
    ∧ (kTake s).on (Reg.MBX_TAGINFO.RESEND tag) = false ∧ reqBad (kTake s) tag = false

/-- The request passes the checks that stand before any command (R378, R379, R382). -/
abbrev Accepts (tag code : Nat) (s : State) : Prop :=
  IsNext tag code s ∧ ∃ r ∈ kpfRow code, reqRefusal (kTake s) r (readReq (kTake s) tag) = none

/-- Command `c` of a code, when it is served, answers a next state `u`, and `P` holds of the request, the state in which
KPF has taken its tags, and `u`. -/
def Serves (c : Fin 8 → Instr) (code : Nat) (P : KpfReq → State → State → Prop) : Prop :=
  ∀ (tag : Fin 8) (s : State), Accepts tag code s →
    ∃ u, exec (c tag) s = .next u ∧ P (readReq (kTake s) tag) (kTake s) u

/-- KPF completes the request OK with a response, in state `t`. -/
abbrev ReplyOk (q : KpfReq) (resp : List Byte) (t u : State) : Prop := u = kAnswer q.tag 0 resp false t

/-- KPF completes the request with another result and no response, in state `t`. -/
abbrev ReplyNo (q : KpfReq) (result : Nat) (t u : State) : Prop := u = kAnswer q.tag result [] false t

/-- KPF answers the request ACCEPTED, and its completion is due (R380). -/
abbrev ReplyJob (q : KpfReq) (code due arg : Nat) (data : List Byte) (t u : State) : Prop :=
  u = kAnswer q.tag 1 [] false (withKpf (fun k => { k with jobs := k.jobs ++ [⟨code, q.tag, q.aux, due, arg, data⟩] }) t)

/-- Bytes of a length hold little-endian fields, each given by offset, size and value. -/
abbrev Layout (n : Nat) (fs : List (Nat × Nat × Nat)) (bytes : List Byte) : Prop :=
  bytes.length = n ∧ ∀ f ∈ fs, natAt bytes f.1 f.2.1 = f.2.2 % 256 ^ f.2.1

/-- KPF completes the request OK with a response of this layout, in state `t`. -/
def Shows (q : KpfReq) (n : Nat) (fs : List (Nat × Nat × Nat)) (t u : State) : Prop :=
  ∃ resp, ReplyOk q resp t u ∧ Layout n fs resp

/-- Part `i` of a response, after `head` bytes, in parts of `size` bytes. -/
def partOf (resp : List Byte) (head size i : Nat) : List Byte := (resp.drop (head + size * i)).take size

/-- KPF completes the request OK with a head and one entry of `size` bytes for each element of a list, in state `t`. -/
def ShowsAll {α : Type} (q : KpfReq) (head size : Nat) (fs : List (Nat × Nat × Nat)) (l : List α)
    (entry : α → List (Nat × Nat × Nat)) (t u : State) : Prop :=
  ∃ resp, ReplyOk q resp t u ∧ Layout (head + size * l.length) fs resp
    ∧ ∀ i a, l[i]? = some a → Layout size (entry a) (partOf resp head size i)

/-! ### Instructions -/

/-- Every register field of the operation is one of an instruction word, 0 to 15: T0 to T3 stand in micro-ops only
(R451). -/
def Op.wordRegs : Op → Bool
  | .rr _ d x y _ | .ar _ d x y => d < 16 && x < 16 && y < 16
  | .ri _ d x _ | .si d x _ _ | .ai d x _ | .load _ d x _ | .store _ d x _ => d < 16 && x < 16
  | .mi _ d _ | .am _ d _ | .dir _ d _ _ _ | .stk _ d _ | .jmp _ d | .dbnz d _ | .cr _ d _ | .cmpi _ _ d _ => d < 16
  | .acc _ _ x y _ | .cmp _ _ x y | .cmpa _ _ x y => x < 16 && y < 16
  | .blk _ x d c v _ => x < 16 && d < 16 && c < 16 && v < 16
  | .plog .. | .br .. | .ret | .sys .. | .custom .. => true

/-- The instruction `op` under predicate `p` issues at `s`: the core can issue, the fetch at PC and the decode checks pass,
and the predicate holds (R403, R404, R439). -/
abbrev Issues (p : Pred) (op : Op) (s : State) : Prop :=
  canIssue s = true ∧ accessCheck s .fetch s.cpu.pc 4 = none ∧ decodeCheck s p op = none ∧ s.cpu.holds p = true

/-- `s` with the instruction at PC fetched. -/
def fetched (s : State) : State := fetchMarks (issued s)

/-- The core registers an instruction starts from: a core that issues does not wait any more (R444). -/
def awake (s : State) : Cpu := { s.cpu with waiting := false }

/-- An instruction that leaves the memories and registers of `m` and, by its own writes, the core registers `c` retires: a
waiting load is written after them, its own load `load` starts to wait (R424), the program goes on at `pc`, and CYC has
counted an open number of cycles, at least one (R433). -/
def retire (m : State) (c : Cpu) (pc : Word) (load : Option (LoadDest × Word)) : State :=
  { m with
    free := m.free + 1
    cpu := { c.commitSlot with
             slot := load, pc := pc, cyc := (c.cyc + 1 + Config.freeNat m.free) % 2 ^ 64 } }

/-- An instruction that changes nothing but core registers, to `c`, and is followed by the next one. -/
def after (s : State) (c : Cpu) : State := retire (fetched s) c (s.cpu.pc + 4) none

/-- A value that a 32-bit signed register cannot hold. -/
def tooWide (x : Int) : Bool := x < -(2 ^ 31) || 2 ^ 31 ≤ x

/-- The result of a register ALU operation on exact integers (R415, R429); `cin` is Pc. -/
def aluSpec (f : Alu) (a b : Word) (cin : Bool) : Word :=
  let x := a.toInt
  let y := b.toInt
  let u := a.toNat
  let v := b.toNat
  match f with
  | .add | .addc => BitVec.ofInt 32 (x + y)
  | .sub | .subc => BitVec.ofInt 32 (x - y)
  | .addx => BitVec.ofInt 32 (x + y + cin.toNat)
  | .subx => BitVec.ofInt 32 (x - y - cin.toNat)
  | .and => BitVec.ofNat 32 (u &&& v)
  | .or => BitVec.ofNat 32 (u ||| v)
  | .xor => BitVec.ofNat 32 (u ^^^ v)
  | .andn => BitVec.ofNat 32 (u &&& (2 ^ 32 - 1 - v))
  | .shl => BitVec.ofNat 32 (u * 2 ^ (v % 256))
  | .shr => BitVec.ofNat 32 (u / 2 ^ (v % 256))
  | .sar => BitVec.ofInt 32 (x / 2 ^ (v % 256))
  | .rol => BitVec.ofNat 32 (u * 2 ^ (v % 32) + u / 2 ^ (32 - v % 32))
  | .ror => BitVec.ofNat 32 (u / 2 ^ (v % 32) + u * 2 ^ (32 - v % 32))
  | .mul => BitVec.ofInt 32 (x * y)
  | .mulhs => BitVec.ofInt 32 (x * y / 2 ^ 32)
  | .mulhu => BitVec.ofNat 32 (u * v / 2 ^ 32)
  | .divs => if y = 0 then (if x < 0 then 1 else -1) else BitVec.ofInt 32 (x.tdiv y)
  | .divu => if v = 0 then -1 else BitVec.ofNat 32 (u / v)
  | .rems => if y = 0 then a else BitVec.ofInt 32 (x.tmod y)
  | .remu => if v = 0 then a else BitVec.ofNat 32 (u % v)
  | .min => BitVec.ofInt 32 (min x y)
  | .max => BitVec.ofInt 32 (max x y)
  | .minu => BitVec.ofNat 32 (min u v)
  | .maxu => BitVec.ofNat 32 (max u v)
  | .neg => BitVec.ofInt 32 (-x)
  | .not => BitVec.ofNat 32 (2 ^ 32 - 1 - u)
  | .abs => BitVec.ofInt 32 x.natAbs
  | .clz => BitVec.ofNat 32 ((List.range 32).takeWhile fun i => !u.testBit (31 - i)).length
  | .sextb => BitVec.ofInt 32 ((x + 128) % 256 - 128)
  | .sexth => BitVec.ofInt 32 ((x + 2 ^ 15) % 2 ^ 16 - 2 ^ 15)
  | .zextb => BitVec.ofNat 32 (u % 256)
  | .zexth => BitVec.ofNat 32 (u % 2 ^ 16)
  | .bswap => BitVec.ofNat 32 (u % 2 ^ 8 * 2 ^ 24 + u / 2 ^ 8 % 2 ^ 8 * 2 ^ 16 + u / 2 ^ 16 % 2 ^ 8 * 2 ^ 8 + u / 2 ^ 24)
  | .mov => a
  | .sel => if cin then a else b

/-- The operation's exact result does not fit, so that V is set (R415, R429). -/
def aluSetsV (f : Alu) (a b : Word) : Bool :=
  match f with
  | .add => tooWide (a.toInt + b.toInt)
  | .sub => tooWide (a.toInt - b.toInt)
  | .neg => tooWide (-a.toInt)
  | .abs => tooWide a.toInt.natAbs
  | .divs | .rems => b.toInt != 0 && tooWide (a.toInt.tdiv b.toInt)
  | _ => false

/-- The operation divides by zero, so that DZ is set (R430). -/
def aluSetsDz (f : Alu) (b : Word) : Bool :=
  match f with
  | .divs | .divu | .rems | .remu => b.toNat == 0
  | _ => false

/-- What a carry operation writes to Pc: the carry out or the borrow out (R415). -/
def aluCarries (f : Alu) (a b : Word) (cin : Bool) : Bool :=
  match f with
  | .addc => 2 ^ 32 ≤ a.toNat + b.toNat
  | .addx => 2 ^ 32 ≤ a.toNat + b.toNat + cin.toNat
  | .subc => a.toNat < b.toNat
  | .subx => a.toNat < b.toNat + cin.toNat
  | _ => false

/-- Condition `n` of the compares on exact values (R420). -/
def condSpec (n : Nat) (a b : Word) : Bool :=
  match n with
  | 0 => a.toNat == b.toNat
  | 1 => a.toNat != b.toNat
  | 2 => decide (a.toInt < b.toInt)
  | 3 => !decide (a.toInt < b.toInt)
  | 4 => !decide (b.toInt < a.toInt)
  | 5 => decide (b.toInt < a.toInt)
  | 6 => decide (a.toNat < b.toNat)
  | 7 => !decide (a.toNat < b.toNat)
  | 8 => !decide (b.toNat < a.toNat)
  | 9 => decide (b.toNat < a.toNat)
  | 10 => a.toNat &&& b.toNat != 0
  | _ => a.toNat &&& b.toNat == 0

/-- The core registers after a register ALU operation on registers `d`, `x` and `y` with predicate `k` as Pc. -/
def aluWrites (f : Alu) (c : Cpu) (d x y : DReg) (k : PredNo) : Cpu :=
  let a := c.dr x
  let b := c.dr y
  { c.setDr d (aluSpec f a b (c.pr k)) with v := c.v || aluSetsV f a b, dz := c.dz || aluSetsDz f b }

end Sys2Proof.Machine
end

