-- ==== Sys2Proof/Certificates/Slice0/Obligations.lean ====
section
/-! DEFINITION. The statements about the model, for the provers. -/

open Sys2Proof Sys2Proof.Machine

/-- For every command c and every state s, a step of s with c put at the front of its queue is exec of c at s with the
rest of the queue. This is the model's form of a run (a queue of commands, first in, first out).
Cites: 95_what_each_step_holds.md. -/
def Obligations.CommandStep : Prop :=
  ∀ (c : Instr) (rest : List Instr) (s : State),
    step { s with pending := c :: rest } = exec c { s with pending := rest }

/-- With an empty queue a step answers a next state: the idle tick. With AON off it changes nothing at all; with AON on,
CORE off and no alarm due, TBASE is one higher and nothing else changes. The tick is the model's choice (assumption
log 1), for the command table has no row for the passing of time.
Cites: 00_scope.md, assumption log 1. -/
def Obligations.EmptyQueueStep : Prop :=
  ∀ s : State, s.pending = [] →
    step s = .next (idleTick s) ∧ (s.sys.aonOn = false → idleTick s = s)
      ∧ (s.sys.aonOn = true → s.sys.coreOn = false → s.sys.offReq = none →
          (s.sys.alarmFired = true ∨ s.tbase + 1 < s.sys.alarm) → idleTick s = { s with tbase := s.tbase + 1 })

/-- ADD, SUB, MUL, MULHS, MULHU, DIVS, DIVU, REMS, REMU, MIN, MAX, MINU, MAXU, NEG and ABS give their results on exact
integers modulo 2^32, with the division edges of R429; ADDC, ADDX, SUBC and SUBX write carry or borrow to Pc; SEL
selects by Pc; MOV copies. In every state in which they issue (for a division: and no DIVZERO trap is due) exec
answers the state in which Dd holds that result, V and DZ are the old ones or the new condition, a load that waited is
written after it, and PC has gone on; every other part of the state is as the fetch left it. Choices of the model:
assumption log 28, 96.
Cites: R403, R404, R415, R424, R429, R430, R433. -/
def Obligations.RegisterArithmetic : Prop :=
  (∀ q ∈ ([(Instr.add, .add), (.sub, .sub), (.mul, .mul), (.mulhs, .mulhs), (.mulhu, .mulhu), (.divs, .divs),
        (.divu, .divu), (.rems, .rems), (.remu, .remu), (.min, .min), (.max, .max), (.minu, .minu),
        (.maxu, .maxu)] : List ((Pred → RegNo → RegNo → RegNo → Instr) × Alu)),
      ∀ p d x y s, Issues p (.rr q.2 (dreg d) (dreg x) (dreg y) 0) s →
        (aluSetsDz q.2 (s.cpu.dr (dreg y)) && s.cpu.dztrap) = false →
        exec (q.1 p d x y) s = .next (after s (aluWrites q.2 (awake s) (dreg d) (dreg x) (dreg y) 0)))
    ∧ (∀ q ∈ ([(Instr.addc, .addc), (.addx, .addx), (.subc, .subc), (.subx, .subx)] : List ((Pred → RegNo → RegNo → RegNo → PredNo → Instr) × Alu)),
      ∀ p d x y k s, Issues p (.rr q.2 (dreg d) (dreg x) (dreg y) k) s →
        exec (q.1 p d x y k) s =
          .next (after s ((aluWrites q.2 (awake s) (dreg d) (dreg x) (dreg y) k).setPr k
            (aluCarries q.2 (s.cpu.dr (dreg x)) (s.cpu.dr (dreg y)) (s.cpu.pr k)))))
    ∧ (∀ p d x y k s, Issues p (.rr .sel (dreg d) (dreg x) (dreg y) k) s →
        exec (.sel p d x y k) s = .next (after s ((awake s).setDr (dreg d)
          (if s.cpu.pr k then s.cpu.dr (dreg x) else s.cpu.dr (dreg y)))))
    ∧ (∀ q ∈ ([(Instr.neg, .neg), (.abs, .abs), (.mov, .mov)] : List ((Pred → RegNo → RegNo → Instr) × Alu)),
      ∀ p d x s, Issues p (.rr q.2 (dreg d) (dreg x) 0 0) s →
        exec (q.1 p d x) s = .next (after s (aluWrites q.2 (awake s) (dreg d) (dreg x) 0 0)))

/-- AND, OR, XOR, ANDN, SHL, SHR, SAR, ROL, ROR, NOT, CLZ, SEXTB, SEXTH, ZEXTB, ZEXTH and BSWAP give the results of R415,
a shift amount being Dt[7:0] and a rotate amount Dt[4:0]. In every state in which they issue (for a division: and no
DIVZERO trap is due) exec answers the state in which Dd holds that result, V and DZ are the old ones or the new
condition, a load that waited is written after it, and PC has gone on; every other part of the state is as the fetch
left it. Choices of the model: assumption log 28, 96.
Cites: R403, R404, R415, R424, R433. -/
def Obligations.RegisterBits : Prop :=
  (∀ q ∈ ([(Instr.and, .and), (.or, .or), (.xor, .xor), (.andn, .andn), (.shl, .shl), (.shr, .shr),
        (.sar, .sar), (.rol, .rol), (.ror, .ror)] : List ((Pred → RegNo → RegNo → RegNo → Instr) × Alu)),
      ∀ p d x y s, Issues p (.rr q.2 (dreg d) (dreg x) (dreg y) 0) s →
        (aluSetsDz q.2 (s.cpu.dr (dreg y)) && s.cpu.dztrap) = false →
        exec (q.1 p d x y) s = .next (after s (aluWrites q.2 (awake s) (dreg d) (dreg x) (dreg y) 0)))
    ∧ (∀ q ∈ ([(Instr.not, .not), (.clz, .clz), (.sextb, .sextb), (.sexth, .sexth), (.zextb, .zextb),
        (.zexth, .zexth), (.bswap, .bswap)] : List ((Pred → RegNo → RegNo → Instr) × Alu)),
      ∀ p d x s, Issues p (.rr q.2 (dreg d) (dreg x) 0 0) s →
        exec (q.1 p d x) s = .next (after s (aluWrites q.2 (awake s) (dreg d) (dreg x) 0 0)))

/-- ADDI, ANDI, ORI, XORI, MULI, SHI, MOVI and MOVHI write Dd (ADDI sets V on overflow), and ADDA, MOVA, ADDAD, SUBAD,
ADDAW, ADDAH, MOVAD, MOVDA, SUBAA, MOVIA and MOVLA write their address or data register modulo 2^32; in every state in
which they issue, exec answers the state that differs in that register, V where named, and what the end of any
instruction does. Choices of the model: assumption log 28, 96.
Cites: R414, R416, R417. -/
def Obligations.Immediates : Prop :=
  (∀ p d x imm s, Issues p (.ri .addi (dreg d) (dreg x) imm) s →
      exec (.addi p d x imm) s = .next (after s
        { (awake s).setDr (dreg d) (BitVec.ofInt 32 ((s.cpu.dr (dreg x)).toInt + imm.toInt)) with
          v := s.cpu.v || tooWide ((s.cpu.dr (dreg x)).toInt + imm.toInt) }))
    ∧ (∀ p d x imm s, Issues p (.ri .andi (dreg d) (dreg x) imm) s →
      exec (.andi p d x imm) s = .next (after s
        ((awake s).setDr (dreg d) (BitVec.ofNat 32 ((s.cpu.dr (dreg x)).toNat &&& imm.toNat)))))
    ∧ (∀ p d x imm s, Issues p (.ri .ori (dreg d) (dreg x) imm) s →
      exec (.ori p d x imm) s = .next (after s
        ((awake s).setDr (dreg d) (BitVec.ofNat 32 ((s.cpu.dr (dreg x)).toNat ||| imm.toNat)))))
    ∧ (∀ p d x imm s, Issues p (.ri .xori (dreg d) (dreg x) imm) s →
      exec (.xori p d x imm) s = .next (after s
        ((awake s).setDr (dreg d) (BitVec.ofNat 32 ((s.cpu.dr (dreg x)).toNat ^^^ imm.toNat)))))
    ∧ (∀ p d x imm s, Issues p (.ri .muli (dreg d) (dreg x) imm) s →
      exec (.muli p d x imm) s = .next (after s
        ((awake s).setDr (dreg d) (BitVec.ofInt 32 ((s.cpu.dr (dreg x)).toInt * imm.toInt)))))
    ∧ (∀ p d x (kind : Fin 8) (n : Fin 32) s, Issues p (.si (dreg d) (dreg x) kind n) s →
      exec (.shi p d x kind n) s = .next (after s ((awake s).setDr (dreg d)
        (aluSpec (match kind.val with | 0 => .shl | 1 => .shr | 2 => .sar | 3 => .rol | _ => .ror)
          (s.cpu.dr (dreg x)) (BitVec.ofNat 32 n.val) false))))
    ∧ (∀ p d imm s, Issues p (.mi false (dreg d) imm) s →
      exec (.movi p d imm) s = .next (after s ((awake s).setDr (dreg d) (BitVec.ofInt 32 imm.toInt))))
    ∧ (∀ p d imm s, Issues p (.mi true (dreg d) imm) s →
      exec (.movhi p d imm) s = .next (after s ((awake s).setDr (dreg d)
        (BitVec.ofNat 32 (imm.toNat * 2 ^ 16 + (s.cpu.dr (dreg d)).toNat % 2 ^ 16)))))
    ∧ (∀ p a b imm s, Issues p (.ai (dreg a) (dreg b) imm) s →
      exec (.adda p a b imm) s = .next (after s
        ((awake s).setAr (dreg a) (BitVec.ofInt 32 ((s.cpu.ar (dreg b)).toInt + imm.toInt)))))
    ∧ (∀ p d x s, Issues p (.ar .mova (dreg d) (dreg x) 0) s →
      exec (.mova p d x) s = .next (after s ((awake s).setAr (dreg d) (s.cpu.ar (dreg x)))))
    ∧ (∀ p d x y s, Issues p (.ar .addad (dreg d) (dreg x) (dreg y)) s →
      exec (.addad p d x y) s = .next (after s ((awake s).setAr (dreg d)
        (BitVec.ofNat 32 ((s.cpu.ar (dreg x)).toNat + (s.cpu.dr (dreg y)).toNat)))))
    ∧ (∀ p d x y s, Issues p (.ar .subad (dreg d) (dreg x) (dreg y)) s →
      exec (.subad p d x y) s = .next (after s ((awake s).setAr (dreg d)
        (BitVec.ofInt 32 ((s.cpu.ar (dreg x)).toInt - (s.cpu.dr (dreg y)).toInt)))))
    ∧ (∀ p d x y s, Issues p (.ar .addaw (dreg d) (dreg x) (dreg y)) s →
      exec (.addaw p d x y) s = .next (after s ((awake s).setAr (dreg d)
        (BitVec.ofNat 32 ((s.cpu.ar (dreg x)).toNat + 4 * (s.cpu.dr (dreg y)).toNat)))))
    ∧ (∀ p d x y s, Issues p (.ar .addah (dreg d) (dreg x) (dreg y)) s →
      exec (.addah p d x y) s = .next (after s ((awake s).setAr (dreg d)
        (BitVec.ofNat 32 ((s.cpu.ar (dreg x)).toNat + 2 * (s.cpu.dr (dreg y)).toNat)))))
    ∧ (∀ p d x s, Issues p (.ar .movad (dreg d) (dreg x) 0) s →
      exec (.movad p d x) s = .next (after s ((awake s).setAr (dreg d) (s.cpu.dr (dreg x)))))
    ∧ (∀ p d x s, Issues p (.ar .movda (dreg d) (dreg x) 0) s →
      exec (.movda p d x) s = .next (after s ((awake s).setDr (dreg d) (s.cpu.ar (dreg x)))))
    ∧ (∀ p d x y s, Issues p (.ar .subaa (dreg d) (dreg x) (dreg y)) s →
      exec (.subaa p d x y) s = .next (after s ((awake s).setDr (dreg d)
        (BitVec.ofInt 32 ((s.cpu.ar (dreg x)).toInt - (s.cpu.ar (dreg y)).toInt)))))
    ∧ (∀ p a imm s, Issues p (.am false (dreg a) imm) s →
      exec (.movia p a imm) s = .next (after s ((awake s).setAr (dreg a) (BitVec.ofNat 32 (imm.toNat * 2 ^ 16)))))
    ∧ (∀ p a imm s, Issues p (.am true (dreg a) imm) s →
      exec (.movla p a imm) s = .next (after s ((awake s).setAr (dreg a)
        (BitVec.ofNat 32 ((s.cpu.ar (dreg a)).toNat / 2 ^ 16 * 2 ^ 16 + imm.toNat)))))

/-- In every state in which the instruction issues and the access at its address passes the checks of R439: a load leaves
the value read, extended as the instruction says, waiting for its slot; a store writes the low bytes of its register;
LDWP, STWP, PUSH and POP also change their address register; nothing else but what the access itself does changes.
Choices of the model: assumption log 28, 96.
Cites: R410, R411, R412, R418, R424. -/
def Obligations.LoadsAndStores : Prop :=
  (∀ q ∈ ([(Instr.ldw, .ldw), (.ldh, .ldh), (.ldhu, .ldhu), (.ldb, .ldb), (.ldbu, .ldbu)] :
        List ((Pred → RegNo → RegNo → BitVec 14 → Instr) × LoadOp)),
      ∀ p t a disp s, Issues p (.load q.2 (dreg t) (dreg a) disp) s →
        accessCheck (fetched s) .load (s.cpu.ar (dreg a) + disp.signExtend 32) q.2.size = none →
        let r := readValue (fetched s) (s.cpu.ar (dreg a) + disp.signExtend 32) q.2.size
        exec (q.1 p t a disp) s = .next (retire r.2 r.2.cpu (s.cpu.pc + 4) (some (.data (dreg t),
          match q.2 with
          | .ldh => (r.1.setWidth 16).signExtend 32
          | .ldb => (r.1.setWidth 8).signExtend 32
          | _ => r.1))))
    ∧ (∀ p t a disp s, Issues p (.load .lda (dreg t) (dreg a) disp) s →
        accessCheck (fetched s) .load (s.cpu.ar (dreg a) + disp.signExtend 32) 4 = none →
        let r := readValue (fetched s) (s.cpu.ar (dreg a) + disp.signExtend 32) 4
        exec (.lda p t a disp) s =
          .next (retire r.2 r.2.cpu (s.cpu.pc + 4) (some (.addr ⟨t.val % 8, by omega⟩, r.1))))
    ∧ (∀ p t a disp s, Issues p (.load .ldwp (dreg t) (dreg a) disp) s →
        accessCheck (fetched s) .load (s.cpu.ar (dreg a)) 4 = none →
        let r := readValue (fetched s) (s.cpu.ar (dreg a)) 4
        exec (.ldwp p t a disp) s =
          .next (retire r.2 (r.2.cpu.setAr (dreg a) (s.cpu.ar (dreg a) + disp.signExtend 32)) (s.cpu.pc + 4)
            (some (.data (dreg t), r.1))))
    ∧ (∀ p t bank byte off s, Issues p (.dir false (dreg t) bank byte off) s →
        accessCheck (fetched s) .load ((if bank then s.cpu.bkp else s.cpu.bkd) ++ off) (if byte then 1 else 4) = none →
        let r := readValue (fetched s) ((if bank then s.cpu.bkp else s.cpu.bkd) ++ off) (if byte then 1 else 4)
        exec (.ldd p t bank byte off) s = .next (retire r.2 r.2.cpu (s.cpu.pc + 4) (some (.data (dreg t), r.1))))
    ∧ (∀ p t isA s, Issues p (.stk true (dreg t) isA) s →
        accessCheck (fetched s) .load (s.cpu.ar 7) 4 = none →
        let r := readValue (fetched s) (s.cpu.ar 7) 4
        exec (.pop p t isA) s = .next (retire r.2 (r.2.cpu.setAr 7 (s.cpu.ar 7 + 4)) (s.cpu.pc + 4)
          (some (if isA then .addr ⟨t.val % 8, by omega⟩ else .data (dreg t), r.1))))
    ∧ (∀ q ∈ ([(Instr.stw, .stw, 4), (.sth, .sth, 2), (.stb, .stb, 1)] :
        List ((Pred → RegNo → RegNo → BitVec 14 → Instr) × StoreOp × Nat)),
      ∀ p t a disp s, Issues p (.store q.2.1 (dreg t) (dreg a) disp) s →
        accessCheck (fetched s) .store (s.cpu.ar (dreg a) + disp.signExtend 32) q.2.2 = none →
        let m := writeValue (fetched s) (s.cpu.ar (dreg a) + disp.signExtend 32) q.2.2 (s.cpu.dr (dreg t))
        exec (q.1 p t a disp) s = .next (retire m m.cpu (s.cpu.pc + 4) none))
    ∧ (∀ p t a disp s, Issues p (.store .sta (dreg t) (dreg a) disp) s →
        accessCheck (fetched s) .store (s.cpu.ar (dreg a) + disp.signExtend 32) 4 = none →
        let m := writeValue (fetched s) (s.cpu.ar (dreg a) + disp.signExtend 32) 4 (s.cpu.ar (dreg t))
        exec (.sta p t a disp) s = .next (retire m m.cpu (s.cpu.pc + 4) none))
    ∧ (∀ p t a disp s, Issues p (.store .stwp (dreg t) (dreg a) disp) s →
        accessCheck (fetched s) .store (s.cpu.ar (dreg a)) 4 = none →
        let m := writeValue (fetched s) (s.cpu.ar (dreg a)) 4 (s.cpu.dr (dreg t))
        exec (.stwp p t a disp) s =
          .next (retire m (m.cpu.setAr (dreg a) (s.cpu.ar (dreg a) + disp.signExtend 32)) (s.cpu.pc + 4) none))
    ∧ (∀ p t bank byte off s, Issues p (.dir true (dreg t) bank byte off) s →
        accessCheck (fetched s) .store ((if bank then s.cpu.bkp else s.cpu.bkd) ++ off) (if byte then 1 else 4) = none →
        let m := writeValue (fetched s) ((if bank then s.cpu.bkp else s.cpu.bkd) ++ off) (if byte then 1 else 4)
          (s.cpu.dr (dreg t))
        exec (.std p t bank byte off) s = .next (retire m m.cpu (s.cpu.pc + 4) none))
    ∧ (∀ p t isA s, Issues p (.stk false (dreg t) isA) s →
        accessCheck (fetched s) .store (s.cpu.ar 7 - 4) 4 = none →
        let m := writeValue (fetched s) (s.cpu.ar 7 - 4) 4 (if isA then s.cpu.ar (dreg t) else s.cpu.dr (dreg t))
        exec (.push p t isA) s = .next (retire m (m.cpu.setAr 7 (s.cpu.ar 7 - 4)) (s.cpu.pc + 4) none))

/-- For an address in main SRAM, retained SRAM or the lighting memories, for 1, 2 or 4 bytes that lie in the area: a store
leaves each of its bytes with the value's byte, least significant first, every other byte as it was, and every
register, the core and the Firn store as they were; the stored bytes have good parity; and a load of that address then
reads the low bytes of the value and changes nothing.
Cites: R5, R38, R43. -/
def Obligations.MainMemoryBytes : Prop :=
  ∀ (s : State) (a v : Word) (n : Nat), n ≤ 4 →
    (areaOf a.toNat = .sram ∨ areaOf a.toNat = .retained ∨ areaOf a.toNat = .lighting) →
    let u := writeValue s a n v
    (∀ i, i < n → u.byte (a.toNat + i) = BitVec.ofNat 8 (v.toNat / 256 ^ i))
      ∧ (∀ b, (b < a.toNat ∨ a.toNat + n ≤ b) → u.byte b = s.byte b)
      ∧ (∀ b ∈ u.badBytes, b ∈ s.badBytes ∧ (b < a.toNat ∨ a.toNat + n ≤ b))
      ∧ u = { s with mem := u.mem, badBytes := u.badBytes }
      ∧ readValue u a n = (BitVec.ofNat 32 (v.toNat % 256 ^ n), u)

/-- MACS, MACU, MSBS, MULQ, CLRQ, WRQL, WRQH and SHQ write Q modulo 2^64; MACSAT and RDQS clip the exact value to 64 and
32 signed bits and set QSAT when they clip; RDQL, RDQH and RDQS write Dd; in every state in which they issue, nothing
else changes but what the end of any instruction does. Choices of the model: assumption log 28, 96.
Cites: R419. -/
def Obligations.Accumulators : Prop :=
  (∀ p q x y s, Issues p (.acc .macs q (dreg x) (dreg y) 0) s →
      exec (.macs p q x y) s = .next (after s ((awake s).setQr q (BitVec.ofInt 64
        ((s.cpu.qr q).toInt + (s.cpu.dr (dreg x)).toInt * (s.cpu.dr (dreg y)).toInt)))))
    ∧ (∀ p q x y s, Issues p (.acc .macu q (dreg x) (dreg y) 0) s →
      exec (.macu p q x y) s = .next (after s ((awake s).setQr q (BitVec.ofNat 64
        ((s.cpu.qr q).toNat + (s.cpu.dr (dreg x)).toNat * (s.cpu.dr (dreg y)).toNat)))))
    ∧ (∀ p q x y s, Issues p (.acc .msbs q (dreg x) (dreg y) 0) s →
      exec (.msbs p q x y) s = .next (after s ((awake s).setQr q (BitVec.ofInt 64
        ((s.cpu.qr q).toInt - (s.cpu.dr (dreg x)).toInt * (s.cpu.dr (dreg y)).toInt)))))
    ∧ (∀ p q x y s, Issues p (.acc .mulq q (dreg x) (dreg y) 0) s →
      exec (.mulq p q x y) s = .next (after s ((awake s).setQr q (BitVec.ofInt 64
        ((s.cpu.dr (dreg x)).toInt * (s.cpu.dr (dreg y)).toInt)))))
    ∧ (∀ p q x y s, Issues p (.acc .macsat q (dreg x) (dreg y) 0) s →
      let e := (s.cpu.qr q).toInt + (s.cpu.dr (dreg x)).toInt * (s.cpu.dr (dreg y)).toInt
      exec (.macsat p q x y) s = .next (after s
        (if e < -(2 ^ 63) then { (awake s).setQr q (BitVec.ofNat 64 (2 ^ 63)) with qsat := true }
         else if 2 ^ 63 ≤ e then { (awake s).setQr q (BitVec.ofNat 64 (2 ^ 63 - 1)) with qsat := true }
         else (awake s).setQr q (BitVec.ofInt 64 e))))
    ∧ (∀ p q s, Issues p (.acc .clrq q 0 0 0) s → exec (.clrq p q) s = .next (after s ((awake s).setQr q 0)))
    ∧ (∀ p q d s, Issues p (.acc .rdql q (dreg d) 0 0) s →
      exec (.rdql p q d) s = .next (after s ((awake s).setDr (dreg d) (BitVec.ofNat 32 (s.cpu.qr q).toNat))))
    ∧ (∀ p q d s, Issues p (.acc .rdqh q (dreg d) 0 0) s →
      exec (.rdqh p q d) s =
        .next (after s ((awake s).setDr (dreg d) (BitVec.ofNat 32 ((s.cpu.qr q).toNat / 2 ^ 32)))))
    ∧ (∀ p q d (sh : Fin 64) s, Issues p (.acc .rdqs q (dreg d) 0 sh) s →
      let e := (s.cpu.qr q).toInt / 2 ^ sh.val
      exec (.rdqs p q d sh) s = .next (after s
        (if e < -(2 ^ 31) then { (awake s).setDr (dreg d) (BitVec.ofNat 32 (2 ^ 31)) with qsat := true }
         else if 2 ^ 31 ≤ e then { (awake s).setDr (dreg d) (BitVec.ofNat 32 (2 ^ 31 - 1)) with qsat := true }
         else (awake s).setDr (dreg d) (BitVec.ofInt 32 e))))
    ∧ (∀ p q x s, Issues p (.acc .wrql q (dreg x) 0 0) s →
      exec (.wrql p q x) s = .next (after s ((awake s).setQr q (BitVec.ofNat 64
        ((s.cpu.qr q).toNat / 2 ^ 32 * 2 ^ 32 + (s.cpu.dr (dreg x)).toNat)))))
    ∧ (∀ p q x s, Issues p (.acc .wrqh q (dreg x) 0 0) s →
      exec (.wrqh p q x) s = .next (after s ((awake s).setQr q (BitVec.ofNat 64
        ((s.cpu.dr (dreg x)).toNat * 2 ^ 32 + (s.cpu.qr q).toNat % 2 ^ 32)))))
    ∧ (∀ p q (sh : Fin 64) s, Issues p (.acc .shq q 0 0 sh) s →
      exec (.shq p q sh) s = .next (after s ((awake s).setQr q (BitVec.ofInt 64 ((s.cpu.qr q).toInt / 2 ^ sh.val)))))

/-- CMP and CMPI compare two words under each of the twelve conditions of R420 (CMPI with IMM11 zero-extended for the
unsigned conditions, sign-extended otherwise), CMPA two addresses, and PAND, POR, PXOR, PANDN, PMOV, PNOT, PSET and
PCLR combine predicates; each writes its destination predicate alone, and P0 reads 1 whatever is done. Choices of the
model: assumption log 28, 96.
Cites: R420. -/
def Obligations.ComparesAndPredicates : Prop :=
  (∀ p d (k : Fin 16) x y s, Issues p (.cmp d k (dreg x) (dreg y)) s →
      exec (.cmp p d k x y) s =
        .next (after s ((awake s).setPr d (condSpec k (s.cpu.dr (dreg x)) (s.cpu.dr (dreg y))))))
    ∧ (∀ p d (k : Fin 16) x imm s, Issues p (.cmpi d k (dreg x) imm) s →
      exec (.cmpi p d k x imm) s = .next (after s ((awake s).setPr d (condSpec k (s.cpu.dr (dreg x))
        (if 6 ≤ k.val ∧ k.val ≤ 9 then BitVec.ofNat 32 imm.toNat else BitVec.ofInt 32 imm.toInt)))))
    ∧ (∀ p d (k : Fin 16) x y s, Issues p (.cmpa d k (dreg x) (dreg y)) s →
      exec (.cmpa p d k x y) s =
        .next (after s ((awake s).setPr d (condSpec k (s.cpu.ar (dreg x)) (s.cpu.ar (dreg y))))))
    ∧ (∀ p d a b s, Issues p (.plog .pand d a b) s →
      exec (.pand p d a b) s = .next (after s ((awake s).setPr d (s.cpu.pr a && s.cpu.pr b))))
    ∧ (∀ p d a b s, Issues p (.plog .por d a b) s →
      exec (.por p d a b) s = .next (after s ((awake s).setPr d (s.cpu.pr a || s.cpu.pr b))))
    ∧ (∀ p d a b s, Issues p (.plog .pxor d a b) s →
      exec (.pxor p d a b) s = .next (after s ((awake s).setPr d (s.cpu.pr a ^^ s.cpu.pr b))))
    ∧ (∀ p d a b s, Issues p (.plog .pandn d a b) s →
      exec (.pandn p d a b) s = .next (after s ((awake s).setPr d (s.cpu.pr a && !s.cpu.pr b))))
    ∧ (∀ p d a s, Issues p (.plog .pmov d a 0) s →
      exec (.pmov p d a) s = .next (after s ((awake s).setPr d (s.cpu.pr a))))
    ∧ (∀ p d a s, Issues p (.plog .pnot d a 0) s →
      exec (.pnot p d a) s = .next (after s ((awake s).setPr d (!s.cpu.pr a))))
    ∧ (∀ p d s, Issues p (.plog .pset d 0 0) s → exec (.pset p d) s = .next (after s ((awake s).setPr d true)))
    ∧ (∀ p d s, Issues p (.plog .pclr d 0 0) s → exec (.pclr p d) s = .next (after s ((awake s).setPr d false)))
    ∧ (∀ (c : Cpu) k b, (c.setPr k b).pr 0 = true ∧ (k ≠ 0 → (c.setPr k b).pr k = b)
        ∧ ∀ j, j ≠ k → (c.setPr k b).pr j = c.pr j)

/-- BR, JMP and DBNZ continue at their target; CALL and CALLR below the stack limit store the next address, little-endian,
in the word at RSP, raise RSP by 4 and branch; RET above the base branches to the word below RSP and lowers RSP by 4;
at the limit or base CALL, CALLR and RET raise STACK (vector 7) with RSP in EADDR, and a JMP, or below the limit a
CALLR, to a target that is not aligned raises ALIGN (vector 3) with the target in EADDR, with nothing else done.
Offsets above 4,096 act as 4,096. Choices of the model: assumption log 28, 96, 118.
Cites: R413, R421, R424, R439. -/
def Obligations.BranchesAndReturnStack : Prop :=
  (∀ p disp s, Issues p (.br false disp) s →
      exec (.br p disp) s = .next (retire (fetched s) (awake s) (s.cpu.pc + BitVec.ofInt 32 (4 * disp.toInt)) none))
    ∧ (∀ p a s, Issues p (.jmp false (dreg a)) s → (s.cpu.ar (dreg a)).toNat % 4 = 0 →
      exec (.jmp p a) s = .next (retire (fetched s) (awake s) (s.cpu.ar (dreg a)) none))
    ∧ (∀ p c disp s, Issues p (.dbnz (dreg c) disp) s →
      exec (.dbnz p c disp) s = .next (retire (fetched s) ((awake s).setDr (dreg c) (s.cpu.dr (dreg c) - 1))
        (if s.cpu.dr (dreg c) = 1 then s.cpu.pc + 4 else s.cpu.pc + BitVec.ofInt 32 (4 * disp.toInt)) none))
    ∧ (∀ p disp s, Issues p (.br true disp) s → rsOff s.cpu.rsp < rsOff s.cpu.rsl →
      let m := (fetched s).storeNat (rsBase + rsOff s.cpu.rsp) 4 (s.cpu.pc + 4).toNat
      exec (.call p disp) s = .next (retire m { awake s with rsp := BitVec.ofNat 13 (rsOff s.cpu.rsp + 4) }
        (s.cpu.pc + BitVec.ofInt 32 (4 * disp.toInt)) none))
    ∧ (∀ p a s, Issues p (.jmp true (dreg a)) s → (s.cpu.ar (dreg a)).toNat % 4 = 0 →
      rsOff s.cpu.rsp < rsOff s.cpu.rsl →
      let m := (fetched s).storeNat (rsBase + rsOff s.cpu.rsp) 4 (s.cpu.pc + 4).toNat
      exec (.callr p a) s = .next (retire m { awake s with rsp := BitVec.ofNat 13 (rsOff s.cpu.rsp + 4) }
        (s.cpu.ar (dreg a)) none))
    ∧ (∀ p s, Issues p .ret s → rsOff s.cpu.rsb < rsOff s.cpu.rsp →
      s.firstBad (rsBase + (rsOff s.cpu.rsp - 4)) 4 = none →
      exec (.ret p) s = .next (retire (fetched s) { awake s with rsp := BitVec.ofNat 13 (rsOff s.cpu.rsp - 4) }
        (BitVec.ofNat 32 (s.loadNat (rsBase + (rsOff s.cpu.rsp - 4)) 4)) none))
    ∧ (∀ p disp s, Issues p (.br true disp) s → rsOff s.cpu.rsl ≤ rsOff s.cpu.rsp →
      exec (.call p disp) s =
        .next (faultAtPc { vec := 7, eaddr := BitVec.ofNat 32 (rsOff s.cpu.rsp) } (fetched s)))
    ∧ (∀ p s, Issues p .ret s → rsOff s.cpu.rsp ≤ rsOff s.cpu.rsb →
      exec (.ret p) s = .next (faultAtPc { vec := 7, eaddr := BitVec.ofNat 32 (rsOff s.cpu.rsp) } (fetched s)))
    ∧ (∀ p a s, Issues p (.jmp true (dreg a)) s → rsOff s.cpu.rsl ≤ rsOff s.cpu.rsp →
      exec (.callr p a) s =
        .next (faultAtPc { vec := 7, eaddr := BitVec.ofNat 32 (rsOff s.cpu.rsp) } (fetched s)))
    ∧ (∀ p a s, Issues p (.jmp false (dreg a)) s → (s.cpu.ar (dreg a)).toNat % 4 ≠ 0 →
      exec (.jmp p a) s = .next (faultAtPc { vec := 3, eaddr := s.cpu.ar (dreg a) } (fetched s)))
    ∧ (∀ p a s, Issues p (.jmp true (dreg a)) s → (s.cpu.ar (dreg a)).toNat % 4 ≠ 0 →
      rsOff s.cpu.rsp < rsOff s.cpu.rsl →
      exec (.callr p a) s = .next (faultAtPc { vec := 3, eaddr := s.cpu.ar (dreg a) } (fetched s)))

/-- For a return stack of n entries between RSB and RSP with good parity, and an address As from which n + 1 words of main
SRAM can be stored to (loaded from): RSSV leaves n at As and entry i at As + 4 + 4i, every other byte of memory as it
was, RSP at RSB and As after the last word; RSRS, with n at As and RSB + 4n not above RSL, leaves the n words in the
return stack from RSB, every byte outside it as it was, RSP at RSB + 4n and As after the last word. The other
registers are as they were. Choices of the model: assumption log 28, 96, 118.
Cites: R408, R413, R446. -/
def Obligations.ReturnStackSpill : Prop :=
  (∀ p (a : RegNo) s, Issues p (.sys .rssv (BitVec.ofNat 16 (a.val * 2 ^ 12))) s →
      let n := (rsOff s.cpu.rsp - rsOff s.cpu.rsb) / 4
      let base := s.cpu.ar (dreg a)
      base.toNat % 4 = 0 → sramBase ≤ base.toNat → base.toNat + 4 * (n + 1) ≤ sramBase + 0x100000 →
      (∀ i, i ≤ n → accessCheck (fetched s) .store (base + BitVec.ofNat 32 (4 * i)) 4 = none) →
      (∀ i, i < n → s.firstBad (rsBase + rsOff s.cpu.rsb + 4 * i) 4 = none) →
      Answers (.rssv p a) s fun u =>
        u.loadNat base.toNat 4 = n
          ∧ (∀ i, i < n → u.loadNat (base.toNat + 4 + 4 * i) 4 = s.loadNat (rsBase + rsOff s.cpu.rsb + 4 * i) 4)
          ∧ (∀ b, (b < base.toNat ∨ base.toNat + 4 * (n + 1) ≤ b) → u.byte b = s.byte b)
          ∧ u = { after s { (awake s).setAr (dreg a) (base + BitVec.ofNat 32 (4 * (n + 1))) with
                rsp := BitVec.ofNat 13 (rsOff s.cpu.rsb) } with mem := u.mem, badBytes := u.badBytes })
    ∧ (∀ p (a : RegNo) (n : Nat) s, Issues p (.sys .rsrs (BitVec.ofNat 16 (a.val * 2 ^ 12))) s →
      let base := s.cpu.ar (dreg a)
      base.toNat % 4 = 0 → sramBase ≤ base.toNat → base.toNat + 4 * (n + 1) ≤ sramBase + 0x100000 →
      s.loadNat base.toNat 4 = n → rsOff s.cpu.rsb + 4 * n ≤ rsOff s.cpu.rsl →
      (∀ i, i ≤ n → accessCheck (fetched s) .load (base + BitVec.ofNat 32 (4 * i)) 4 = none) →
      Answers (.rsrs p a) s fun u =>
        (∀ i, i < n → u.loadNat (rsBase + rsOff s.cpu.rsb + 4 * i) 4 = s.loadNat (base.toNat + 4 + 4 * i) 4)
          ∧ (∀ b, (b < rsBase + rsOff s.cpu.rsb ∨ rsBase + rsOff s.cpu.rsb + 4 * n ≤ b) → u.byte b = s.byte b)
          ∧ u = { after s { (awake s).setAr (dreg a) (base + BitVec.ofNat 32 (4 * (n + 1))) with
                rsp := BitVec.ofNat 13 (rsOff s.cpu.rsb + 4 * n) } with mem := u.mem, badBytes := u.badBytes })

/-- MFC and MTC read and write the control registers as chapter 16 maps them (VBR, EPC, EPSR, SCR0, SCR1, EADDR, IEN,
IPRI0, IPRI1, BKD and BKP shown); NOP and FENCE change nothing; EI and DI write IE; WAIT stops issue until an
interrupt line with its IEN bit set or an NMI is pending; RFE goes to EPC with PSR from EPSR. Each completes in every
state in which it issues, which for the privileged ones is privileged mode. Choices of the model: assumption log 28,
96.
Cites: R407, R408, R422, R444, R438, R432. -/
def Obligations.ControlRegisters : Prop :=
  (∀ p t (k : BitVec 6) s, Issues p (.cr false (dreg t) k) s →
      Answers (.mfc p t k) s fun u =>
        u = after s { (awake s).setDr (dreg t) (mfcValue (fetched s) k.toNat).1 with
              cychi := if k = 8 then BitVec.ofNat 32 (s.cpu.cyc / 2 ^ 32) else s.cpu.cychi })
    ∧ (∀ (s : State),
      (mfcValue s 0).1 = s.cpu.psr ∧ (mfcValue s 2).1 = s.cpu.bkd.setWidth 32 ∧ (mfcValue s 3).1 = s.cpu.bkp.setWidth 32
        ∧ (mfcValue s 8).1 = BitVec.ofNat 32 s.cpu.cyc ∧ (mfcValue s 0x10).1 = s.cpu.vbr
        ∧ (mfcValue s 0x11).1 = s.cpu.epc ∧ (mfcValue s 0x12).1 = s.cpu.epsr ∧ (mfcValue s 0x14).1 = s.cpu.eaddr
        ∧ (mfcValue s 0x16).1 = s.cpu.ien ∧ (mfcValue s 0x1B).1 = s.cpu.scr0 ∧ (mfcValue s 0x1C).1 = s.cpu.scr1)
    ∧ (∀ p t (k : BitVec 6) s, Issues p (.cr true (dreg t) k) s →
      exec (.mtc p t k) s = .next (after s ((awake s).mtc k.toNat (s.cpu.dr (dreg t)))))
    ∧ (∀ (c : Cpu) (w : Word), c.mtc 0x10 w = { c with vbr := BitVec.ofNat 32 (w.toNat / 256 * 256) }
        ∧ c.mtc 0x11 w = { c with epc := BitVec.ofNat 32 (w.toNat / 4 * 4) } ∧ c.mtc 0x14 w = { c with eaddr := w }
        ∧ c.mtc 0x16 w = { c with ien := w } ∧ c.mtc 0x17 w = { c with ipri0 := w }
        ∧ c.mtc 0x18 w = { c with ipri1 := w } ∧ c.mtc 0x1B w = { c with scr0 := w } ∧ c.mtc 0x1C w = { c with scr1 := w }
        ∧ c.mtc 2 w = { c with bkd := w.setWidth 16 } ∧ c.mtc 3 w = { c with bkp := w.setWidth 16 }
        ∧ (c.mtc 0 w).priv = c.priv)
    ∧ (∀ p s, Issues p (.sys .nop 0) s → exec (.nop p) s = .next (after s (awake s)))
    ∧ (∀ p s, Issues p (.sys .fence 0) s → exec (.fence p) s = .next (after s (awake s)))
    ∧ (∀ p s, Issues p (.sys .ei 0) s → exec (.ei p) s = .next (after s { awake s with ie := true }))
    ∧ (∀ p s, Issues p (.sys .di 0) s → exec (.di p) s = .next (after s { awake s with ie := false }))
    ∧ (∀ p s, Issues p (.sys .wait 0) s →
      exec (.wait p) s = .next (after s { awake s with waiting := !s.cpu.nmipend && !irqWaits (fetched s) }))
    ∧ (∀ p s, Issues p (.sys .rfe 0) s →
      exec (.rfe p) s = .next (retire (fetched s)
        { awake s with priv := s.cpu.epsr.getLsbD 0, ie := s.cpu.epsr.getLsbD 1, erract := s.cpu.epsr.getLsbD 2
                       v := s.cpu.epsr.getLsbD 4, dz := s.cpu.epsr.getLsbD 5, qsat := s.cpu.epsr.getLsbD 6
                       dztrap := s.cpu.epsr.getLsbD 8 } s.cpu.epc none))

/-- For an exception that leaves no mark in the error registers, taken with return address epc, when it is no synchronous
error raised with ERRACT=1 and the vector word at VBR + 4 x vector can be read and is aligned: EPC is epc, EPSR the
old PSR, CAUSE and EADDR those of the exception, PRIV=1, IE=0, ERRACT is set for vectors 1 and 3 to 7 and otherwise
kept, and PC is the vector word; the other core registers, memory and all register fields but those that the vector
read itself changes are as before. With ERRACT=1 a synchronous error is FATAL: the core is reset with cause FATAL.
Choices of the model: assumption log 96.
Cites: R435, R436, R437, R441. -/
def Obligations.ExceptionEntry : Prop :=
  (∀ (e : Exc) (epc : Word) (s : State), e.mark = .none →
      ((e.vec = 1 ∨ (3 ≤ e.vec ∧ e.vec ≤ 7)) → s.cpu.erract = false) →
      let v := s.cpu.vbr + BitVec.ofNat 32 (4 * e.vec)
      let c : Cpu := { s.cpu with
        epc := epc, epsr := s.cpu.psr, vec := BitVec.ofNat 6 e.vec, code := e.code, eaddr := e.eaddr
        priv := true, ie := false, erract := s.cpu.erract || e.vec == 1 || (3 ≤ e.vec && e.vec ≤ 7)
        nmiact := s.cpu.nmiact || e.vec == 11, nmipend := s.cpu.nmipend && e.vec != 11, waiting := false }
      accessCheck { s with cpu := c } .load v 4 = none →
      (readValue { s with cpu := c } v 4).1.toNat % 4 = 0 →
      let r := readValue { s with cpu := c } v 4
      takeExc e epc s = { r.2 with cpu := { r.2.cpu with pc := r.1 } })
    ∧ (∀ (e : Exc) (epc : Word) (s : State), e.mark = .none → (e.vec = 1 ∨ (3 ≤ e.vec ∧ e.vec ≤ 7)) →
      s.cpu.erract = true →
      (takeExc e epc s).rd Reg.SYS_RSTCAUSE.FATAL = 1 ∧ (takeExc e epc s).cpu = {}
        ∧ (takeExc e epc s).kpf.state = 0)

/-- TRAP and BKPT (with no debugger holding breakpoints) take vector 9 and 10 with IMM16 in CODE and the next instruction
in EPC; BKPT under a debugger halts the core instead; DIVS, DIVU, REMS and REMU by zero with DZTRAP=1 take vector 8
after the instruction; INTERRUPT_ENTRY at a boundary with IE=1 and no NMI ready takes vector 32 + n for the best
pending enabled line n; NMI_ENTRY takes vector 11. Each takes the exception with the return address shown; a command
for which nothing is pending changes nothing. Choices of the model: assumption log 28, 96, 118.
Cites: R435, R430, R437, R443, R445. -/
def Obligations.TrapsAndInterrupts : Prop :=
  (∀ p imm s, Issues p (.sys .trap imm) s →
      exec (.trap p imm) s = .next (takeExc { vec := 9, code := imm, next := true } (s.cpu.pc + 4)
        { fetched s with cpu := (awake s).commitSlot }))
    ∧ (∀ p imm s, Issues p (.sys .bkpt imm) s → s.sys.dbgBreak = false →
      exec (.bkpt p imm) s = .next (takeExc { vec := 10, code := imm, next := true } (s.cpu.pc + 4)
        { fetched s with cpu := (awake s).commitSlot }))
    ∧ (∀ p imm s, Issues p (.sys .bkpt imm) s → s.sys.dbgBreak = true →
      Answers (.bkpt p imm) s fun u => u.sys.dbgHalted = true ∧ u.cpu.pc = s.cpu.pc + 4 ∧ u.mem = s.mem)
    ∧ (∀ p d x y s, Issues p (.rr .divs (dreg d) (dreg x) (dreg y) 0) s → s.cpu.dr (dreg y) = 0 →
      s.cpu.dztrap = true →
      let u := after s (aluWrites .divs (awake s) (dreg d) (dreg x) (dreg y) 0)
      exec (.divs p d x y) s = .next (takeExc { vec := 8 } (s.cpu.pc + 4) u))
    ∧ (∀ p d x y s, Issues p (.rr .divu (dreg d) (dreg x) (dreg y) 0) s → s.cpu.dr (dreg y) = 0 →
      s.cpu.dztrap = true →
      let u := after s (aluWrites .divu (awake s) (dreg d) (dreg x) (dreg y) 0)
      exec (.divu p d x y) s = .next (takeExc { vec := 8 } (s.cpu.pc + 4) u))
    ∧ (∀ p d x y s, Issues p (.rr .rems (dreg d) (dreg x) (dreg y) 0) s → s.cpu.dr (dreg y) = 0 →
      s.cpu.dztrap = true →
      let u := after s (aluWrites .rems (awake s) (dreg d) (dreg x) (dreg y) 0)
      exec (.rems p d x y) s = .next (takeExc { vec := 8 } (s.cpu.pc + 4) u))
    ∧ (∀ p d x y s, Issues p (.rr .remu (dreg d) (dreg x) (dreg y) 0) s → s.cpu.dr (dreg y) = 0 →
      s.cpu.dztrap = true →
      let u := after s (aluWrites .remu (awake s) (dreg d) (dreg x) (dreg y) 0)
      exec (.remu p d x y) s = .next (takeExc { vec := 8 } (s.cpu.pc + 4) u))
    ∧ (∀ s n, s.coreUp = true → s.sys.dbgHalted = false → s.cpu.slot = none → irqReady s = some n →
      exec .interruptEntry s = .next (takeExc { vec := 32 + n } s.cpu.pc s))
    ∧ (∀ s, irqReady s = none → exec .interruptEntry s = .next s)
    ∧ (∀ s n, irqReady s = some n → s.cpu.ie = true ∧ n < 32 ∧ linePending s n = true ∧ s.cpu.ien.getLsbD n = true
        ∧ ∀ m, m < 32 → linePending s m = true → s.cpu.ien.getLsbD m = true →
            linePriority s m < linePriority s n ∨ (linePriority s m = linePriority s n ∧ n ≤ m))
    ∧ (∀ s, s.coreUp = true → s.sys.dbgHalted = false → s.cpu.slot = none → s.cpu.nmipend = true →
      s.cpu.nmiact = false → s.cpu.erract = false →
      exec .nmiEntry s = .next (takeExc { vec := 11 } s.cpu.pc s))
    ∧ (∀ s, s.cpu.nmipend = false → exec .nmiEntry s = .next s)

/-- With Dc = n, element size b = 1, 2 or 4 bytes, all of its accesses in main SRAM, aligned, permitted and of good
parity, distinct registers as R431 demands, and no interrupt or NMI ready: BFILL leaves the low bytes of Dv in each of
n elements and every other byte as it was; BMOV does what n copies of one element, in ascending order, do; BCMP stops
at the first element that differs and BSCAN at the first that equals Dv, with memory as it was; addresses have moved
over the elements done and Dc has counted them. Choices of the model: assumption log 28, 96.
Cites: R426, R427. -/
def Obligations.BlockInstructions : Prop :=
  (∀ p d c v (sz : Fin 4) s, Issues p (.blk .bfill 0 (dreg d) (dreg c) (dreg v) sz) s →
      let n := (s.cpu.dr (dreg c)).toNat
      let b := 2 ^ sz.val
      let dst := (s.cpu.ar (dreg d)).toNat
      sramBase ≤ dst → dst + n * b ≤ sramBase + 0x100000 →
      (∀ i, i < n → accessCheck (fetched s) .store (BitVec.ofNat 32 (dst + i * b)) b = none) →
      nmiReady s = false → irqReady (fetched s) = none →
      Answers (.bfill p d c v sz) s fun u =>
        (∀ i j, i < n → j < b → u.byte (dst + i * b + j) = BitVec.ofNat 8 ((s.cpu.dr (dreg v)).toNat / 256 ^ j))
          ∧ (∀ x, (x < dst ∨ dst + n * b ≤ x) → u.byte x = s.byte x)
          ∧ u = { after s (((awake s).setAr (dreg d) (BitVec.ofNat 32 (dst + n * b))).setDr (dreg c) 0) with
                mem := u.mem, badBytes := u.badBytes })
    ∧ (∀ p x d c (sz : Fin 4) s, Issues p (.blk .bmov (dreg x) (dreg d) (dreg c) 0 sz) s →
      let n := (s.cpu.dr (dreg c)).toNat
      let b := 2 ^ sz.val
      let src := (s.cpu.ar (dreg x)).toNat
      let dst := (s.cpu.ar (dreg d)).toNat
      let copied := (List.range n).foldl (fun m i => m.storeNat (dst + i * b) b (m.loadNat (src + i * b) b)) (fetched s)
      sramBase ≤ dst → dst + n * b ≤ sramBase + 0x100000 → sramBase ≤ src → src + n * b ≤ sramBase + 0x100000 →
      (∀ i, i < n → accessCheck (fetched s) .load (BitVec.ofNat 32 (src + i * b)) b = none
        ∧ accessCheck (fetched s) .store (BitVec.ofNat 32 (dst + i * b)) b = none) →
      nmiReady s = false → irqReady (fetched s) = none →
      exec (.bmov p x d c sz) s = .next (retire copied
        ((((awake s).setAr (dreg x) (BitVec.ofNat 32 (src + n * b))).setAr (dreg d) (BitVec.ofNat 32 (dst + n * b))).setDr
          (dreg c) 0) (s.cpu.pc + 4) none))
    ∧ (∀ p x d c (sz : Fin 4) s (k : Nat), Issues p (.blk .bcmp (dreg x) (dreg d) (dreg c) 0 sz) s →
      let n := (s.cpu.dr (dreg c)).toNat
      let b := 2 ^ sz.val
      let src := (s.cpu.ar (dreg x)).toNat
      let dst := (s.cpu.ar (dreg d)).toNat
      sramBase ≤ dst → dst + n * b ≤ sramBase + 0x100000 → sramBase ≤ src → src + n * b ≤ sramBase + 0x100000 →
      (∀ i, i < n → accessCheck (fetched s) .load (BitVec.ofNat 32 (src + i * b)) b = none
        ∧ accessCheck (fetched s) .load (BitVec.ofNat 32 (dst + i * b)) b = none) →
      nmiReady s = false → irqReady (fetched s) = none → k ≤ n →
      (∀ i, i < k → s.loadNat (src + i * b) b = s.loadNat (dst + i * b) b) →
      (k < n → s.loadNat (src + k * b) b ≠ s.loadNat (dst + k * b) b) →
      exec (.bcmp p x d c sz) s = .next (after s
        ((((awake s).setAr (dreg x) (BitVec.ofNat 32 (src + k * b))).setAr (dreg d) (BitVec.ofNat 32 (dst + k * b))).setDr
          (dreg c) (BitVec.ofNat 32 (n - k)))))
    ∧ (∀ p x c v (sz : Fin 4) s (k : Nat), Issues p (.blk .bscan (dreg x) 0 (dreg c) (dreg v) sz) s →
      let n := (s.cpu.dr (dreg c)).toNat
      let b := 2 ^ sz.val
      let src := (s.cpu.ar (dreg x)).toNat
      let want := (s.cpu.dr (dreg v)).toNat % 256 ^ b
      sramBase ≤ src → src + n * b ≤ sramBase + 0x100000 →
      (∀ i, i < n → accessCheck (fetched s) .load (BitVec.ofNat 32 (src + i * b)) b = none) →
      nmiReady s = false → irqReady (fetched s) = none → k ≤ n →
      (∀ i, i < k → s.loadNat (src + i * b) b ≠ want) → (k < n → s.loadNat (src + k * b) b = want) →
      exec (.bscan p x c v sz) s = .next (after s
        (((awake s).setAr (dreg x) (BitVec.ofNat 32 (src + k * b))).setDr (dreg c) (BitVec.ofNat 32 (n - k)))))

/-- A custom word whose entry is valid and whose micro-ops all run takes effect at once: the registers and memory of the
sequence run on a copy that starts with T0 to T3 zero, T0 to T3 zero again, and the load of its last micro-op waiting;
when a micro-op raises an exception, that exception is taken at the custom word and nothing the sequence did is kept.
A write of SYS_UCLO with TABLE=1 commits a decode-table entry, a write of SYS_UCHI with TABLE=0 a microcode word with
SYS_UCLO below it, INDEX goes on with AUTOINC=1, and after SEC_LOCK.UCODE both only set LOCKERR. Choices of the model:
assumption log 28, 96.
Cites: R423, R449, R453, R454, R455, R457. -/
def Obligations.CustomInstructions : Prop :=
  (∀ p major idx d a t imm s ms s' dz, Issues p (.custom major idx d a t imm) s →
      entryOps (fetched s) (Sparse.get 0 (16 * major.val + idx.val) s.cpu.table) ⟨d, a, t, imm⟩ = some ms →
      microRun { fetched s with cpu := { (awake s).clearT with slot := none } } false ms = .ok (s', dz) →
      (dz && s'.cpu.dztrap) = false →
      exec (.customInstruction p major idx d a t imm) s =
        .next (retire s' { s'.cpu.clearT with slot := s.cpu.slot, lastCustom := some (16 * major.val + idx.val) }
          (s.cpu.pc + 4) s'.cpu.slot))
    ∧ (∀ p major idx d a t imm s ms x, Issues p (.custom major idx d a t imm) s →
      entryOps (fetched s) (Sparse.get 0 (16 * major.val + idx.val) s.cpu.table) ⟨d, a, t, imm⟩ = some ms →
      microRun { fetched s with cpu := { (awake s).clearT with slot := none } } false ms = .error x →
      exec (.customInstruction p major idx d a t imm) s = .next (faultAtPc x (fetched s)))
    ∧ (∀ v s, Stores s 0x40000104 → s.on Reg.SEC_LOCK.UCODE = false → s.on Reg.SYS_UCSEL.TABLE = true →
      s.rd Reg.SYS_UCSEL.INDEX < 64 →
      let i := s.rd Reg.SYS_UCSEL.INDEX
      let m := s.wr Reg.SYS_UCLO.DATA v.toNat
      let u := { m with cpu := { m.cpu with table := Sparse.put 0 i (v.toNat % 2 ^ 17) s.cpu.table } }
      exec (.sysUclo v) s =
        .next (if s.on Reg.SYS_UCSEL.AUTOINC then u.wr Reg.SYS_UCSEL.INDEX (i + 1) else u))
    ∧ (∀ v s, Stores s 0x40000108 → s.on Reg.SEC_LOCK.UCODE = false → s.on Reg.SYS_UCSEL.TABLE = false →
      let i := s.rd Reg.SYS_UCSEL.INDEX
      let m := s.wr Reg.SYS_UCHI.CTL v.toNat
      let u := { m with cpu := { m.cpu with
        ucode := Sparse.put 0 i (s.rd Reg.SYS_UCLO.DATA + v.toNat % 256 * 2 ^ 32) s.cpu.ucode
        ucodeBad := s.cpu.ucodeBad.filter (· != i) } }
      exec (.sysUchi v) s =
        .next (if s.on Reg.SYS_UCSEL.AUTOINC then u.wr Reg.SYS_UCSEL.INDEX (i + 1) else u))
    ∧ (∀ v s, Stores s 0x40000104 → s.on Reg.SEC_LOCK.UCODE = true →
      exec (.sysUclo v) s = .next (s.set Reg.SYS_UCSTAT.LOCKERR))
    ∧ (∀ v s, Stores s 0x40000108 → s.on Reg.SEC_LOCK.UCODE = true →
      exec (.sysUchi v) s = .next (s.set Reg.SYS_UCSTAT.LOCKERR))

/-- When stage 1 has run out, its expiry sets the held NMI and starts stage 2; when stage 2 has run out, a core reset with
cause WDOG2 clears the core's registers; the kick key while a stage runs in time restarts stage 1, and one with EN=0
or in the microsecond of an expiry changes nothing; a bad kick sets BADKICK and with EN=1 also ends the stage at once:
stage 1 with the held NMI and STAGE=1, stage 2 with the core reset. An open debug port halts, steps and resumes the
core, which does not issue while halted, and the watchdog keeps its count meanwhile; it reads and writes the core
registers, and at level 2 alone it reaches core addresses, as shown for a word of main SRAM; a closed port does
nothing. Choices of the model: assumption log 2, 21, 116.
Cites: R317, R318, R447, R448. -/
def Obligations.WatchdogAndDebug : Prop :=
  (∀ (t : Nat) (s : State), wdDue (s.seen t) = true → s.on Reg.TMR_WDSTAT.STAGE = false →
      exec (.watchdogStage1Expiry t) s =
        .next ({ s.seen t with
          cpu := { s.cpu with nmipend := true }
          wdog := { start := max s.tbase t, held := none, expiredAt := some (max s.tbase t) } }.set
          Reg.TMR_WDSTAT.STAGE))
    ∧ (∀ (t : Nat) (s : State), wdDue (s.seen t) = true → s.on Reg.TMR_WDSTAT.STAGE = true →
      Answers (.watchdogStage2Expiry t) s fun u =>
        u.rd Reg.SYS_RSTCAUSE.WDOG2 = 1 ∧ u.cpu = {} ∧ u.rd Reg.TMR_WDSTAT.STAGE = 0 ∧ u.mem = s.mem)
    ∧ (∀ v s, Stores s 0x40140108 → v.toNat % 2 ^ 16 = 0x6B5A → s.on Reg.TMR_WDCTL.EN = true → wdDue s = false →
      s.wdog.expiredAt ≠ some s.tbase →
      exec (.tmrWdkick v) s =
        .next { s.clr Reg.TMR_WDSTAT.STAGE with
          wdog := { start := s.tbase, held := s.wdog.held.map fun _ => 0 } })
    ∧ (∀ v s, Stores s 0x40140108 → v.toNat % 2 ^ 16 = 0x6B5A →
      s.on Reg.TMR_WDCTL.EN = false ∨ wdDue s = true ∨ s.wdog.expiredAt = some s.tbase →
      exec (.tmrWdkick v) s = .next s)
    ∧ (∀ v s, Stores s 0x40140108 → v.toNat % 2 ^ 16 ≠ 0x6B5A → s.on Reg.TMR_WDCTL.EN = true →
      s.on Reg.TMR_WDSTAT.STAGE = false →
      exec (.tmrWdkick v) s =
        .next ({ s.set Reg.TMR_WDSTAT.BADKICK with
          cpu := { s.cpu with nmipend := true }
          wdog :=
            { start := s.tbase, held := s.wdog.held.map fun _ => 0, expiredAt := some s.tbase } }.set
          Reg.TMR_WDSTAT.STAGE))
    ∧ (∀ v s, Stores s 0x40140108 → v.toNat % 2 ^ 16 ≠ 0x6B5A → s.on Reg.TMR_WDCTL.EN = true →
      s.on Reg.TMR_WDSTAT.STAGE = true →
      Answers (.tmrWdkick v) s fun u => u.rd Reg.TMR_WDSTAT.BADKICK = 1 ∧ u.rd Reg.SYS_RSTCAUSE.WDOG2 = 1 ∧ u.cpu = {}
        ∧ u.rd Reg.TMR_WDSTAT.STAGE = 0 ∧ u.mem = s.mem)
    ∧ (∀ v s, Stores s 0x40140108 → v.toNat % 2 ^ 16 ≠ 0x6B5A → s.on Reg.TMR_WDCTL.EN = false →
      exec (.tmrWdkick v) s = .next (s.set Reg.TMR_WDSTAT.BADKICK))
    ∧ (∀ s, s.on Reg.TMR_WDCTL.EN = true → s.wdog.held = none → s.on Reg.TMR_WDSTAT.STAGE = false →
      (wdDue s = true ↔ 1000 * max 50 (s.rd Reg.TMR_WDCFG.T1) ≤ s.tbase - s.wdog.start))
    ∧ (∀ s, s.coreUp = true → s.on Reg.SEC_LCS.DBGOPEN = true →
      exec (.debugPortHalt .halt) s = .next { s with
          sys := { s.sys with dbgHalted := true, dbgStep := false }
          wdog := if s.wdog.held = none then { s.wdog with held := some (s.tbase - s.wdog.start) } else s.wdog }
        ∧ (s.sys.dbgHalted = true →
            exec (.debugPortHalt .step) s = .next { s with sys := { s.sys with dbgStep := true } })
        ∧ exec (.debugPortHalt (.breakpoints true)) s = .next { s with sys := { s.sys with dbgBreak := true } }
        ∧ Answers (.debugPortHalt .resume) s fun u =>
            u.sys.dbgHalted = false ∧ u.wdog.held = none ∧ u.cpu = s.cpu ∧ u.fields = s.fields ∧ u.mem = s.mem)
    ∧ (∀ (n : RegNo) (v : Word) (s : State), s.coreUp = true → s.on Reg.SEC_LCS.DBGOPEN = true →
      exec (.debugPortHalt (.readReg (.data n))) s = .next { s with rdata := (s.cpu.dr (dreg n)).toNat }
        ∧ exec (.debugPortHalt (.writeReg (.data n) v)) s = .next { s with cpu := s.cpu.setDr (dreg n) v }
        ∧ exec (.debugPortHalt (.readReg .pc)) s = .next { s with rdata := s.cpu.pc.toNat })
    ∧ (∀ (a v : Word) (z : Fin 3) (s : State), s.rd Reg.SEC_LCS.DBGLEVEL ≠ 2 →
      exec (.debugPortHalt (.read a z)) s = .next s ∧ exec (.debugPortHalt (.write a z v)) s = .next s)
    ∧ (∀ (a v : Word) (s : State), s.coreUp = true → s.on Reg.SEC_LCS.DBGOPEN = true →
      s.rd Reg.SEC_LCS.DBGLEVEL = 2 → 0x20000000 ≤ a.toNat → a.toNat < 0x20100000 →
      accessCheck { s with cpu := { s.cpu with priv := true } } .store a 4 = none →
      Answers (.debugPortHalt (.write a 2 v)) s fun u =>
        (∀ i, i < 4 → u.byte (a.toNat + i) = BitVec.ofNat 8 (v.toNat / 256 ^ i)) ∧ u.cpu = s.cpu ∧ u.fields = s.fields
          ∧ ∀ b, b < a.toNat ∨ a.toNat + 4 ≤ b → u.byte b = s.byte b)
    ∧ (∀ op s, s.on Reg.SEC_LCS.DBGOPEN = false → exec (.debugPortHalt op) s = .next s)
    ∧ (∀ s, s.sys.dbgHalted = true → s.sys.dbgStep = false → canIssue s = false)

/-- An instruction that passes its fetch and decode checks and whose predicate does not hold changes nothing but what the
end of any instruction does: the waiting load is written, PC goes to the next instruction, CYC counts. Choices of the
model: assumption log 28, 96.
Cites: R403, R404. -/
def Obligations.PredicateFalse : Prop :=
  ∀ (p : Pred) (op : Op) (s : State), canIssue s = true → accessCheck s .fetch s.cpu.pc 4 = none →
    decodeCheck s p op = none → s.cpu.holds p = false →
    runCore p op s = after s (awake s)

/-- RFE, WAIT, EI, DI, RSSV, RSRS, and MFC and MTC of the privileged control registers, fetched in task mode, take vector
1 with the instruction word in EADDR, and do nothing else. Choices of the model: assumption log 96.
Cites: R407, R422, R431, R434. -/
def Obligations.PrivilegedInTaskMode : Prop :=
  ∀ (p : Pred) (s : State), canIssue s = true → accessCheck s .fetch s.cpu.pc 4 = none → s.cpu.priv = false →
    (∀ f ∈ ([.rfe, .wait, .ei, .di] : List SysOp),
      runCore p (.sys f 0) s = faultAtPc { vec := 1, eaddr := encodeOp p (.sys f 0) } (fetched s))
    ∧ (∀ a : RegNo, exec (.rssv p a) s = .next (faultAtPc
        { vec := 1, eaddr := encodeOp p (.sys .rssv (BitVec.ofNat 16 (a.val * 2 ^ 12))) } (fetched s)))
    ∧ (∀ a : RegNo, exec (.rsrs p a) s = .next (faultAtPc
        { vec := 1, eaddr := encodeOp p (.sys .rsrs (BitVec.ofNat 16 (a.val * 2 ^ 12))) } (fetched s)))
    ∧ (∀ t (k : BitVec 6), (4 ≤ k.toNat ∧ k.toNat ≤ 6 ∨ 0x10 ≤ k.toNat ∧ k.toNat ≤ 0x1F) →
      exec (.mfc p t k) s = .next (faultAtPc { vec := 1, eaddr := encodeOp p (.cr false (dreg t) k) } (fetched s))
        ∧ exec (.mtc p t k) s = .next (faultAtPc { vec := 1, eaddr := encodeOp p (.cr true (dreg t) k) } (fetched s)))

/-- For every operation whose register fields are those of an instruction word (0 to 15) and that passes the checks of
R431, under every predicate but NEG on P0, and but for the two words that are always ILLEGAL: the decoder reads from
the word that stands for it the same predicate and the same operation, with every operand at every value the encoding
admits.
Cites: R403, R414, R415, R416, R417, R418, R419, R420, R421, R426, R431. -/
def Obligations.InstructionWords : Prop :=
  ∀ (p : Pred) (op : Op), wordOk p op = true → op.wordRegs = true → decodeWord (encodeOp p op) = some (p, op)

/-- A write of SYS_DOMCTRL with LUXEN=1 and no key switches LUX on with LUXRDY=0, and the zeroing then sets LUXRDY with
every lighting byte 0; a COREOFF or SHIP request with its key, when nothing in R23 or R47 forbids it, is accepted; one
that R23 or R47 forbids, one of both together, and one while an accepted one is being carried out only sets REFUSED;
the tick that follows carries an accepted request out: CORE off with AON running, or everything off in ship mode;
SHIP_WAKE in ship mode, or while the request is being carried out, starts a cold reset with cause SHIPWAKE and the
straps sampled. A REGISTER_WRITE of a field without a row of its own acts as its access code says (shown for
SYS_RSTCAUSE, W1C, and SYS_WAKEEN, RW). Choices of the model: assumption log 1, 6, 14, 19, 104, 115.
Cites: R14, R21, R23, R47, R48, R9. -/
def Obligations.DomainControl : Prop :=
  (∀ (v : Word) (s : State), Stores s 0x40000010 → v.toNat % 2 = 1 → v.toNat / 2 ^ 24 ≠ 0xA5 →
      s.on Reg.SYS_DOMCTRL.LUXEN = false →
      Answers (.luxen v) s fun u => u.rd Reg.SYS_DOMCTRL.LUXEN = 1 ∧ u.rd Reg.SYS_DOMCTRL.LUXRDY = 0
        ∧ u.mem = s.mem ∧ u.cpu = s.cpu ∧ u.sys = s.sys)
    ∧ (∀ (t : Nat) (s : State), s.coreUp = true → s.on Reg.SYS_DOMCTRL.LUXEN = true →
      s.on Reg.SYS_DOMCTRL.LUXRDY = false →
      Answers (.luxReady t) s fun u => u.rd Reg.SYS_DOMCTRL.LUXRDY = 1
        ∧ (∀ a, 0x30000000 ≤ a → a < 0x30030C00 → u.byte a = 0 ∧ a ∉ u.badBytes)
        ∧ (∀ a, a < 0x30000000 → u.byte a = s.byte a) ∧ FieldsBut [Reg.SYS_DOMCTRL.LUXRDY] s u)
    ∧ (∀ (v : Word) (s : State), Stores s 0x40000010 → v.toNat / 2 ^ 24 = 0xA5 → v.toNat % 2 = 0 →
      v.toNat.testBit 9 = false → v.toNat.testBit 16 = false → s.sys.offReq = none → coreNeeded s = false →
      exec (.coreoff v) s = .next { s with sys := { s.sys with offReq := some .coreOff } })
    ∧ (∀ (v : Word) (s : State), Stores s 0x40000010 → v.toNat / 2 ^ 24 = 0xA5 →
      (v.toNat.testBit 0 = s.on Reg.SYS_DOMCTRL.LUXEN) → v.toNat.testBit 9 = false → v.toNat.testBit 16 = false →
      coreNeeded s = true → exec (.coreoff v) s = .next (s.set Reg.SYS_DOMCTRL.REFUSED))
    ∧ (∀ (v : Word) (s : State), Stores s 0x40000010 → v.toNat / 2 ^ 24 = 0xA5 →
      (v.toNat.testBit 0 = s.on Reg.SYS_DOMCTRL.LUXEN) → v.toNat.testBit 16 = false →
      (v.toNat.testBit 9 = true ∨ s.sys.offReq.isSome = true →
        exec (.coreoff v) s = .next (s.set Reg.SYS_DOMCTRL.REFUSED))
      ∧ (v.toNat.testBit 8 = true ∨ s.sys.offReq.isSome = true ∨ inputAttached s = true →
        exec (.ship v) s = .next (s.set Reg.SYS_DOMCTRL.REFUSED)))
    ∧ (∀ (v : Word) (s : State), Stores s 0x40000010 → v.toNat / 2 ^ 24 = 0xA5 →
      (v.toNat.testBit 0 = s.on Reg.SYS_DOMCTRL.LUXEN) → v.toNat.testBit 8 = false → v.toNat.testBit 16 = false →
      s.sys.offReq = none → inputAttached s = false →
      exec (.ship v) s = .next { s with sys := { s.sys with offReq := some .ship } })
    ∧ (∀ s : State, s.pending = [] → s.sys.aonOn = true → s.sys.offReq = some .coreOff → s.sys.alarmFired = true →
      ∃ u, step s = .next u ∧ u.sys.coreOn = false ∧ u.sys.v18en = false ∧ u.sys.aonOn = true ∧ u.sys.offReq = none
        ∧ u.sec.fuses = s.sec.fuses)
    ∧ (∀ s : State, s.pending = [] → s.sys.aonOn = true → s.sys.offReq = some .ship →
      ∃ u, step s = .next u ∧ u.sys.shipMode = true ∧ u.sys.aonOn = false ∧ u.sys.coreOn = false)
    ∧ (∀ (h : Fin 4) (n : Fin 8) (s : State), s.sys.shipMode = true ∨ s.sys.offReq = some .ship →
      Answers (.shipWake h n) s fun u => u.sys.shipMode = false ∧ u.sys.aonOn = true ∧ u.sys.coreOn = false
        ∧ u.sys.waitPg = true ∧ u.sys.causes = 4 ∧ 300 ≤ u.sys.pgSince ∧ u.sys.pgSince ≤ 1000
        ∧ u.tbase = u.sys.pgSince ∧ u.cpu = {} ∧ u.sec.fuses = s.sec.fuses)
    ∧ (∀ (v : Word) (s : State), Stores s 0x40000020 →
      Answers (.registerWrite 0x40000020 v) s fun u => ∀ i, i < 14 →
        u.rd ⟨0x40000020, i, 1⟩ = if v.toNat.testBit i then 0 else s.rd ⟨0x40000020, i, 1⟩ % 2)
    ∧ (∀ (v : Word) (s : State), Stores s 0x40000040 →
      Answers (.registerWrite 0x40000040 v) s fun u => ∀ i, i < 9 →
        u.rd ⟨0x40000040, i, 1⟩ = if v.toNat.testBit i then 1 else 0)

/-- A wake source other than the key scanner (R208) sets its SYS_WAKESTAT bit (a lid event also moves the lid; an unlock
needs the keyboard unlocked, the alarm its time), and with its enable set, in the AON-only state, asserts V18_EN with
cause AONWAKE; the alarm fires when TBASE reaches it, a write of SYS_WAKEALARMHI taking both halves into effect;
CORESEL starts a change with CLKBUSY, which the settling ends; loss of lock puts the clocks on OSC10 with PLLLOSS
recorded, lock regained sets PLLLOCK; the crystal shows in XTAL32. Choices of the model: assumption log 2, 23, 104.
Cites: R24, R26, R27, R28, R36, R49. -/
def Obligations.WakeAndClocks : Prop :=
  (∀ (n : Fin 9) (t : Nat) (s : State), s.sys.aonOn = true → s.sys.shipMode = false → s.sys.coreOn = true →
      n ≠ 4 → (n = 5 → kbdLocked s = false) → (n = 7 → s.sys.alarm ≤ max s.tbase t) →
      exec (.wakeSource n t) s =
        .next ({ s.seen t with board := if n = 3 then { s.board with lid := !s.board.lid } else s.board }.set
          ⟨0x40000044, n.val, 1⟩))
    ∧ (∀ (n : Fin 9) (t : Nat) (s : State), aonOnly s = true → s.on ⟨0x40000040, n.val, 1⟩ = true →
      n ≠ 4 → (n = 5 → kbdLocked s = false) → (n = 7 → s.sys.alarm ≤ max s.tbase t) →
      Answers (.wakeSource n t) s fun u => u.rd ⟨0x40000044, n.val, 1⟩ = 1 ∧ u.sys.v18en = true ∧ u.sys.waitPg = true
        ∧ u.sys.causes = s.sys.causes ||| 2 ^ 7 ∧ u.rd Reg.SYS_PADHOLD.HOLD = 1 ∧ u.rd Reg.RAIL_HELD0.CH = 0
        ∧ u.rd Reg.RAIL_HELD1.CH = 0)
    ∧ (∀ (n : Fin 9) (t : Nat) (s : State), (n = 5 ∧ kbdLocked s = true) ∨ (n = 7 ∧ max s.tbase t < s.sys.alarm) →
      exec (.wakeSource n t) s = .next (s.seen t))
    ∧ (∀ (t : Nat) (s : State), s.sys.aonOn = true → s.sys.shipMode = false → s.sys.coreOn = true →
      s.sys.alarmFired = false → s.sys.alarm ≤ max s.tbase t →
      exec (.wakeAlarm t) s =
        .next ({ s.seen t with sys := { s.sys with alarmFired := true } }.set Reg.SYS_WAKESTAT.ALARM))
    ∧ (∀ (t : Nat) (s : State), max s.tbase t < s.sys.alarm → exec (.wakeAlarm t) s = .next (s.seen t))
    ∧ (∀ (v : Word) (s : State), Stores s 0x4000004C →
      s.tbase < s.rd Reg.SYS_WAKEALARMLO.ALARMLO + 2 ^ 32 * v.toNat →
      exec (.sysWakealarmhi v) s = .next { s.wr Reg.SYS_WAKEALARMHI.ALARMHI v.toNat with
        sys := { s.sys with
          alarm := s.rd Reg.SYS_WAKEALARMLO.ALARMLO + 2 ^ 32 * v.toNat, alarmFired := false } })
    ∧ (∀ (v : Word) (s : State), Stores s 0x40000030 → s.on Reg.SYS_CLKCFG.CLKBUSY = false →
      s.on Reg.SYS_CLKCFG.ONOSC10 = false → v.toNat % 16 ≠ s.rd Reg.SYS_CLKCFG.CORESEL →
      exec (.coresel v) s =
        .next { (s.wr Reg.SYS_CLKCFG.CORESEL (v.toNat % 16)).set Reg.SYS_CLKCFG.CLKBUSY with
          sys := { s.sys with pllBack := false } })
    ∧ (∀ (v : Word) (s : State), Stores s 0x40000030 → s.on Reg.SYS_CLKCFG.CLKBUSY = true →
      exec (.coresel v) s = .next s)
    ∧ (∀ (t : Nat) (s : State), s.sys.coreOn = true → s.on Reg.SYS_CLKCFG.CLKBUSY = true → s.sys.pllBack = false →
      exec (.clockSettled t) s = .next { (s.seen t).clr Reg.SYS_CLKCFG.CLKBUSY with
        sys := { s.sys with selInEffect := s.rd Reg.SYS_CLKCFG.CORESEL, pllBack := false } })
    ∧ (∀ (t : Nat) (s : State), s.sys.coreOn = true → s.on Reg.SYS_CLKCFG.PLLLOCK = true →
      exec (.pllLossOfLock t) s =
        .next { (((s.seen t).set Reg.SYS_CLKCFG.ONOSC10).clr Reg.SYS_CLKCFG.PLLLOCK).set Reg.ERR_MEMSTAT.PLLLOSS with
          sys := { s.sys with pllBack := false } })
    ∧ (∀ (t : Nat) (s : State), s.sys.coreOn = true → s.on Reg.SYS_CLKCFG.ONOSC10 = true →
      exec (.pllLockRegained t) s = .next ((s.seen t).set Reg.SYS_CLKCFG.PLLLOCK))
    ∧ (∀ (b : Bool) (t : Nat) (s : State), s.sys.coreOn = true →
      exec (.crystalSourceChange b t) s =
        .next ({ s.seen t with sys := { s.sys with xtal := b } }.wr Reg.SYS_CLKCFG.XTAL32 (if b then 1 else 0)))

/-- A keyed write with CORE or HANDOVER, when no deeper reset is asked for or waits, resets the core at once: its
registers take their reset values, the cause is recorded, and the hand-over mark is as requested. DOMAIN and COLD
wait; once the log front end is empty a domain reset holds the rails with HOLD=1, wipes and keeps the Firn store,
fuses and HOST, and a cold reset drops V18_EN with CORE off and TBASE at 1,000 or more. Without the key nothing
happens. Choices of the model: assumption log 1, 14, 18, 104.
Cites: R29, R30, R32, R365, R373, R475. -/
def Obligations.ResetRequests : Prop :=
  (∀ (v : Word) (s : State), Stores s 0x40000014 → v.toNat.testBit 1 = false →
      v.toNat.testBit 2 = false → v.toNat.testBit 3 = false → s.sys.waiting = none →
      Answers (.sysRstreqCore v) s fun u => u.cpu = {} ∧ u.rd Reg.SYS_RSTCAUSE.COREREQ = 1 ∧ u.kpf.state = 0
        ∧ u.sec.handover = false ∧ u.mem = s.mem ∧ u.firn = s.firn ∧ u.sys = s.sys)
    ∧ (∀ (v : Word) (s : State), Stores s 0x40000014 → v.toNat.testBit 0 = false → v.toNat.testBit 1 = false →
      v.toNat.testBit 2 = false → s.sys.waiting = none →
      Answers (.sysRstreqHandover v) s fun u => u.cpu = {} ∧ u.rd Reg.SYS_RSTCAUSE.HANDOVER = 1 ∧ u.kpf.state = 0
        ∧ u.sec.handover = true ∧ u.mem = s.mem ∧ u.firn = s.firn ∧ u.sys = s.sys)
    ∧ (∀ (v : Word) (s : State), Stores s 0x40000014 → v.toNat % 16 = 0 → s.sys.waiting = none →
      exec (.sysRstreqDomain v) s = .next { s with sys := { s.sys with
        waiting := some .domain, waitingCauses := s.sys.waitingCauses ||| 2 ^ 5 } })
    ∧ (∀ (v : Word) (s : State), Stores s 0x40000014 → v.toNat % 16 = 0 →
      exec (.sysRstreqCold v) s = .next { s with sys := { s.sys with
        waiting := some .cold, waitingCauses := s.sys.waitingCauses ||| 2 ^ 3 } })
    ∧ (∀ (v : Word) (s : State), Stores s 0x40000014 → v.toNat / 2 ^ 24 ≠ 0x5C →
      exec (.registerWrite 0x40000014 v) s = .next s)
    ∧ (∀ (t : Nat) (s : State), s.coreUp = true → s.sys.waiting = some .domain → s.log.front = [] →
      s.sys.v18pg = true → s.nvc.cmd = none → s.fgd.active = none →
      Answers (.domainReset t) s fun u => u.cpu = {} ∧ u.sys.wiping = true ∧ u.sys.coreOn = true ∧ u.sys.waiting = none
        ∧ u.sys.causes = s.sys.causes ||| s.sys.waitingCauses ∧ u.rd Reg.SYS_PADHOLD.HOLD = 1
        ∧ u.rd Reg.SYS_DOMCTRL.LUXEN = 0 ∧ u.mem = s.mem ∧ u.firn = s.firn ∧ u.sec.fuses = s.sec.fuses
        ∧ u.kpf.state = 0 ∧ u.log.front = [])
    ∧ (∀ (t : Nat) (s : State), s.coreUp = true → s.sys.waiting = some .cold → s.log.front = [] →
      Answers (.coldReset t) s fun u => u.cpu = {} ∧ u.sys.coreOn = false ∧ u.sys.waitPg = true ∧ u.sys.waiting = none
        ∧ u.sys.causes = s.sys.causes ||| s.sys.waitingCauses ∧ 1000 ≤ u.tbase ∧ u.mem = []
        ∧ u.sec.fuses = s.sec.fuses ∧ u.kpf.state = 0)

/-- AON power-up with AON off starts a cold reset with cause POR (AONBOR after a brownout whose latch was kept) and the
straps sampled; a brownout takes everything down with its latch set; V18_PG starts the wipe; its loss while CORE runs
starts a domain reset with cause CORESUP and CORE off; a wait of 20 ms drops V18_EN, with a retry a second later and
V18FAIL after the third; the end of the wipe leaves main SRAM, return stack and lighting memories zero with good
parity and the causes recorded; clearing HOLD passes the pins to the channels; an accepted life-cycle transition burns
its fuse, resets CORE with cause LCCHANGE and zeroes retained RAM. Choices of the model: assumption log 2, 14, 15, 18,
104, 108.
Cites: R33, R34, R36, R43, R50, R141, R148, R298, R476. -/
def Obligations.SupplyAndStartUp : Prop :=
  (∀ (h : Fin 4) (n : Fin 8) (b : Bool) (s : State), s.sys.aonOn = false → s.sys.shipMode = false →
      Answers (.aonPowerUp h n b) s fun u => u.sys.aonOn = true ∧ u.sys.coreOn = false ∧ u.sys.v18en = true
        ∧ u.sys.waitPg = true ∧ u.sys.causes.testBit (if s.sys.brownout && b then 1 else 0) = true
        ∧ u.rd Reg.HOST_STAT.MODE = h.val ∧ u.cpu = {} ∧ u.mem = [] ∧ u.sec.fuses = s.sec.fuses)
    ∧ (∀ (t : Nat) (s : State), s.sys.aonOn = true →
      Answers (.aonBrownout t) s fun u => u.sys.aonOn = false ∧ u.sys.coreOn = false ∧ u.sys.brownout = true
        ∧ u.cpu = {} ∧ u.kpf = {} ∧ u.sec.fuses = s.sec.fuses)
    ∧ (∀ (t : Nat) (s : State), s.sys.aonOn = true → s.sys.waitPg = true →
      Answers (.v18PgAsserted t) s fun u => u.sys = { s.sys with
          v18pg := true, coreOn := true, wiping := true, waitPg := false, attempts := 0 }
        ∧ u.rd Reg.SYS_CLKCFG.PLLLOCK = 1 ∧ u.rd Reg.SYS_CLKCFG.XTAL32 = s.sys.xtal.toNat ∧ u.mem = s.mem)
    ∧ (∀ (t : Nat) (s : State), s.sys.aonOn = true → s.sys.coreOn = true → s.sys.waiting ≠ some .cold →
      Answers (.v18PgDeasserted t) s fun u => u.sys.coreOn = false ∧ u.sys.waitPg = true ∧ u.sys.wiping = false
        ∧ u.sys.causes = s.sys.causes ||| s.sys.waitingCauses ||| 2 ^ 4 ∧ u.rd Reg.SYS_PADHOLD.HOLD = 1 ∧ u.cpu = {})
    ∧ (∀ (t : Nat) (s : State), s.sys.aonOn = true → s.sys.waitPg = true → s.sys.pgSince + 20000 ≤ max s.tbase t →
      Answers (.v18PgTimeout t) s fun u => u.sys.v18en = false ∧ u.sys.waitPg = false
        ∧ u.sys.attempts = s.sys.attempts + 1 ∧ u.sys.retryWait = decide (s.sys.attempts + 1 < 3)
        ∧ (s.sys.attempts = 2 → u.rd Reg.SYS_RSTCAUSE.V18FAIL = 1)
        ∧ (s.sys.attempts = 0 → u.rd Reg.SYS_PADHOLD.HOLD = 0 ∧ u.rd Reg.RAIL_HELD0.CH = 0))
    ∧ (∀ (t : Nat) (s : State), s.sys.aonOn = true → s.sys.retryWait = true →
      s.sys.pgSince + 1000000 ≤ max s.tbase t →
      exec (.v18Retry t) s = .next { s.seen t with sys := { s.sys with
        v18en := true, waitPg := true, retryWait := false, pgSince := max s.tbase t } })
    ∧ (∀ (t : Nat) (s : State), s.sys.wiping = true →
      Answers (.wipeComplete t) s fun u => u.sys.wiping = false ∧ u.sys.causes = 0
        ∧ (∀ a, (0x20000000 ≤ a ∧ a < 0x20100000) ∨ (0x2C000000 ≤ a ∧ a < 0x2C001000)
            ∨ (0x30000000 ≤ a ∧ a < 0x30030C00) → u.byte a = 0 ∧ a ∉ u.badBytes)
        ∧ (∀ a, 0x28000000 ≤ a → a < 0x28008000 → u.byte a = s.byte a)
        ∧ (∀ i, i < 14 → s.sys.causes.testBit i = true → u.rd ⟨0x40000020, i, 1⟩ = 1))
    ∧ (∀ (v : Word) (s : State), Stores s 0x40000018 → s.on Reg.SYS_PADHOLD.HOLD = true →
      Answers (.holdClear v) s fun u => u.rd Reg.SYS_PADHOLD.HOLD = 0
        ∧ ∀ n, n < 32 → (s.rd Reg.RAIL_HELD0.CH).testBit n = false → u.rd (Reg.RAIL_CHSTAT.STATE n) = 0)
    ∧ (∀ s : State, Loads s 0x40150014 →
      Answers .errEcccntRead s fun u => u.rdata = s.rd Reg.ERR_ECCCNT.CORR + 2 ^ 16 * s.rd Reg.ERR_ECCCNT.DED
        ∧ u.rd Reg.ERR_ECCCNT.CORR = 0 ∧ u.rd Reg.ERR_ECCCNT.DED = 0 ∧ u.mem = s.mem ∧ u.cpu = s.cpu)
    ∧ (∀ (b : Bool) (t : Nat) (s : State) (dst : Nat), s.sec.seq = some (.transition dst) → s.coreUp = true →
      s.log.front = [] → s.nvc.cmd = none → s.sys.v18pg = true → s.sys.waiting ≠ some .cold →
      Answers (.lifeCycleChange true b t) s fun u => u.sys.wiping = true ∧ u.sys.causes.testBit 6 = true ∧ u.cpu = {}
        ∧ u.sec.seq = none ∧ u.sec.fuses = burnTransition dst s.sec.fuses
        ∧ (∀ a, 0x28000000 ≤ a → a < 0x28008000 → u.byte a = 0))
    ∧ (∀ (b : Bool) (t : Nat) (s : State) (dst : Nat), s.sec.seq = some (.transition dst) → s.coreUp = true →
      s.log.front = [] → s.nvc.cmd = none →
      Answers (.lifeCycleChange false b t) s fun u => u.rd Reg.SEC_FUSESTAT.FUSEERR = 1 ∧ u.sec.seq = none
        ∧ u.sec.fuses = s.sec.fuses)

/-- For a completed transaction with a good CRC on a powered eSPI link, with e the state at its snapshot edge: a memory
read returns the host-window bytes of e; a memory write to the payload of a FREE or DONE mailbox stores its bytes
there; EC and configuration ports are read and written; PUT_VW moves a host-driven wire, GET_VW takes a waiting group;
a GET with nothing available is answered FATAL_ERROR (log 107: the model's reading); PUT_OOB fills a free slot,
GET_OOB takes the message in the outbound slot; PUT_FLASH takes a request, GET_FLASH its completion; every response
carries the status and a CRC; GET_STATUS, GET_CONFIGURATION and SET_CONFIGURATION work on the configuration; RESET
returns it to its start; an unsupported command counts FRAME. Choices of the model: assumption log 29, 30, 31, 100,
105, 106, 107, 123.
Cites: R52, R53, R54, R71, R72, R73, R74, R75, R76, R331, R478. -/
def Obligations.EspiTransactions : Prop :=
  (∀ (x : Txn) (a n : Nat) (s : State), EspiOk x s → (edge x s).link.cfgPeriph.testBit 0 = true → 1 ≤ n → n ≤ 64 →
      (edge x s).on Reg.CFG_ENABLE.WINDEC = true →
      let base := (edge x s).rd Reg.CFG_WINBASE.WINBASE / 2 ^ 16 * 2 ^ 16
      base ≤ a → a - base + n ≤ 0x3000 →
      Answers (.memoryRead x a n) s fun u => u.link.resp.code = .accept ∧ u.link.resp.data.length = n
        ∧ ∀ i, i < n → u.link.resp.data[i]? = some (hostByte (edge x s) (a - base + i)))
    ∧ (∀ (x : Txn) (t : Fin 8) (i : Nat) (d : List Byte) (s : State), EspiOk x s →
      (edge x s).link.cfgPeriph.testBit 0 = true → d ≠ [] → d.length ≤ 64 → 16 ≤ i → i + d.length ≤ 0x200 →
      (edge x s).on Reg.CFG_ENABLE.WINDEC = true → (edge x s).link.pages.testBit 2 = true →
      ((edge x s).rd (Reg.MBX_TAGINFO.STATE t) = 0 ∨ (edge x s).rd (Reg.MBX_TAGINFO.STATE t) = 3) →
      (edge x s).mbx.replay = [] →
      let base := (edge x s).rd Reg.CFG_WINBASE.WINBASE / 2 ^ 16 * 2 ^ 16
      Answers (.memoryWrite x (base + 0x1000 + 0x200 * t + i) d) s fun u => u.link.resp.code = .accept
        ∧ (∀ j, j < d.length → some (u.byte (mbxBase + 0x200 * t + i + j)) = d[j]?)
        ∧ u.rd (Reg.MBX_TAGINFO.RVALID t) = 0 ∧ u.rd Reg.HOST_EVT.HWRITE = 1)
    ∧ (∀ (x : Txn) (s : State), EspiOk x s → (edge x s).link.cfgPeriph.testBit 0 = true →
      (∀ port : BitVec 16, portSel (edge x s) port.toNat = .ecData →
        Answers (.ioRead x port) s fun u => u.link.resp.code = .accept ∧ u.link.resp.data = [(edge x s).ec.out]
          ∧ u.rd Reg.EC_STATUS.OBF = 0)
      ∧ (∀ port : BitVec 16, portSel (edge x s) port.toNat = .cfgIndex → ∀ b : Byte,
        exec (.ioWrite x port b) s = .next { answered x s {} with
          link := { (answered x s {}).link with cfgIndex := b.toNat } }))
    ∧ (∀ (x : Txn) (b : Byte) (s : State), EspiOk x s → (edge x s).link.cfgWire.testBit 0 = true →
      b.getLsbD 4 = true →
      Answers (.putVw x [(2, b)]) s fun u => u.link.resp.code = .accept
        ∧ u.rd Reg.HOST_VWIN.SLPS3 = (!b.getLsbD 0).toNat)
    ∧ (∀ (x : Txn) (g : Nat) (b : Byte) (s : State), EspiOk x s → (edge x s).link.cfgWire.testBit 0 = true →
      waitingGroups (edge x s) = [(g, b)] → 2 ≤ g →
      Answers (.getVw x) s fun u => u.link.resp.data = [0, BitVec.ofNat 8 g, b] ∧ g ∉ u.link.groups)
    ∧ (∀ (x : Txn) (s : State), EspiOk x s → (edge x s).link.cfgWire.testBit 0 = true → waitingGroups (edge x s) = [] →
      exec (.getVw x) s = .next (answered x s { code := .fatal }))
    ∧ (∀ (x : Txn) (msg : List Byte) (s : State), EspiOk x s → (edge x s).link.cfgOob.testBit 0 = true → msg ≠ [] →
      msg.length ≤ 68 → (msg.headD 0).toNat / 2 = (edge x s).rd Reg.HOST_CTRL.OOBADDR →
      (edge x s).on Reg.HOST_OOBRX.FULL = false →
      Answers (.putOob x msg) s fun u => u.link.resp.code = .accept ∧ u.rd Reg.HOST_OOBRX.FULL = 1
        ∧ u.rd Reg.HOST_OOBRX.LEN = msg.length ∧ u.rd Reg.HOST_EVT.OOBRX = 1
        ∧ u.rd (Reg.HOST_OOBRXDATA.DATA 0) = leNat (msg.take 4))
    ∧ (∀ (x : Txn) (s : State), EspiOk x s → (edge x s).link.cfgOob.testBit 0 = true →
      (if (edge x s).on Reg.HOST_OOBTX.BUSY = true ∧ (edge x s).on Reg.HOST_VWIN.HOSTRSTWARN = false then
        Answers (.getOob x) s fun u => u.rd Reg.HOST_OOBTX.BUSY = 0 ∧ u.link.resp.data = (edge x s).link.oobOut
          ∧ u.link.resp.head = [0x21, 0, BitVec.ofNat 8 (edge x s).link.oobOut.length]
      else exec (.getOob x) s = .next (answered x s { code := .fatal })))
    ∧ (∀ (x : Txn) (tag : Fin 16) (a n : Nat) (s : State), EspiOk x s → (edge x s).link.cfgFlash.testBit 0 = true →
      (edge x s).link.flashBusy = false → (edge x s).coreUp = true → 1 ≤ n → n ≤ 64 →
      exec (.putFlash x tag (.read a n)) s = .next
        (let m := { answered x s {} with link := { (answered x s {}).link with flashBusy := true } }
         let q := m.fgd.queue ++ [{ host := true, op := 1, policy := true, addr := a, len := n, data := [], tag := tag.val }]
         serveQueue q.length { m with fgd := { m.fgd with queue := q } }))
    ∧ (∀ (x : Txn) (d : FlashDone) (s : State), EspiOk x s → (edge x s).link.cfgFlash.testBit 0 = true →
      (edge x s).link.flashDone = some d → (edge x s).on Reg.HOST_VWIN.HOSTRSTWARN = false →
      Answers (.getFlash x) s fun u =>
        u.link.resp.data = d.data
          ∧ u.link.resp.head = [if d.ok = false then 0x0E else if d.data = [] then 0x06 else 0x0F,
              BitVec.ofNat 8 (16 * d.tag), BitVec.ofNat 8 d.data.length]
          ∧ u.link.flashDone = none ∧ u.link.flashBusy = false)
    ∧ (∀ (x : Txn) (s : State), EspiOk x s →
      Answers (.getStatus x) s fun u => u = answered x s u.link.resp ∧ u.link.resp.code = .accept
        ∧ u.link.resp.status.length = 2 ∧ u.link.resp.crc = [crc8 (0x08 :: u.link.resp.status)]
        ∧ (leNat u.link.resp.status).testBit 3 = !(edge x s).on Reg.HOST_OOBRX.FULL
        ∧ (leNat u.link.resp.status).testBit 9 = !(edge x s).link.flashBusy)
    ∧ (∀ (x : Txn) (s : State), EspiOk x s →
      exec (.getConfiguration x 0x04) s = .next (answered x s { data := [1, 0, 0, 0] }))
    ∧ (∀ (x : Txn) (v : Word) (s : State), EspiOk x s →
      exec (.setConfiguration x 0x40 v) s = .next { answered x s {} with
        link := { (answered x s {}).link with cfgFlash := v.toNat % 2 } })
    ∧ (∀ (x : Txn) (s : State), EspiOk x s →
      Answers (.resetCommand x) s fun u => u.link.cfgGeneral = 0 ∧ u.link.cfgPeriph = 0 ∧ u.link.cfgWire = 0
        ∧ u.link.cfgOob = 0 ∧ u.link.cfgFlash = 0 ∧ u.rd Reg.HOST_STAT.IOMODE = 0 ∧ u.rd Reg.HOST_STAT.FREQ = 0
        ∧ u.link.wiresOffered = (edge x s).link.wiresOffered ∧ u.link.groups = (edge x s).link.groups)
    ∧ (∀ (x : Txn) (k : Unsupported) (s : State), EspiOk x s → (edge x s).rd Reg.HOST_ERRCNT.FRAME < 65535 →
      Answers (.unsupportedCommand x k) s fun u =>
        u.rd Reg.HOST_ERRCNT.FRAME = (edge x s).rd Reg.HOST_ERRCNT.FRAME + 1
          ∧ u.link.resp.code = (match k with | .opcode | .payloadOver64 => .fatal | _ => .nonFatal)
          ∧ FieldsBut [Reg.HOST_ERRCNT.FRAME, Reg.HOST_STAT.LINKUP] (edge x s) u ∧ u.mem = (edge x s).mem)

/-- Of every command of a powered eSPI link but the EC command sequences, which are I/O writes: with a bad CRC the host
gets no response, CRC counts and nothing else changes; with a good CRC but not completed, only the answer is recorded.
Of every read and write frame of a powered SPI-target link: with a bad CRC the status has CRCERR and no ACCEPT, and
CRC counts; not completed there is no response and FRAME counts; nothing is written or taken. On a link that is off or
of the other kind nothing happens at all. Choices of the model: assumption log 32.
Cites: R52, R54, R71, R72, R81, R82. -/
def Obligations.TransactionsWithoutEffect : Prop :=
  (∀ (x : Txn) (a n : Nat) (d : List Byte) (port : BitVec 16) (b : Byte) (g : List (Nat × Byte)) (tag : Fin 16)
      (r : FlashAsk) (v : Word) (k : Unsupported) (s : State),
      ∀ i ∈ [Instr.memoryRead x a n, .memoryWrite x a d, .ioRead x port, .ioWrite x port b, .putVw x g, .getVw x,
        .putOob x d, .getOob x, .putFlash x tag r, .getFlash x, .getStatus x, .getConfiguration x port,
        .setConfiguration x port v, .resetCommand x, .unsupportedCommand x k],
      let e := edge x s
      let kept := fun (u : State) => u.mem = e.mem ∧ u.link = { e.link with resp := u.link.resp } ∧ u.ec = e.ec
        ∧ u.bulk = e.bulk ∧ u.mbx = e.mbx ∧ u.fgd = e.fgd ∧ u.kpf = e.kpf
      (s.hostOn = true → s.espi = true → x.crcOk = false → Answers i s fun u => kept u
        ∧ u.link.resp.code = .noResponse ∧ FieldsBut [Reg.HOST_ERRCNT.CRC] e u
        ∧ u.rd Reg.HOST_ERRCNT.CRC = min (e.rd Reg.HOST_ERRCNT.CRC + 1) 65535)
      ∧ (s.hostOn = true → s.espi = true → x.crcOk = true → x.completed = false → Answers i s fun u => kept u
        ∧ FieldsBut [Reg.HOST_ERRCNT.FRAME] e u)
      ∧ ((s.hostOn && s.espi) = false → exec i s = .next s))
    ∧ (∀ (x : Txn) (a : BitVec 24) (n : BitVec 16) (d : List Byte) (s : State),
      ∀ i ∈ [Instr.singleReadFrame x a n, .singleWriteFrame x a d, .quadReadFrame x a n, .quadWriteFrame x a d],
      let e := edge x s
      let kept := fun (u : State) => u.mem = e.mem ∧ u.link = { e.link with resp := u.link.resp } ∧ u.ec = e.ec
        ∧ u.bulk = e.bulk ∧ u.mbx = e.mbx ∧ u.fgd = e.fgd ∧ u.kpf = e.kpf
      (s.hostOn = true → s.spi = true → x.crcOk = false → x.completed = true → Answers i s fun u => kept u
        ∧ (∃ st, u.link.resp.code = .spi st ∧ st.testBit 0 = false ∧ st.testBit 1 = true)
        ∧ FieldsBut [Reg.HOST_ERRCNT.CRC, Reg.HOST_ERRCNT.FRAME, Reg.HOST_STAT.LINKUP] e u
        ∧ u.rd Reg.HOST_ERRCNT.CRC = min (e.rd Reg.HOST_ERRCNT.CRC + 1) 65535)
      ∧ (s.hostOn = true → s.spi = true → x.completed = false → Answers i s fun u => kept u
        ∧ u.link.resp.code = .noResponse ∧ FieldsBut [Reg.HOST_ERRCNT.FRAME] e u
        ∧ u.rd Reg.HOST_ERRCNT.FRAME = min (e.rd Reg.HOST_ERRCNT.FRAME + 1) 65535)
      ∧ ((s.hostOn && s.spi) = false → exec i s = .next s))

/-- For a completed frame with a good CRC on a powered SPI-target link: a read frame in either mode returns LEN window
bytes of the snapshot edge followed by their CRC-8 (over the status byte and the data), with status 0xA1 or 0xA9 as
the window event stands; a write frame to the payload of a FREE or DONE mailbox stores its bytes; a frame of unknown
opcode counts FRAME and is ignored; in SPI-target mode a sleep-state or reset pin moves its HOST_VWIN bit. Choices of
the model: assumption log 31, 32, 34.
Cites: R79, R80, R81, R82, R83, R85, R86. -/
def Obligations.SpiFrames : Prop :=
  (∀ (x : Txn) (a : BitVec 24) (n : BitVec 16) (s : State), SpiOk x s → 1 ≤ n.toNat → n.toNat ≤ 512 →
      a.toNat + n.toNat ≤ 0x3000 → ∀ i ∈ [Instr.singleReadFrame x a n, .quadReadFrame x a n],
      Answers i s fun u =>
        u.link.resp.code = .spi (0xA1 + 8 * (eventInView (edge x s)).toNat)
        ∧ (∀ k, k < n.toNat → u.link.resp.data[k]? = some (hostByte (edge x s) (a.toNat + k)))
        ∧ u.link.resp.data[n.toNat]? = some (crc8 (BitVec.ofNat 8
            (0xA1 + 8 * (eventInView (edge x s)).toNat) :: u.link.resp.data.take n.toNat))
        ∧ u.rd Reg.HOST_STAT.LINKUP = 1)
    ∧ (∀ (x : Txn) (t : Fin 8) (k : Nat) (d : List Byte) (s : State), SpiOk x s → d ≠ [] → 16 ≤ k →
      k + d.length ≤ 0x200 → (edge x s).link.pages.testBit 2 = true →
      ((edge x s).rd (Reg.MBX_TAGINFO.STATE t) = 0 ∨ (edge x s).rd (Reg.MBX_TAGINFO.STATE t) = 3) →
      (edge x s).mbx.replay = [] →
      ∀ i ∈ [Instr.singleWriteFrame x (BitVec.ofNat 24 (0x1000 + 0x200 * t + k)) d,
        .quadWriteFrame x (BitVec.ofNat 24 (0x1000 + 0x200 * t + k)) d],
      Answers i s fun u => (∀ j, j < d.length → some (u.byte (mbxBase + 0x200 * t + k + j)) = d[j]?)
        ∧ u.rd (Reg.MBX_TAGINFO.RVALID t) = 0 ∧ u.rd Reg.HOST_STAT.LINKUP = 1)
    ∧ (∀ (x : Txn) (s : State), s.hostOn = true → s.spi = true →
      Answers (.unknownOpcode x) s fun u => u.link.resp.code = .ignored
        ∧ u.rd Reg.HOST_ERRCNT.FRAME = min ((edge x s).rd Reg.HOST_ERRCNT.FRAME + 1) 65535
        ∧ FieldsBut [Reg.HOST_ERRCNT.FRAME] (edge x s) u ∧ u.mem = (edge x s).mem)
    ∧ (∀ (t : Nat) (b : Bool) (s : State), s.spi = true →
      Answers (.hostSignalGpio t 4 b) s fun u => u.rd Reg.HOST_VWIN.SUSSTAT = b.toNat
        ∧ (s.rd Reg.HOST_VWIN.SUSSTAT = (!b).toNat → u.rd Reg.HOST_EVT.VWCHG = 1))

/-- The CRC of no byte is 0x00; appending a byte XORs it into the CRC and shifts eight times, most significant bit first,
XORing 0x07 whenever a 1 is shifted out; the check value over the ASCII string 123456789 is 0xF4.
Cites: R81. -/
def Obligations.CrcOfFrames : Prop :=
  crc8 [] = 0
    ∧ (∀ (bs : List Byte) (b : Byte),
      let step (c : Byte) : Byte := if c.getLsbD 7 then (c <<< 1) ^^^ 7 else c <<< 1
      crc8 (bs ++ [b]) = step (step (step (step (step (step (step (step (crc8 bs ^^^ b)))))))))
    ∧ crc8 [0x31, 0x32, 0x33, 0x34, 0x35, 0x36, 0x37, 0x38, 0x39] = 0xF4

/-- A host reset of a powered link clears OBF, IBF, BURST, the EC input queue and a held WR_EC byte, and keeps the EC
image, the write queue and the query queue; a HOST power-up leaves all of them zero or empty.
Cites: R96. -/
def Obligations.EcServerAtHostReset : Prop :=
  (∀ (t : Nat) (s : State), s.hostOn = true → (s.espi = true ∨ s.spi = true) →
      Answers (.hostReset t) s fun u => u.rd Reg.EC_STATUS.OBF = 0 ∧ u.rd Reg.EC_STATUS.IBF = 0
        ∧ u.rd Reg.EC_STATUS.BURST = 0 ∧ u.ec.inq = [] ∧ u.ec.held = none
        ∧ u.ec.image = s.ec.image ∧ u.ec.wq = s.ec.wq ∧ u.ec.qq = s.ec.qq)
    ∧ (∀ (t : Nat) (s : State), s.hostOn = false → s.sys.aonOn = true → s.sys.shipMode = false →
      Answers (.hostPowerUp t) s fun u => u.rd Reg.EC_STATUS.OBF = 0 ∧ u.rd Reg.EC_STATUS.IBF = 0
        ∧ u.rd Reg.EC_STATUS.BURST = 0 ∧ u.ec.inq = [] ∧ u.ec.held = none
        ∧ u.ec.image = [] ∧ u.ec.wq = [] ∧ u.ec.qq = [])

/-- At HOST power-up the posted view is empty, every tag FREE, HOSTPWR is set, HOSTUP too where CORE runs or once it does,
an open post stays open, and the mailbox RAM is zero; at power loss HOSTPWR clears, HOSTDOWN is set, and a post that
was open or waiting is dropped with DROPPED, and under eSPI PLTRST reads asserted and the host is unsealed; a host
reset sets HRESET, ends the hold, clears the bulk errors but not the outcome bits, masks every event and returns the
eSPI configuration to its start; a hold set at least 2 ms ago is marked expired, for the next snapshot edge to clear.
Choices of the model: assumption log 29, 104, 105, 123.
Cites: R61, R64, R65, R87, R89. -/
def Obligations.HostPowerAndReset : Prop :=
  (∀ (t : Nat) (s : State), s.hostOn = false → s.sys.aonOn = true → s.sys.shipMode = false →
      Answers (.hostPowerUp t) s fun u => u.rd Reg.HOST_STAT.HOSTPWR = 1
        ∧ (s.coreUp = true → u.rd Reg.HOST_EVT.HOSTUP = 1) ∧ (s.coreUp = false → u.sys.hostUp = true)
        ∧ u.link.view = [] ∧ u.link.opened = s.link.opened ∧ u.link.closed = none
        ∧ (∀ k, k < 8 → u.rd (Reg.MBX_TAGINFO.STATE k) = 0)
        ∧ (∀ a, mbxBase ≤ a → a < mbxBase + 0x1000 → u.byte a = 0) ∧ u.rd Reg.SYS_WAKESTAT.HOST = 1)
    ∧ (∀ (t : Nat) (s : State), s.hostOn = true →
      Answers (.hostPowerLoss t) s fun u => u.rd Reg.HOST_STAT.HOSTPWR = 0 ∧ u.rd Reg.HOST_EVT.HOSTDOWN = 1
        ∧ u.rd Reg.HOST_POST.OPEN = 0 ∧ u.rd Reg.HOST_POST.PENDING = 0 ∧ u.link.opened = none ∧ u.link.closed = none
        ∧ (s.espi = true → u.rd Reg.HOST_VWIN.PLTRST = 1 ∧ u.kpf.sealed = false)
        ∧ ((s.link.opened.isSome || s.link.closed.isSome) = true → u.rd Reg.HOST_POST.DROPPED = 1))
    ∧ (∀ (t : Nat) (s : State), s.hostOn = true → (s.espi = true ∨ s.spi = true) →
      Answers (.hostReset t) s fun u => u.rd Reg.HOST_EVT.HRESET = 1 ∧ u.rd Reg.HW_HOSTCTL.HOLD = 0
        ∧ u.rd Reg.HW_EVMASK.EVMASK = 0 ∧ u.link.cfgPeriph = 0 ∧ u.link.cfgWire = 0 ∧ u.link.cfgFlash = 0
        ∧ u.rd Reg.HW_BULK_STAT.OVF = 0 ∧ u.rd Reg.HW_BULK_STAT.CLOSED = s.rd Reg.HW_BULK_STAT.CLOSED
        ∧ u.rd Reg.HW_BULK_STAT.INCOMPLETE = s.rd Reg.HW_BULK_STAT.INCOMPLETE
        ∧ u.link.opened = none ∧ (s.link.opened.isSome = true → u.rd Reg.HOST_POST.DROPPED = 1))
    ∧ (∀ (t : Nat) (s : State), s.hostOn = true → s.on Reg.HW_HOSTCTL.HOLD = true →
      s.link.holdAt + 2000 ≤ max s.tbase t →
      exec (.holdExpiry t) s = .next { s.seen t with link := { s.link with holdExpired := true } })
    ∧ (∀ s : State, s.on Reg.HW_HOSTCTL.HOLD = true → s.link.holdExpired = true →
      (snapshotEdge true s).rd Reg.HW_HOSTCTL.HOLD = 0)

/-- HOST_POST opens an empty post, closes the open one (which then waits, with PENDING=1) or discards it; an aperture
write joins the open post; HOST_WINEN takes effect from the time noted; REL frees the inbound OOB slot, GO takes the
outbound message of LEN bytes into its slot, HOST_VWOUT moves wires; the counters read and clear; MBX_TAKE makes a
RUNG tag OWNED, MBX_CTRL raises FWREADY, MBX_DONE posts the completion of an OWNED tag or sets DONEERR, and a direct
write of payload lands in an OWNED buffer. Choices of the model: assumption log 31, 100, 105, 106, 123.
Cites: R55, R56, R59, R74, R75, R99, R100, R101, R11. -/
def Obligations.PostsAndTags : Prop :=
  (∀ (v : Word) (s : State), Stores s 0x400C0010 → Reg.HOST_POST.CLOSE.of v.toNat = 0 →
      Reg.HOST_POST.ABORT.of v.toNat = 0 → Reg.HOST_POST.FULL.of v.toNat = 0 → Reg.HOST_POST.DROPPED.of v.toNat = 0 →
      s.link.opened = none →
      exec (.postOpen v) s = .next ({ s with link := { s.link with opened := some {} } }.set Reg.HOST_POST.OPEN))
    ∧ (∀ (v : Word) (p : Post) (s : State), Stores s 0x400C0010 → Reg.HOST_POST.OPEN.of v.toNat = 0 →
      Reg.HOST_POST.FULL.of v.toNat = 0 → Reg.HOST_POST.DROPPED.of v.toNat = 0 → s.hostOn = true → s.link.opened = some p →
      s.link.closed = none → ((({} : Post).merge p).bytes.length + p.pushes.length) ≤ 512 →
      Answers (.postClose v) s fun u => u.link.opened = none ∧ u.link.closed = some (({} : Post).merge p)
        ∧ u.link.closedAt = s.tbase ∧ u.rd Reg.HOST_POST.PENDING = 1 ∧ u.rd Reg.HOST_POST.OPEN = 0 ∧ u.mem = s.mem)
    ∧ (∀ (v : Word) (s : State), Stores s 0x400C0010 → Reg.HOST_POST.OPEN.of v.toNat = 0 →
      Reg.HOST_POST.CLOSE.of v.toNat = 0 → Reg.HOST_POST.FULL.of v.toNat = 0 → Reg.HOST_POST.DROPPED.of v.toNat = 0 →
      exec (.postAbort v) s = .next ({ s with link := { s.link with opened := none } }.clr Reg.HOST_POST.OPEN))
    ∧ (∀ (off : BitVec 14) (v : Word) (p : Post) (s : State), Stores s (0x400C4000 + off.toNat) →
      s.link.opened = some p → 16 ≤ off.toNat →
      Answers (.apertureWrite off v) s fun u => ∃ q, u.link.opened = some q ∧ q.pushes = p.pushes ∧ q.dones = p.dones
        ∧ ∀ i, i < 4 → Sparse.get 256 (off.toNat + i) q.bytes = v.toNat / 256 ^ i % 256)
    ∧ (∀ (v : Word) (s : State), Stores s 0x400C0004 →
      Answers (.hostWinen v) s fun u => u.link = { s.link with pagesAt := s.tbase, pagesSure := pagesCertain s }
        ∧ (∀ i, 1 ≤ i → i < 6 → u.rd ⟨0x400C0004, i, 1⟩ = (v.toNat.testBit i).toNat)
        ∧ u.rd Reg.HOST_WINEN.IDENT = s.rd Reg.HOST_WINEN.IDENT)
    ∧ (∀ (v : Word) (s : State), Stores s 0x400C0050 →
      exec (.oobRel v) s = .next (s.clr Reg.HOST_OOBRX.FULL))
    ∧ (∀ (v : Word) (s : State), Stores s 0x400C0054 → s.hostOn = true → s.on Reg.HOST_OOBTX.BUSY = false →
      1 ≤ v.toNat % 128 → v.toNat % 128 ≤ 68 →
      Answers (.oobGo v) s fun u => u.rd Reg.HOST_OOBTX.BUSY = 1 ∧ u.rd Reg.HOST_OOBTX.LEN = v.toNat % 128
        ∧ u.mem = s.mem ∧ u.link = { s.link with oobOut := u.link.oobOut } ∧ u.link.oobOut.length = v.toNat % 128
        ∧ ∀ i, i < v.toNat % 128 → u.link.oobOut[i]? =
            some (BitVec.ofNat 8 (s.rd (Reg.HOST_OOBTXDATA.DATA (i / 4)) / 256 ^ (i % 4))))
    ∧ (∀ (v : Word) (s : State), Stores s 0x400C0034 →
      Answers (.hostVwout v) s fun u => (∀ i, i < 5 → u.rd ⟨0x400C0034, i, 1⟩ = (v.toNat.testBit i).toNat)
        ∧ (s.rd Reg.HOST_VWOUT.SMI ≠ u.rd Reg.HOST_VWOUT.SMI → 6 ∈ u.link.groups))
    ∧ (∀ s : State, Loads s 0x400C0040 →
      Answers .hostErrcntRead s fun u =>
        u.rdata = s.rd Reg.HOST_ERRCNT.CRC + 2 ^ 16 * s.rd Reg.HOST_ERRCNT.FRAME
          ∧ u.rd Reg.HOST_ERRCNT.CRC = 0 ∧ u.rd Reg.HOST_ERRCNT.FRAME = 0 ∧ u.mem = s.mem)
    ∧ (∀ s : State, Loads s 0x400D001C →
      Answers .mbxCntRead s fun u => u.rdata = s.rd Reg.MBX_CNT.DUP + 2 ^ 16 * s.rd Reg.MBX_CNT.HWANS
        ∧ u.rd Reg.MBX_CNT.DUP = 0 ∧ u.rd Reg.MBX_CNT.HWANS = 0 ∧ u.mem = s.mem)
    ∧ (∀ (v : Word) (s : State), Stores s 0x400D0014 →
      Answers (.mbxTake v) s fun u => (∀ t, t < 8 → u.rd (Reg.MBX_TAGINFO.STATE t) =
          if v.toNat.testBit t = true ∧ s.rd (Reg.MBX_TAGINFO.STATE t) = 1 then 2 else s.rd (Reg.MBX_TAGINFO.STATE t))
        ∧ (∀ t, t < 8 → v.toNat.testBit t = true → s.rd (Reg.MBX_TAGINFO.STATE t) = 1 → t ∈ u.mbx.taken)
        ∧ u.mem = s.mem)
    ∧ (∀ (v : Word) (s : State), Stores s 0x400D0000 → v.toNat % 2 = 1 → s.hostOn = true →
      Answers (.fwready v) s fun u => u.rd Reg.MBX_CTRL.FWREADY = 1 ∧ u.rd Reg.HW_MBXCTL.FWREADY = 1 ∧ u.mbx = s.mbx)
    ∧ (∀ (v : Word) (p : Post) (s : State), Stores s 0x400D0018 → s.rd (Reg.MBX_TAGINFO.STATE (v.toNat % 8)) = 2 →
      s.link.opened = some p →
      exec (.mbxDone v) s = .next { s with link := { s.link with
        opened := some { p with dones := p.dones ++ [(v.toNat % 8, v.toNat.testBit 8)] } } })
    ∧ (∀ (v : Word) (s : State), Stores s 0x400D0018 → s.rd (Reg.MBX_TAGINFO.STATE (v.toNat % 8)) ≠ 2 →
      exec (.mbxDone v) s = .next (s.set Reg.MBX_STAT.DONEERR))
    ∧ (∀ (off : BitVec 12) (v : Word) (s : State), Stores s (0x400D1000 + off.toNat) →
      s.rd (Reg.MBX_TAGINFO.STATE (off.toNat / 0x200)) = 2 → 16 ≤ off.toNat % 0x200 →
      Answers (.directWindowWrite off v) s fun u =>
        (∀ i, i < 4 → u.byte (mbxBase + off.toNat + i) = BitVec.ofNat 8 (v.toNat / 256 ^ i))
          ∧ (∀ b, (b < mbxBase + off.toNat ∨ mbxBase + off.toNat + 4 ≤ b) → u.byte b = s.byte b)
          ∧ u.fields = s.fields)

/-- Ringing a FREE or DONE tag: in REPLAY, it is DONE with DUP set and counted; with LEN above 496 it is DONE with RESULT
BAD_LENGTH (4); with FWREADY=0 it is DONE with BUSY (2); otherwise it is RUNG with the RING event. A RUNG or OWNED tag
is not affected. In every case no other tag changes state. A host write of the doorbell byte, by a memory write or a
write frame, rings the tag at its commit.
Cites: R97, R98, R99, R104, R105. -/
def Obligations.MailboxDoorbell : Prop :=
  (∀ (x : Txn) (t : Fin 8) (s : State), (edge x s).link.pages.testBit 1 = true →
    let v := ring t (edge x s)
    let rung := fun (u : State) => u.mem = v.mem ∧ u.mbx = v.mbx ∧ u.rd Reg.HOST_EVT.HWRITE = 1
      ∧ u.rd Reg.MBX_EVT.RING = v.rd Reg.MBX_EVT.RING ∧ u.rd Reg.MBX_EVT.DUP = v.rd Reg.MBX_EVT.DUP
      ∧ ∀ k, k < 8 → u.rd (Reg.MBX_TAGINFO.STATE k) = v.rd (Reg.MBX_TAGINFO.STATE k)
    (EspiOk x s → (edge x s).link.cfgPeriph.testBit 0 = true → (edge x s).on Reg.CFG_ENABLE.WINDEC = true →
      Answers (.memoryWrite x ((edge x s).rd Reg.CFG_WINBASE.WINBASE / 2 ^ 16 * 2 ^ 16 + 0x800)
        [BitVec.ofNat 8 (2 ^ t.val)]) s rung)
    ∧ (SpiOk x s → ∀ i ∈ [Instr.singleWriteFrame x 0x800 [BitVec.ofNat 8 (2 ^ t.val)],
        .quadWriteFrame x 0x800 [BitVec.ofNat 8 (2 ^ t.val)]], Answers i s rung))
  ∧ ∀ (t : Nat) (s : State), t < 8 →
    let q := s.rd (Reg.MBX_TAGINFO.STATE t)
    let u := ring t s
    (q = 1 ∨ q = 2 → u = s)
      ∧ (q = 0 ∨ q = 3 → t ∈ s.mbx.replay →
        u.rd (Reg.MBX_TAGINFO.STATE t) = 3 ∧ u.rd Reg.MBX_EVT.DUP = 1 ∧ t ∉ u.mbx.replay
          ∧ u.rd Reg.MBX_CNT.DUP = min (s.rd Reg.MBX_CNT.DUP + 1) (2 ^ Reg.MBX_CNT.DUP.width - 1)
          ∧ (u.byte (mbxBase + 0x200 * t + 6)).toNat / 16 % 2 = 1)
      ∧ (q = 0 ∨ q = 3 → t ∉ s.mbx.replay → 496 < s.loadNat (mbxBase + 0x200 * t + 4) 2 →
        u.rd (Reg.MBX_TAGINFO.STATE t) = 3 ∧ u.byte (mbxBase + 0x200 * t + 7) = 4
          ∧ u.rd (Reg.MBX_TAGINFO.RVALID t) = 0)
      ∧ (q = 0 ∨ q = 3 → t ∉ s.mbx.replay → s.loadNat (mbxBase + 0x200 * t + 4) 2 ≤ 496 →
        s.on Reg.HW_MBXCTL.FWREADY = false →
        u.rd (Reg.MBX_TAGINFO.STATE t) = 3 ∧ u.byte (mbxBase + 0x200 * t + 7) = 2
          ∧ u.rd (Reg.MBX_TAGINFO.RVALID t) = 0)
      ∧ (q = 0 ∨ q = 3 → t ∉ s.mbx.replay → s.loadNat (mbxBase + 0x200 * t + 4) 2 ≤ 496 →
        s.on Reg.HW_MBXCTL.FWREADY = true →
        u.rd (Reg.MBX_TAGINFO.STATE t) = 1 ∧ u.rd Reg.MBX_EVT.RING = 1
          ∧ (u.byte (mbxBase + 0x200 * t + 6)).toNat / 16 = 0)
      ∧ ∀ k, k < 8 → k ≠ t → u.rd (Reg.MBX_TAGINFO.STATE k) = s.rd (Reg.MBX_TAGINFO.STATE k)

/-- On a quiet powered eSPI link whose EC ports are decoded, with IBF=0: RD_EC loads the image byte, WR_EC queues its
pair, BE_EC answers 0x90 and sets BURST, BD_EC clears BURST, QR_EC answers the oldest query code, another command
enters the input queue with IBF set. Firmware posts the output byte, query codes and image bytes, and reads the
queues. The bulk mover places good bytes at their address, a close at the front completes its unit, and firmware reads
4 bytes, appends 4 bytes and acknowledges a close. Choices of the model: assumption log 36, 105, 106, 124.
Cites: R91, R92, R94, R118, R119, R121, R223. -/
def Obligations.EcAndBulk : Prop :=
  (∀ (x : Txn) (s : State), EspiOk x s → Quiet s → s.link.cfgPeriph.testBit 0 = true →
      s.on Reg.EC_STATUS.IBF = false → portSel s (s.rd Reg.CFG_ECCMD.ECCMD) = .ecCmd →
      portSel s (s.rd Reg.CFG_ECDATA.ECDATA) = .ecData →
      (∀ a : Byte, Answers (.rdEc x a) s fun u => u.ec.out = Sparse.get 0 a.toNat s.ec.image
          ∧ u.rd Reg.EC_STATUS.OBF = 1 ∧ u.ec.phase = .idle)
        ∧ (∀ a d : Byte, s.ec.wq.length < 16 → Answers (.wrEc x a d) s fun u => u.ec.wq = s.ec.wq ++ [(a, d)]
          ∧ u.ec.phase = .idle)
        ∧ (Answers (.beEc x) s fun u => u.ec.out = 0x90 ∧ u.rd Reg.EC_STATUS.OBF = 1 ∧ u.rd Reg.EC_STATUS.BURST = 1)
        ∧ (Answers (.bdEc x) s fun u => u.rd Reg.EC_STATUS.BURST = 0 ∧ u.ec.out = s.ec.out)
        ∧ (Answers (.qrEc x) s fun u => u.ec.out = s.ec.qq.headD 0 ∧ u.ec.qq = s.ec.qq.tail
          ∧ u.rd Reg.EC_STATUS.OBF = 1)
        ∧ (∀ c : Byte, 0x84 < c.toNat → Answers (.ecForwardedCommand x c []) s fun u => u.ec.inq = [(c, true)]
          ∧ u.rd Reg.EC_STATUS.IBF = 1 ∧ u.rd Reg.MBX_EVT.ECIN = 1))
    ∧ (∀ (v : Word) (p : Post) (s : State), s.link.opened = some p →
      (Stores s 0x400D008C → exec (.mbxEcout v) s = .next { s with link := { s.link with
          opened := some (p.merge { bytes := [(0x20000, v.toNat % 256)] }) } })
        ∧ (Stores s 0x400D0090 → exec (.mbxEcqpush v) s = .next { s with link := { s.link with
          opened := some { p with pushes := p.pushes ++ [BitVec.ofNat 8 v.toNat] } } })
        ∧ (∀ off : BitVec 8, Stores s (0x400D8000 + off.toNat) →
          Answers (.ecImageWrite off v) s fun u => ∃ q, u.link.opened = some q ∧ q.pushes = p.pushes
            ∧ ∀ i, i < 4 → Sparse.get 256 (0x10000 + off.toNat + i) q.bytes = v.toNat / 256 ^ i % 256))
    ∧ (∀ (b : Byte) (c : Bool) (r : List (Byte × Bool)) (s : State), Loads s 0x400D0084 → s.ec.inq = (b, c) :: r →
      exec .mbxEcinRead s =
        .next { s with ec := { s.ec with inq := r }, rdata := b.toNat + 256 * c.toNat + 512 })
    ∧ (∀ (a d : Byte) (r : List (Byte × Byte)) (s : State), Loads s 0x400D0088 → s.ec.wq = (a, d) :: r →
      s.ec.held = none →
      exec .mbxEcwqRead s =
        .next { s with ec := { s.ec with wq := r }, rdata := a.toNat + 256 * d.toNat + 65536 })
    ∧ (∀ (t a : Nat) (b : Byte) (r : List BulkItem) (s : State), s.coreUp = true →
      s.bulk.wfifo = .byte b a false :: r → s.rd Reg.HW_BULK_TARGET.TARGET = 2 →
      s.on Reg.SYS_DOMCTRL.LUXEN = true → s.on Reg.SYS_DOMCTRL.LUXRDY = true →
      Answers (.bulkMoverTransfer 1 t) s fun u => u.byte (calBase + a) = b ∧ u.bulk.wfifo = r
        ∧ ∀ x, x ≠ calBase + a → u.byte x = s.byte x)
    ∧ (∀ (t : Nat) (e : Bool) (r : List BulkItem) (s : State), s.bulk.wfifo = .close e :: r →
      s.rd Reg.HW_BULK_TARGET.TARGET = 2 →
      Answers (.unitCloseComplete t) s fun u => u.bulk.wfifo = r ∧ u.rd Reg.HW_BULK_STAT.CLOSED = 1
        ∧ u.rd Reg.HW_BULK_STAT.INCOMPLETE = (e || s.bulk.placeErr || bulkErr s).toNat)
    ∧ (∀ (b0 b1 b2 b3 : Byte) (a0 a1 a2 a3 : Nat) (r : List BulkItem) (s : State), Loads s 0x400D00A8 →
      s.rd Reg.HW_BULK_TARGET.TARGET = 4 →
      s.bulk.wfifo = .byte b0 a0 false :: .byte b1 a1 false :: .byte b2 a2 false :: .byte b3 a3 false :: r →
      Answers .mbxBulkrd s fun u => u.bulk.wfifo = r
        ∧ u.rdata = b0.toNat + 256 * (b1.toNat + 256 * (b2.toNat + 256 * b3.toNat)))
    ∧ (∀ (v : Word) (s : State), Stores s 0x400D00AC → s.hostOn = true → s.bulk.rfifo.length ≤ 4092 →
      exec (.mbxBulkwr v) s = .next { s with bulk := { s.bulk with rfifo := s.bulk.rfifo ++
        [(BitVec.ofNat 8 v.toNat, false), (BitVec.ofNat 8 (v.toNat / 2 ^ 8), false),
         (BitVec.ofNat 8 (v.toNat / 2 ^ 16), false), (BitVec.ofNat 8 (v.toNat / 2 ^ 24), false)] } })
    ∧ (∀ (s : State), Stores s 0x400D00B0 → s.bulk.closeReq = true → bulkErr s = false →
      exec (.mbxBulkack 1) s = .next (({ s with bulk := { s.bulk with closeReq := false } }.set
        Reg.HW_BULK_STAT.CLOSED).clr Reg.HW_BULK_STAT.INCOMPLETE))

/-- A write of EN=1 that meets the conditions of R125 enables the slot, zeroes LAG and, with RUN set, fixes the first grid
point at least 2 us later; one that fails a condition leaves EN clear and sets CFGERR; EN=0 withdraws a release not
yet started. RUN starts every enabled slot. A release fixes d from LAG, CATCHUP and MINPER and takes the slot's
values. A released action starts if it is a core event, completes with NOBLK where its block is off, or starts on its
unit with its duration. A finish in time leaves LAG; a late one adds its lateness and releases at once; beyond MAXLAG
it is an overrun. Choices of the model: assumption log 2, 37, 126.
Cites: R124, R125, R126, R127, R128, R129, R130, R131, R132. -/
def Obligations.IcefallSlots : Prop :=
  (∀ (n : Fin 64) (v : Word) (s : State), Stores s (0x40011000 + 0x20 * n) → s.on Reg.LPE_CTRL.LOCK = false →
      s.on (Reg.LPE_SCFG.EN n) = false → (slotOf s n).act = none →
      let per := s.rd (Reg.LPE_SPER.PERIOD n)
      let ph := s.rd (Reg.LPE_SPH.PHASE n)
      let ok := 10 ≤ per ∧ ph < per ∧ s.rd (Reg.LPE_SMIN.MINPER n) ≤ per ∧ (Reg.LPE_SCFG.ACTION n).of v.toNat ≠ 7
      Answers (.slotEnable n v) s fun u =>
        u.rd (Reg.LPE_SCFG.ACTION n) = (Reg.LPE_SCFG.ACTION n).of v.toNat
        ∧ u.rd (Reg.LPE_SCFG.ARG n) = (Reg.LPE_SCFG.ARG n).of v.toNat
        ∧ FieldsBut [Reg.LPE_SCFG.EN n, Reg.LPE_SCFG.ACTION n, Reg.LPE_SCFG.ARG n, Reg.LPE_SCFG.EVT n,
            Reg.LPE_SCFG.CRIT n, Reg.LPE_SLAG.LAG n, Reg.LPE_STAT.CFGERR] s u ∧ SameStores s u
        ∧ (¬ok → u.rd (Reg.LPE_SCFG.EN n) = 0 ∧ u.rd Reg.LPE_STAT.CFGERR = 1)
        ∧ (ok → u.rd (Reg.LPE_SCFG.EN n) = 1 ∧ u.rd (Reg.LPE_SLAG.LAG n) = 0
            ∧ (s.on Reg.LPE_CTRL.RUN = true → ∃ k, (slotOf u n).next = some (ph + k * per)
                ∧ max s.tbase s.lpe.runAt + 2 ≤ ph + k * per
                ∧ (k = 0 ∨ ph + k * per < max s.tbase s.lpe.runAt + 2 + per))))
    ∧ (∀ (n : Fin 64) (v : Word) (s : State), Stores s (0x40011000 + 0x20 * n) → s.on Reg.LPE_CTRL.LOCK = false →
      s.on (Reg.LPE_SCFG.EN n) = true →
      Answers (.slotDisable n v) s fun u => u.rd (Reg.LPE_SCFG.EN n) = 0 ∧ (slotOf u n).next = none
        ∧ (∀ a, (slotOf s n).act = some a → a.started = true → (slotOf u n).act = some { a with stale := true })
        ∧ (((slotOf s n).act.all (!·.started)) = true → (slotOf u n).act = none ∧ u.rd (Reg.LPE_SLAG.LAG n) = 0))
    ∧ (∀ (v : Word) (s : State), Stores s 0x40010000 → s.on Reg.LPE_CTRL.RUN = false →
      Answers (.lpeRun v) s fun u => u.rd Reg.LPE_CTRL.RUN = 1 ∧ u.lpe.runAt = s.tbase
        ∧ ∀ n, n < 64 → s.on (Reg.LPE_SCFG.EN n) = true → (slotOf s n).act = none →
          1 ≤ s.rd (Reg.LPE_SPER.PERIOD n) → ∃ r, (slotOf u n).next = some r ∧ s.tbase + 2 ≤ r)
    ∧ (∀ (v : Word) (s : State), Stores s 0x40010000 →
      Answers (.lpeLock v) s fun u => u.rd Reg.LPE_CTRL.LOCK = 1 ∧ u.mem = s.mem)
    ∧ (∀ s : State, Loads s 0x40010008 →
      exec .lpeNowloRead s = .next { s.wr Reg.LPE_NOWHI.NOWHI (s.tbase / 2 ^ 32) with rdata := s.tbase % 2 ^ 32 })
    ∧ (∀ (n : Fin 64) (s : State), Loads s (0x4001101C + 0x20 * n) →
      Answers (.lpeSstatRead n) s fun u => u.rdata = s.regWord (0x4001101C + 0x20 * n)
        ∧ u.rd (Reg.LPE_SSTAT.OVRCNT n) = 0 ∧ u.rd (Reg.LPE_SSTAT.SKIPCNT n) = 0
        ∧ u.rd (Reg.LPE_SSTAT.BUDGETX n) = 0 ∧ SameStores s u)
    ∧ (∀ (n : Fin 64) (t r : Nat) (s : State), (slotOf s n).next = some r → (slotOf s n).act = none →
      r ≤ max s.tbase t → s.on Reg.LPE_CTRL.RUN = true → s.on (Reg.LPE_SCFG.EN n) = true →
      let per := s.rd (Reg.LPE_SPER.PERIOD n)
      let lag := s.rd (Reg.LPE_SLAG.LAG n)
      let d := min (min lag (per * s.rd Reg.LPE_CTRL.CATCHUP / 16)) (per - max 10 (s.rd (Reg.LPE_SMIN.MINPER n)))
      Answers (.slotRelease n t) s fun u => u.rd (Reg.LPE_SSTAT.BUSY n) = 1
        ∧ (slotOf u n).next = some (r + per - d)
        ∧ u.rd (Reg.LPE_SLAG.LAG n) = (lag - d) % 2 ^ (Reg.LPE_SLAG.LAG n).width
        ∧ ∃ a, (slotOf u n).act = some a ∧ a.released = r ∧ a.started = false
          ∧ a.action = s.rd (Reg.LPE_SCFG.ACTION n) ∧ a.arg = s.rd (Reg.LPE_SCFG.ARG n))
    ∧ (∀ (n : Fin 64) (t : Nat) (d : ActionData) (a : SlotAct) (s : State),
      let e := s.seen t
      canStart e n = some a →
      (a.action = 0 → Answers (.actionStart n t d) s fun u => (slotOf u n).act = none
        ∧ u.rd (Reg.LPE_SSTAT.BUSY n) = 0 ∧ u.bit (Reg.LPE_EVT.SLOT (n / 32)) (n % 32) = true)
      ∧ (a.action ≠ 0 → unitOff e a = true → Answers (.actionStart n t d) s fun u => (slotOf u n).act = none
        ∧ u.rd (Reg.LPE_SSTAT.NOBLK n) = 1 ∧ u.rd (Reg.LPE_SSTAT.BUSY n) = 0)
      ∧ (a.action ≠ 0 → unitOff e a = false → passWaits e a = false → exec (.actionStart n t d) s = .next
        (let m := setSlot n { slotOf e n with
           act := some { a with started := true, due := e.tbase + actionTime e a } } e
         actionEffect a d m)))
    ∧ (∀ (n : Fin 64) (t next : Nat) (a : SlotAct) (s : State), (slotOf s n).act = some a → a.started = true →
      a.due ≤ max s.tbase t → a.stale = false → (slotOf s n).next = some next →
      Answers (.actionFinish n t) s fun u => u.rd (Reg.LPE_SSTAT.BUSY n) = 0 ∧ (slotOf u n).act = none
        ∧ (let f := max s.tbase t
           let lag := s.rd (Reg.LPE_SLAG.LAG n)
           (f ≤ next → (slotOf u n).next = some next ∧ u.rd (Reg.LPE_SLAG.LAG n) = lag)
           ∧ (next < f → lag + (f - next) ≤ a.maxlag → (slotOf u n).next = some f
               ∧ u.rd (Reg.LPE_SLAG.LAG n) = (lag + (f - next)) % 2 ^ (Reg.LPE_SLAG.LAG n).width)
           ∧ (next < f → a.maxlag < lag + (f - next) → u.rd (Reg.LPE_SLAG.LAG n) = 0
               ∧ u.bit (Reg.LPE_OVR.SLOT (n / 32)) (n % 32) = true)))

/-- In a sequencer step with HOLD clear an OFF channel goes to WAIT when it is demanded, a RAMP channel with good power
goes ON, an ON channel without it goes to FAULT with cause PGLOSS unless its policy only warns, a DIS channel whose
power has gone goes OFF; with HOLD set the step changes nothing. A clear is kept for the next step for channels in
FAULT only. Clearing FLTHOLD under AUTO lets TSEL take DECODED. A power-good level counts for its channel alone.
Choices of the model: assumption log 38, 39, 108, 125.
Cites: R134, R135, R136, R137, R141, R143. -/
def Obligations.RailSequencer : Prop :=
  (∀ (s : State) (n : Nat), n < 40 → s.on Reg.SYS_PADHOLD.HOLD = false →
      let dem := (demanded s (railGraph s)).contains n
      let u := railStep s
      (chState s n = 0 → chState u n = dem.toNat)
      ∧ (chState s n = 2 → railPg s n = some true → chState u n = 3)
      ∧ (chState s n = 3 → railPg s n = some false → s.rd (Reg.RAIL_CHCTL.POLICY n) ≠ 3 →
          chState u n = 4 ∧ u.rd (Reg.RAIL_CHSTAT.CAUSE n) = 2 ∧ u.rd Reg.RAIL_EVT.FAULT = 1)
      ∧ (chState s n = 3 → railPg s n ≠ some false → dem = true → chState u n = 3)
      ∧ (chState s n = 4 → s.rail.clr.testBit n = true → chState u n = 0)
      ∧ (chState s n = 5 → railPg s n = some false → chState u n = 0))
    ∧ (∀ s : State, s.on Reg.SYS_PADHOLD.HOLD = true → railStep s = s)
    ∧ (∀ (upper : Bool) (v : Word) (s : State), Stores s (0x40020018 + 4 * upper.toNat) →
      Answers (.railClr upper v) s fun u => u.fields = s.fields ∧ SameStores s u
        ∧ ∀ n, n < 40 → u.rail.clr.testBit n = (s.rail.clr.testBit n
          || (decide (n / 32 = upper.toNat) && v.toNat.testBit (n % 32) && chState s n == 4)))
    ∧ (∀ (v : Word) (s : State), Stores s 0x40020004 → s.on Reg.RAIL_STAT.FLTHOLD = true →
      s.on Reg.RAIL_CTRL.AUTO = true →
      Answers (.fltholdClear v) s fun u => u.rd Reg.RAIL_STAT.FLTHOLD = 0
        ∧ (s.rd Reg.RAIL_STAT.DECODED < 2 ^ Reg.RAIL_CTRL.TSEL.width →
          u.rd Reg.RAIL_CTRL.TSEL = s.rd Reg.RAIL_STAT.DECODED)
        ∧ (s.rd Reg.RAIL_CTRL.TSEL ≠ s.rd Reg.RAIL_STAT.DECODED → u.rd Reg.RAIL_EVT.TSELCHG = 1))
    ∧ (∀ (n : Fin 40) (level : Bool) (t : Nat) (s : State),
      Answers (.powerGoodChange n level t) s fun u => u.fields = s.fields ∧ u.rail.pins.testBit n = level
        ∧ (∀ m, m ≠ n.val → u.rail.pins.testBit m = s.rail.pins.testBit m)
        ∧ (s.rail.pins.testBit n ≠ level → pinLevel u n
            = if s.rd (Reg.RAIL_CHCTL.PGFILT n) = 0 then level else pinLevel (s.seen t) n))

/-- VIN at or above 3.5 V and below the over-voltage threshold makes an unblocked input of a sinking port valid; below 3.5
V a valid one becomes invalid. After 150 ms valid it is qualified, sets QUAL and, as the only input that PRIO names
and with no reverse supply running, is selected. At the end of the dead time the best-ranked input is selected. Unplug
clears UNSTABLE, BOUNCES, LASTGOOD and PDSEEN. The loss of the selected input hands VSYS over to the battery, runs the
dead time and counts a bounce. TAKE ends boot regulation and held values and starts PD with a Hard Reset on attached
sink ports that EN enables. A due re-probe measures VOC again if the tracker's slot runs; FLOOR is noted. Choices of
the model: assumption log 24, 41, 102, 109.
Cites: R150, R151, R152, R153, R156, R165, R167, R168, R169. -/
def Obligations.PowerInputs : Prop :=
  (∀ (n : Fin 3) (vin t : Nat) (s : State), s.sys.aonOn = true → (pin s n).ovp = false →
      ((pin s n).valid = false → 3500 ≤ vin → vin < ovpThreshold s n → (pin s n).blockedUntil ≤ max s.tbase t →
        sinkState s n = true →
        Answers (.inputValid n vin t) s fun u => (pin u n).valid = true ∧ (pin u n).timed = false
          ∧ (pin u n).validSince = max s.tbase t ∧ (pin u n).vinNow = vin ∧ u.fields = s.fields ∧ u.mem = s.mem)
      ∧ ((pin s n).valid = true → vin < 3500 →
        Answers (.inputValid n vin t) s fun u => (pin u n).valid = false ∧ (pin u n).timed = false))
    ∧ (∀ (n : Fin 3) (t : Nat) (s : State), s.sys.aonOn = true → (pin s n).valid = true → (pin s n).timed = false →
      (pin s n).validSince + 150000 ≤ max s.tbase t →
      (n.val = 2 ∨ (pin s n).pdSeen = false ∨ s.on (Reg.PD_STAT.CONTRACT n) = true) →
      Answers (.qualified n t) s fun u => (pin u n).timed = true ∧ u.rd Reg.PWR_EVT.QUAL = 1
        ∧ (s.pwr.mode ≠ .held → s.pwr.sel = none → s.pwr.deadUntil = none → named s = [n.val] →
            s.on Reg.CHG_REVSTAT.ACTIVE = false →
            u.pwr.sel = some n.val ∧ u.rd Reg.PWR_EVT.SELCHG = 1))
    ∧ (∀ (t d n : Nat) (s : State), s.sys.aonOn = true → s.pwr.deadUntil = some d → d ≤ max s.tbase t → s.pwr.mode ≠ .held →
      s.pwr.sel = none → s.on Reg.CHG_REVSTAT.ACTIVE = false → (ranking s).head? = some n →
      Answers (.deadTimeEnd t) s fun u => u.pwr.sel = some n ∧ u.pwr.deadUntil = none
        ∧ u.rd Reg.PWR_EVT.SELCHG = 1)
    ∧ (∀ (n : Fin 3) (t : Nat) (s : State),
      Answers (.unplug n t) s fun u => (pin u n).attached = false ∧ (pin u n).unstable = false
        ∧ (pin u n).bounces = [] ∧ (pin u n).count = 0 ∧ (pin u n).lastgood = 0 ∧ (pin u n).pdSeen = false
        ∧ (pin u n).valid = false)
    ∧ (∀ (n : Fin 3) (vin t : Nat) (s : State), s.pwr.sel = some n.val → vin < 3200 →
      Answers (.inputLoss n vin t) s fun u => u.pwr.sel = none ∧ u.pwr.deadUntil = some (max s.tbase t + 50)
        ∧ u.rd Reg.PWR_EVT.SELCHG = 1 ∧ (pin u n).valid = false
        ∧ (s.on Reg.PWR_STAT.BATREM = false → u.rd Reg.PWR_EVT.HANDOVER = 1)
        ∧ (pin u n).bounces = (pin s n).bounces.filter (fun b => max s.tbase t ≤ b + 10000000) ++ [max s.tbase t])
    ∧ (∀ (v : Word) (s : State), Stores s 0x40030000 → s.pwr.mode ≠ .run → s.on Reg.CHG_REVSTAT.ACTIVE = false →
      Answers (.take v) s fun u => u.pwr.mode = .run ∧ u.rd Reg.PWR_CTRL.TAKE = 1
        ∧ ∀ p, p < 2 → (port s p).attached = true → (port s p).source = false → s.on (Reg.PD_CFG.EN p) = true →
          u.rd (Reg.PD_EVT.HARDRESET p) = 1 ∧ u.rd (Reg.PD_STAT.CONTRACT p) = 0)
    ∧ (∀ (n : Fin 3) (t : Nat) (s : State), s.pwr.mode = .run → s.pwr.sel = some n.val →
      ((pin s n).trk = 3 ∨ (pin s n).trk = 4) → (pin s n).reprobeAt ≤ max s.tbase t →
      (trackerSlot s n = true → s.on Reg.PWR_STAT.BATREM = false →
        exec (.reprobe n t) s = .next (setPin n { pin s n with
          trk := 1, ilim := 0, vocAt := max s.tbase t, reprobing := true } (s.seen t)))
      ∧ (trackerSlot s n = false → exec (.reprobe n t) s = .next (s.seen t)))
    ∧ (∀ (n : Fin 3) (t : Nat) (s : State), s.pwr.sel = some n.val →
      exec (.floorLoop n t) s = .next (setPin n { pin s n with floorNow := true } (s.seen t)))

/-- A removal latches BATREM, ends the charge cycle and any fault, stops charge and reverse supply and writes one record;
the latch clears with the thermistor in range, and with an input selected BATFET then waits for VSYS. Over-voltage,
over-current and reverse current set their event, turn the input's gates off and make it invalid, the last two for 100
ms; the selected input is given up. VSYS over-voltage stops the stage; under-voltage sets VSYSUV and writes a record.
Choices of the model: assumption log 41, 109, 112.
Cites: R169, R170, R171, R172. -/
def Obligations.PowerProtection : Prop :=
  (∀ (cond : Fin 3) (t : Nat) (s : State), s.on Reg.PWR_STAT.BATREM = false →
      Answers (.batteryRemoval cond t) s fun u => u.rd Reg.PWR_STAT.BATREM = 1 ∧ u.rd Reg.PWR_EVT.BATREM = 1
        ∧ u.rd Reg.CHG_STAT.CYCLE = 0 ∧ u.rd Reg.CHG_STAT.FCAUSE = 0 ∧ u.rd Reg.CHG_STAT.LOOP = 0
        ∧ u.rd Reg.CHG_TMRCNT.COUNT = 0
        ∧ (s.on Reg.CHG_REVSTAT.ACTIVE = true → u.rd Reg.CHG_REVSTAT.ACTIVE = 0 ∧ u.rd Reg.CHG_REVSTAT.CAUSE = 5)
        ∧ (s.sys.coreOn = true → s.log.front.length < 64 →
            u.log.front = s.log.front ++ [⟨max s.tbase t, 0x12, 4, 1, logData [cond.val]⟩]))
    ∧ (∀ (t : Nat) (s : State), exec (.removalClear t) s = .next (
      if s.sys.aonOn = true ∧ s.on Reg.PWR_STAT.BATREM = true ∧ s.rd Reg.CHG_STAT.BAND ≤ 4 then
        { (s.seen t).clr Reg.PWR_STAT.BATREM with
          pwr := { s.pwr with joining := s.pwr.sel.isSome } }
      else s.seen t))
    ∧ (∀ (n : Fin 3) (vin t : Nat) (s : State), ovpThreshold s n ≤ vin →
      Answers (.ovp n vin t) s fun u => u.rd Reg.PWR_EVT.OVP = 1 ∧ (pin u n).ovp = true ∧ (pin u n).valid = false
        ∧ (s.pwr.sel = some n.val → u.pwr.sel = none))
    ∧ (∀ (n : Fin 3) (t : Nat) (s : State),
      ∀ c ∈ [(Instr.ocp n t, Reg.PWR_EVT.OCP), (Instr.reverseCurrent n t, Reg.PWR_EVT.REVCUR)],
      Answers c.1 s fun u => u.rd c.2 = 1 ∧ (pin u n).valid = false
        ∧ (pin u n).blockedUntil = max s.tbase t + 100000 ∧ (s.pwr.sel = some n.val → u.pwr.sel = none)
        ∧ (pin u n).bounces = (pin s n).bounces)
    ∧ (∀ (vsys t : Nat) (s : State), vsysTarget s * 110 < vsys * 100 →
      exec (.vsysOvervoltage vsys t) s = .next { s.seen t with pwr := { s.pwr with vsysOv := true } })
    ∧ (∀ (vsys t : Nat) (s : State), vsys * 100 < s.rd Reg.PWR_VSYSMIN.VSYSMIN * 90 →
      Answers (.vsysUndervoltage vsys t) s fun u => u.rd Reg.PWR_EVT.VSYSUV = 1
        ∧ (s.sys.coreOn = true → s.log.front.length < 64 → u.log.front = s.log.front
            ++ [⟨max s.tbase t, 4, 4, 2, logData [vsys % 256, vsys / 256 % 256]⟩]))

/-- With no reverse supply running: a source partner that attaches makes the port an attached sink with its Rp; detach
ends the contract and makes the input invalid. Source_Capabilities store the objects, set PDSEEN and CAPCHG; EPR mode
is asked for with PDP where EPREN permits it and the source is EPR capable, and the request made has the highest power
of the fixed objects the policy may choose. A keep-alive is sent and notes its time in EPR or PPS. A firmware request
for a fixed object is sent; one out of range is not, and sets REQREJ. An accepted request makes the contract and masks
the reference threshold for 5 ms if it changes the voltage; a rejected one sets REQREJ and masks nothing. Choices of
the model: assumption log 42, 109, 110.
Cites: R157, R159, R160. -/
def Obligations.PortContracts : Prop :=
  (∀ (p : Fin 2) (flipped : Bool) (rp : Fin 4) (t : Nat) (s : State), s.sys.aonOn = true →
      (port s p).attached = false →
      Answers (.typecAttach p false flipped rp t) s fun u => (port u p).attached = true ∧ (port u p).source = false
        ∧ (port u p).rp = rp.val ∧ u.rd (Reg.PD_STAT.ATTACHED p) = 1 ∧ u.rd (Reg.PD_STAT.PROLE p) = 0
        ∧ u.rd (Reg.PD_STAT.ORIENT p) = flipped.toNat ∧ u.rd (Reg.PD_STAT.RPSEEN p) = rp.val
        ∧ u.rd (Reg.PD_EVT.ATTACH p) = 1 ∧ u.rd (Reg.PD_STAT.HRCNT p) = 0)
    ∧ (∀ (p : Fin 2) (t : Nat) (s : State), (port s p).attached = true →
      Answers (.typecDetach p t) s fun u => (port u p).attached = false ∧ u.rd (Reg.PD_STAT.ATTACHED p) = 0
        ∧ u.rd (Reg.PD_STAT.CONTRACT p) = 0 ∧ u.rd (Reg.PD_EVT.DETACH p) = 1 ∧ (pin u p).valid = false)
    ∧ (∀ (p : Fin 2) (l : List Word) (eprOk : Bool) (t : Nat) (s : State), pdRuns s p = true →
      (port s p).attached = true → (port s p).source = false → l ≠ [] → s.on Reg.CHG_REVSTAT.ACTIVE = false →
      Answers (.sourceCapabilities p l eprOk t) s fun u => u.rd (Reg.PD_STAT.NPDO p) = min 11 l.length
        ∧ (∀ k, k < 11 → k < l.length → u.rd (Reg.PD_RXPDO.PDO p k) = (l.getD k 0).toNat)
        ∧ u.rd (Reg.PD_STAT.PDSEEN p) = 1 ∧ u.rd (Reg.PD_EVT.CAPCHG p) = 1 ∧ (pin u p).pdSeen = true
        ∧ (s.on (Reg.PD_CFG.EPREN p) = true → s.on (Reg.PD_STAT.EPR p) = false → (l.headD 0).getLsbD 23 = true →
            (port u p).sent.head? = some (.eprEnter (s.rd (Reg.PD_SNKPOL.PDP p)))
            ∧ u.rd (if eprOk then Reg.PD_STAT.EPR p else Reg.PD_EVT.EPRFAIL p) = 1)
        ∧ (candidates u p ≠ [] → ∃ r, (port u p).request = some r ∧ r.apdo = false
            ∧ (∃ c ∈ candidates u p, r.obj = c.1 ∧ r.volt = pdoVolt c.2 ∧ r.curr = min (pdoCurr c.2) (iMax u p))
            ∧ ∀ c ∈ candidates u p, pdoPower u p c.2 ≤ r.volt * r.curr))
    ∧ (∀ (p : Fin 2) (t : Nat) (s : State), pdRuns s p = true →
      (s.on (Reg.PD_STAT.EPR p) = true ∨ s.on (Reg.PD_STAT.PPS p) = true) →
      exec (.keepAlive p t) s = .next (setPort p { port s p with keptAt := max s.tbase t, sent := [.keepAlive] } (s.seen t)))
    ∧ (∀ (p : Fin 2) (v : Word) (s : State), Stores s (0x4005011C + 0x100 * p) →
      let w := withBit (Reg.PD_REQ.GO p) v
      let obj := (Reg.PD_REQ.OBJPOS p).of w
      (Reg.PD_REQ.AUTO p).of w = 0 →
      (s.rd (Reg.PD_STAT.NPDO p) < obj → exec (.pdReq p v) s = .next (s.set (Reg.PD_EVT.REQREJ p)))
      ∧ (pdRuns s p = true → (port s p).attached = true → (port s p).source = false → 1 ≤ obj →
        obj ≤ s.rd (Reg.PD_STAT.NPDO p) → pdoFixed (s.rd (Reg.PD_RXPDO.PDO p (obj - 1))) = true →
        exec (.pdReq p v) s = .next (setPort p { port s p with
          request := some ⟨obj, pdoVolt (s.rd (Reg.PD_RXPDO.PDO p (obj - 1))),
            min (pdoCurr (s.rd (Reg.PD_RXPDO.PDO p (obj - 1)))) (iMax s p), false⟩
          fwRequest := true, override := true
          sent := [.request obj (pdoVolt (s.rd (Reg.PD_RXPDO.PDO p (obj - 1))))
            (min (pdoCurr (s.rd (Reg.PD_RXPDO.PDO p (obj - 1)))) (iMax s p))] } s)))
    ∧ (∀ (p : Fin 2) (obj curr t : Nat) (r : PdRequest) (s : State), pdRuns s p = true → (port s p).attached = true →
      (port s p).source = false → (port s p).request = some r → s.on Reg.CHG_REVSTAT.ACTIVE = false →
      (Answers (.requestReply p true obj curr t) s fun u => u.rd (Reg.PD_STAT.CONTRACT p) = 1
        ∧ u.rd (Reg.PD_CONTRACT.VOLT p) = r.volt % 2 ^ (Reg.PD_CONTRACT.VOLT p).width
        ∧ u.rd (Reg.PD_CONTRACT.CURR p) = r.curr % 2 ^ (Reg.PD_CONTRACT.CURR p).width
        ∧ u.rd (Reg.PD_STAT.PPS p) = r.apdo.toNat ∧ u.rd (Reg.PD_EVT.CONTRACT p) = 1 ∧ (port u p).request = none
        ∧ (pin u p).maskUntil = if busVolt s p = r.volt then (pin s p).maskUntil else max s.tbase t + 5000)
      ∧ Answers (.requestReply p false obj curr t) s fun u => u.rd (Reg.PD_EVT.REQREJ p) = 1
        ∧ (port u p).request = none ∧ FieldsBut [Reg.PD_EVT.REQREJ p] s u)

/-- A VDM fills an empty receive buffer with its length and SOP, or is dropped, counted and answered BUSY if it is a
request; RXREL frees the buffer; TXGO sets VDMTXDONE or VDMTXFAIL as the partner answers; a request unanswered for 25
ms is answered BUSY. A Hard Reset counts and ends the contract, if PD runs on the port, and else does nothing. PR_Swap
to source is accepted with PRSWAP=1 only, DR_Swap towards DRPREF only, VCONN_Swap always; an Alert sets ALERTRX and an
unsupported message is answered Not_Supported. Choices of the model: assumption log 42, 43, 110.
Cites: R157, R158, R161, R162. -/
def Obligations.PortMessages : Prop :=
  (∀ (p : Fin 2) (sop : Fin 3) (l : List Word) (t : Nat) (s : State), pdRuns s p = true →
      (port s p).attached = true → l ≠ [] →
      (s.on (Reg.PD_VDMCTL.RXFULL p) = false → Answers (.vdmReceived p sop l t) s fun u =>
        u.rd (Reg.PD_VDMCTL.RXFULL p) = 1 ∧ u.rd (Reg.PD_VDMCTL.RXLEN p) = min 8 l.length
        ∧ u.rd (Reg.PD_VDMCTL.RXSOP p) = sop.val ∧ u.rd (Reg.PD_EVT.VDMRX p) = 1
        ∧ u.rd (Reg.PD_VDMRX.WORD p 0) = (l.getD 0 0).toNat % 2 ^ 16
        ∧ ∀ k, 1 ≤ k → k < 8 → u.rd (Reg.PD_VDMRX.WORD p k) = (l.getD k 0).toNat)
      ∧ (s.on (Reg.PD_VDMCTL.RXFULL p) = true → Answers (.vdmReceived p sop l t) s fun u =>
        u.rd (Reg.PD_STAT.VDMDROP p) = min (s.rd (Reg.PD_STAT.VDMDROP p) + 1) (2 ^ (Reg.PD_STAT.VDMDROP p).width - 1)
        ∧ FieldsBut [Reg.PD_STAT.VDMDROP p] s u ∧ (vdmRequest l = true → (port u p).reply = .busy)))
    ∧ (∀ (p : Fin 2) (v : Word) (s : State), Stores s (0x40050120 + 0x100 * p) →
      Answers (.rxrel p v) s fun u => u.rd (Reg.PD_VDMCTL.RXFULL p) = 0 ∧ u.rd (Reg.PD_VDMCTL.RXLEN p) = 0
        ∧ (port u p).vdmAt = none)
    ∧ (∀ (p : Fin 2) (v : Word) (acked : Bool) (s : State), Stores s (0x40050120 + 0x100 * p) → pdRuns s p = true →
      (port s p).attached = true →
      Answers (.txgo p v acked) s fun u =>
        u.rd (if acked then Reg.PD_EVT.VDMTXDONE p else Reg.PD_EVT.VDMTXFAIL p) = 1 ∧ (port u p).vdmAt = none)
    ∧ (∀ (p : Fin 2) (t d : Nat) (s : State), (port s p).vdmAt = some d → d + 25000 ≤ max s.tbase t →
      exec (.vdmTimeout p t) s = .next (setPort p { port s p with vdmAt := none, reply := .busy } (s.seen t)))
    ∧ (∀ (p : Fin 2) (t : Nat) (s : State), (port s p).attached = true →
      (pdRuns s p = true →
        Answers (.hardReset p t) s fun u => u.rd (Reg.PD_EVT.HARDRESET p) = 1 ∧ u.rd (Reg.PD_STAT.CONTRACT p) = 0
        ∧ u.rd (Reg.PD_STAT.EPR p) = 0
        ∧ u.rd (Reg.PD_STAT.HRCNT p) = min (s.rd (Reg.PD_STAT.HRCNT p) + 1) (2 ^ (Reg.PD_STAT.HRCNT p).width - 1))
      ∧ (pdRuns s p = false → exec (.hardReset p t) s = .next (s.seen t)))
    ∧ (∀ (p : Fin 2) (t : Nat) (s : State), pdRuns s p = true → (port s p).attached = true →
      (s.on (Reg.PD_CFG.PRSWAP p) = true → (port s p).source = false → s.on Reg.CHG_REVSTAT.ACTIVE = false → s.pwr.sel = none →
        (ranking s = [] ∨ s.pwr.deadUntil.isSome = true) →
        Answers (.prSwap p true t) s fun u => (port u p).reply = .accept ∧ (port u p).source = true
          ∧ u.rd (Reg.PD_STAT.PROLE p) = 1 ∧ u.rd (Reg.PD_EVT.SWAP p) = 1 ∧ (pin u p).valid = false)
      ∧ (s.on (Reg.PD_CFG.PRSWAP p) = false →
        exec (.prSwap p true t) s = .next (setPort p { port s p with reply := .reject } (s.seen t)))
      ∧ (∀ toDfp, toDfp = s.on (Reg.PD_CFG.DRPREF p) → Answers (.drSwap p toDfp t) s fun u =>
        (port u p).reply = .accept ∧ u.rd (Reg.PD_STAT.DROLE p) = toDfp.toNat ∧ u.rd (Reg.PD_EVT.SWAP p) = 1)
      ∧ (∀ toDfp, toDfp ≠ s.on (Reg.PD_CFG.DRPREF p) →
        exec (.drSwap p toDfp t) s = .next (setPort p { port s p with reply := .reject } (s.seen t)))
      ∧ (Answers (.vconnSwap p t) s fun u => (port u p).reply = .accept ∧ u.rd (Reg.PD_EVT.SWAP p) = 1
        ∧ (port u p).vconnSrc = !(port s p).vconnSrc
        ∧ u.rd (Reg.PD_STAT.VCONN p) = (!(port s p).vconnSrc && s.on (Reg.PD_CFG.VCONNEN p)).toNat)
      ∧ exec (.alertReceived p t) s = .next ((s.seen t).set (Reg.PD_EVT.ALERTRX p))
      ∧ exec (.notSupportedMessage p t) s = .next (setPort p { port s p with reply := .notSupported } (s.seen t)))

/-- A thermistor code moves the band and sets BAND: away from NORMAL as soon as it lies beyond a boundary, nearer NORMAL
only when it lies HYST codes inside it. Each charge fault latches its cause, stops current and sets FAULT unless a
fault or a removal stands: a shorted thermistor, the third battery over-voltage of a cycle, charge over-current, the
timer at its limit. The die stop sets TSHUT and ends reverse supply; the resume clears it while the die sensor is not
faulted. A due tick advances COUNT. Sixty minutes without current end the cycle. FLTCLR clears a fault whose condition
is absent, else sets CLRREF; QCLR zeroes QACC; LOCK locks CHG_LIMIT; charge enters QACC modulo 2^32 and sets QWRAP
when it wraps. Choices of the model: assumption log 44, 111, 114.
Cites: R175, R178, R180, R181, R183, R184, R185, R188. -/
def Obligations.ChargerSupervision : Prop :=
  (∀ (code : BitVec 12) (t : Nat) (s : State),
      let e := (s.seen t).wr Reg.CHG_MEAS.BATTH code.toNat
      let b := bandPoint e code.toNat (e.rd Reg.CHG_STAT.BAND)
      Answers (.bandChange code t) s fun u => u.rd Reg.CHG_MEAS.BATTH = code.toNat ∧ u.rd Reg.CHG_STAT.BAND = b
        ∧ (b ≠ s.rd Reg.CHG_STAT.BAND → u.rd Reg.CHG_EVT.BAND = 1)
        ∧ FieldsBut [Reg.CHG_MEAS.BATTH, Reg.CHG_STAT.BAND, Reg.CHG_EVT.BAND] s u)
    ∧ (∀ (code : BitVec 12) (s : State), bandPoint s code.toNat 2 = (if 3891 < code.toNat then 5
        else if code.toNat < 205 then 6 else if s.rd Reg.CHG_BAND0.COLD ≤ code.toNat then 0
        else if s.rd Reg.CHG_BAND0.COOL ≤ code.toNat then 1 else if s.rd Reg.CHG_BAND1.WARM < code.toNat then 2
        else if s.rd Reg.CHG_BAND1.HOT < code.toNat then 3 else 4))
    ∧ (∀ (code : BitVec 12) (s : State),
      let c := code.toNat
      let h := s.rd Reg.CHG_BANDACT.HYST
      let cold := s.rd Reg.CHG_BAND0.COLD
      let cool := s.rd Reg.CHG_BAND0.COOL
      let warm := s.rd Reg.CHG_BAND1.WARM
      let hot := s.rd Reg.CHG_BAND1.HOT
      205 ≤ hot → hot ≤ warm → warm < cool → cool ≤ cold → cold ≤ 3891 →
      (warm < c → c < cold → bandPoint s c 0 = if cold ≤ c + h then 0 else if cool ≤ c + h then 1 else 2)
      ∧ (warm < c → c < cool → bandPoint s c 1 = if cool ≤ c + h then 1 else 2)
      ∧ (warm < c → c < cool → bandPoint s c 3 = if c ≤ warm + h then 3 else 2)
      ∧ (hot < c → c < cool → bandPoint s c 4 = if c ≤ hot + h then 4 else if c ≤ warm + h then 3 else 2))
    ∧ (∀ (t : Nat) (s : State), s.rd Reg.CHG_STAT.FCAUSE = 0 → s.on Reg.PWR_STAT.BATREM = false →
      (∀ code : BitVec 12, code.toNat < 205 → Answers (.thshort code t) s fun u =>
        u.rd Reg.CHG_STAT.FCAUSE = 3 ∧ u.rd Reg.CHG_EVT.FAULT = 1 ∧ u.rd Reg.CHG_STAT.LOOP = 0)
      ∧ (∀ ibat : Int, (ocpLimit s : Int) < ibat → Answers (.chgocp ibat t) s fun u =>
        u.rd Reg.CHG_STAT.FCAUSE = 5 ∧ u.rd Reg.CHG_EVT.FAULT = 1 ∧ u.rd Reg.CHG_STAT.LOOP = 0)
      ∧ (timerLimit s ≤ s.rd Reg.CHG_TMRCNT.COUNT →
        Answers (.timerFault t) s fun u => u.rd Reg.CHG_EVT.FAULT = 1
          ∧ u.rd Reg.CHG_STAT.FCAUSE = 1 + (s.on Reg.CHG_STAT.TPHASE).toNat))
    ∧ (∀ (vbat t : Nat) (s : State), (vregEff s + 100) * cells s < vbat → vbat ≤ cells s * 4700 →
      s.on Reg.CHG_STAT.BATOVACT = false →
      Answers (.batov vbat t) s fun u => u.rd Reg.CHG_EVT.BATOV = 1 ∧ u.rd Reg.CHG_STAT.BATOVACT = 1
        ∧ u.rd Reg.CHG_STAT.LOOP = 0
        ∧ (s.on Reg.CHG_STAT.CYCLE = true → u.chg.batov = s.chg.batov + 1)
        ∧ (s.on Reg.CHG_STAT.CYCLE = true → 2 ≤ s.chg.batov → s.rd Reg.CHG_STAT.FCAUSE = 0 →
            s.on Reg.PWR_STAT.BATREM = false → u.rd Reg.CHG_STAT.FCAUSE = 4))
    ∧ (∀ (t : Nat) (s : State), s.on Reg.CHG_STAT.TSHUT = false →
      Answers (.dieStop t) s fun u => u.rd Reg.CHG_STAT.TSHUT = 1 ∧ u.rd Reg.CHG_EVT.TSHUT = 1
        ∧ u.rd Reg.CHG_STAT.LOOP = 0
        ∧ (s.on Reg.CHG_REVSTAT.ACTIVE = true → u.rd Reg.CHG_REVSTAT.ACTIVE = 0 ∧ u.rd Reg.CHG_REVSTAT.CAUSE = 6))
    ∧ (∀ (t : Nat) (s : State), exec (.dieResume t) s = .next (
      if s.rd (Reg.THM_TEMP.FAULT 17) = 0 then (s.seen t).clr Reg.CHG_STAT.TSHUT else s.seen t))
    ∧ (∀ (t : Nat) (s : State), timerRuns s = true → s.rd Reg.CHG_STAT.FCAUSE = 0 →
      s.chg.tickAt + (if halfSpeed s then 1000000 else 500000) ≤ max s.tbase t →
      Answers (.safetyTimerTick t) s fun u => u.rd Reg.CHG_STAT.HALF = (halfSpeed s).toNat
        ∧ u.chg.tickAt = max s.tbase t
        ∧ u.rd Reg.CHG_TMRCNT.COUNT = min (s.rd Reg.CHG_TMRCNT.COUNT + 1) (2 ^ Reg.CHG_TMRCNT.COUNT.width - 1))
    ∧ (∀ (t : Nat) (s : State), s.on Reg.CHG_STAT.CYCLE = true → s.rd Reg.CHG_STAT.LOOP = 0 →
      s.chg.currentAt + 3600000000 ≤ max s.tbase t →
      Answers (.cycleTimeout t) s fun u => u.rd Reg.CHG_STAT.CYCLE = 0 ∧ u.rd Reg.CHG_TMRCNT.COUNT = 0
        ∧ FieldsBut [Reg.CHG_STAT.CYCLE, Reg.CHG_TMRCNT.COUNT] s u)
    ∧ (∀ (v : Word) (s : State), Stores s 0x40040000 →
      (s.rd Reg.CHG_STAT.FCAUSE ≠ 0 → faultPresent s = false →
        Answers (.fltclr v) s fun u => u.rd Reg.CHG_STAT.FCAUSE = 0)
      ∧ (s.rd Reg.CHG_STAT.FCAUSE ≠ 0 → faultPresent s = true →
        Answers (.fltclr v) s fun u => u.rd Reg.CHG_EVT.CLRREF = 1
          ∧ u.rd Reg.CHG_STAT.FCAUSE = s.rd Reg.CHG_STAT.FCAUSE)
      ∧ (Answers (.qclr v) s fun u => u.rd Reg.CHG_QACC.QACC = 0)
      ∧ Answers (.chgLock v) s fun u => u.rd Reg.CHG_CTRL.LOCK = 1 ∧ u.mem = s.mem)
    ∧ (∀ (q : Int) (t : Nat) (s : State), s.rd Reg.CHG_QACC.QACC < 2 ^ 32 →
      Answers (.qaccWrap q t) s fun u =>
        BitVec.ofNat 32 (u.rd Reg.CHG_QACC.QACC) = BitVec.ofNat 32 (s.rd Reg.CHG_QACC.QACC) + BitVec.ofInt 32 q
        ∧ (tooWide ((BitVec.ofNat 32 (s.rd Reg.CHG_QACC.QACC)).toInt + q) = true → u.rd Reg.CHG_EVT.QWRAP = 1)
        ∧ FieldsBut [Reg.CHG_QACC.QACC, Reg.CHG_EVT.QWRAP] s u)

/-- Reverse supply that runs stops for the first standing cause, for an over-current, which is noted with its time and
whose third within 60 s locks the port out, and for a battery below REVVMIN: on either port ACTIVE clears, the cause
and REVSTOP are set, and the port detaches. It stops for an input that the selector takes too, and that input waits
for the dead time. Choices of the model: assumption log 44, 111.
Cites: R153, R195, R196. -/
def Obligations.ReverseSupply : Prop :=
  (∀ (p : Fin 2) (t c : Nat) (s : State), s.on Reg.CHG_REVSTAT.ACTIVE = true → s.rd Reg.CHG_REVSTAT.PORT = p →
      reverseCause s = some c →
      Answers (.reverseStop t) s fun u => u.rd Reg.CHG_REVSTAT.ACTIVE = 0 ∧ u.rd Reg.CHG_REVSTAT.CAUSE = c
        ∧ u.rd Reg.CHG_EVT.REVSTOP = 1 ∧ u.rd Reg.CHG_REVSTAT.IOUT = 0
        ∧ (port u p).attached = false ∧ u.rd (Reg.PD_STAT.ATTACHED p) = 0 ∧ u.rd (Reg.PD_EVT.DETACH p) = 1)
    ∧ (∀ (p : Fin 2) (x : VbusReading) (s : State), s.on Reg.CHG_REVSTAT.ACTIVE = true →
      s.rd Reg.CHG_REVSTAT.PORT = p → s.on (Reg.PD_STAT.CONTRACT p) = true →
      x.vbus * 10 < 8 * s.rd (Reg.PD_CONTRACT.VOLT p) →
      let ocp := fun (v : State) => if p = 0 then v.chg.ocp0 else v.chg.ocp1
      Answers (.reverseOcp x) s fun u => u.rd Reg.CHG_REVSTAT.ACTIVE = 0 ∧ u.rd Reg.CHG_REVSTAT.CAUSE = 4
        ∧ u.rd Reg.CHG_EVT.REVSTOP = 1 ∧ u.rd Reg.CHG_REVSTAT.IOUT = 0
        ∧ ocp u = (ocp s).filter (fun a => max s.tbase x.t ≤ a + 60000000) ++ [max s.tbase x.t]
        ∧ (3 ≤ (ocp u).length →
            u.rd (if p = 0 then Reg.CHG_REVSTAT.LOCKOUT0 else Reg.CHG_REVSTAT.LOCKOUT1) = 1)
        ∧ (port u p).attached = false ∧ u.rd (Reg.PD_STAT.ATTACHED p) = 0 ∧ u.rd (Reg.PD_EVT.DETACH p) = 1)
    ∧ (∀ (p : Fin 2) (vbat t : Nat) (s : State), s.on Reg.CHG_REVSTAT.ACTIVE = true → s.rd Reg.CHG_REVSTAT.PORT = p →
      vbat < s.rd Reg.CHG_REVVMIN.REVVMIN * cells s → vbat ≤ cells s * 4700 →
      Answers (.reverseVbatLow vbat t) s fun u => u.rd Reg.CHG_REVSTAT.ACTIVE = 0 ∧ u.rd Reg.CHG_REVSTAT.CAUSE = 3
        ∧ u.rd Reg.CHG_EVT.REVSTOP = 1 ∧ u.rd Reg.CHG_REVSTAT.IOUT = 0
        ∧ u.rd Reg.PWR_VMEAS.VBAT = vbat % 2 ^ Reg.PWR_VMEAS.VBAT.width
        ∧ (port u p).attached = false ∧ u.rd (Reg.PD_STAT.ATTACHED p) = 0 ∧ u.rd (Reg.PD_EVT.DETACH p) = 1)
    ∧ (∀ (n : Fin 3) (p : Fin 2) (t : Nat) (s : State), s.on Reg.CHG_REVSTAT.ACTIVE = true →
      s.rd Reg.CHG_REVSTAT.PORT = p → s.sys.aonOn = true → (pin s n).valid = true → (pin s n).timed = false →
      (pin s n).validSince + 150000 ≤ max s.tbase t →
      (n.val = 2 ∨ (pin s n).pdSeen = false ∨ s.on (Reg.PD_STAT.CONTRACT n) = true) →
      s.pwr.mode ≠ .held → s.pwr.sel = none → s.pwr.deadUntil = none → named s = [n.val] →
      Answers (.qualified n t) s fun u => u.rd Reg.CHG_REVSTAT.ACTIVE = 0 ∧ u.rd Reg.CHG_REVSTAT.CAUSE = 2
        ∧ u.rd Reg.CHG_EVT.REVSTOP = 1 ∧ (port u p).attached = false ∧ u.pwr.sel = none
        ∧ u.pwr.deadUntil = some (max s.tbase t + 50))

/-- A read of KSC_DELIV0 latches the last frame's results. A key closed for STUCKTO seconds is masked unless exempt. A key
that the sleep scanner reads closed twice running becomes closed, and is a wake when the keyboard is unlocked. Handing
over to the frame scanner keeps level 0. LOCK locks, UNLOCK unlocks with the closed keys held over. Sequence writes
fill their chord, or set SEQERR while locked. A step time-out counts a failure; after the back-off with no key closed
the matcher is idle. Choices of the model: assumption log 2, 23, 86.
Cites: R203, R206, R207, R208, R209, R210, R211, R212, R213. -/
def Obligations.Keyboard : Prop :=
  (∀ s : State, Loads s 0x40060100 →
      exec .kscDeliv0Read s = .next { s with rdata := s.kbd.frame.deliv % 2 ^ 32,
                                             kbd := { s.kbd with latched := s.kbd.frame } })
    ∧ (∀ (t k t0 : Nat) (s : State), s.rd Reg.KSC_STUCKCFG.STUCKTO ≠ 0 → (k, t0) ∈ s.kbd.since →
      s.rd Reg.KSC_STUCKCFG.STUCKTO * 1000000 + t0 ≤ max s.tbase t → exempt s k = false →
      Answers (.stuckMask t) s fun u => u.kbd.masked.testBit k = true
        ∧ (∀ j, s.kbd.masked.testBit j = true → u.kbd.masked.testBit j = true)
        ∧ (s.kbd.masked.testBit k = false → u.rd Reg.KSC_EVT.STUCKCHG = 1) ∧ FieldsBut [Reg.KSC_EVT.STUCKCHG] s u)
    ∧ (∀ (keys : List (Fin 768)) (t : Nat) (k : Fin 768) (s : State), frameOn s = false → s.sys.aonOn = true →
      s.sys.shipMode = false → k ∈ keys → (geomMask s).testBit k = true → s.kbd.masked.testBit k = false →
      Answers (.sleepScan keys t) s fun u => u.kbd.sample.testBit k = true
        ∧ (s.kbd.sample.testBit k = true → u.kbd.raw.testBit k = true)
        ∧ (s.kbd.sample.testBit k = true → s.kbd.raw = 0 → s.kbd.masked = 0 → keys = [k] → kbdLocked s = false →
            s.on Reg.SYS_WAKEEN.KEY = true → u.rd Reg.KSC_WAKEKEY.VALID = 1 ∧ u.rd Reg.KSC_WAKEKEY.INDEX = k.val
              ∧ u.rd Reg.SYS_WAKESTAT.KEY = 1))
    ∧ (∀ (v : Word) (s : State), Stores s 0x40060000 → frameOn s = false → Reg.KSC_CTRL.EN.of v.toNat = 1 →
      Reg.KSC_CTRL.SLEEP.of v.toNat = 0 →
      Answers (.scannerHandover v) s fun u => frameOn u = true ∧ u.kbd.raw = s.kbd.raw ∧ u.kbd.deb = []
        ∧ u.kbd.reported = 0 ∧ 5 ≤ u.rd Reg.KSC_CTRL.SETTLE ∧ u.rd Reg.KSC_CTRL.SETTLE ≤ 100)
    ∧ (∀ (v : Word) (s : State), Stores s 0x40060024 →
      (Reg.KSC_LOCKCTL.UNLOCK.of v.toNat = 0 → s.rd Reg.KSC_LOCKCTL.LOCK = 0 → keyLevel2 s = 0 →
        Answers (.kscLock v) s fun u => u.rd Reg.KSC_LOCKCTL.LOCK = 1 ∧ u.kbd.matcher = .idle)
      ∧ (s.rd Reg.KSC_LOCKCTL.LOCK = 1 →
        Answers (.kscUnlock v) s fun u => u.rd Reg.KSC_LOCKCTL.LOCK = 0 ∧ u.rd Reg.KSC_LOCKST.FAILS = 0
          ∧ u.kbd.matcher = .idle ∧ u.kbd.held = keyLevel2 s))
    ∧ (∀ (k : Fin 8) (upper : Bool) (v : Word) (s : State), Stores s (0x40060400 + 8 * k + 4 * upper.toNat) →
      (kbdLocked s = true → exec (.sequenceWrite k upper v) s = .next (s.set Reg.KSC_EVT.SEQERR))
      ∧ (kbdLocked s = false → Answers (.sequenceWrite k upper v) s fun u =>
        (upper = false → u.rd (Reg.KSC_SEQA.KEY0 k) = (Reg.KSC_SEQA.KEY0 k).of v.toNat
          ∧ u.rd (Reg.KSC_SEQA.KEY1 k) = (Reg.KSC_SEQA.KEY1 k).of v.toNat
          ∧ u.rd (Reg.KSC_SEQA.KEY2 k) = (Reg.KSC_SEQA.KEY2 k).of v.toNat)
        ∧ (upper = true → u.rd (Reg.KSC_SEQB.KEY3 k) = (Reg.KSC_SEQB.KEY3 k).of v.toNat
          ∧ u.rd (Reg.KSC_SEQB.STEPTO k) = (Reg.KSC_SEQB.STEPTO k).of v.toNat)
        ∧ (chordValid u k = false → u.rd Reg.KSC_EVT.SEQERR = 1)))
    ∧ (∀ (t i : Nat) (s : State), s.kbd.matcher = .step i → kbdLocked s = true →
      s.kbd.timer + stepTimeout s i ≤ max s.tbase t →
      Answers (.stepTimeout t) s fun u => u.rd Reg.KSC_EVT.FAILED = 1
        ∧ u.rd Reg.KSC_LOCKST.FAILS
          = min (s.rd Reg.KSC_LOCKST.FAILS + 1) (2 ^ Reg.KSC_LOCKST.FAILS.width - 1)
        ∧ u.kbd.backoff = 1000000 * min 4096 (2 ^ (u.rd Reg.KSC_LOCKST.FAILS - 10)))
    ∧ (∀ (t : Nat) (s : State), s.kbd.matcher = .backoff → kbdLocked s = true → seqSteps s ≠ 0 → keyLevel2 s = 0 →
      s.kbd.timer + s.kbd.backoff ≤ max s.tbase t →
      Answers (.backoffEnd t) s fun u => u.kbd.matcher = .idle ∧ u.kbd.timer = max s.tbase t ∧ u.fields = s.fields)

/-- A sync from the selected source, the timer, LSYNC_IN or SYNCNOW, starts a frame cycle: FRAME counts and BUSY is set;
while BUSY, or less than 4,166 us after the last accepted one, it is counted LATE instead. Silence on LSYNC_IN falls
back to the timer on the grid. FWCLOSE and OCCLOSE set their pending bits. Presentation shows the computed on-chip
codes. Setting EN checks the timing and runs; clearing it turns everything off; a timing write is checked. A scan's
end takes VMEAS; over-voltage stops the matrix. DIAGCLR returns faulty channels to UNTESTED; a counter read returns
and clears the counters. Choices of the model: assumption log 52, 54, 55.
Cites: R221, R222, R223, R224, R232, R234, R235, R237. -/
def Obligations.LightingEngine : Prop :=
  (∀ s : State, luxEn s = true → s.on Reg.LUX_STAT.BUSY = false →
      let apart := fun (now : Nat) => ∀ a, s.lux.lastSync = some a → a + 4166 ≤ now
      (∀ t, apart (max s.tbase t) → syncSrc s = 0 → s.lux.nextSync ≤ max s.tbase t → Answers (.timerSync t) s fun u =>
        u.rd Reg.LUX_FRAME.FRAME = (s.rd Reg.LUX_FRAME.FRAME + 1) % 2 ^ 32 ∧ u.rd Reg.LUX_STAT.BUSY = 1
          ∧ u.lux.lastSync = some (max s.tbase t) ∧ u.lux.nextSync = s.lux.nextSync + syncPeriod s
          ∧ (s.on Reg.LUX_STAT.PENDING = true → u.rd Reg.LUX_STAT.PENDING = 0 ∧ u.rd Reg.LUX_EVT.SWAP = 1)
          ∧ (s.on Reg.LUX_STAT.PENDING = false → u.rd Reg.LUX_EVT.REPEAT = 1))
      ∧ (∀ t, apart (max s.tbase t) → syncSrc s = 1 → Answers (.lsyncInEdge t) s fun u =>
        u.rd Reg.LUX_FRAME.FRAME = (s.rd Reg.LUX_FRAME.FRAME + 1) % 2 ^ 32 ∧ u.rd Reg.LUX_STAT.BUSY = 1
          ∧ u.lux.lastSync = some (max s.tbase t)
          ∧ u.lux.edgeAt = max s.tbase t ∧ u.rd Reg.LUX_STAT.SYNCLOST = 0)
      ∧ (∀ v : Word, apart s.tbase → Stores s 0x40070000 → syncSrc s = 2 → Reg.LUX_CTRL.EN.of v.toNat = 1 →
        Answers (.syncnow v) s fun u => u.lux.lastSync = some s.tbase
          ∧ u.rd Reg.LUX_FRAME.FRAME = (s.rd Reg.LUX_FRAME.FRAME + 1) % 2 ^ 32 ∧ u.rd Reg.LUX_STAT.BUSY = 1))
    ∧ (∀ s : State, luxEn s = true →
      let early := fun (now : Nat) => s.on Reg.LUX_STAT.BUSY = true ∨ ∃ a, s.lux.lastSync = some a ∧ now < a + 4166
      let late := fun (u : State) => u.rd Reg.LUX_EVT.LATE = 1
        ∧ u.rd Reg.LUX_CNT.LATE = min (s.rd Reg.LUX_CNT.LATE + 1) (2 ^ Reg.LUX_CNT.LATE.width - 1)
        ∧ u.rd Reg.LUX_FRAME.FRAME = s.rd Reg.LUX_FRAME.FRAME ∧ u.lux.lastSync = s.lux.lastSync ∧ u.mem = s.mem
      (∀ t, early (max s.tbase t) → syncSrc s = 0 → s.lux.nextSync ≤ max s.tbase t →
        Answers (.timerSync t) s fun u => late u ∧ FieldsBut [Reg.LUX_EVT.LATE, Reg.LUX_CNT.LATE] s u)
      ∧ (∀ t, early (max s.tbase t) → syncSrc s = 1 → Answers (.lsyncInEdge t) s fun u => late u
        ∧ u.lux.edgeAt = max s.tbase t
        ∧ FieldsBut [Reg.LUX_EVT.LATE, Reg.LUX_CNT.LATE, Reg.LUX_STAT.SYNCLOST] s u)
      ∧ (∀ v : Word, early s.tbase → Stores s 0x40070000 → syncSrc s = 2 → Reg.LUX_CTRL.EN.of v.toNat = 1 →
        Answers (.syncnow v) s fun u => late u ∧ u.rd Reg.LUX_STAT.BUSY = s.rd Reg.LUX_STAT.BUSY))
    ∧ (∀ (t : Nat) (s : State), luxEn s = true → syncSrc s = 1 → s.on Reg.LUX_STAT.SYNCLOST = false →
      s.lux.edgeAt + 1000 * max 1 (s.rd Reg.LUX_SYNC.SYNCTO) ≤ max s.tbase t →
      Answers (.syncFallback t) s fun u => u.rd Reg.LUX_STAT.SYNCLOST = 1 ∧ u.rd Reg.LUX_EVT.SYNCLOSS = 1
        ∧ max s.tbase t ≤ u.lux.nextSync
        ∧ ∃ k, u.lux.nextSync = max s.lux.enAt (s.lux.lastSync.getD s.lux.enAt) + k * syncPeriod s)
    ∧ (∀ (v : Word) (s : State), Stores s 0x40070000 → Reg.LUX_CTRL.SYNCNOW.of v.toNat = 0 →
      (Answers (.fwclose v) s fun u => u.rd Reg.LUX_STAT.PENDING = 1)
      ∧ (Answers (.occlose v) s fun u => u.rd Reg.LUX_STAT.OCPENDING = 1)
      ∧ (s.on Reg.LUX_CTRL.EN = false → Answers (.luxEnSet v) s fun u => u.rd Reg.LUX_CTRL.EN = 1
        ∧ u.rd Reg.LUX_FRAME.FRAME = 0 ∧ u.rd Reg.LUX_STAT.RUNNING = (timingValid s).toNat
        ∧ u.lux.lastSync = s.lux.lastSync ∧ u.lux.enAt = s.tbase ∧ (timingValid s = false → u.rd Reg.LUX_EVT.CFGERR = 1)))
    ∧ (∀ (v : Word) (s : State), Stores s 0x40070000 → s.on Reg.LUX_CTRL.EN = true →
      Answers (.luxEnClear v) s fun u => u.rd Reg.LUX_CTRL.EN = 0 ∧ u.rd Reg.LUX_STAT.RUNNING = 0
        ∧ u.rd Reg.LUX_STAT.BUSY = 0 ∧ u.lux.shown = [] ∧ ∀ n, onTime u n = 0)
    ∧ (∀ (t : Nat) (s : State), s.on Reg.LUX_STAT.BUSY = true → s.lux.presented = false →
      Answers (.present t) s fun u => u.rd Reg.LUX_EVT.FRAME = 1 ∧ u.lux.presented = true
        ∧ (∀ n, n < 768 → Sparse.get 0 n u.lux.shown = Sparse.get 0 n u.lux.codes)
        ∧ u.lux.computing = false ∧ (s.lux.computing = false → u.lux.codes = s.lux.codes)
        ∧ (s.lux.chainDone = true → u.rd Reg.LUX_STAT.BUSY = 0))
    ∧ (∀ (v : Word) (s : State), Stores s 0x40070030 → s.on Reg.LUX_CTRL.EN = true →
      Answers (.matrixTimingWrite false v) s fun u => u.rd Reg.LUX_MTIM.LINE = Reg.LUX_MTIM.LINE.of v.toNat
        ∧ u.rd Reg.LUX_MTIM.BLANK = Reg.LUX_MTIM.BLANK.of v.toNat
        ∧ u.rd Reg.LUX_STAT.CFGERR = (!timingValid u).toNat
        ∧ (timingValid u = false → u.rd Reg.LUX_STAT.RUNNING = 0 ∧ u.rd Reg.LUX_EVT.CFGERR = 1))
    ∧ (∀ (r : ScanReading) (t : Nat) (s : State), s.on Reg.LUX_STAT.RUNNING = true →
      Answers (.scanEnd r t) s fun u => u.rd Reg.LUX_VLEDSTAT.VMEAS = min 2047 (r.vled / 10)
        ∧ u.lux.scans = s.lux.scans + 1 ∧ u.lux.testScan = s.lux.testReq ∧ u.lux.testReq = false)
    ∧ (∀ (mv t : Nat) (s : State), luxEn s = true → 10 * s.rd Reg.LUX_VLEDLIM.VLEDMAX + 1000 < mv →
      exec (.vledOvervoltage mv t) s = .next (((({ s.seen t with lux := { s.lux with stopAt := 0 } } : State).set
        Reg.LUX_STAT.VLEDOV).set Reg.LUX_EVT.VLEDOV).clr Reg.LUX_STAT.RUNNING))
    ∧ (∀ (v : Word) (s : State), Stores s 0x40070500 → Reg.LUX_DIAGCLR.ALL.of v.toNat = 0 →
      Reg.LUX_DIAGCLR.CH.of v.toNat < 768 →
      Answers (.luxDiagclr v) s fun u => ∀ n, n < 768 →
        diagOf u n = if n = Reg.LUX_DIAGCLR.CH.of v.toNat ∧ 2 ≤ diagOf s n then 0 else diagOf s n)
    ∧ (∀ s : State, Loads s 0x4007001C →
      Answers .luxCntRead s fun u => u.rdata = s.regWord 0x4007001C ∧ u.rd Reg.LUX_CNT.REPEAT = 0
        ∧ u.rd Reg.LUX_CNT.LATE = 0 ∧ u.rd Reg.LUX_CNT.PAR = 0 ∧ SameStores s u)

/-- EN=1 sends the enumeration STATUS, EN=0 broadcasts a blank CONFIG and stops. The unanswered STATUS gives NFOUND; with
every answer in, the chain enters RUN with ENUMDONE. COMMIT is kept for the next frame, REENUM and a returned request
lead to ENUM at once or at the cycle's end. The returned sync records MMAP and DMAP with their events, or counts a bad
CRC; a break counts, the third running leads to ENUM, and in enumeration it is retried 10 ms later. On LTXD a packet
stands between K27.7 and K29.7 after idle symbols, and each code group keeps the running disparity. STATUS and DIAG
responses fill their registers; a DIAG request is queued or refused with CFGERR; reads return and clear the counters.
Choices of the model: assumption log 53, 54, 55, 119.
Cites: R241, R246, R247, R249, R250. -/
def Obligations.ChainEngine : Prop :=
  (∀ (v : Word) (s : State), Stores s 0x40080000 →
      (s.on Reg.CHN_CTRL.EN = false → Answers (.chnEnable v) s fun u => u.rd Reg.CHN_CTRL.EN = 1
        ∧ u.rd Reg.CHN_STAT.STATE = 1 ∧ u.chn.probing = true ∧ u.chn.sent = [packet u 4 false 63 63 []]
        ∧ 16 ≤ u.chn.link.idle)
      ∧ (s.on Reg.CHN_CTRL.EN = true → Answers (.chnDisable v) s fun u => u.rd Reg.CHN_CTRL.EN = 0
        ∧ u.rd Reg.CHN_STAT.STATE = 0 ∧ u.chn.included = []
        ∧ ∃ dst, u.chn.sent = [packet u 1 true 0xFF 0 ([0, 0, 1, 0] ++ leBytes 2 dst ++ List.replicate 18 0)])
      ∧ (s.on Reg.CHN_CTRL.EN = true → Reg.CHN_CTRL.EN.of v.toNat = 1 → s.rd Reg.CHN_STAT.STATE = 3 →
        (Reg.CHN_CTRL.REENUM.of v.toNat = 0 → Answers (.commit v) s fun u => u.chn.commit = true
          ∧ u.rd Reg.CHN_STAT.STATE = 3 ∧ u.rd Reg.CHN_STAT.EPOCH = s.rd Reg.CHN_STAT.EPOCH)
        ∧ (s.on Reg.LUX_STAT.BUSY = false → Answers (.reenum v) s fun u => u.rd Reg.CHN_STAT.STATE = 1
          ∧ u.chn.probing = true)
        ∧ (s.on Reg.LUX_STAT.BUSY = true → Answers (.reenum v) s fun u => u.rd Reg.CHN_STAT.STATE = 3
          ∧ u.chn.toEnum = true)))
    ∧ (∀ (hops : Fin 64) (t : Nat) (s : State), s.rd Reg.CHN_STAT.STATE = 1 → s.chn.probing = true →
      Answers (.enumStatusReturn hops t) s fun u => u.rd Reg.CHN_STAT.NFOUND = 63 - hops.val
        ∧ u.chn.probing = false
        ∧ (hops.val < 63 → u.rd Reg.CHN_STAT.STATE = 1 ∧ u.chn.unanswered = List.range (63 - hops.val))
        ∧ (hops.val = 63 → u.rd Reg.CHN_STAT.STATE = 3 ∧ u.rd Reg.CHN_EVT.ENUMDONE = 1))
    ∧ (∀ (r : ChainStatus) (t : Nat) (s : State),
      (s.rd Reg.CHN_STAT.STATE = 1 → s.chn.probing = false → s.chn.unanswered = [r.pos.val] →
        Answers (.statusResponse r t) s fun u => u.rd Reg.CHN_STAT.STATE = 3 ∧ u.rd Reg.CHN_EVT.ENUMDONE = 1
          ∧ u.rd (Reg.CHN_DSTAT.FLAGS r.pos) = r.flags.toNat ∧ u.rd (Reg.CHN_DID.DEVID r.pos) = r.devid.toNat)
      ∧ (s.rd Reg.CHN_STAT.STATE = 3 → s.chn.statusSent = [r.pos.val] →
        Answers (.statusResponse r t) s fun u => u.rd Reg.CHN_EVT.STATUSDONE = 1 ∧ u.chn.statusSent = []
          ∧ u.rd (Reg.CHN_DSTAT.FLAGS r.pos) = r.flags.toNat ∧ u.rd (Reg.CHN_DSTAT.TEMP r.pos) = r.temp.toNat))
    ∧ (∀ (t d : Nat) (s : State), s.chn.retryAt = some d → d ≤ max s.tbase t → s.rd Reg.CHN_STAT.STATE = 1 →
      Answers (.enumRetry t) s fun u => u.chn.probing = true ∧ u.chn.retryAt = none
        ∧ u.chn.sent = [packet u 4 false 63 63 []] ∧ u.fields = s.fields)
    ∧ (∀ (mmap dmap : BitVec 64) (ok : Bool) (t : Nat) (s : State), s.chn.awaitSync = true →
      Answers (.returnedSync mmap dmap ok t) s fun u => u.chn.awaitSync = false ∧ u.chn.breaks = 0
        ∧ u.lux.chainDone = true
        ∧ (s.lux.presented = true → u.rd Reg.LUX_STAT.BUSY = 0)
        ∧ (s.lux.presented = false → u.rd Reg.LUX_STAT.BUSY = s.rd Reg.LUX_STAT.BUSY)
        ∧ (ok = true → u.rd Reg.CHN_MMAPLO.MAP = mmap.toNat % 2 ^ 32 ∧ u.rd Reg.CHN_MMAPHI.MAP = mmap.toNat / 2 ^ 32
            ∧ u.rd Reg.CHN_DMAPLO.MAP = dmap.toNat % 2 ^ 32 ∧ u.rd Reg.CHN_DMAPHI.MAP = dmap.toNat / 2 ^ 32
            ∧ (mmap ≠ 0 → u.rd Reg.CHN_EVT.MISMATCH = 1) ∧ (dmap ≠ 0 → u.rd Reg.CHN_EVT.DATAERR = 1))
        ∧ (ok = false → u.rd Reg.CHN_EVT.CRCERR = 1
            ∧ u.rd Reg.CHN_CNT.CRCERR = min (s.rd Reg.CHN_CNT.CRCERR + 1) (2 ^ Reg.CHN_CNT.CRCERR.width - 1)))
    ∧ (∀ (t : Nat) (s : State),
      (s.rd Reg.CHN_STAT.STATE = 1 → s.chn.probing = true →
        Answers (.chainBreak t) s fun u => u.chn.probing = false ∧ u.chn.retryAt = some (max s.tbase t + 10000)
          ∧ u.rd Reg.CHN_EVT.BREAK = 1)
      ∧ (s.rd Reg.CHN_STAT.STATE = 3 → s.chn.awaitSync = true →
        Answers (.chainBreak t) s fun u => u.chn.awaitSync = false ∧ u.rd Reg.CHN_EVT.BREAK = 1
          ∧ u.rd Reg.CHN_CNT.BREAK = min (s.rd Reg.CHN_CNT.BREAK + 1) (2 ^ Reg.CHN_CNT.BREAK.width - 1)
          ∧ u.lux.chainDone = true ∧ (s.lux.presented = true → u.rd Reg.LUX_STAT.BUSY = 0)
          ∧ (s.chn.breaks < 2 → s.lux.presented = false ∨ s.chn.toEnum = false →
              u.chn.breaks = s.chn.breaks + 1 ∧ u.rd Reg.CHN_STAT.STATE = 3)
          ∧ (2 ≤ s.chn.breaks → s.lux.presented = true → u.rd Reg.CHN_STAT.STATE = 1 ∧ u.chn.probing = true)
          ∧ (2 ≤ s.chn.breaks → s.lux.presented = false → s.on Reg.LUX_STAT.BUSY = true →
              u.rd Reg.CHN_STAT.STATE = 3 ∧ u.chn.toEnum = true)))
    ∧ (∀ (v : Word) (s : State), Stores s 0x40080030 →
      let w := withBit Reg.CHN_DIAGREQ.GO v
      let j := Reg.CHN_DIAGREQ.DRV.of w
      (2 ≤ s.rd Reg.CHN_STAT.CV → j ∈ s.chn.included → exec (.chnDiagreq v) s = .next { s with chn := { s.chn with
        diagQueue := some (j, Reg.CHN_DIAGREQ.FIRST.of w, max 1 (min 256 (Reg.CHN_DIAGREQ.COUNT.of w))) } })
      ∧ (s.rd Reg.CHN_STAT.CV ≤ 1 ∨ j ∉ s.chn.included →
        exec (.chnDiagreq v) s = .next (s.set Reg.CHN_EVT.CFGERR)))
    ∧ (∀ (first n t j : Nat) (states : List Byte) (s : State), s.chn.diagSent = some (j, first, n) →
      Answers (.diagResponse first n states t) s fun u => u.rd Reg.CHN_EVT.DIAGDONE = 1 ∧ u.chn.diagSent = none
        ∧ ∀ k, k < 16 → u.rd (Reg.CHN_DIAGBUF.STATE k) = leNat ((states.drop (4 * k)).take 4))
    ∧ (∀ s : State, Loads s 0x40080010 →
      Answers .chnCntRead s fun u => u.rdata = s.regWord 0x40080010 ∧ u.rd Reg.CHN_CNT.CRCERR = 0
        ∧ u.rd Reg.CHN_CNT.BREAK = 0 ∧ u.rd Reg.CHN_CNT.RESEND = 0 ∧ SameStores s u)
    ∧ (∀ (j : Fin 64) (s : State), Loads s (0x4008101C + 0x40 * j) →
      Answers (.chnDstatRead j) s fun u => u.rdata = s.regWord (0x4008101C + 0x40 * j)
        ∧ u.rd (Reg.CHN_DSTAT.MMCNT j) = 0 ∧ u.rd (Reg.CHN_DSTAT.DECNT j) = 0 ∧ SameStores s u)
    ∧ (∀ (t : Nat) (s : State), s.rd Reg.CHN_STAT.STATE = 3 →
      Answers (.addressedRequestReturned t) s fun u =>
        if s.on Reg.LUX_STAT.BUSY then u.chn.toEnum = true ∧ u.rd Reg.CHN_STAT.STATE = 3
        else u.chn.probing = true ∧ u.rd Reg.CHN_STAT.STATE = 1)
    ∧ (∀ (p : List Byte) (s : State), s.chn.sent = [p] → ∃ k, s.chn.link.idle ≤ k
      ∧ chainSymbols s = List.replicate k .idle ++ (.start :: p.map .data ++ [.stop])
      ∧ (chainGroups s).length = k + p.length + 2)
    ∧ (∀ (plus : Bool) (x : ChainSymbol),
      let ones := ((List.range 10).filter fun i => (symbolGroup plus x).1.getLsbD i).length
      if ones = 5 then (symbolGroup plus x).2 = plus
      else ones = (if plus then 4 else 6) ∧ (symbolGroup plus x).2 = !plus)

/-- An enabled input not converted for its limit becomes STALE. LOCK locks the thermal tables. Spin-up succeeds with tach
edges or ripple and runs at full voltage; failing after 1.5 s it waits to retry, or on the third retry stalls as
BLOCKED; after the wait, or 10 s of NOLOAD, it spins up again. In RUN, high current without ripple stalls and low
current without tach or ripple is NOLOAD. A silent tach with ripple sets TACHLOST, the next edge clears it. FANVIN
below 4.3 V turns every output off, 4.5 V restarts. CLR leaves STALL, unless the channel is forced; MODE=OFF turns the
channel off, and TRIES stays but out of STALL. Choices of the model: assumption log 2, 4, 114.
Cites: R258, R261, R262, R264, R265. -/
def Obligations.ThermalAndFans : Prop :=
  (∀ (n : Fin 20) (t : Nat) (s : State), s.on (Reg.THM_TCFG.EN n) = true → s.rd Reg.THM_CTRL.STALE ≠ 0 →
      (thermIn s n).at_ + s.rd Reg.THM_CTRL.STALE * 10000 ≤ max s.tbase t →
      Answers (.stale n t) s fun u => u.rd (Reg.THM_TEMP.FAULT n) = 3 ∧ u.rd Reg.THM_STAT.FAULT = 1
        ∧ (s.rd (Reg.THM_TEMP.FAULT n) = 0 → u.rd Reg.THM_EVT.SENSFLT = 1))
    ∧ (∀ (v : Word) (s : State), Stores s 0x400A0000 →
      Answers (.thmLock v) s fun u => u.rd Reg.THM_CTRL.LOCK = 1 ∧ u.mem = s.mem)
    ∧ (∀ (n : Fin 4) (edges : Bool) (r : FanReading) (t : Nat) (s : State), fanState s n = 1 → fanPowered s = true →
      ((edges = true ∧ s.on (Reg.FAN_CTRL.TACHEN n) = true) ∨ 300 ≤ rrpm s n r) →
      Answers (.fanSpinupOk n edges r t) s fun u => fanState u n = 2 ∧ (fanCh u n).v = vfull u n
        ∧ u.bit Reg.FAN_EVT.STARTOK n = true ∧ u.rd (Reg.FAN_SPD.RRPM n) = rrpm s n r)
    ∧ (∀ (n : Fin 4) (t : Nat) (s : State), fanState s n = 1 → fanPowered s = true →
      (fanCh s n).timer + 1500000 ≤ max s.tbase t →
      Answers (.spinupTimeout n t) s fun u =>
        (s.rd (Reg.FAN_STATn.TRIES n) < 3 → fanState u n = 3
          ∧ u.rd (Reg.FAN_STATn.TRIES n) = s.rd (Reg.FAN_STATn.TRIES n) + 1)
        ∧ (3 ≤ s.rd (Reg.FAN_STATn.TRIES n) → fanState u n = 4 ∧ u.rd (Reg.FAN_STATn.CAUSE n) = 1
          ∧ u.bit Reg.FAN_EVT.STALL n = true))
    ∧ (∀ (n : Fin 4) (t : Nat) (s : State), fanState s n = 3 → (fanCh s n).timer + 2000000 ≤ max s.tbase t →
      Answers (.retrywaitEnd n t) s fun u => fanState u n = 1 ∧ (fanCh u n).timer = max s.tbase t
        ∧ FieldsBut [Reg.FAN_STATn.STATE n] s u)
    ∧ (∀ (n : Fin 4) (t : Nat) (s : State), fanState s n = 5 → (fanCh s n).timer + 10000000 ≤ max s.tbase t →
      Answers (.noloadRetry n t) s fun u => fanState u n = 1 ∧ u.rd (Reg.FAN_STATn.TRIES n) = 0
        ∧ FieldsBut [Reg.FAN_STATn.STATE n, Reg.FAN_STATn.TRIES n] s u)
    ∧ (∀ (n : Fin 4) (r : FanReading) (t : Nat) (s : State), fanState s n = 2 → fanPowered s = true →
      (s.rd (Reg.FAN_ILIM.ISTALL n) ≤ min 1250 r.iout → rrpm s n r = 0 → Answers (.fanStall n r t) s fun u =>
        fanState u n = 4 ∧ u.rd (Reg.FAN_STATn.CAUSE n) = 2 ∧ u.bit Reg.FAN_EVT.STALL n = true
          ∧ u.rd (Reg.FAN_OUT.IOUT n) = min 1250 r.iout)
      ∧ (min 1250 r.iout < s.rd (Reg.FAN_ILIM.INOLOAD n) → trpm s n r = 0 → rrpm s n r = 0 →
        Answers (.fanNoload n r t) s fun u => fanState u n = 5 ∧ u.bit Reg.FAN_EVT.NOLOAD n = true)
      ∧ (s.on (Reg.FAN_CTRL.TACHEN n) = true → r.period = 0 → s.rd (Reg.FAN_ILIM.INOLOAD n) ≤ min 1250 r.iout →
        min 1250 r.iout < s.rd (Reg.FAN_ILIM.ISTALL n) → 300 ≤ rrpm s n r → Answers (.tachlost n r t) s fun u =>
          u.rd (Reg.FAN_STATn.TACHLOST n) = 1 ∧ u.bit Reg.FAN_EVT.TACHLOST n = true ∧ fanState u n = 2))
    ∧ (∀ (n : Fin 4) (t : Nat) (s : State),
      exec (.tachReturn n t) s = .next ((s.seen t).clr (Reg.FAN_STATn.TACHLOST n)))
    ∧ (∀ (mv t : Nat) (s : State), mv < 4300 → fanPowered s = true →
      Answers (.fanvinUv mv t) s fun u => u.rd Reg.FAN_STAT.FANVINUV = 1 ∧ u.rd Reg.FAN_EVT.FANVINUV = 1
        ∧ u.thm.fanvin = mv ∧ ∀ n, fanVout u n = 0)
    ∧ (∀ (mv t : Nat) (s : State), 4500 ≤ mv → fanPowered s = false →
      Answers (.fanvinReturn mv t) s fun u => u.rd Reg.FAN_STAT.FANVINUV = 0 ∧ u.thm.fanvin = mv
        ∧ ∀ n, n < 4 → fanState u n = if fanState s n = 2 then 1 else fanState s n)
    ∧ (∀ (n : Fin 4) (v : Word) (s : State), Stores s (0x40090100 + 0x40 * n) →
      (fanState s n = 4 → (Reg.FAN_CTRL.MODE n).of v.toNat ≠ 0 →
        Answers (.fanClr n v) s fun u => fanState u n = (fanForced u n).toNat ∧ u.rd (Reg.FAN_STATn.TRIES n) = 0)
      ∧ Answers (.fanModeOff n v) s fun u => u.rd (Reg.FAN_CTRL.MODE n) = 0 ∧ fanState u n = 0
        ∧ (fanState s n ≠ 4 → u.rd (Reg.FAN_STATn.TRIES n) = s.rd (Reg.FAN_STATn.TRIES n))
        ∧ ((Reg.FAN_CTRL.TACHEN n).of v.toNat = 0 → u.rd (Reg.FAN_STATn.TACHLOST n) = 0))

/-- A good frame of a newcomer or stranger for the KT8840 is acknowledged and enters the receive FIFO; one from a spoofed
source, with a bad CRC or with six equal bits is counted and dropped. A sent frame has no six equal bits before its
recessive end, and the receiver takes its bits. GO sends the frame of TXHDR and TXDATA, a secured one with the next
counter and its MAC, or is refused. An attempt on an idle bus that is acknowledged ends the frame, one without ACK
backs off by R slots below 2^n or, with TXRETRY used up, abandons it; lost arbitration counts. VALID=1 zeroes an
entry's counters or is refused for its ID. POP removes the oldest frame. EN=1 makes the bus idle 11 bit times later,
EN=0 discards what was learnt. Reads return and clear the counters. Choices of the model: assumption log 57, 58, 120.
Cites: R271, R275, R277, R278, R281, R282, R284. -/
def Obligations.FloeHardware : Prop :=
  (∀ (p : Fin 2) (f : FloeFrame) (x : FloeSignal) (t : Nat) (s : State), s.coreUp = true →
      s.on (Reg.FLOE_PCFG.EN p) = true → f.stuffBad = false →
      (f.crc.toNat = crc16 f.covered → f.formed = true → f.dst = 1 → (f.type = 2 ∨ f.type = 4) →
        0xF0 ≤ f.src.toNat → f.src.toNat ≤ 0xFE → (floe s p).fifo.length < 8 →
        Answers (.frameReceived p f x t) s fun u => (floe u p).fifo = (floe s p).fifo ++ [f] ∧ (floe u p).acked = true
          ∧ ((floe s p).fifo = [] → u.rd (portEvt Reg.FLOE_EVT.RX0 p) = 1))
      ∧ (f.crc.toNat = crc16 f.covered → f.formed = true → (f.dst = 1 ∨ f.dst = 0xFF) →
        (f.src.toNat ≤ 0x0F ∨ f.src = 0xFF ∨ f.type = 1 ∨ f.type = 3) →
        Answers (.frameReceived p f x t) s fun u => (floe u p).fifo = (floe s p).fifo ∧ (floe u p).acked = false
          ∧ u.rd (Reg.FLOE_PERRC.SPOOF p) = min (s.rd (Reg.FLOE_PERRC.SPOOF p) + 1) 255
          ∧ u.rd (portEvt Reg.FLOE_EVT.SPOOF0 p) = 1)
      ∧ (f.crc.toNat ≠ crc16 f.covered →
        Answers (.frameReceived p f x t) s fun u => (floe u p).fifo = (floe s p).fifo ∧ (floe u p).acked = false
          ∧ u.rd (Reg.FLOE_PERRA.CRCERR p) = min (s.rd (Reg.FLOE_PERRA.CRCERR p) + 1) 255))
    ∧ (∀ (p : Fin 2) (f : FloeFrame) (x : FloeSignal) (t : Nat) (pre post : List Bool) (b : Bool) (s : State),
      s.coreUp = true → s.on (Reg.FLOE_PCFG.EN p) = true → f.wire = some (pre ++ List.replicate 6 b ++ post) →
      Answers (.frameReceived p f x t) s fun u => (floe u p).fifo = (floe s p).fifo ∧ (floe u p).acked = false
        ∧ u.rd (Reg.FLOE_PERRA.STUFFERR p) = min (s.rd (Reg.FLOE_PERRA.STUFFERR p) + 1) 255)
    ∧ (∀ (f : FloeFrame), f.wire = none → f.taken = some f.bits
      ∧ ∀ (pre post : List Bool) (b : Bool), f.line ≠ pre ++ List.replicate 6 b ++ false :: post)
    ∧ (∀ (p : Fin 2) (v : Word) (s : State), Stores s (0x400B011C + 0x100 * p) →
      s.on (Reg.FLOE_TXCTL.BUSY p) = false →
      let f := txFrame s p
      (s.rd (Reg.FLOE_TXHDR.LEN p) ≤ 64 → txAllowed f = true → 0x0F < f.dst.toNat → f.sec = false →
        Answers (.txctlGo p v) s fun u => u.rd (Reg.FLOE_TXCTL.BUSY p) = 1 ∧ u.rd (Reg.FLOE_TXCTL.REFUSED p) = 0
          ∧ u.rd (Reg.FLOE_TXCTL.FAILED p) = 0 ∧ u.rd (Reg.FLOE_TXCTL.ATTEMPTS p) = 0
          ∧ (floe u p).phase = .sending ∧ (floe u p).frame = { f with crc := BitVec.ofNat 16 (crc16 f.covered) })
      ∧ (∀ e, s.rd (Reg.FLOE_TXHDR.LEN p) ≤ 64 → txAllowed f = true → f.sec = true →
        keyEntry s p f.dst.toNat = some e → s.rd (Reg.FLOE_KTX.KTX e) ≠ 0xFFFFFFFF →
        Answers (.txctlGo p v) s fun u => u.rd (Reg.FLOE_TXCTL.BUSY p) = 1 ∧ (floe u p).phase = .sending
          ∧ u.rd (Reg.FLOE_KTX.KTX e) = (s.rd (Reg.FLOE_KTX.KTX e) + 1) % 2 ^ 32
          ∧ (floe u p).frame.cnt = BitVec.ofNat 32 (s.rd (Reg.FLOE_KTX.KTX e) + 1)
          ∧ (floe u p).frame.mac = floeMac (entryKey s e) 0 { f with cnt := (floe u p).frame.cnt }
          ∧ (floe u p).frame.payload = f.payload ∧ (floe u p).frame.dst = f.dst
          ∧ (floe u p).frame.crc = BitVec.ofNat 16 (crc16 (floe u p).frame.covered))
      ∧ (64 < s.rd (Reg.FLOE_TXHDR.LEN p) ∨ txAllowed f = false ∨ f.dst.toNat ≤ 0x0F
          ∨ (f.sec = true ∧ keyEntry s p f.dst.toNat = none) →
        Answers (.txctlGo p v) s fun u => u.rd (Reg.FLOE_TXCTL.REFUSED p) = 1 ∧ u.rd (Reg.FLOE_TXCTL.FAILED p) = 1
          ∧ u.rd (portEvt Reg.FLOE_EVT.TXFAIL0 p) = 1 ∧ u.floe0 = s.floe0 ∧ u.floe1 = s.floe1))
    ∧ (∀ (p : Fin 2) (x : FloeSignal) (t : Nat) (s : State), s.coreUp = true →
      s.on (Reg.FLOE_PCFG.EN p) = true → (floe s p).phase = .sending → (floe s p).idleAt ≤ max s.tbase t →
      Answers (.attemptEnd p .acked x t) s (fun u => (floe u p).phase = .none ∧ u.rd (Reg.FLOE_TXCTL.BUSY p) = 0
          ∧ u.rd (portEvt Reg.FLOE_EVT.TXDONE0 p) = 1
          ∧ u.rd (Reg.FLOE_TXCTL.ATTEMPTS p) = min ((floe s p).attempts + 1) 15)
      ∧ Answers (.attemptEnd p .noAck x t) s (fun u =>
          u.rd (Reg.FLOE_PERRB.NOACK p) = min (s.rd (Reg.FLOE_PERRB.NOACK p) + 1) 255
          ∧ (floe u p).attempts = (floe s p).attempts + 1
          ∧ if s.rd (Reg.FLOE_PCFG.TXRETRY p) ≤ (floe s p).attempts then
              u.rd (Reg.FLOE_TXCTL.FAILED p) = 1 ∧ u.rd (portEvt Reg.FLOE_EVT.TXFAIL0 p) = 1
                ∧ u.rd (Reg.FLOE_TXCTL.BUSY p) = 0 ∧ (floe u p).phase = .none
            else ∃ r, r < 2 ^ min ((floe s p).attempts + 1) 5
              ∧ (floe u p).phase = .backoff r ∧ (floe u p).idleAt = max s.tbase t + bitTimes s p 3)
      ∧ Answers (.attemptEnd p .lost x t) s (fun u =>
          u.rd (Reg.FLOE_PERRB.ARBLOST p) = min (s.rd (Reg.FLOE_PERRB.ARBLOST p) + 1) 255
          ∧ (floe u p).phase = .sending ∧ (floe u p).attempts = (floe s p).attempts)
      ∧ Answers (.attemptEnd p .bitError x t) s (fun u =>
          u.rd (Reg.FLOE_PERRB.BITERR p) = min (s.rd (Reg.FLOE_PERRB.BITERR p) + 1) 255
          ∧ (floe u p).attempts = (floe s p).attempts + 1))
    ∧ (∀ (p : Fin 2) (t r : Nat) (s : State), s.coreUp = true → s.on (Reg.FLOE_PCFG.EN p) = true →
      (floe s p).phase = .backoff r → (floe s p).idleAt + bitTimes s p (16 * r) ≤ max s.tbase t →
      Answers (.retryBackoffEnd p t) s fun u =>
        if (floe s p).attempts < s.rd (Reg.FLOE_PCFG.TXRETRY p) + 1 then
          (floe u p).phase = .sending ∧ u.fields = s.fields
        else u.rd (Reg.FLOE_TXCTL.FAILED p) = 1 ∧ u.rd (Reg.FLOE_TXCTL.BUSY p) = 0 ∧ (floe u p).phase = .none)
    ∧ (∀ (e : Fin 32) (v : Word) (s : State), Stores s (0x400B1000 + 0x40 * e) →
      let id := (Reg.FLOE_KCFG.ID e).of v.toNat
      Answers (.kcfgValid e v) s fun u =>
        if 0x10 ≤ id ∧ id ≤ 0xEF then u.rd (Reg.FLOE_KCFG.VALID e) = 1 ∧ u.rd (Reg.FLOE_KCFG.ID e) = id
          ∧ u.rd (Reg.FLOE_KTX.KTX e) = 0 ∧ u.rd (Reg.FLOE_KRX.KRX e) = 0
        else u.rd (Reg.FLOE_KCFG.VALID e) = 0 ∧ FieldsBut [Reg.FLOE_KCFG.VALID e] s u)
    ∧ (∀ (p : Fin 2) (v : Word) (s : State), Stores s (0x400B012C + 0x100 * p) →
      exec (.rxpop p v) s = .next (setFloe p { floe s p with fifo := (floe s p).fifo.tail } s))
    ∧ (∀ (p : Fin 2) (v : Word) (s : State), Stores s (0x400B0100 + 0x100 * p) →
      Answers (.portEnable p v) s fun u => u.rd (Reg.FLOE_PCFG.EN p) = (Reg.FLOE_PCFG.EN p).of v.toNat
        ∧ u.rd (Reg.FLOE_PCFG.RATE p) = (Reg.FLOE_PCFG.RATE p).of v.toNat
        ∧ u.rd (Reg.FLOE_PCFG.TXRETRY p) = (Reg.FLOE_PCFG.TXRETRY p).of v.toNat
        ∧ ((Reg.FLOE_PCFG.EN p).of v.toNat = 1 → s.on (Reg.FLOE_PCFG.EN p) = false →
            (floe u p).idleAt = s.tbase + bitTimes u p 11)
        ∧ ((Reg.FLOE_PCFG.EN p).of v.toNat = 0 → (floe u p).nlow = 0 ∧ (floe u p).nhigh = 0 ∧ (floe u p).rises = []
            ∧ u.rd (Reg.FLOE_PSTAT.ADAPTED p) = 0))
    ∧ ∀ (p : Fin 2) (k : Fin 3) (s : State), Loads s (0x400B010C + 0x100 * p + 4 * k) →
      Answers (.floePerrRead p k) s fun u => u.rdata = s.regWord (0x400B010C + 0x100 * p + 4 * k) ∧ SameStores s u
        ∧ ∀ b, b < 4 → u.rd ⟨0x400B010C + 0x100 * p + 4 * k, 8 * b, 8⟩ = 0

/-- KPF sends DISCOVER with RESTART once, then each second without. PRESENCE of a newcomer is noted; QASSIGN makes it a
stranger; CERT_REQ, CHALLENGE in two parts, ADMIT and REJECT send their messages and move the module on. A complete
CERT and RESPONSE lead to acceptance or a REASON. ADMIT binds the key entry with its counters at zero. READ, WRITE and
PING send secured frames; three PINGs without PONG remove a module. Values read or notified are kept; a refused close
leaves the switch open; the first PONG admits; an ERROR answers the waiting command BAD_PARAM. Choices of the model:
assumption log 48, 57, 59, 60.
Cites: R280, R283, R285, R286, R288, R290, R291. -/
def Obligations.FloeModules : Prop :=
  (∀ (p : Fin 2) (t : Nat) (s : State), Acting s → canSend s p = true →
      (p.val ∉ s.kpf.restarted → (∀ m ∈ s.kpf.modules, m.port ≠ p.val) →
        Answers (.discover p t) s fun u => Sends p 0xFF 1 false [1] u ∧ p.val ∈ u.kpf.restarted
          ∧ Sparse.get 0 p u.kpf.discAt = max s.tbase t)
      ∧ (p.val ∈ s.kpf.restarted → Sparse.get 0 p s.kpf.discAt + 1000000 ≤ max s.tbase t →
        (∀ m ∈ s.kpf.modules, m.port = p.val → m.phase = .admitted ∨ m.phase = .admitting) →
        Answers (.discover p t) s fun u => Sends p 0xFF 1 false [0] u ∧ u.kpf.modules = s.kpf.modules))
    ∧ (∀ (p : Fin 2) (f : FloeFrame) (x : FloeSignal) (t : Nat) (s : State), PlainIn p 2 f s → f.src = 0xFE →
      12 ≤ f.payload.length → (∀ o ∈ s.kpf.modules, o.port = p.val → o.uid ≠ natAt f.payload 0 8) →
      Answers (.presence p f x t) s fun u => u.kpf.modules = s.kpf.modules
        ++ [{ port := p.val, id := 0xFE, uid := natAt f.payload 0 8, cls := natAt f.payload 8 1 }])
    ∧ (∀ (p : Fin 2) (m : KpfModule) (t : Nat) (s : State), Acting s → canSend s p = true → s.kpf.modules = [m] →
      m.port = p.val → m.id = 0xFE → m.phase = .newcomer →
      Answers (.qassign p m.uid t) s fun u => Sends p 0xFE 3 false (b8 m.uid ++ [0xF0]) u
        ∧ u.kpf.modules = [{ m with id := 0xF0, phase := .stranger, since := max s.tbase t, missed := 0 }])
    ∧ (∀ (p : Fin 2) (id t : Nat) (m : KpfModule) (s : State), CanAsk p id m s → 0xF0 ≤ id → id ≤ 0xFD →
      (m.phase = .stranger → (m.rejects = 0 ∨ (m.rejects < 3 ∧ m.since + 60000000 ≤ max s.tbase t)) →
        Answers (.certReq p id t) s fun u => Sends p id 4 false [1, 0] u
          ∧ findMod u p id = some { m with phase := .certWait, since := max s.tbase t, msg := [] })
      ∧ (m.phase = .certGood → m.parts = 0 →
        Answers (.challenge p id t) s fun u => ∃ nonce d, nonce.length = 16
          ∧ Sends p id 4 false ([3, 0] ++ (nonce ++ Crypto.p256.public d).take 62) u
          ∧ findMod u p id = some { m with nonceC := nonce, ephemeral := d, parts := 1 })
      ∧ (m.phase = .certGood → m.parts ≠ 0 → m.nonceC.length = 16 → (Crypto.p256.public m.ephemeral).length = 64 →
        Answers (.challenge p id t) s fun u =>
          Sends p id 4 false ([3, 62] ++ (m.nonceC ++ Crypto.p256.public m.ephemeral).drop 62) u
          ∧ findMod u p id = some { m with phase := .respWait, since := max s.tbase t, parts := 0 })
      ∧ (m.phase = .confGood → m.entry < 32 → 0x10 ≤ m.newId → m.newId ≤ 0xEF → m.key.length = 32 →
        findMod s p m.newId = none →
        Answers (.moduleAdmit p id t) s fun u => u.rd (Reg.FLOE_KCFG.VALID m.entry) = 1
          ∧ u.rd (Reg.FLOE_KCFG.ID m.entry) = m.newId ∧ u.rd (Reg.FLOE_KTX.KTX m.entry) = 0
          ∧ u.rd (Reg.FLOE_KRX.KRX m.entry) = 0 ∧ entryKey u m.entry = m.key
          ∧ Sends p id 4 false ([5, 0] ++ b8 m.uid ++ b1 m.newId
              ++ (Crypto.cmac m.key (Crypto.ascii "CCONF" ++ m.nonceM ++ b1 m.newId)).take 8) u
          ∧ findMod u p m.newId = some { m with id := m.newId, phase := .admitting, missed := 0, pingAt := 0
                                                key := [], cert := [] })
      ∧ (m.phase = .rejecting →
        Answers (.reject p id t) s fun u => Sends p id 4 false ([6, 0] ++ b8 m.uid ++ b1 m.reason) u
          ∧ findMod u p id = some { m with phase := .stranger, rejects := m.rejects + 1, since := max s.tbase t
                                           msg := [] }))
    ∧ (∀ (p : Fin 2) (f : FloeFrame) (x : FloeSignal) (t : Nat) (off : Byte) (data all : List Byte) (m n : KpfModule)
        (s : State), PlainIn p 4 f s → findMod s p f.src.toNat = some m →
      (f.payload = [2, off] ++ data → m.phase = .certWait → message m off.toNat 144 data = (n, some all) →
        n.since + 100000 ≥ max s.tbase t →
        Answers (.cert p f x t) s fun u => findMod u p f.src.toNat = some
          (if certReason s n all = 0 then { n with phase := .certGood, cert := all, msg := [], parts := 0 }
           else { n with phase := .rejecting, reason := certReason s n all, msg := [] }))
      ∧ (f.payload = [4, off] ++ data → m.phase = .respWait → message m off.toNat 24 data = (n, some all) →
        max s.tbase t ≤ n.since + 2000000 →
        (((Crypto.cmac (sessionKey n (all.take 16)) (Crypto.ascii "MCONF" ++ n.nonceC ++ b1 n.id)).take 8
            ≠ all.drop 16) →
          Answers (.response p f x t) s fun u =>
            findMod u p f.src.toNat = some { n with phase := .rejecting, reason := 5, msg := [] })
        ∧ (∀ i e, (Crypto.cmac (sessionKey n (all.take 16)) (Crypto.ascii "MCONF" ++ n.nonceC ++ b1 n.id)).take 8
            = all.drop 16 → (∀ o ∈ s.kpf.modules, o.phase = .admitted → o.uid ≠ n.uid) → newId s n = some i →
          freeEntry s n.port = some e →
          Answers (.response p f x t) s fun u => findMod u p f.src.toNat = some
            { n with phase := .confGood, nonceM := all.take 16, key := sessionKey n (all.take 16), newId := i
                     entry := e, msg := [] })))
    ∧ (∀ (p : Fin 2) (id obj e t : Nat) (m : KpfModule) (s : State), CanAsk p id m s → HasKey p id e s →
      (m.phase = .admitted → (pieceObj m obj = true → dongleMay m 1 obj [] s = true) →
        Answers (.read p id obj t) s fun u => Sends p id 8 true (b1 1 ++ b1 obj) u
          ∧ u.rd (Reg.FLOE_KTX.KTX e) = (s.rd (Reg.FLOE_KTX.KTX e) + 1) % 2 ^ 32)
      ∧ (∀ close : Bool, m.phase = .admitted → m.cls = 1 → (close = true → mayClose s m = true) →
        Answers (.write p id 0x0A [BitVec.ofNat 8 close.toNat] t) s fun u =>
          Sends p id 8 true [2, 0x0A, BitVec.ofNat 8 close.toNat] u
          ∧ (findMod u p id).map (·.closed) = some close)
      ∧ (m.phase = .admitted ∨ m.phase = .admitting → (m.pingAt = 0 ∨ m.pingAt + 1000000 ≤ max s.tbase t) →
        (m.missed < 3 → Answers (.ping p id t) s fun u => Sends p id 8 true [3, 0] u
          ∧ findMod u p id = some { m with missed := m.missed + 1, pingAt := max s.tbase t })
        ∧ (3 ≤ m.missed → m.entry < 32 → Answers (.ping p id t) s fun u => u.rd (Reg.FLOE_KCFG.VALID m.entry) = 0
          ∧ ∀ o ∈ u.kpf.modules, ¬(o.port = p.val ∧ o.id = id ∧ o.uid = m.uid))))
    ∧ ∀ (p : Fin 2) (e : Nat) (f : FloeFrame) (x : FloeSignal) (t : Nat) (obj st : Byte) (v : List Byte)
        (m : KpfModule) (s : State), SecuredIn p e f s → findMod s p f.src.toNat = some m →
      (f.payload = [0x81, obj] ++ v → m.cls ≠ 5 → s.kpf.wait = none →
        Answers (.readResp p f x t) s fun u =>
          findMod u p f.src.toNat = some { m with objs := Sparse.put [] obj.toNat v m.objs })
      ∧ (f.payload = [0x84, obj] ++ v →
        Answers (.notify p f x t) s fun u => u.rd (Reg.FLOE_KRX.KRX e) = f.cnt.toNat
          ∧ findMod u p f.src.toNat = some { m with objs := Sparse.put [] obj.toNat v m.objs })
      ∧ (f.payload = [0x82, 0x0A, st] ++ v → m.cls = 1 → st ≠ 0 → m.closed = true → s.kpf.wait = none →
        Answers (.writeAck p f x t) s fun u => findMod u p f.src.toNat = some { m with closed := false })
      ∧ (f.payload = [0x83, obj] ++ v →
        (m.phase = .admitting → Answers (.pong p f x t) s fun u =>
          findMod u p f.src.toNat = some { m with phase := .admitted, missed := 0, order := s.kpf.admissions }
          ∧ u.kpf.admissions = s.kpf.admissions + 1 ∧ (m.port, m.uid, m.id) ∈ u.kpf.lastIds)
        ∧ (m.phase = .admitted → Answers (.pong p f x t) s fun u =>
          findMod u p f.src.toNat = some { m with missed := 0 }))
      ∧ (∀ w, f.payload = [0xFF, obj] ++ v → s.kpf.wait = some w → (w.code = 0x0802 ∨ w.code = 0x0803) →
        w.port = m.port → w.id = m.id → w.obj = obj.toNat → tagState s w.tag = tagOwned →
        Answers (.error p f x t) s fun u => u.kpf.wait = none ∧ u.byte (boxAddr w.tag 7) = 5)

/-- A keyed request for an allowed transition is accepted and occupies the sequencer, others are refused with their cause;
a wrong key does nothing. GOFW and GOHOST burn their counters up to the target or are refused; PROG and REVOKE act on
an OEM slot in TEST and MANUFACTURE; the first slot programmed in MANUFACTURE, with a hash that is not zero, closes
the debug port. NEWNONCE draws 16 random bytes or leaves zero. SUBMIT and the debug port start a token check, which is
refused while the sequencer is busy; its end consumes the nonce and gives RESULT, and a passing token opens the debug
port, sets KEYOK or starts its transition. Choices of the model: assumption log 62, 64, 116.
Cites: R297, R300, R301, R302, R303, R305, R306, R317. -/
def Obligations.LifeCycleAndTokens : Prop :=
  (∀ (v : Word) (supply : Nat) (s : State), Stores s 0x400E0010 →
      (v.toNat / 2 ^ 24 ≠ 0x3C →
        exec (.secLcreq v supply) s = .next { s with board := { s.board with supply := supply } })
      ∧ (v.toNat / 2 ^ 24 = 0x3C →
        (∀ x, s.sec.seq = some x → Answers (.secLcreq v supply) s (Refuses 1 s))
        ∧ (s.sec.seq = none → 5 ≤ v.toNat % 8 ∨ v.toNat % 8 = 0 ∨ v.toNat % 8 = 3 ∨ 2 ≤ lcs s →
          Answers (.secLcreq v supply) s (Refuses 3 s))
        ∧ (SequencerFree supply s → (lcs s = 0 ∧ v.toNat % 8 = 1) ∨ (lcs s = 1 ∧ v.toNat % 8 = 2
            ∧ (List.range 4).any (slotLive s) = true) ∨ (lcs s ≤ 1 ∧ v.toNat % 8 = 4) →
          Answers (.secLcreq v supply) s fun u => u.sec.seq = some (.transition (v.toNat % 8))
            ∧ u.rd Reg.SEC_FUSESTAT.SEQBUSY = 1 ∧ u.sec.fuses = s.sec.fuses)))
    ∧ (∀ (v : Word) (supply : Nat) (s : State), Stores s 0x400E0014 → SequencerFree supply s → lcs s ≠ 4 →
      let n := Reg.SEC_ARBADV.FWTGT.of v.toNat
      let m := Reg.SEC_ARBADV.HOSTTGT.of v.toNat
      (Reg.SEC_ARBADV.GOHOST.of v.toNat = 0 →
        (s.sec.fuses.fwarb < n → n ≤ 64 → n ≤ s.rd Reg.SEC_BOOTINFO.SVN → Answers (.gofw v supply) s fun u =>
          u.sec.fuses = { s.sec.fuses with fwarb := n } ∧ u.rd Reg.SEC_FUSESTAT.FWARB = n)
        ∧ (n ≤ s.sec.fuses.fwarb → Answers (.gofw v supply) s fun u => u.sec = s.sec ∧ u.fields = s.fields)
        ∧ (s.sec.fuses.fwarb < n → 64 < n ∨ s.rd Reg.SEC_BOOTINFO.SVN < n → Answers (.gofw v supply) s (Refuses 6 s)))
      ∧ (Reg.SEC_ARBADV.GOFW.of v.toNat = 0 →
        (s.sec.fuses.hostarb < m → m ≤ 64 → Answers (.gohost v supply) s fun u =>
          u.sec.fuses = { s.sec.fuses with hostarb := m } ∧ u.rd Reg.SEC_FUSESTAT.HOSTARB = m)
        ∧ (s.sec.fuses.hostarb < m → 64 < m → Answers (.gohost v supply) s (Refuses 6 s))))
    ∧ (∀ (v : Word) (supply : Nat) (s : State), Stores s 0x400E0018 → v.toNat / 2 ^ 24 = 0x3C →
      SequencerFree supply s →
      let k := Reg.SEC_OEMPROG.SLOT.of v.toNat
      (Reg.SEC_OEMPROG.REVOKE.of v.toNat = 0 →
        (lcs s ≤ 1 → slotProg s k = false → Answers (.oemProg v supply) s fun u =>
          slotHash u k = s.bytes (4 * s.rd Reg.SEC_OEMADDR.ADDR) 48
          ∧ (lcs s = 1 → slotMap (slotProg s) = 0 →
              s.bytes (4 * s.rd Reg.SEC_OEMADDR.ADDR) 48 ≠ List.replicate 48 0 → u.rd Reg.SEC_LCS.DBGOPEN = 0)
          ∧ (s.bytes (4 * s.rd Reg.SEC_OEMADDR.ADDR) 48 = List.replicate 48 0 →
              slotProg u k = false ∧ u.rd Reg.SEC_LCS.DBGOPEN = s.rd Reg.SEC_LCS.DBGOPEN)
          ∧ ∀ j, j ≠ k → slotHash u j = slotHash s j)
        ∧ (lcs s ≤ 1 → slotProg s k = true → Answers (.oemProg v supply) s (Refuses 3 s))
        ∧ (1 < lcs s → Answers (.oemProg v supply) s (Refuses 3 s)))
      ∧ (Reg.SEC_OEMPROG.PROG.of v.toNat = 0 → lcs s ≤ 1 → Answers (.oemRevoke v supply) s fun u =>
          u.sec.fuses = { s.sec.fuses with oemRev := s.sec.fuses.oemRev ||| 2 ^ k }))
    ∧ (∀ (v : Word) (s : State), Stores s 0x400E0020 → Reg.SEC_TOKCTL.KEYOK.of v.toNat = 0 →
      (Reg.SEC_TOKCTL.SUBMIT.of v.toNat = 0 → Answers (.newnonce v) s fun u =>
        if s.on Reg.SEC_TRNGSTAT.FAIL then ∀ k, k < 4 → u.rd (Reg.SEC_NONCE.NONCE k) = 0
        else u.free = s.free + 16 ∧ ∀ k, k < 4 → u.rd (Reg.SEC_NONCE.NONCE k) = (List.range 4).foldl (fun n i =>
          n + Config.freeNat (s.free + 4 * k + i) % 256 * 256 ^ i) 0)
      ∧ (Reg.SEC_TOKCTL.NEWNONCE.of v.toNat = 0 → Answers (.submit v) s fun u =>
        if s.sec.seq.isSome then u.rd Reg.SEC_TOKCTL.RESULT = 7 ∧ Refuses 1 s u
        else u.sec.seq = some (.token (s.bytes (4 * s.rd Reg.SEC_TOKADDR.ADDR) 272))
          ∧ u.rd Reg.SEC_TOKCTL.BUSY = 1 ∧ u.rd Reg.SEC_FUSESTAT.SEQBUSY = 1))
    ∧ (∀ (tok : List Byte) (t : Nat) (s : State), s.coreUp = true → s.sec.seq = none →
      Answers (.debugPortToken tok t) s fun u => u.sec.seq = some (.token (tok.take 272))
        ∧ u.rd Reg.SEC_TOKCTL.BUSY = 1)
    ∧ ∀ (supply t : Nat) (tok : List Byte) (s : State), s.sec.seq = some (.token tok) →
      (tokCheck s tok ≠ 0 → Answers (.tokenCheckDone supply t) s fun u => u.rd Reg.SEC_TOKCTL.RESULT = tokCheck s tok
        ∧ u.rd Reg.SEC_TOKCTL.BUSY = 0 ∧ u.rd Reg.SEC_FUSESTAT.SEQBUSY = 0 ∧ u.rd Reg.SEC_EVT.TOKDONE = 1
        ∧ u.sec = { s.sec with seq := none } ∧ ∀ k, k < 4 → u.rd (Reg.SEC_NONCE.NONCE k) = 0)
      ∧ (tokCheck s tok = 0 →
        (tokKind tok = 1 → Answers (.tokenCheckDone supply t) s fun u => u.rd Reg.SEC_LCS.DBGOPEN = 1
          ∧ u.rd Reg.SEC_LCS.DBGLEVEL = tokArg tok ∧ u.rd Reg.SEC_LCS.DBGOPENED = 1 ∧ u.rd Reg.SEC_EVT.DBGOPEN = 1
          ∧ u.rd Reg.SEC_TOKCTL.RESULT = 0 ∧ ∀ k, k < 16 → u.rd (Reg.SEC_KSLOT.VALID k) = 0)
        ∧ (tokKind tok = 6 → Answers (.tokenCheckDone supply t) s fun u => u.rd Reg.SEC_TOKCTL.KEYOK = 1
          ∧ u.rd Reg.SEC_TOKCTL.RESULT = 0 ∧ u.sec = { s.sec with seq := none })
        ∧ (tokKind tok = 4 → Answers (.tokenCheckDone supply t) s fun u =>
          if s.sys.v18pg = true ∧ 4500 ≤ supply then u.sec.seq = some (.transition 4)
            ∧ u.rd Reg.SEC_FUSESTAT.SEQBUSY = 1
          else u.sec.seq = none ∧ u.rd Reg.SEC_TOKCTL.RESULT = 7 ∧ u.rd Reg.SEC_LCS.REFCAUSE = 2))

/-- GO takes the descriptor and runs its operation; while a command runs it sets CMDERR. COMMAND_DONE writes RESULT into
the descriptor and CODE, and sets CMDDONE. A whole hash gives the digest; DERIVE and ATTEST are refused in RETIRED and
once the debug port has opened; slot 15 is never a DSTSLOT; a failed TRNG ends GENERATE, RANDOM, SIGN and ATTEST; LOAD
fills its slot; RANDOM, CMAC, SIGN, ECDH and ATTEST write their output or end for want of their key; VERIFY writes no
memory and tells a good signature from a bad one; a GCM tag that fails leaves zeros. CLR empties a slot but slot 15,
IK_READY fills slot 15; the TRNG delivers only while it has not failed. Choices of the model: assumption log 61, 62,
63.
Cites: R307, R308, R309, R310, R311, R318. -/
def Obligations.CryptoEngine : Prop :=
  (EngineTakes Instr.hash256 1 (opHash false) ∧ EngineTakes Instr.hash384 2 (opHash true)
      ∧ EngineTakes Instr.gcm 3 opGcm ∧ EngineTakes Instr.cmac 4 opCmac
      ∧ EngineTakes Instr.verify256 5 (opVerify Crypto.p256) ∧ EngineTakes Instr.verify384 6 (opVerify Crypto.p384)
      ∧ EngineTakes Instr.sign256 7 (opSign Crypto.p256 1) ∧ EngineTakes Instr.sign384 8 (opSign Crypto.p384 2)
      ∧ EngineTakes Instr.ecdh256 9 opEcdh ∧ EngineTakes Instr.generate 10 opGenerate
      ∧ EngineTakes Instr.derive 11 opDerive ∧ EngineTakes Instr.load 12 opLoad
      ∧ EngineTakes Instr.cryptoAttest 13 opAttest ∧ EngineTakes Instr.random 14 opRandom)
    ∧ (∀ (big : Bool) (d : Desc) (s : State), d.first = true → d.last = true → srcOk d = true →
      dstOk d (if big then 48 else 32) = true → inputBad s d.src d.slen = false →
      let h := Crypto.sha (if big then Crypto.sha384 else Crypto.sha256) (inputBytes s d.src d.slen)
      let r := opHash big d s
      r.code = 0 ∧ r.count = h.length ∧ r.s.bytes d.dst h.length = h ∧ r.s.rd Reg.SEC_CMDSTAT.HASHOPEN = 0)
    ∧ (∀ (d : Desc) (s : State), d.type ≠ 3 →
      (auxOk d = true → d.auxlen = 16 → (d.type ≠ 0 → dstOk d (publicLength d.type) = true) →
        (lcs s = 4 ∨ s.on Reg.SEC_LCS.DBGOPENED = true → (opDerive d s).code = 7 ∧ (opDerive d s).s = s)
        ∧ (lcs s ≠ 4 → s.on Reg.SEC_LCS.DBGOPENED = false → d.dstSlot = 15 →
          (opDerive d s).code = 4 ∧ (opDerive d s).s = s))
      ∧ ((d.type ≠ 0 → dstOk d (publicLength d.type) = true) →
        (d.dstSlot = 15 → (opGenerate d s).code = 4 ∧ (opGenerate d s).s = s)
        ∧ (d.dstSlot ≠ 15 → s.on Reg.SEC_TRNGSTAT.FAIL = true → (opGenerate d s).code = 6 ∧ (opGenerate d s).s = s)
        ∧ (d.dstSlot ≠ 15 → s.on Reg.SEC_TRNGSTAT.FAIL = false →
          let u := (opGenerate d s).s
          (opGenerate d s).code = 0 ∧ u.rd (Reg.SEC_KSLOT.VALID d.dstSlot) = 1
            ∧ u.rd (Reg.SEC_KSLOT.TYPE d.dstSlot) = d.type ∧ u.rd (Reg.SEC_KSLOT.USE d.dstSlot) = d.use
            ∧ u.rd (Reg.SEC_KSLOT.ORIGIN d.dstSlot) = 2))
      ∧ (d.type = 0 → srcOk d = true → d.slen = 32 → d.dstSlot ≠ 15 → inputBad s d.src 32 = false →
        let u := (opLoad d s).s
        (opLoad d s).code = 0 ∧ u.rd (Reg.SEC_KSLOT.VALID d.dstSlot) = 1 ∧ u.rd (Reg.SEC_KSLOT.TYPE d.dstSlot) = 0
          ∧ u.rd (Reg.SEC_KSLOT.USE d.dstSlot) = d.use ∧ u.rd (Reg.SEC_KSLOT.ORIGIN d.dstSlot) = 1
          ∧ Sparse.get [] d.dstSlot u.sec.keys = inputBytes s d.src 32))
    ∧ (∀ (d : Desc) (s : State), d.type ≠ 3 → srcOk d = true → d.slen = (if d.type = 2 then 48 else 32) →
      d.dstSlot = 15 →
      (opLoad d s).code = (if s.on Reg.SEC_LCS.DBGOPENED = true then 7 else 4) ∧ (opLoad d s).s = s)
    ∧ (∀ (d : Desc) (s : State), dstOk d d.dlen = true →
      (s.on Reg.SEC_TRNGSTAT.FAIL = true → (opRandom d s).code = 6 ∧ (opRandom d s).s = s)
      ∧ (s.on Reg.SEC_TRNGSTAT.FAIL = false → (opRandom d s).code = 0 ∧ (opRandom d s).count = d.dlen
        ∧ (opRandom d s).s.free = s.free + d.dlen
        ∧ ∀ i, i < d.dlen → (opRandom d s).s.byte (d.dst + i) = BitVec.ofNat 8 (Config.freeNat (s.free + i))))
    ∧ (∀ (d : Desc) (key : List Byte) (s : State), srcOk d = true → dstOk d 16 = true →
      inputBad s d.src d.slen = false →
      (d.kslot = 0xFF ∧ auxOk d = true ∧ d.auxlen = 32 ∧ inputBad s d.aux 32 = false ∧ key = s.bytes d.aux 32)
        ∨ (d.kslot < 16 ∧ slotKey s d.kslot 0 0 = some key) →
      let mac := Crypto.cmac key (inputBytes s d.src d.slen)
      (opCmac d s).code = 0 ∧ (opCmac d s).count = mac.length ∧ (opCmac d s).s.bytes d.dst mac.length = mac)
    ∧ (∀ c ∈ [(Crypto.p256, 1), (Crypto.p384, 2)], ∀ (d : Desc) (s : State), srcOk d = true →
      dstOk d (2 * c.1.len) = true → d.slen = c.1.len → d.kslot < 16 →
      (slotKey s d.kslot c.2 1 = none → (opSign c.1 c.2 d s).code = 4 ∧ (opSign c.1 c.2 d s).s = s)
      ∧ ∀ key, slotKey s d.kslot c.2 1 = some key →
        (s.on Reg.SEC_TRNGSTAT.FAIL = true → (opSign c.1 c.2 d s).code = 6 ∧ (opSign c.1 c.2 d s).s = s)
        ∧ (s.on Reg.SEC_TRNGSTAT.FAIL = false → inputBad s d.src d.slen = false →
          (opSign c.1 c.2 d s).code = 0 ∧ (opSign c.1 c.2 d s).count = 2 * c.1.len ∧ ∃ k, c.1.inRange k = true
            ∧ (opSign c.1 c.2 d s).s.bytes d.dst (2 * c.1.len)
              = c.1.sign (beNat key) (inputBytes s d.src d.slen) k))
    ∧ (∀ (d : Desc) (s : State), auxOk d = true → d.auxlen = 64 → dstOk d 32 = true → d.kslot < 16 →
      (slotKey s d.kslot 1 2 = none → (opEcdh d s).code = 4 ∧ (opEcdh d s).s = s)
      ∧ ∀ key, slotKey s d.kslot 1 2 = some key → inputBad s d.aux 64 = false →
        let q := Crypto.p256.pubKey (s.bytes d.aux 64)
        (q = none → (opEcdh d s).code = 3 ∧ (opEcdh d s).s.mem = s.mem)
        ∧ (q ≠ none → (opEcdh d s).code = 0 ∧ (opEcdh d s).count = 32
          ∧ (opEcdh d s).s.bytes d.dst 32 = Crypto.p256.shared (beNat key) q))
    ∧ (∀ (d : Desc) (nhost nmod : Byte) (s : State), srcOk d = true → auxOk d = true → d.auxlen = 32 →
      inputBytes s d.src 1 = [nhost] → inputBytes s (d.src + 1) 1 = [nmod] → nhost.toNat ≤ 16 → nmod.toNat ≤ 32 →
      d.slen = 8 + 56 * nhost.toNat + 16 * nmod.toNat → dstOk d (0x70 + d.slen + 96) = true →
      (lcs s = 4 ∨ s.on Reg.SEC_LCS.DBGOPENED = true → (opAttest d s).code = 7 ∧ (opAttest d s).s = s)
      ∧ ∀ key, lcs s ≠ 4 → s.on Reg.SEC_LCS.DBGOPENED = false → slotKey s 15 2 3 = some key →
        (s.on Reg.SEC_TRNGSTAT.FAIL = true → (opAttest d s).code = 6 ∧ (opAttest d s).s = s)
        ∧ (s.on Reg.SEC_TRNGSTAT.FAIL = false → inputBad s d.src d.slen = false → inputBad s d.aux 32 = false →
          let body := reportHead (s.bytes d.aux 32) s ++ inputBytes s d.src d.slen
          (opAttest d s).code = 0 ∧ (opAttest d s).count = body.length + 96 ∧ ∃ k, Crypto.p384.inRange k = true
            ∧ (opAttest d s).s.bytes d.dst (body.length + 96)
              = body ++ Crypto.p384.sign (beNat key) (Crypto.sha Crypto.sha384 body) k))
    ∧ (∀ (c : Crypto.Curve) (d : Desc) (s : State), (opVerify c d s).s.mem = s.mem
      ∧ (srcOk d = true → auxOk d = true → d.slen = c.len → d.auxlen = 4 * c.len → inputBad s d.src d.slen = false →
        inputBad s d.aux d.auxlen = false →
        let aux := s.bytes d.aux d.auxlen
        let sig := aux.drop (2 * c.len)
        c.pubKey aux ≠ none → c.inRange (beNat (sig.take c.len)) = true → c.inRange (beNat (sig.drop c.len)) = true →
        (opVerify c d s).code = if c.verify (c.pubKey aux) (inputBytes s d.src d.slen) sig then 0 else 1))
    ∧ (∀ (d : Desc) (s : State), srcOk d = true → auxOk d = true → d.decrypt = true → d.kslot = 0xFF →
      dstOk d (d.slen - 16) = true → 44 ≤ d.auxlen → 16 ≤ d.slen → inputBad s d.src d.slen = false →
      inputBad s d.aux d.auxlen = false →
      let aux := s.bytes d.aux d.auxlen
      let src := inputBytes s d.src d.slen
      let c := src.take (d.slen - 16)
      let ok := Crypto.gcmTag (aux.take 32) ((aux.drop 32).take 12) ((aux.drop 32).drop 12) c = src.drop (d.slen - 16)
      let clear := Crypto.gcmCrypt (aux.take 32) ((aux.drop 32).take 12) c
      (ok → (opGcm d s).code = 0 ∧ (opGcm d s).count = clear.length
        ∧ (opGcm d s).s.bytes d.dst clear.length = clear)
      ∧ (¬ok → (opGcm d s).code = 2 ∧ (opGcm d s).count = 0
        ∧ (opGcm d s).s.bytes d.dst (d.slen - 16) = List.replicate (d.slen - 16) 0))
    ∧ (∀ (t : Nat) (c : CryptoCmd) (s : State), s.sec.cmd = some c → inSram c.desc 32 = true →
      Answers (.commandDone t) s fun u => u.loadNat (c.desc + 0x1C) 4 = (c.code + 256 * c.count) % 2 ^ 32
        ∧ u.rd Reg.SEC_CMDSTAT.BUSY = 0 ∧ u.rd Reg.SEC_CMDSTAT.CODE = c.code % 256 ∧ u.rd Reg.SEC_EVT.CMDDONE = 1
        ∧ u.sec.cmd = none)
    ∧ (∀ (k : Fin 16) (v : Word) (s : State), Stores s (0x400E0200 + 4 * k) →
      (k.val < 15 → Answers (.kslotClr k v) s fun u => u.rd (Reg.SEC_KSLOT.VALID k) = 0
        ∧ u.rd (Reg.SEC_KSLOT.TYPE k) = 0 ∧ u.rd (Reg.SEC_KSLOT.USE k) = 0 ∧ Sparse.get [] k u.sec.keys = []
        ∧ ∀ j, j ≠ k.val → Sparse.get [] j u.sec.keys = Sparse.get [] j s.sec.keys)
      ∧ (k.val = 15 → exec (.kslotClr k v) s = .next s))
    ∧ (∀ (t : Nat) (s : State), s.coreUp = true →
      (Answers (.trngFail t) s fun u => u.rd Reg.SEC_TRNGSTAT.FAIL = 1 ∧ u.rd Reg.SEC_EVT.TRNGFAIL = 1
        ∧ FieldsBut [Reg.SEC_TRNGSTAT.FAIL, Reg.SEC_EVT.TRNGFAIL] s u)
      ∧ (Answers (.trngRecover t) s fun u => u.rd Reg.SEC_TRNGSTAT.FAIL = 0
        ∧ FieldsBut [Reg.SEC_TRNGSTAT.FAIL] s u)
      ∧ (s.on Reg.SEC_LCS.IKRDY = false → Answers (.ikReady t) s fun u => u.rd Reg.SEC_LCS.IKRDY = 1
        ∧ u.rd (Reg.SEC_KSLOT.VALID 15) = 1 ∧ u.rd (Reg.SEC_KSLOT.TYPE 15) = 2 ∧ u.rd (Reg.SEC_KSLOT.USE 15) = 8
        ∧ Sparse.get [] 15 u.sec.keys = identityKey s))
    ∧ (∀ s : State, Loads s 0x400E0058 → Answers .secTrngRead s fun u =>
      if s.on Reg.SEC_TRNGSTAT.FAIL = false ∧ s.sec.trngAt ≤ s.tbase then
        u.rdata = Config.freeNat s.free % 2 ^ 32 ∧ u.free = s.free + 1 ∧ s.tbase < u.sec.trngAt
      else u.rdata = 0 ∧ u.free = s.free)
    ∧ ∀ (v : Word) (s : State), Stores s 0x400E0064 →
      Answers (.ucodeLock v) s fun u => u.rd Reg.SEC_LOCK.UCODE = 1 ∧ SameStores s u

/-- The boot ROM tries the slot of R362's row first, then the other, and otherwise enters ROM recovery; a slot that starts
leaves SLOT, FALLBACK, the digest locks and the entry point. ARM arms the window until MEAS is set, CONFIRM with its
key disarms it; an expired window resets the core with CONFEXP. A piece that passes the checks of R358 is stored with
its guard word, others are refused; the unit that brings it is acknowledged. A session idle for 72 hours is cancelled.
A trial after its 10 s is confirmed: a CONFIRMED record with the next SEQ is written and the window disarmed. Choices
of the model: assumption log 71, 72, 73, 74, 84, 85, 113.
Cites: R315, R316, R357, R358, R361, R362, R363. -/
def Obligations.BootAndConfirmation : Prop :=
  (∀ (t : Nat) (s : State), s.coreUp = true → s.sec.booting = true → s.on Reg.SEC_LCS.IKRDY = true →
      s.sys.dbgHalted = false →
      let e := (readBlock (bootWipes (discardPost (clearSlots 15 (s.seen t))))).firnScan (8 * bcWord 0) 8192
      let plan := resetPlan e
      let e1 := (tryBoot plan.first e).2
      let e2 := (tryBoot (!plan.first) e1).2
      exec (.bootSlotStart t) s = .next (
        if slotFails e plan.first = 0 then startSlotFw plan plan.first e1
        else if slotFails e1 (!plan.first) = 0 then startSlotFw plan (!plan.first) e2
        else romRecovery e2))
    ∧ (∀ s : State, (blockAccepted s.sys.activeSlot s = true → (resetPlan s).first = s.sys.activeSlot
        ∧ (resetPlan s).ifFirst = none)
      ∧ (blockAccepted s.sys.activeSlot s = false → (latestBoot s = none → (resetPlan s).first = false)
        ∧ ∀ (r : BootRec), latestBoot s = some r → (resetPlan s).first = if r.state = 2 then r.prev else r.slot))
    ∧ (∀ (plan : BootPlan) (slot ho : Bool) (s : State),
      let u := enterSlot plan slot ho s
      u.sec.booting = false ∧ u.rd Reg.SEC_LOCK.MEAS = 1 ∧ u.rd Reg.SEC_BOOTINFO.SLOT = slot.toNat
        ∧ u.rd Reg.SEC_BOOTINFO.FALLBACK = (slot != plan.named).toNat ∧ u.cpu.priv = true
        ∧ u.cpu.pc = BitVec.ofNat 32 (windowBase + imageEntry s slot) ∧ u.rd Reg.NVC_BOOTST.ROMREC = 0
        ∧ (2 ≤ lcs s → u.rd Reg.SEC_LOCK.UCODE = 1))
    ∧ (∀ (v : Word) (s : State), Stores s 0x40100024 →
      (s.on Reg.SEC_LOCK.MEAS = false → Answers (.confArm v) s fun u => u.rd Reg.NVC_CONFCTL.ARMED = 1
        ∧ u.nvc.armedAt = s.tbase)
      ∧ (s.on Reg.SEC_LOCK.MEAS = true → Reg.NVC_CONFCTL.CONFIRM.of v.toNat = 0 →
        Reg.NVC_CONFCTL.EXPIRED.of v.toNat = 0 → exec (.confArm v) s = .next s)
      ∧ (Reg.NVC_CONFCTL.ARM.of v.toNat = 0 → v.toNat / 2 ^ 24 = 0xC5 → Answers (.nvcConfirm v) s fun u =>
        u.rd Reg.NVC_CONFCTL.ARMED = 0 ∧ FieldsBut [Reg.NVC_CONFCTL.ARMED, Reg.NVC_CONFCTL.EXPIRED] s u)
      ∧ (Reg.NVC_CONFCTL.ARM.of v.toNat = 0 → v.toNat / 2 ^ 24 ≠ 0xC5 → Reg.NVC_CONFCTL.EXPIRED.of v.toNat = 0 →
        exec (.nvcConfirm v) s = .next s))
    ∧ (∀ (t : Nat) (s : State), s.coreUp = true → s.on Reg.NVC_CONFCTL.ARMED = true →
      if s.nvc.armedAt + 120000000 ≤ max s.tbase t then
        Answers (.confirmationExpiry t) s fun u => u.rd Reg.SYS_RSTCAUSE.CONFEXP = 1 ∧ u.cpu = {}
          ∧ u.rd Reg.NVC_CONFCTL.EXPIRED = 1 ∧ u.rd Reg.NVC_CONFCTL.ARMED = 0 ∧ u.sec.booting = true
          ∧ u.kpf.state = 0 ∧ u.firn = s.firn
      else exec (.confirmationExpiry t) s = .next (s.seen t))
    ∧ (∀ (t : Nat) (s : State), Acting s → bulkTarget s = 5 →
      let e := takeUnit (s.seen t)
      let n := e.kpf.unit.length - 4
      let a := e.rd Reg.HW_BULK_ADDR.ADDR
      (e.bulk.closeReq = false → exec (.pieceDelivered t) s = .next e)
      ∧ (e.bulk.closeReq = true → a % 4096 = 0 → 4 ≤ e.kpf.unit.length → bulkErr e = false →
        let r := storePiece (1, 0) (a / 4096) (e.kpf.unit.take n) (leNat (e.kpf.unit.drop n)) e
        exec (.pieceDelivered t) s = .next (completePackage (withKpf (fun k => { k with unit := [] })
          (bulkAck true (decide (r.1 = .notMember ∨ r.1 = .refused)) r.2)))))
    ∧ (∀ (src : Nat × Nat) (i : Nat) (data : List Byte) (s : State), sessionOpen s = true → src ∈ s.kpf.members →
      i < sessionPieces s → i < 125 → sessionLen s ≤ 512000 → pieceStored s i = false →
      (data.length = pieceLen s i → s.firnWord (0x37F100 / 8 + i) = erasedWord →
        let r := storePiece src i data (crc32 data) s
        crc32 data < 2 ^ 32 → r.1 = .stored ∧ pieceStored r.2 i = true ∧ r.2.firnBytes (pieceOff i) data.length = data
          ∧ r.2.kpf.idleRef = s.tbase)
      ∧ (∀ crc, data.length ≠ pieceLen s i ∨ crc32 data ≠ crc → storePiece src i data crc s = (.refused, s)))
    ∧ (∀ (t : Nat) (s : State), Acting s → sessionOpen s = true →
      if s.kpf.idleRef + 259200000000 ≤ max s.tbase t then
        Answers (.sessionIdleExpiry t) s fun u => s.firnWord (0x37F050 / 8 + 3) = erasedWord →
          marked u mkCancelled = true ∧ sessionOpen u = false
      else exec (.sessionIdleExpiry t) s = .next (s.seen t))
    ∧ ∀ (t : Nat) (q : BootRec) (s : State), Acting s → latestBoot s = some q → q.state = 2 →
      q.slot = s.on Reg.SEC_BOOTINFO.SLOT → hostConf s = false → s.on Reg.MBX_CTRL.FWREADY = true →
      s.rd Reg.TMR_WDSTAT.STAGE = 0 →
      if s.kpf.readyAt + 10000000 ≤ max s.tbase t then
        Answers (.autoConfirm t) s fun u => u.rd Reg.NVC_CONFCTL.ARMED = 0
          ∧ ∃ w r, bootRec u w = some r ∧ r.state = 3 ∧ r.slot = q.slot ∧ r.prev = q.prev ∧ r.seq = (q.seq + 1) % 65536
      else exec (.autoConfirm t) s = .next (s.seen t)

/-- START with EN set begins with discovery of the devices, without EN it is refused. Verification ends with PASS when the
only valid manifest's REQUIRED regions pass, with FAIL without a device or a valid manifest, and waits while a
firmware command has had the verify unit since before START. RSMEN releases the host only under PASS or RECOVERED. A
firmware request is refused for its length, its range, or while streaming; otherwise it runs on the device. Its
completion gives the data read, or the erased sector; a timeout counts DEVERR with RESULT 4. Counters clear by
reading. A promotion starts under a verdict, ends PENDING or FAILED, and CANCEL ends it. Choices of the model:
assumption log 66, 67, 68.
Cites: R324, R329, R330, R332, R337, R338, R339, R342, R344. -/
def Obligations.FlashGuard : Prop :=
  (∀ (v : Word) (dev0 dev1 : Sfdp) (s : State), Stores s 0x400F0000 → s.fgd.queue = [] →
      (Reg.FGD_CTRL.EN.of v.toNat = 1 → Reg.FGD_CTRL.RSMEN.of v.toNat = 0 → Answers (.fgdStart v dev0 dev1) s fun u =>
        u.rd Reg.FGD_STAT.PHASE = 1 ∧ u.rd Reg.FGD_STAT.VERDICT = 0 ∧ u.rd Reg.FGD_STAT.PROMO = 0
          ∧ u.rd (Reg.FGD_DEV.PRESENT 0) = (sfdpPresent dev0).toNat
          ∧ u.rd (Reg.FGD_DEV.PRESENT 1) = (sfdpPresent dev1).toNat
          ∧ u.rd Reg.FGD_TOP.TOP =
              if sfdpPresent dev0 then min (dev0.size + if sfdpPresent dev1 then dev1.size else 0) 0x8000000 else 0)
      ∧ (Reg.FGD_CTRL.EN.of v.toNat = 0 → Answers (.fgdStart v dev0 dev1) s fun u =>
        u.rd Reg.FGD_EVT.REFUSED = 1 ∧ u.rd Reg.FGD_STAT.PHASE = s.rd Reg.FGD_STAT.PHASE))
    ∧ (∀ (t : Nat) (s : State), s.coreUp = true → s.rd Reg.FGD_STAT.PHASE ≠ 0 → s.rd Reg.FGD_STAT.PHASE ≠ 5 →
      (s.on (Reg.FGD_DEV.PRESENT 0) = false → Answers (.verificationDone t) s fun u => u.rd Reg.FGD_STAT.VERDICT = 3
        ∧ u.rd Reg.FGD_STAT.PHASE = 5 ∧ u.rd Reg.FGD_STAT.FAILCAUSE = 1 ∧ u.rd Reg.FGD_STAT.RSM = 0
        ∧ u.rd Reg.FGD_EVT.DONE = 1 ∧ u.rd Reg.FGD_EVT.FAIL = 1 ∧ u.fgd.act.regions = [])
      ∧ (s.on (Reg.FGD_DEV.PRESENT 0) = true → s.fgd.sigWait = true → s.sec.cmd.isSome = true → sigNeeded s 0 = true →
        exec (.verificationDone t) s = .next (s.seen t))
      ∧ (s.on (Reg.FGD_DEV.PRESENT 0) = true → s.fgd.sigWait = false ∨ s.sec.cmd = none → manCause s 0 = 0 → (manOff s 0 = manOff s 1 ∨ manCause s 1 ≠ 0) →
        passes (streamAll s false [] (manAt s 0).regions) = true → Answers (.verificationDone t) s fun u =>
          u.rd Reg.FGD_STAT.VERDICT = 1 ∧ u.rd Reg.FGD_STAT.PHASE = 5 ∧ u.rd Reg.FGD_STAT.ACTMAN = 0
          ∧ u.rd Reg.FGD_STAT.SPAREVALID = 0 ∧ u.rd Reg.FGD_EVT.DONE = 1
          ∧ u.rd Reg.FGD_STAT.RSM = (s.on Reg.FGD_CTRL.RSMEN).toNat)
      ∧ (s.on (Reg.FGD_DEV.PRESENT 0) = true → s.fgd.sigWait = false ∨ s.sec.cmd = none → manCause s 0 ≠ 0 → (manOff s 0 = manOff s 1 ∨ manCause s 1 ≠ 0) →
        Answers (.verificationDone t) s fun u => u.rd Reg.FGD_STAT.VERDICT = 3 ∧ u.rd Reg.FGD_STAT.RSM = 0))
    ∧ (∀ (v : Word) (s : State), Stores s 0x400F0000 →
      (Reg.FGD_CTRL.START.of v.toNat = 0 → s.fgd.queue = [] → Answers (.rsmen v) s fun u =>
        u.rd Reg.FGD_CTRL.RSMEN = Reg.FGD_CTRL.RSMEN.of v.toNat
        ∧ u.rd Reg.FGD_STAT.RSM = if s.rd Reg.FGD_STAT.VERDICT = 1 ∨ s.rd Reg.FGD_STAT.VERDICT = 2 then
            Reg.FGD_CTRL.RSMEN.of v.toNat else 0)
      ∧ (Reg.FGD_CTRL.START.of v.toNat = 0 → s.fgd.queue = [] → Answers (.fgdPlock v) s fun u =>
        u.rd Reg.FGD_CTRL.PLOCK = 1))
    ∧ (∀ c ∈ [(Instr.flashRead, 1), (Instr.flashWrite, 2), (Instr.flashErase, 3)], ∀ (v : Word) (s : State),
      Stores s 0x400F0040 → s.rd Reg.FGD_FREQ.BUSY = 0 →
      let len := s.rd Reg.FGD_FLEN.LEN
      let buf := 4 * s.rd Reg.FGD_FBUF.BUF
      let r : FlashReq := { host := false, op := c.2, policy := Reg.FGD_FREQ.SRC.of v.toNat == 1
                            addr := s.rd Reg.FGD_FADDR.ADDR, len := len
                            data := if c.2 = 2 then s.bytes buf len else [], tag := 0 }
      (1 ≤ s.rd Reg.FGD_STAT.PHASE → s.rd Reg.FGD_STAT.PHASE ≤ 4 →
        Answers (c.1 v) s fun u => u.rd Reg.FGD_FREQ.RESULT = 5 ∧ u.rd Reg.FGD_FREQ.BUSY = 0)
      ∧ (s.rd Reg.FGD_STAT.PHASE = 0 ∨ 4 < s.rd Reg.FGD_STAT.PHASE →
        (c.2 ≠ 3 → len = 0 ∨ 4096 < len ∨ inSram buf len = false →
          Answers (c.1 v) s fun u => u.rd Reg.FGD_FREQ.RESULT = 3 ∧ u.fgd = s.fgd)
        ∧ (c.2 = 3 ∨ (1 ≤ len ∧ len ≤ 4096 ∧ inSram buf len = true) → s.fgd.queue = [] → s.fgd.active = none →
          (reqRefused s r = 0 → s.on Reg.FGD_CTRL.EN = true → Answers (c.1 v) s fun u =>
            u.fgd.active = some { r with remap := if r.policy then remapNow s else [] } ∧ u.fgd.queue = [] ∧ u.rd Reg.FGD_FREQ.BUSY = 1 ∧ u.rd Reg.FGD_STAT.BUSY = 1)
          ∧ (reqRefused s r ≠ 0 → Answers (c.1 v) s fun u => u.rd Reg.FGD_FREQ.RESULT = reqRefused s r
            ∧ u.rd Reg.FGD_FREQ.BUSY = 0 ∧ u.rd Reg.FGD_EVT.DENIED = 1 ∧ u.fgd.flash = s.fgd.flash))))
    ∧ (∀ (t : Nat) (r : FlashReq) (s : State), s.fgd.active = some r → r.host = false → s.fgd.queue = [] →
      s.fgd.applyDue = false →
      (r.op = 1 → Answers (.flashOperationDone t) s fun u => u.rd Reg.FGD_FREQ.RESULT = 0 ∧ u.rd Reg.FGD_FREQ.BUSY = 0
        ∧ u.rd Reg.FGD_STAT.BUSY = 0 ∧ u.fgd.active = none ∧ u.fgd.flash = s.fgd.flash
        ∧ u.bytes (4 * s.rd Reg.FGD_FBUF.BUF) r.len = (reqFlash r).map fun a => Sparse.get 0xFF a s.fgd.flash)
      ∧ (r.op = 3 → r.policy = false → Answers (.flashOperationDone t) s fun u => u.rd Reg.FGD_FREQ.RESULT = 0
        ∧ u.fgd.active = none ∧ ∀ a, Sparse.get 0xFF a u.fgd.flash =
            if a / 4096 = r.addr / 4096 then 0xFF else Sparse.get 0xFF a s.fgd.flash)
      ∧ (r.op = 2 → r.policy = false → r.len = r.data.length → Answers (.flashOperationDone t) s fun u =>
        u.rd Reg.FGD_FREQ.RESULT = 0 ∧ u.fgd.active = none
        ∧ (∀ i, i < r.len → Sparse.get 0xFF (r.addr + i) u.fgd.flash
            = r.data.getD i 0 &&& Sparse.get 0xFF (r.addr + i) s.fgd.flash)
        ∧ ∀ a, a < r.addr ∨ r.addr + r.len ≤ a → Sparse.get 0xFF a u.fgd.flash = Sparse.get 0xFF a s.fgd.flash)
      ∧ Answers (.deviceTimeout t) s fun u => u.rd Reg.FGD_FREQ.RESULT = 4 ∧ u.rd Reg.FGD_FREQ.BUSY = 0
        ∧ u.rd Reg.FGD_EVT.DEVERR = 1 ∧ u.rd Reg.FGD_CNT.DEVERR = min (s.rd Reg.FGD_CNT.DEVERR + 1) 65535
        ∧ u.rd Reg.FGD_STAT.FAILCAUSE = 8 ∧ u.fgd.active = none)
    ∧ (∀ s : State, Loads s 0x400F0050 → Answers .fgdCntRead s fun u => u.rdata = s.regWord 0x400F0050
      ∧ u.rd Reg.FGD_CNT.DENIED = 0 ∧ u.rd Reg.FGD_CNT.DEVERR = 0 ∧ SameStores s u)
    ∧ (∀ (v : Word) (s : State), Stores s 0x400F0034 →
      (Reg.FGD_PROMO.CANCEL.of v.toNat = 0 →
        if s.rd Reg.FGD_STAT.PROMO ≠ 1 ∧ (s.rd Reg.FGD_STAT.VERDICT = 1 ∨ s.rd Reg.FGD_STAT.VERDICT = 2) then
          Answers (.promoGo v) s fun u => u.rd Reg.FGD_STAT.PROMO = 1
            ∧ u.fgd.promo = manAt s (1 - s.rd Reg.FGD_STAT.ACTMAN)
        else exec (.promoGo v) s = .next (s.set Reg.FGD_EVT.REFUSED))
      ∧ (Reg.FGD_PROMO.GO.of v.toNat = 0 → Answers (.promoCancel v) s fun u => u.rd Reg.FGD_STAT.PROMO = 0
        ∧ u.fgd.promo = {} ∧ u.fgd.applyDue = false))
    ∧ ∀ (t : Nat) (s : State), s.coreUp = true → s.rd Reg.FGD_STAT.PROMO = 1 →
      s.fgd.sigWait = false ∨ s.sec.cmd = none →
      let i := 1 - s.rd Reg.FGD_STAT.ACTMAN
      let m := manAt s i
      let bad := manOff s 0 = manOff s 1 ∨ manCause s i ≠ 0 ∨ m.mseq ≤ s.rd Reg.FGD_ACTSEQ.MSEQ
      (bad → Answers (.promotionVerified t) s fun u => u.rd Reg.FGD_STAT.PROMO = 3 ∧ u.rd Reg.FGD_EVT.PROMOFAIL = 1
        ∧ u.fgd = s.fgd)
      ∧ (¬bad → passes (streamAll s true (s.fgd.act.regions.filter (·.state == 1)) m.regions) = true →
        Answers (.promotionVerified t) s fun u => u.rd Reg.FGD_STAT.PROMO = 2 ∧ u.rd Reg.FGD_EVT.PROMODONE = 1
          ∧ u.rd Reg.FGD_STAT.SPAREVALID = 1 ∧ u.rd Reg.FGD_SPARESEQ.MSEQ = m.mseq)

/-- A keyed NVC command that is aligned and allowed starts; otherwise it ends at once with ALIGN or PROTECTED. A program
that meets only erased words writes them from SRAM; at the first word that is not erased it ends NOTERASED and leaves
the rest; an erase leaves every word of the sector erased; a checked read copies words, and ends DED with the address
of the first double-bit error. A core commit enters the front end or is refused and counted; a record is written at
HEAD into the ring; FLUSH stands until the front end is empty; counters clear by reading. Choices of the model:
assumption log 69, 70, 71, 122.
Cites: R348, R349, R350, R373, R374, R375, R44. -/
def Obligations.FirnAndLog : Prop :=
  (∀ c ∈ [(Instr.nvcProgram, 1), (Instr.nvcErase, 2), (Instr.nvcRead, 3)], ∀ (v : Word) (s : State),
      Stores s 0x40100000 → v.toNat / 2 ^ 24 = 0x6E → s.on Reg.NVC_STAT.BUSY = false →
      let x : NvcCmd := ⟨c.2, s.rd Reg.NVC_ADDR.ADDR, 8 * s.rd Reg.NVC_BUF.BUF, s.rd Reg.NVC_LEN.LEN⟩
      let top := if c.2 = 2 then x.addr + 4096 else x.addr + x.len
      (nvcAligned x = false → Answers (c.1 v) s fun u => u.rd Reg.NVC_STAT.RESULT = 3 ∧ u.rd Reg.NVC_STAT.BUSY = 0
        ∧ u.rd Reg.NVC_EVT.DONE = 1 ∧ u.rd Reg.NVC_EVT.ERROR = 1 ∧ u.firn = s.firn)
      ∧ (nvcAligned x = true → c.2 ≠ 3 → nvcAllowed s x.addr top = false → Answers (c.1 v) s fun u =>
        u.rd Reg.NVC_STAT.RESULT = 1 ∧ u.rd Reg.NVC_EVT.ERROR = 1 ∧ u.firn = s.firn)
      ∧ (nvcAligned x = true → (c.2 = 3 ∨ nvcAllowed s x.addr top = true) → Answers (c.1 v) s fun u =>
        u.nvc.cmd = some x ∧ u.rd Reg.NVC_STAT.BUSY = 1 ∧ u.firn = s.firn))
    ∧ (∀ (t : Nat) (c : NvcCmd) (s : State), s.coreUp = true → s.nvc.cmd = some c → c.addr + c.len ≤ 0x400000 →
      (c.cmd = 2 → c.addr % 4096 = 0 → Answers (.nvcDone none t) s fun u => u.rd Reg.NVC_STAT.RESULT = 0
        ∧ u.rd Reg.NVC_STAT.BUSY = 0 ∧ u.rd Reg.NVC_EVT.DONE = 1 ∧ u.nvc.cmd = none
        ∧ ∀ w, u.firnWord w = if w / 512 = c.addr / 4096 then erasedWord else s.firnWord w)
      ∧ (c.cmd = 1 → c.addr % 8 = 0 → c.len % 8 = 0 →
        (∀ n, n ≤ c.len / 8 → (∀ i, i < n → s.firnWord (c.addr / 8 + i) = erasedWord) →
          (n < c.len / 8 → s.firnWord (c.addr / 8 + n) ≠ erasedWord) →
          Answers (.nvcDone none t) s fun u => u.rd Reg.NVC_STAT.RESULT = (if n < c.len / 8 then 2 else 0)
            ∧ u.rd Reg.NVC_EVT.DONE = 1 ∧ u.nvc.cmd = none
            ∧ (n < c.len / 8 → u.rd Reg.NVC_ERRADDR.ADDR = c.addr + 8 * n)
            ∧ ∀ w, u.firnWord w = if c.addr / 8 ≤ w ∧ w < c.addr / 8 + n then
                s.loadNat (c.buf + 8 * (w - c.addr / 8)) 8 else s.firnWord w))
      ∧ (c.cmd = 3 → c.addr % 8 = 0 → c.len % 8 = 0 →
        (∀ i, i < c.len / 8 → c.addr / 8 + i ∉ s.firnDed) → Answers (.nvcDone none t) s fun u =>
          u.rd Reg.NVC_STAT.RESULT = 0 ∧ u.rd Reg.NVC_EVT.DONE = 1 ∧ u.firn = s.firn
          ∧ ∀ i, i < c.len / 8 → u.loadNat (c.buf + 8 * i) 8 = s.firnWord (c.addr / 8 + i) % 2 ^ 64)
      ∧ (c.cmd = 3 → c.addr % 8 = 0 → c.len % 8 = 0 → ∀ j, j < c.len / 8 → c.addr / 8 + j ∈ s.firnDed →
        (∀ i, i < j → c.addr / 8 + i ∉ s.firnDed) → Answers (.nvcDone none t) s fun u =>
          u.rd Reg.NVC_STAT.RESULT = 4 ∧ u.rd Reg.NVC_ERRADDR.ADDR = c.addr + 8 * j ∧ u.rd Reg.NVC_EVT.DONE = 1
          ∧ u.rd Reg.NVC_EVT.ERROR = 1 ∧ u.rd Reg.NVC_STAT.BUSY = 0 ∧ u.rd Reg.ERR_MEMSTAT.FIRNDED = 1
          ∧ u.firn = s.firn ∧ u.nvc.cmd = none))
    ∧ (∀ (v : Word) (s : State), Stores s 0x40110034 →
      if 56 ≤ s.log.front.length ∨ (s.rd Reg.LOG_WHDR.SOURCE < 0x80 ∧ s.on Reg.SEC_LOCK.MEAS = true) then
        Answers (.logCommit v) s fun u => u.log.front = s.log.front ∧ u.rd Reg.LOG_STAT.REFUSED = 1
          ∧ u.rd Reg.LOG_EVT.DROP = 1 ∧ u.rd Reg.LOG_CNT.DROPCORE = min (s.rd Reg.LOG_CNT.DROPCORE + 1) 65535
      else
        Answers (.logCommit v) s fun u => u.rd Reg.LOG_STAT.REFUSED = 0 ∧ ∃ r, u.log.front = s.log.front ++ [r]
          ∧ r.tbase = s.tbase ∧ r.source = s.rd Reg.LOG_WHDR.SOURCE ∧ r.code = s.rd Reg.LOG_WHDR.CODE
          ∧ r.sev = min (s.rd Reg.LOG_WHDR.SEV) 6)
    ∧ (∀ (t : Nat) (r : LogRec) (rest : List LogRec) (s : State), s.coreUp = true → s.log.front = r :: rest →
      s.on Reg.LOG_STAT.READY = true → s.rd Reg.LOG_STAT.HEAD < 8192 → r.data.length = 16 →
      (∀ i, i < 4 → s.firnWord (0x78000 + 4 * s.rd Reg.LOG_STAT.HEAD + i) = erasedWord) →
      let h := s.rd Reg.LOG_STAT.HEAD
      Answers (.recordWritten t) s fun u => u.log.front = rest ∧ u.rd Reg.LOG_EVT.WRITTEN = 1
        ∧ u.rd Reg.LOG_STAT.HEAD = (h + 1) % 8192 ∧ u.firnBytes (0x3C0000 + 32 * h) 32 = recordBytes r
        ∧ (h % 128 = 0 → ∀ w, w < 512 → u.firnWord (0x78000 + (h / 128 + 1) % 64 * 512 + w) = erasedWord)
        ∧ (rest = [] → u.rd Reg.LOG_CTRL.FLUSH = 0))
    ∧ (∀ (v : Word) (s : State), Stores s 0x40110000 →
      if s.log.front = [] then exec (.logFlush v) s = .next s
      else exec (.logFlush v) s = .next (s.set Reg.LOG_CTRL.FLUSH))
    ∧ (∀ s : State, Loads s 0x40110010 → Answers .logCntRead s fun u => u.rdata = s.regWord 0x40110010
      ∧ u.rd Reg.LOG_CNT.DROPCORE = 0 ∧ u.rd Reg.LOG_CNT.DROPHW = 0 ∧ SameStores s u)
    ∧ ∀ s : State, Loads s 0x40150014 → Answers .errEcccntRead s fun u => u.rdata = s.regWord 0x40150014
      ∧ u.rd Reg.ERR_ECCCNT.CORR = 0 ∧ u.rd Reg.ERR_ECCCNT.DED = 0 ∧ SameStores s u

/-- Every 2 s the pack is read; its answers are kept, and status bit 14 ends charging. Every 10 minutes the gauge is
compared with the charge counted: a difference of more than 5 % of the full capacity counts, the second in a row marks
the pack DISTRUSTED. With no channel in STALL for 10 s, POLICY 2 ends and no channel is boosted. Choices of the model:
assumption log 45, 46, 95, 115.
Cites: R189, R190, R390. -/
def Obligations.BatteryAndPolicy : Prop :=
  (∀ (t : Nat) (r : Option PackReading) (s : State), Acting s → feature s 10 = true →
      s.kpf.pack.pollAt + 2000000 ≤ max s.tbase t →
      Answers (.smartBatteryPoll r t) s fun u => u.kpf.pack.pollAt = max s.tbase t
        ∧ match r with
          | none => u.kpf.pack.at_ = s.kpf.pack.at_ ∧ u.kpf.pack.rsoc = s.kpf.pack.rsoc
          | some x => u.kpf.pack.at_ = max s.tbase t ∧ u.kpf.pack.answered = true
            ∧ u.kpf.pack.volt = x.volt.toNat ∧ u.kpf.pack.rsoc = x.rsoc.toNat % 256
            ∧ u.kpf.pack.remcap = x.remcap.toNat ∧ u.kpf.pack.fullcap = x.fullcap.toNat
            ∧ u.kpf.terminated = x.status.toNat.testBit 14
            ∧ (x.status.toNat.testBit 14 = true → u.rd Reg.CHG_CTRL.EN = 0))
    ∧ (∀ (t rem full : Nat) (s : State), Acting s → gaugeCaps (s.seen t) = some (rem, full) →
      s.kpf.pack.gaugeAt + 600000000 ≤ max s.tbase t →
      let counted := qTotal s - s.kpf.pack.gaugeQ
      let told := ((rem : Int) - s.kpf.pack.gaugeRem) * 3600
      let off := s.kpf.pack.gaugeOpen = true ∧ 5 * (full : Int) * 3600 < 100 * (told - counted).natAbs
      Answers (.gaugeCheck t) s fun u => u.kpf.pack.gaugeAt = max s.tbase t ∧ u.kpf.pack.gaugeRem = rem
        ∧ u.kpf.pack.gaugeQ = qTotal s ∧ u.kpf.pack.gaugeOpen = true
        ∧ (off → u.kpf.pack.differed = s.kpf.pack.differed + 1
            ∧ (1 ≤ s.kpf.pack.differed → u.kpf.pack.distrusted = true))
        ∧ (¬off → u.kpf.pack.differed = 0 ∧ u.kpf.pack.distrusted = s.kpf.pack.distrusted))
    ∧ ∀ (t : Nat) (s : State), Acting s → anyStall s = false → s.kpf.policy = 2 →
      s.kpf.stallAt + 10000000 ≤ max s.tbase t →
      Answers (.policyRestore t) s fun u => u.kpf.policy = 0 ∧ u.kpf.profile = s.kpf.profile
        ∧ ∀ n, n < 4 → u.rd (Reg.FAN_CTRL.BOOST n) = 0

/-- An answer puts RESULT, RLEN and the payload into the tag's mailbox and nothing else there. A sealed host is denied the
platform commands; a short request, a command outside the profile, one without its feature, and a resend without a
stored response are refused. Each command of the groups 0x01 to 0x03, when accepted, is answered with the fields of
its table at their offsets or does what its table says: SEAL seals, GET_EVENTS takes the oldest records, RESTART_FW
hands over, CLEAR_RAIL_FAULT writes RAIL_CLR, SET_WAKE the enables and the alarm, ENTER_SHIP is due after DELAY,
SET_CHARGE_LIMITS changes what is not 0. Choices of the model: assumption log 35, 49, 79, 80, 81, 88, 90, 92.
Cites: R101, R106, R377, R378, R379, R382, R385, R386, R387. -/
def Obligations.KpfSystemCommands : Prop :=
  (∀ (t result : Nat) (resp : List Byte) (nostore : Bool) (s : State), tagState s t = tagOwned → resp.length ≤ 496 →
      let u := kAnswer t result resp nostore s
      u.byte (boxAddr t 7) = BitVec.ofNat 8 result ∧ u.loadNat (boxAddr t 8) 2 = resp.length
        ∧ u.bytes (boxAddr t 16) resp.length = resp ∧ t ∉ u.mbx.taken
        ∧ ∀ a, a < boxAddr t 7 ∨ boxAddr t (16 + resp.length) ≤ a → u.byte a = s.byte a)
    ∧ (∀ (c : Fin 8 → Instr) (code result : Nat), (c, code, result) ∈ [(Instr.restartFw, 0x0106, 6), (Instr.setWake, 0x0205, 6),
        (Instr.clearChargeFault, 0x0304, 6), (Instr.setStuck, 0x0602, 6), (Instr.cancel, 0x0B05, 6)] →
      ∀ (tag : Fin 8) (s : State), IsNext tag code s → (kTake s).kpf.state = 1 → (kTake s).kpf.sealed = true →
        exec (c tag) s = .next (kAnswer tag result [] false (kTake s)))
    ∧ (∀ (tag : Fin 8) (s : State), (IsNext tag 0x0102 s → (kTake s).kpf.state = 1 → (readReq (kTake s) tag).body = [] →
        exec (.getCaps tag) s = .next (kAnswer tag 4 [] false (kTake s)))
      ∧ (IsNext tag 0x0202 s → (kTake s).kpf.state = 2 →
        exec (.getRail tag) s = .next (kAnswer tag 12 [] false (kTake s)))
      ∧ (IsNext tag 0x0407 s → (kTake s).kpf.state = 1 → feature s 2 = false → feature s 3 = false →
        exec (.setReverse tag) s = .next (kAnswer tag 11 [] false (kTake s)))
      ∧ (kpfRuns s = true → (kTake s).kpf.wait = none → (kTake s).mbx.taken.head? = some tag.val →
        boxCmd (kTake s) tag = 0x0105 → (kTake s).on (Reg.MBX_TAGINFO.RESEND tag) = true →
        Sparse.get [] tag (kTake s).kpf.stored = [] →
        exec (.getTime tag) s = .next (kAnswer tag 12 [] false (kTake s))))
    ∧ Serves Instr.getIdentity 0x0101 (fun q e u =>
        Shows q 28 [(0, 4, e.kpf.version), (4, 1, 4), (5, 1, 0), (6, 1, e.kpf.state),
          (7, 1, (e.on Reg.SEC_BOOTINFO.FALLBACK).toNat + 2 * (e.on Reg.NVC_BOOTST.TRIAL).toNat + 4 * e.kpf.sealed.toNat
            + 8 * (e.on Reg.SEC_LCS.DBGOPENED).toNat), (8, 8, e.sec.fuses.devid.toNat), (16, 2, e.rd Reg.SYS_ID.PART),
          (18, 1, e.rd Reg.SYS_ID.STEP), (19, 1, lcs e), (20, 4, e.board.features % 0x1000), (24, 2, groupMap e)] e u)
    ∧ Serves Instr.getCaps 0x0102 (fun q e u =>
        ∃ resp, ReplyOk q resp e u ∧ Layout 36 [(0, 1, q.u8 0), (1, 3, 0)] resp ∧ ∀ c, c < 256 →
          (natAt resp 4 32).testBit c = kpfTable.any fun r => r.code == 256 * q.u8 0 + c && rowProfile e.kpf.state r.code
            && rowFeature e r)
    ∧ Serves Instr.getEvents 0x0103 (fun q e u =>
        (q.u8 0 = 0 ∨ 30 < q.u8 0 → ReplyNo q 5 e u)
        ∧ (1 ≤ q.u8 0 → q.u8 0 ≤ 30 → e.kpf.ovf = false → ∃ resp,
          ReplyOk q resp (withKpf (fun k => { k with events := k.events.drop (q.u8 0) }) e) u
          ∧ Layout (4 + 16 * min (q.u8 0) e.kpf.events.length) [(0, 1, min (q.u8 0) e.kpf.events.length), (1, 1, 0),
              (2, 2, e.kpf.events.length - q.u8 0)] resp
          ∧ ∀ i ev, i < q.u8 0 → e.kpf.events[i]? = some ev → partOf resp 4 16 i = eventBytes ev))
    ∧ Serves Instr.sealHost 0x0104 (fun q e u =>
        ReplyOk q [] (withKpf (fun k => { k with sealed := true }) e) u)
    ∧ Serves Instr.getTime 0x0105 (fun q e u =>
        Shows q 12 [(0, 8, e.tbase), (8, 4, e.kpf.restarts)] e u)
    ∧ Serves Instr.restartFw 0x0106 (fun q e u =>
        ∃ t, ReplyOk q [] e t ∧ u = restartRunning t)
    ∧ Serves Instr.getPowerState 0x0201 (fun q e u =>
        Shows q 24 [(0, 1, e.rd Reg.RAIL_CTRL.TSEL), (1, 1, e.rd Reg.RAIL_STAT.DECODED),
          (2, 1, e.rd Reg.RAIL_CTRL.AUTO), (3, 1, e.rd Reg.RAIL_STAT.FLTHOLD), (4, 1, e.rd Reg.RAIL_STAT.SETDONE), (5, 3, 0),
          (8, 8, e.rd Reg.RAIL_FAULT0.CH + e.rd Reg.RAIL_FAULT1.CH * 2 ^ 32),
          (16, 8, e.rd Reg.RAIL_WARN0.CH + e.rd Reg.RAIL_WARN1.CH * 2 ^ 32)] e u)
    ∧ Serves Instr.getRail 0x0202 (fun q e u =>
        let n := q.u8 0
        (39 < n → ReplyNo q 5 e u)
        ∧ (n ≤ 39 → Shows q 4 [(0, 1, kRead e (Reg.RAIL_CHSTAT.STATE n)), (1, 1, kRead e (Reg.RAIL_CHSTAT.CAUSE n)),
          (2, 1, kRead e (Reg.RAIL_CHSTAT.TRIES n)), (3, 1, (kRead e (Reg.RAIL_CHSTAT.EN n) == 1).toNat
            + 2 * (kRead e (Reg.RAIL_CHSTAT.PG n) == 1).toNat + 4 * (kRead e (Reg.RAIL_CHSTAT.DEMANDED n) == 1).toNat)] e u))
    ∧ Serves Instr.clearRailFault 0x0203 (fun q e u =>
        let n := q.u8 0
        (n = 0xFF → ReplyOk q [] (busWrite (busWrite e 0x40020018 0xFFFFFFFF) 0x4002001C 0xFF) u)
        ∧ (39 < n → n ≠ 0xFF → ReplyNo q 5 e u)
        ∧ (n < 32 → ReplyOk q [] (busWrite e 0x40020018 (2 ^ n)) u)
        ∧ (32 ≤ n → n ≤ 39 → ReplyOk q [] (busWrite e 0x4002001C (2 ^ (n - 32))) u))
    ∧ Serves Instr.resumeDecoder 0x0204 (fun q e u =>
        let held := ∃ n, n < 40 ∧ (railSet e (e.rd Reg.RAIL_CTRL.FLTSET)).testBit n = true ∧ chState e n = chFault
        (held → ReplyNo q 12 e u) ∧ (¬held → ReplyOk q [] (kField Reg.RAIL_STAT.FLTHOLD 1 e) u))
    ∧ Serves Instr.setWake 0x0205 (fun q e u =>
        let at_ := if q.u32 4 = 0 then 2 ^ 64 - 1 else e.tbase + q.u32 4 * 1000000
        (512 ≤ q.u16 0 → ReplyNo q 5 e u)
        ∧ (q.u16 0 < 512 → ReplyOk q [] (busWrite (busWrite (busWrite e Reg.SYS_WAKEEN.INPUT.addr (q.u16 0))
          Reg.SYS_WAKEALARMLO.ALARMLO.addr (at_ % 2 ^ 32)) Reg.SYS_WAKEALARMHI.ALARMHI.addr (at_ / 2 ^ 32)) u))
    ∧ Serves Instr.enterShip 0x0206 (fun q e u =>
        (q.u16 0 = 0 ∨ 600 < q.u16 0 → ReplyNo q 5 e u)
        ∧ (1 ≤ q.u16 0 → q.u16 0 ≤ 600 → ReplyJob q 0x0206 (e.tbase + q.u16 0 * 1000000) 0 [] e u))
    ∧ Serves Instr.getBattery 0x0301 (fun q e u =>
        (battery e = none → ReplyNo q 7 e u)
        ∧ ∀ v, battery e = some v → Shows q 18 [(0, 1, 1), (1, 1, v.source), (2, 1, cells e),
          (3, 1, e.kpf.pack.distrusted.toNat + 2 * (decide (2 ≤ (connected e).length)).toNat + 4 * (matchWait e).toNat),
          (4, 2, v.volt), (6, 2, v.curr), (8, 1, v.rsoc), (9, 1, v.temp), (10, 2, v.remcap), (12, 2, v.fullcap),
          (14, 4, unsigned 32 (qTotal e))] e.drawn u)
    ∧ Serves Instr.getCharger 0x0302 (fun q e u =>
        Shows q 16 [(0, 1, chgState e), (1, 1, e.rd Reg.CHG_STAT.LOOP), (2, 1, e.rd Reg.CHG_STAT.BAND),
          (3, 1, e.rd Reg.CHG_STAT.FCAUSE), (4, 2, 10 * e.rd Reg.CHG_ICHG.ICHG), (6, 2, e.rd Reg.CHG_VREG.VREG),
          (8, 2, e.rd Reg.CHG_MEAS.IBAT), (10, 1, e.rd Reg.CHG_STAT.TPHASE), (11, 1, e.rd Reg.CHG_REVSTAT.ACTIVE),
          (12, 4, e.rd Reg.CHG_TMRCNT.COUNT)] e u)
    ∧ Serves Instr.getPacks 0x0303 (fun q e u =>
        let ms := (e.kpf.modules.filter isBattery).take 60
        ShowsAll q 4 8 [(0, 1, ms.length), (1, 3, 0)] ms (fun m => [(0, 1, m.port), (1, 1, m.id), (2, 1, packState e m),
          (3, 1, 0), (4, 2, modObj m 4), (6, 1, modObj m 7), (7, 1, modObj m 6)]) e u)
    ∧ Serves Instr.clearChargeFault 0x0304 (fun q e u =>
        let t := kField Reg.CHG_CTRL.FLTCLR 1 e
        (chgFaulted t = true → ReplyNo q 12 t u) ∧ (chgFaulted t = false → ReplyOk q [] t u))
    ∧ Serves Instr.setChargeLimits 0x0305 (fun q e u =>
        let t := chargeApply (withKpf (fun k => { k with
          ichg := (if q.u16 0 = 0 then k.ichg else q.u16 0), vreg := (if q.u16 2 = 0 then k.vreg else q.u16 2),
          wantEn := k.wantEn || q.u8 4 == 1 }) e)
        (1 < q.u8 4 ∨ 1 < q.u8 5 → ReplyNo q 5 e u)
        ∧ (q.u8 4 ≤ 1 → q.u8 5 = 0 → Shows q 4 [(0, 2, ichgBase t), (2, 2, t.rd Reg.CHG_VREG.VREG)] t u))

/-- Each command, when accepted, answers with the fields of its table at their offsets, or makes the register writes its
table names, or is refused: a port that does not exist BAD_PARAM, one the model lacks UNSUPPORTED, values that do not
fit BAD_PARAM, a locked keyboard DENIED, LUX off BUSY. REQUEST_PDO, SEND_VDM and CHAIN_COMMIT are answered ACCEPTED.
SET_LIGHTING with EN=1 while LUX is off sets LUXEN and waits. A token of another KIND for UNLOCK_SIGNED is BAD_PARAM,
one that fails DENIED with its RESULT. That LUX commands are BUSY while LUX is off is the model's choice (assumption
log 82). Choices of the model: assumption log 35, 50, 80, 81, 82, 117.
Cites: R388, R389, R390, R391, R392. -/
def Obligations.KpfPlatformCommands : Prop :=
  Serves Instr.getPort 0x0401 (fun q e u =>
        let p := q.u8 0
        (1 < p → ReplyNo q 5 e u) ∧ (p ≤ 1 → feature e (2 + p) = false → ReplyNo q 11 e u)
        ∧ (p ≤ 1 → feature e (2 + p) = true →
          Shows q 18 [(0, 4, (busRead e (Reg.PD_STAT.ATTACHED p).addr).1),
          (4, 2, kRead e (Reg.PD_CONTRACT.VOLT p)), (6, 2, 10 * kRead e (Reg.PD_CONTRACT.CURR p)),
          (8, 1, kRead e (Reg.PWR_INSTAT.TRK p)), (9, 1, (kRead e (Reg.PWR_INSTAT.QUAL p) == 1).toNat
            + 2 * (kRead e (Reg.PWR_INSTAT.UNSTABLE p) == 1).toNat + 4 * (kRead e (Reg.PWR_INSTAT.FLOOR p) == 1).toNat),
          (10, 2, 10 * kRead e (Reg.PWR_INLIM.ILIM p)), (12, 2, kRead e (Reg.PWR_INVI.VIN p)),
          (14, 2, kRead e (Reg.PWR_INVI.IIN p)), (16, 2, 10 * kRead e (Reg.PWR_INGOOD.LASTGOOD p))] e u))
    ∧ Serves Instr.getSourceCaps 0x0402 (fun q e u =>
        let p := q.u8 0
        (1 < p → ReplyNo q 5 e u) ∧ (p ≤ 1 → feature e (2 + p) = false → ReplyNo q 11 e u)
        ∧ (p ≤ 1 → feature e (2 + p) = true →
          ShowsAll q 4 4 [(0, 1, e.rd (Reg.PD_STAT.NPDO p)), (1, 3, 0)]
          ((List.range (e.rd (Reg.PD_STAT.NPDO p))).map fun k => e.rd (Reg.PD_RXPDO.PDO p k)) (fun v => [(0, 4, v)]) e u))
    ∧ Serves Instr.requestPdo 0x0403 (fun q e u =>
        let p := q.u8 0
        (1 < p → ReplyNo q 5 e u) ∧ (p ≤ 1 → feature e (2 + p) = false → ReplyNo q 11 e u)
        ∧ (p ≤ 1 → feature e (2 + p) = true →
          (11 < q.u8 1 ∨ 127 < q.u16 4 / 50 → ReplyNo q 5 e u)
          ∧ (q.u8 1 ≤ 11 → q.u16 4 / 50 ≤ 127 →
            let t := kField (Reg.PD_EVT.REQREJ p) 1 (kField (Reg.PD_EVT.CONTRACT p) 1 e)
            let t := if q.u8 1 = 0 then kField (Reg.PD_REQ.AUTO p) 1 t
              else kWrite (Reg.PD_REQ.GO p).addr [(Reg.PD_REQ.OBJPOS p, q.u8 1), (Reg.PD_REQ.VOLT p, q.u16 2 / 20),
                (Reg.PD_REQ.CURR p, q.u16 4 / 50), (Reg.PD_REQ.GO p, 1)] t
            ReplyJob q 0x0403 (t.tbase + 500000) p [] t u)))
    ∧ (∀ acked : Bool, Serves (fun tag => Instr.sendVdm tag acked) 0x0404 (fun q e u =>
        let p := q.u8 0
        (1 < p → ReplyNo q 5 e u) ∧ (p ≤ 1 → feature e (2 + p) = false → ReplyNo q 11 e u)
        ∧ (p ≤ 1 → feature e (2 + p) = true →
          (q.u8 2 = 0 ∨ 8 < q.u8 2 ∨ 2 < q.u8 1 → ReplyNo q 5 e u)
          ∧ (1 ≤ q.u8 2 → q.u8 2 ≤ 8 → q.u8 1 ≤ 2 →
            (e.on (Reg.PD_VDMCTL.TXBUSY p) = true → ReplyNo q 2 e u)
            ∧ (e.on (Reg.PD_VDMCTL.TXBUSY p) = false →
              let t := (List.range (q.u8 2)).foldl (fun t k =>
                busWrite t (Reg.PD_VDMTX.WORD p k).addr (q.u32 (4 + 4 * k))) e
              ReplyJob q 0x0404 0 p [] (vdmCtlWrite p (1 * 2 ^ (Reg.PD_VDMCTL.TXGO p).lo
                  + q.u8 1 * 2 ^ (Reg.PD_VDMCTL.TXSOP p).lo + q.u8 2 * 2 ^ (Reg.PD_VDMCTL.TXLEN p).lo) acked
                (kField (Reg.PD_EVT.VDMTXFAIL p) 1 (kField (Reg.PD_EVT.VDMTXDONE p) 1 t))) u)))))
    ∧ Serves Instr.getVdm 0x0405 (fun q e u =>
        let p := q.u8 0
        (1 < p → ReplyNo q 5 e u) ∧ (p ≤ 1 → feature e (2 + p) = false → ReplyNo q 11 e u)
        ∧ (p ≤ 1 → feature e (2 + p) = true →
          let t := takeVdm p e
          ((∀ v ∈ t.kpf.vdms, v.port ≠ p) → ReplyNo q 7 t u)
          ∧ ∀ v rest, t.kpf.vdms = v :: rest → v.port = p →
            ShowsAll q 4 4 [(0, 1, v.sop), (1, 1, v.words.length), (2, 2, 0)] v.words (fun w => [(0, 4, w)])
              (withKpf (fun k => { k with vdms := rest }) t) u))
    ∧ Serves Instr.setPortPolicy 0x0406 (fun q e u =>
        let p := q.u8 0
        (1 < p → ReplyNo q 5 e u) ∧ (p ≤ 1 → feature e (2 + p) = false → ReplyNo q 11 e u)
        ∧ (p ≤ 1 → feature e (2 + p) = true →
          let bad := 3 < q.u8 1 ∨ 15 < q.u8 2 ∨ 3 < q.u8 3 ∨ 511 < q.u16 4 / 100 ∨ 127 < q.u16 6 / 100
            ∨ 1023 < q.u16 10 / 10
          (bad → ReplyNo q 5 e u)
          ∧ (¬bad →
            let t := kWrite (Reg.PD_SNKPOL.VMAX p).addr [(Reg.PD_SNKPOL.VMAX p, q.u16 4 / 100),
              (Reg.PD_SNKPOL.IMAX p, q.u16 6 / 100), (Reg.PD_SNKPOL.PDP p, q.u8 8)] e
            let t := kWrite (Reg.PD_CFG.ROLE p).addr [(Reg.PD_CFG.ROLE p, q.u8 1), (Reg.PD_CFG.PPSEN p, q.u8 2 % 2),
              (Reg.PD_CFG.EPREN p, q.u8 2 / 2 % 2), (Reg.PD_CFG.PRSWAP p, q.u8 2 / 4 % 2)] t
            ReplyOk q [] (kWrite (Reg.PWR_INCFG.EN p).addr [(Reg.PWR_INCFG.TRACK p, q.u8 3),
              (Reg.PWR_INCFG.BEYONDRP p, q.u8 2 / 8 % 2), (Reg.PWR_INCFG.ILIMMAX p, q.u16 10 / 10)] t) u)))
    ∧ Serves Instr.setReverse 0x0407 (fun q e u =>
        let bad := 1 < q.u8 0 ∨ 7 < q.u8 1 ∨ 127 < q.u8 2 ∨ 511 < q.u16 4 / 10
        let t := kWrite Reg.CHG_REVCTL.REVEN.addr [(Reg.CHG_REVCTL.REVEN, q.u8 0), (Reg.CHG_REVCTL.VMASK, q.u8 1),
          (Reg.CHG_REVCTL.PMAX, q.u8 2), (Reg.CHG_REVCTL.IMAX, q.u16 4 / 10)] e
        (bad → ReplyNo q 5 e u)
        ∧ (¬bad → Shows q 4 [(0, 1, t.rd Reg.CHG_REVSTAT.ACTIVE), (1, 1, t.rd Reg.CHG_REVSTAT.PORT),
          (2, 1, t.rd Reg.CHG_REVSTAT.CAUSE), (3, 1, t.rd Reg.CHG_REVSTAT.LOCKOUT0 + 2 * t.rd Reg.CHG_REVSTAT.LOCKOUT1)] t u))
    ∧ Serves Instr.getThermal 0x0501 (fun q e u =>
        ShowsAll q 4 4 [(0, 1, e.rd Reg.THM_STAT.LEVEL), (1, 1, e.rd Reg.THM_STAT.PROCHOT), (2, 1, e.kpf.policy),
          (3, 1, kRead e Reg.FAN_STAT.STALLED)] (List.range 20) (fun n => [(0, 2, e.rd (Reg.THM_TEMP.TEMP n)),
          (2, 1, e.rd (Reg.THM_TEMP.LEVEL n)), (3, 1, e.rd (Reg.THM_TEMP.FAULT n))]) e u)
    ∧ Serves Instr.getFans 0x0502 (fun q e u =>
        ShowsAll q 0 12 [] (List.range 4) (fun n => [(0, 1, kRead e (Reg.FAN_STATn.STATE n)),
          (1, 1, kRead e (Reg.FAN_STATn.CAUSE n)), (2, 1, kRead e (Reg.FAN_STATn.TRIES n)),
          (3, 1, (kRead e (Reg.FAN_STATn.TACHLOST n) == 1).toNat + 2 * (kRead e (Reg.FAN_STATn.FORCED n) == 1).toNat),
          (4, 2, kRead e (Reg.FAN_SPD.TRPM n)), (6, 2, kRead e (Reg.FAN_SPD.RRPM n)), (8, 2, kRead e (Reg.FAN_OUT.VOUT n)),
          (10, 2, kRead e (Reg.FAN_OUT.IOUT n))]) e u)
    ∧ Serves Instr.setFan 0x0503 (fun q e u =>
        let n := q.u8 0
        let bad := 3 < n ∨ 3 < q.u8 1 ∨ (q.u8 1 = 1 ∧ 16383 < q.u16 2)
        (bad → ReplyNo q 5 e u)
        ∧ (¬bad → ReplyOk q [] (kField (Reg.FAN_CTRL.MODE n) (q.u8 1) (match q.u8 1 with
          | 1 => kField (Reg.FAN_VOLT.VSET n) (q.u16 2) e
          | 2 => kField (Reg.FAN_TGT.TGT n) (q.u16 2) e
          | 3 => loadCurve (if e.kpf.policy = 2 then 2 else e.kpf.profile) n (kpfScan 0x380000 0x40000 e)
          | _ => e)) u))
    ∧ Serves Instr.clearStall 0x0504 (fun q e u =>
        (3 < q.u8 0 → ReplyNo q 5 e u)
        ∧ (q.u8 0 ≤ 3 → ReplyOk q [] (kField (Reg.FAN_CTRL.CLR (q.u8 0)) 1 e) u))
    ∧ Serves Instr.setProfile 0x0505 (fun q e u =>
        (2 < q.u8 0 → ReplyNo q 5 e u)
        ∧ (q.u8 0 ≤ 2 → ∃ t, ReplyOk q [] t u ∧ t = setProfile (q.u8 0) e ∧ t.kpf.profile = q.u8 0))
    ∧ Serves Instr.getKbdConfig 0x0601 (fun q e u =>
        Shows q 12 [(0, 1, e.rd Reg.KSC_GEOM.NDRV), (1, 1, e.rd Reg.KSC_DEB.DBPRESS),
          (2, 1, e.rd Reg.KSC_DEB.DBREL), (3, 1, e.rd Reg.KSC_STUCKCFG.STUCKTO), (4, 4, e.rd Reg.KSC_SENSEEN.SENSEEN),
          (8, 4, e.rd Reg.KSC_NODIODE.NODIODE)] e u)
    ∧ Serves Instr.setStuck 0x0602 (fun q e u =>
        let w := writeSetting 0x0052 (q.body.take 100) false (loadStuck q.body e)
        (if w.1 then ReplyOk q [] w.2 u else ReplyNo q 12 w.2 u))
    ∧ Serves Instr.lock 0x0603 (fun q e u =>
        ReplyOk q [] (kField Reg.KSC_LOCKCTL.LOCK 1 e) u)
    ∧ Serves Instr.unlockSigned 0x0604 (fun q e u =>
        let tok := q.body.take 272
        let t := checkToken tok e
        (tokKind tok ≠ 6 → ReplyNo q 5 e u)
        ∧ (tokKind tok = 6 →
          (t.on Reg.SEC_TOKCTL.KEYOK = true →
            ReplyOk q [0] (kField Reg.SEC_TOKCTL.KEYOK 1 (kField Reg.KSC_LOCKCTL.UNLOCK 1 t)) u)
          ∧ (t.on Reg.SEC_TOKCTL.KEYOK = false → u = kAnswer q.tag 6 (b1 (t.rd Reg.SEC_TOKCTL.RESULT)) false t)))
    ∧ Serves Instr.setUnlockSeq 0x0605 (fun q e u =>
        let bad := 8 < q.u8 0 ∨ ∃ k, k < 8 ∧ ∃ i, i < 4 ∧ 1023 < q.u16 (4 + 12 * k + 2 * i)
        let w := writeSetting 0x0050 (q.body.take 100) false (loadSequence q.body e)
        (kbdLocked e = true → ReplyNo q 6 e u)
        ∧ (kbdLocked e = false → (bad → ReplyNo q 5 e u)
          ∧ (¬bad → (if w.1 then ReplyOk q [] w.2 u else ReplyNo q 12 w.2 u))))
    ∧ Serves Instr.getLighting 0x0701 (fun q e u =>
        let t := if luxOn e then kCollect [Reg.LUX_CNT.REPEAT, Reg.LUX_CNT.LATE, Reg.LUX_CNT.PAR] e else e
        let f (x : Field) : Nat := if luxOn t then t.rd x else 0
        let b (x : Field) (k : Nat) : Nat := (f x == 1).toNat * 2 ^ k
        Shows q 28 [(0, 1, (luxOn t).toNat + b Reg.LUX_STAT.RUNNING 1 + b Reg.LUX_STAT.PENDING 2
            + b Reg.LUX_STAT.SYNCLOST 3 + b Reg.LUX_STAT.VLEDOV 4 + b Reg.LUX_STAT.ATMAX 5),
          (1, 1, f Reg.LUX_STAT.BACK), (2, 1, f Reg.CHN_STAT.STATE), (3, 1, f Reg.CHN_STAT.CV),
          (4, 4, f Reg.LUX_FRAME.FRAME), (8, 2, f Reg.CHN_STAT.EPOCH), (10, 1, f Reg.CHN_STAT.NFOUND), (11, 1, 0),
          (12, 2, f Reg.LUX_DERSTAT.FACTOR), (14, 2, 0), (16, 4, kSum t Reg.LUX_CNT.REPEAT),
          (20, 4, kSum t Reg.LUX_CNT.LATE), (24, 4, kSum t Reg.LUX_CNT.PAR)] t u)
    ∧ Serves Instr.setLighting 0x0702 (fun q e u =>
        let bad := 15 < q.u8 0 ∨ 3 < q.u8 1 ∨ 2047 < q.u16 2 ∨ 2 ^ 24 ≤ q.u32 4
        (bad → ReplyNo q 5 e u)
        ∧ (¬bad → luxOn e = true → ReplyOk q [] (withKpf (fun k => { k with brightDue := false }) (setLighting q.body e)) u)
        ∧ (¬bad → luxOn e = false → q.u8 0 % 2 = 1 → u = withKpf (fun k => { k with
          wait := some { tag := q.tag, code := 0x0702, data := q.body.take 8 }, brightDue := false }) (busWrite e 0x40000010 1))
        ∧ (¬bad → luxOn e = false → q.u8 0 % 2 = 0 → ReplyOk q [] e u))
    ∧ Serves Instr.setLampRegion 0x0703 (fun q e u =>
        let r := q.u8 0
        let bad := 15 < r ∨ 3 < q.u8 1 ∨ 1023 < q.u16 2 ∨ 32767 < q.u16 4 ∨ 1 < q.u8 8
        (bad → ReplyNo q 5 e u) ∧ (¬bad → luxOn e = false → ReplyNo q 2 e u)
        ∧ (¬bad → luxOn e = true → ReplyOk q [] (kWrite (Reg.LUX_LAMPB.COUNT r).addr [(Reg.LUX_LAMPB.COUNT r, q.u16 6),
            (Reg.LUX_LAMPB.FADET r, q.u16 2), (Reg.LUX_LAMPB.CURVE r, q.u8 8)]
          (kWrite (Reg.LUX_LAMPA.START r).addr [(Reg.LUX_LAMPA.START r, q.u16 4), (Reg.LUX_LAMPA.WIDTH r, q.u8 1)] e)) u))
    ∧ Serves Instr.setCcm 0x0704 (fun q e u =>
        (63 < q.u8 0 → ReplyNo q 5 e u) ∧ (q.u8 0 ≤ 63 → luxOn e = false → ReplyNo q 2 e u)
        ∧ (q.u8 0 ≤ 63 → luxOn e = true → ReplyOk q [] ((List.range 9).foldl (fun t k =>
          kField (Reg.LUX_CCM.COEF (q.u8 0) k) (q.u16 (2 + 2 * k)) t) e) u))
    ∧ Serves Instr.setChainDriver 0x0705 (fun q e u =>
        let j := q.u8 0
        let bad := 63 < j ∨ 1 < q.u8 1 ∨ 1023 < q.u16 2 ∨ 32767 < q.u16 4
        (bad → ReplyNo q 5 e u) ∧ (¬bad → luxOn e = false → ReplyNo q 2 e u)
        ∧ (¬bad → luxOn e = true → ReplyOk q [] ((List.range 4).foldl (fun t k =>
            kField (Reg.CHN_DPAR.PARAM j k) (q.u32 (8 + 4 * k)) t)
          (kWrite (Reg.CHN_DCFG.BASE j).addr [(Reg.CHN_DCFG.BASE j, q.u16 4), (Reg.CHN_DCFG.EN j, q.u8 1),
            (Reg.CHN_DCFG.NCH j, q.u16 2)] e)) u))
    ∧ Serves Instr.chainCommit 0x0706 (fun q e u =>
        (luxOn e = false → ReplyNo q 2 e u)
        ∧ (luxOn e = true → ReplyJob q 0x0706 (e.rd Reg.LUX_FRAME.FRAME) (e.rd Reg.CHN_STAT.EPOCH) []
          (kField Reg.CHN_CTRL.COMMIT 1 e) u))
    ∧ Serves Instr.getChain 0x0707 (fun q e u =>
        let n := min 56 (e.rd Reg.CHN_STAT.NFOUND - q.u8 0)
        let r := ((List.range n).map (q.u8 0 + ·)).foldl chainEntry ([], e)
        (luxOn e = false → ReplyNo q 2 e u)
        ∧ (luxOn e = true → ∃ resp, ReplyOk q resp r.2 u ∧ resp.drop 8 = r.1 ∧ natAt resp 4 1 = n
          ∧ natAt resp 0 1 = e.rd Reg.CHN_STAT.NFOUND % 256 ∧ natAt resp 2 2 = e.rd Reg.CHN_STAT.EPOCH % 65536))
    ∧ Serves Instr.getDiag 0x0708 (fun q e u =>
        let a := q.u16 0
        let n := q.u16 2
        let bad := n = 0 ∨ 768 < n ∨ 768 < a + n
        (bad → ReplyNo q 5 e u) ∧ (¬bad → luxOn e = false → ReplyNo q 2 e u)
        ∧ (¬bad → luxOn e = true → ∃ resp, ReplyOk q resp e u ∧ Layout (4 + (n + 3) / 4) [(0, 2, a), (2, 2, n)] resp
          ∧ ∀ i, i < n → (∀ k, diagOf e k < 4) → natAt resp (4 + i / 4) 1 / 4 ^ (i % 4) % 4 = diagOf e (a + i)))
    ∧ Serves Instr.clearDiag 0x0709 (fun q e u =>
        let c := q.u16 0
        (c = 0xFFFF → luxOn e = true → ReplyOk q [] (kField Reg.LUX_DIAGCLR.ALL 1 e) u)
        ∧ (767 < c → c ≠ 0xFFFF → ReplyNo q 5 e u)
        ∧ (c ≤ 767 → luxOn e = true → ReplyOk q [] (kField Reg.LUX_DIAGCLR.CH c e) u)
        ∧ (c ≤ 767 ∨ c = 0xFFFF → luxOn e = false → ReplyNo q 2 e u))

/-- Each command, when accepted, answers with the fields of its table at their offsets or does what its table says, or is
refused: a module that is not admitted NOT_PRESENT, a battery switch DENIED, a token of KIND 6 BAD_PARAM, no report
NOT_PRESENT, RETIRED without an identity key, a promotion that runs BUSY, a sequencer that refuses FAULTED, a piece of
a host that is no member BUSY_OTHER, no APPLIED package NOT_PRESENT, a record that is refused BUSY, a reserved key
BAD_PARAM, a KPF key of a sealed host or of KPF alone DENIED, an unknown one NOT_PRESENT. Key 0x0052, PIECE without an
open session and DELETE of an absent key are the model's choices (assumption log 50 and 83). Choices of the model:
assumption log 35, 65, 80, 81, 83, 84, 91, 113.
Cites: R393, R394, R395, R396, R397, R398. -/
def Obligations.KpfSecurityAndUpdateCommands : Prop :=
  Serves Instr.getModules 0x0801 (fun q e u =>
        let all := e.kpf.modules.filter (·.phase != .newcomer)
        ShowsAll q 4 16 [(0, 1, all.length), (1, 1, min 30 (all.length - q.u8 0)), (2, 2, 0)] ((all.drop (q.u8 0)).take 30)
          (fun m => [(0, 1, m.port), (1, 1, m.id), (2, 1, m.cls), (3, 1, modState e m), (4, 1, m.reason),
            (5, 1, m.rejects), (6, 2, 0), (8, 8, m.uid)]) e u)
    ∧ Serves Instr.moduleRead 0x0802 (fun q e u =>
        let p := q.u8 0
        let w : KpfWait := { tag := q.tag, code := 0x0802, port := p, id := q.u8 1, obj := q.u8 2, due := e.tbase + 150000 }
        (1 < p → ReplyNo q 5 e u) ∧ (p ≤ 1 → feature e (5 + p) = false → ReplyNo q 11 e u)
        ∧ (p ≤ 1 → feature e (5 + p) = true →
          (admitted e p (q.u8 1) = none → ReplyNo q 7 e u)
          ∧ (admitted e p (q.u8 1) ≠ none → u = tryModule (withKpf (fun k => { k with wait := some w }) e)
            ∧ (canSend e p = false → u.kpf.wait = some w))))
    ∧ Serves Instr.moduleWrite 0x0803 (fun q e u =>
        let p := q.u8 0
        let n := q.u8 3
        let w : KpfWait := { tag := q.tag, code := 0x0803, port := p, id := q.u8 1, obj := q.u8 2, due := e.tbase + 150000
                             data := (q.body.drop 4).take n }
        (n = 0 ∨ 62 < n ∨ 1 < p → ReplyNo q 5 e u)
        ∧ (1 ≤ n → n ≤ 62 → p ≤ 1 → feature e (5 + p) = true →
          (admitted e p (q.u8 1) = none → ReplyNo q 7 e u)
          ∧ ∀ m, admitted e p (q.u8 1) = some m →
            (m.cls = 1 → q.u8 2 = 0x0A → ReplyNo q 6 e u)
            ∧ (m.cls ≠ 1 ∨ q.u8 2 ≠ 0x0A → u = tryModule (withKpf (fun k => { k with wait := some w }) e))))
    ∧ Serves Instr.rediscover 0x0804 (fun q e u =>
        let p := q.u8 0
        (1 < p → ReplyNo q 5 e u) ∧ (p ≤ 1 → feature e (5 + p) = false → ReplyNo q 11 e u)
        ∧ (p ≤ 1 → feature e (5 + p) = true →
          (canSend e p = true → ReplyOk q [] (discoverPort p true e) u)
          ∧ (canSend e p = false →
            ReplyOk q [] (withKpf (fun k => { k with restarted := k.restarted.filter (· != p) }) e) u)))
    ∧ Serves Instr.getNonce 0x0901 (fun q e u =>
        let t := kField Reg.SEC_TOKCTL.NEWNONCE 1 e
        ReplyOk q (liveNonce t) t u ∧ (e.on Reg.SEC_TRNGSTAT.FAIL = true → liveNonce t = List.replicate 16 0))
    ∧ Serves Instr.submitToken 0x0902 (fun q e u =>
        let tok := q.body.take 272
        let t := checkToken tok (kField Reg.SEC_EVT.REFUSED 1 e)
        (tokKind tok = 6 → ReplyNo q 5 e u)
        ∧ (2 ≤ tokKind tok → tokKind tok ≤ 4 → ∃ t, ReplyJob q 0x0902 0 0 tok e t ∧ u = afterSubmit 1 t)
        ∧ (tokKind tok < 2 ∨ tokKind tok = 5 ∨ 6 < tokKind tok →
          (t.rd Reg.SEC_TOKCTL.RESULT = 0 → t.on Reg.SEC_EVT.REFUSED = false →
            ∃ x, ReplyOk q (tokenEnd t) t x ∧ u = afterSubmit 0 x)
          ∧ (t.rd Reg.SEC_TOKCTL.RESULT ≠ 0 ∨ t.on Reg.SEC_EVT.REFUSED = true →
            u = afterSubmit 6 (kAnswer q.tag 6 (tokenEnd t) false t))))
    ∧ Serves Instr.attest 0x0903 (fun q e u =>
        ∃ t, ReplyJob q 0x0903 0 0 (q.body.take 32) (withKpf (fun k => { k with report := none }) e) t
          ∧ u = attestEnds t)
    ∧ Serves Instr.getReport 0x0904 (fun q e u =>
        (e.kpf.report = none → ReplyNo q 7 e u)
        ∧ ∀ rep, e.kpf.report = some rep →
          (rep.length ≤ q.u16 0 → ReplyNo q 5 e u)
          ∧ (q.u16 0 < rep.length → ∃ resp, ReplyOk q resp e u ∧ resp.drop 4 = (rep.drop (q.u16 0)).take 480
            ∧ natAt resp 0 2 = q.u16 0 % 65536 ∧ natAt resp 2 2 = min 480 (rep.length - q.u16 0)))
    ∧ Serves Instr.getIdentityKey 0x0905 (fun q e u =>
        (lcs e = 4 → ReplyNo q 7 e u)
        ∧ (lcs e ≠ 4 → ∃ resp, ReplyOk q resp e u ∧ natAt resp 0 8 = e.sec.fuses.devid.toNat % 2 ^ 64
          ∧ ∀ k, k < 24 → natAt resp (8 + 4 * k) 4 = e.rd (Reg.SEC_IKPUB.IKPUB k) % 2 ^ 32))
    ∧ Serves Instr.getLifeCycle 0x0906 (fun q e u =>
        Shows q 8 [(0, 1, lcs e), (1, 1, e.rd Reg.SEC_LCS.SVCCNT), (2, 1, e.rd Reg.SEC_FUSESTAT.FWARB),
          (3, 1, e.rd Reg.SEC_FUSESTAT.HOSTARB), (4, 1, e.rd Reg.SEC_FUSESTAT.OEMPROG), (5, 1, e.rd Reg.SEC_FUSESTAT.OEMREV),
          (6, 1, (e.on Reg.SEC_LCS.DBGOPEN).toNat + 2 * (e.on Reg.SEC_LCS.DBGOPENED).toNat), (7, 1, 0)] e u)
    ∧ Serves Instr.getFlashStatus 0x0A01 (fun q e u =>
        let rs := (List.range 16).filter fun r => e.on (Reg.FGD_REGSTAT.VALID r)
        ShowsAll q 20 16 [(0, 1, e.rd Reg.FGD_STAT.VERDICT), (1, 1, e.rd Reg.FGD_STAT.FAILCAUSE),
          (2, 1, e.rd Reg.FGD_STAT.ACTMAN), (3, 1, (e.on Reg.FGD_STAT.SPAREVALID).toNat), (4, 1, e.rd Reg.FGD_STAT.PROMO),
          (5, 1, rs.length), (6, 2, 0), (8, 4, e.rd Reg.FGD_TOP.TOP), (12, 4, e.rd Reg.FGD_ACTSEQ.MSEQ),
          (16, 4, e.rd Reg.FGD_SPARESEQ.MSEQ)] rs (fun r => [(0, 2, e.rd (Reg.FGD_REGSTAT.REGION r)),
          (2, 1, e.rd (Reg.FGD_REGSTAT.STATE r)), (3, 1, e.rd (Reg.FGD_REGSTAT.RSTATE r)),
          (4, 1, (e.on (Reg.FGD_REGSTAT.COPY r)).toNat + 2 * (e.on (Reg.FGD_REGSTAT.REQ r)).toNat), (5, 3, 0),
          (8, 4, e.rd (Reg.FGD_REGHB.HBASE r)), (12, 4, e.rd (Reg.FGD_REGLEN.LEN r))]) e u)
    ∧ Serves Instr.promote 0x0A02 (fun q e u =>
        let v := e.rd Reg.FGD_STAT.VERDICT
        (e.rd Reg.FGD_STAT.PROMO = 1 → ReplyNo q 2 e u)
        ∧ (e.rd Reg.FGD_STAT.PROMO ≠ 1 → v ≠ 1 → v ≠ 2 → ReplyNo q 12 e u)
        ∧ (e.rd Reg.FGD_STAT.PROMO ≠ 1 → v = 1 ∨ v = 2 →
          ReplyJob q 0x0A02 0 0 [] (kField Reg.FGD_PROMO.GO 1 (kField Reg.FGD_EVT.PROMODONE 1 e)) u))
    ∧ Serves Instr.cancelPromote 0x0A03 (fun q e u =>
        ReplyOk q [] (kField Reg.FGD_PROMO.CANCEL 1 e) u)
    ∧ Serves Instr.confirmBoot 0x0A04 (fun q e u =>
        let target := hostTarget e
        let t := kWrite Reg.SEC_ARBADV.HOSTTGT.addr [(Reg.SEC_ARBADV.HOSTTGT, target), (Reg.SEC_ARBADV.GOHOST, 1)] e
        (e.fgd.act.regions = [] → ReplyNo q 12 e u)
        ∧ (e.fgd.act.regions ≠ [] → e.sec.seq.isSome = true ∨ lcs e = 4 ∨ t.rd Reg.SEC_FUSESTAT.HOSTARB < target →
          ReplyNo q 12 t u)
        ∧ (e.fgd.act.regions ≠ [] → e.sec.seq = none → lcs e ≠ 4 → target ≤ t.rd Reg.SEC_FUSESTAT.HOSTARB →
          Shows q 1 [(0, 1, t.rd Reg.SEC_FUSESTAT.HOSTARB)] t u))
    ∧ Serves Instr.getDigest 0x0A05 (fun q e u =>
        let is (r : Nat) : Prop := r < 16 ∧ e.on (Reg.FGD_REGSTAT.VALID r) = true
            ∧ e.rd (Reg.FGD_REGSTAT.REGION r) = q.u16 0
        ((∀ r, ¬is r) → ReplyNo q 7 e u)
        ∧ ∀ r, is r → (∀ j, is j → j = r) →
          ShowsAll q 0 4 [] ((List.range 12).map fun k => e.rd (Reg.FGD_DIG.DIGEST r k)) (fun v => [(0, 4, v)]) e u)
    ∧ Serves Instr.sessionOpen 0x0B01 (fun q e u =>
        let r := sessionRequest (1, 0) (q.body.take 48) (q.u32 48) e
        let joins := sessionOpen e && sessionDigest e == q.body.take 48
        let t := withKpf (fun k => { k with autoAct := if joins then k.autoAct else q.u8 52 == 1 }) r.2
        (1 < q.u8 52 → ReplyNo q 5 e u)
        ∧ (q.u8 52 ≤ 1 → q.u32 48 < 256 ∨ 512000 < q.u32 48 → ReplyNo q 5 r.2 u)
        ∧ (q.u8 52 ≤ 1 → r.1 ≠ 0 → ReplyNo q r.1 r.2 u)
        ∧ (q.u8 52 ≤ 1 → r.1 = 0 → Shows q 8 [(0, 2, if sessionValid t then sessionPieces t else 0),
          (2, 2, (storedPieces t).length), (4, 1, sessionState t), (5, 3, 0)] t u))
    ∧ Serves Instr.piece 0x0B02 (fun q e u =>
        let e := kpfScan 0x37F000 4096 e
        let i := q.u16 0
        let off := q.u16 2
        let n := q.u16 4
        let outcome (v : Nat) (t : State) : Prop := ∃ x, Shows q 4 [(0, 1, v), (1, 1, 0), (2, 2, (storedPieces t).length)] t x
          ∧ u = completePackage x
        let refused (v : Nat) (t : State) : Prop := ∃ x, ReplyNo q v t x ∧ u = completePackage x
        let open_ := 1 ≤ n ∧ n ≤ 480 ∧ sessionOpen e = true
        let c := addChunk i (q.u32 8) off ((q.body.drop 12).take n) e
        (n = 0 ∨ 480 < n → refused 5 e) ∧ (1 ≤ n → n ≤ 480 → sessionOpen e = false → refused 7 e)
        ∧ (open_ → (1, 0) ∉ e.kpf.members → refused 8 e)
        ∧ (open_ → (1, 0) ∈ e.kpf.members →
          (sessionPieces e ≤ i ∨ pieceLen e i < off + n → refused 5 e)
          ∧ (i < sessionPieces e → off + n ≤ pieceLen e i →
            (pieceStored e i = true → outcome 2 (pieceOf i (q.u32 8) e))
            ∧ (pieceStored e i = false → c.kpf.piece.length < pieceLen c i → outcome 0 c)
            ∧ (pieceStored e i = false → pieceLen c i ≤ c.kpf.piece.length →
              let r := storePiece (1, 0) i (c.kpf.piece.map (·.2)) (q.u32 8) c
              let t := withKpf (fun k => { k with piece := [] }) r.2
              (r.1 = .stored → outcome 1 t) ∧ (r.1 = .refused → refused 5 t)))))
    ∧ Serves Instr.status 0x0B03 (fun q e u =>
        let e := kpfScan 0x37F000 4096 e
        let v := sessionValid e
        ∃ resp, ReplyOk q resp e u ∧ Layout 76 [(0, 1, sessionState e), (1, 1, if v then (sessionOwner e).1 else 0),
          (2, 2, if v then sessionPieces e else 0), (4, 2, (storedPieces e).length), (6, 2, 0),
          (8, 4, if sessionOpen e then (e.tbase - e.kpf.idleRef) / 1000000 else 0)] resp
          ∧ (v = true → (resp.drop 12).take 48 = sessionDigest e)
          ∧ ∀ i, i < 128 → (natAt resp 60 16).testBit i = decide (i ∈ storedPieces e))
    ∧ Serves Instr.activate 0x0B04 (fun q e u =>
        let e := kpfScan 0x37F000 4096 e
        let applied := sessionValid e && marked e mkApplied
        (applied = false → ReplyNo q 7 e u) ∧ (applied = true → bootStateIs e 2 = true → ReplyNo q 2 e u)
        ∧ (applied = true → bootStateIs e 2 = false →
          ∃ t, ReplyJob q 0x0B04 0 0 [] e t ∧ u = Sys2Proof.Machine.activate t))
    ∧ Serves Instr.cancel 0x0B05 (fun q e u =>
        let e := kpfScan 0x37F000 4096 e
        let clear := e.firnWord (0x37F050 / 8 + mkCancelled) = erasedWord
        (sessionOpen e = false → ReplyNo q 7 e u)
        ∧ (sessionOpen e = true → clear → ∃ t, ReplyOk q [] t u ∧ marked t mkCancelled = true ∧ sessionOpen t = false)
        ∧ (sessionOpen e = true → ¬clear → ReplyNo q 12 (mark mkCancelled e) u))
    ∧ Serves Instr.confirm 0x0B06 (fun q e u =>
        (onTrial e = false → ReplyNo q 7 e u) ∧ (onTrial e = true → ReplyOk q [] (confirmSlot e) u))
    ∧ Serves Instr.getLogInfo 0x0C01 (fun q e u =>
        let t := kCollect [Reg.LOG_CNT.DROPCORE, Reg.LOG_CNT.DROPHW] e
        Shows q 12 [(0, 2, t.rd Reg.LOG_STAT.HEAD), (2, 1, t.log.front.length), (3, 1, 0), (4, 4, kSum t Reg.LOG_CNT.DROPCORE),
          (8, 4, kSum t Reg.LOG_CNT.DROPHW)] t u)
    ∧ Serves Instr.readLog 0x0C02 (fun q e u =>
        let a := q.u16 0
        let bad := 8191 < a ∨ q.u8 2 = 0 ∨ 15 < q.u8 2
        let f := flushLog 64 e
        let ks := logRun f (q.u8 2) a
        (bad → ReplyNo q 5 e u)
        ∧ (¬bad → ∃ resp t, ReplyOk q resp t u ∧ t.firn = f.firn ∧ t.mem = f.mem
          ∧ Layout (4 + 32 * ks.length) [(0, 1, ks.length), (1, 1, 0), (2, 2, (a + ks.length) % 8192)] resp
          ∧ ∀ i k, ks[i]? = some k → k = (a + i) % 8192 ∧ partOf resp 4 32 i = f.firnBytes (0x3C0000 + 32 * k) 32))
    ∧ Serves Instr.writeLog 0x0C03 (fun q e u =>
        let full := 56 ≤ e.log.front.length
        (3 < q.u8 0 → ReplyNo q 5 e u)
        ∧ (q.u8 0 ≤ 3 → full → ∃ t, ReplyNo q 2 t u ∧ t.rd Reg.LOG_STAT.REFUSED = 1 ∧ t.log.front = e.log.front)
        ∧ (q.u8 0 ≤ 3 → ¬full → ∃ t r, ReplyOk q [] t u ∧ t.log.front = e.log.front ++ [r] ∧ r.source = 0xC0
          ∧ r.sev = q.u8 0 ∧ r.code = q.u16 2 ∧ r.tbase = e.tbase))
    ∧ Serves Instr.getSetting 0x0D01 (fun q e u =>
        let key := q.u16 0
        let v := ((settingOf e key).getD (settingDefault key)).take 488
        (0xC000 ≤ key → ReplyNo q 5 e u)
        ∧ (key < 0xC000 → ∃ resp, ReplyOk q resp (kpfScan 0x380000 0x40000 e) u ∧ resp.drop 8 = v ∧ Layout (8 + v.length) [(0, 2, key), (2, 1, ownFmt e key),
          (3, 1, (settingOf e key).isNone.toNat), (4, 2, v.length), (6, 2, 0)] resp))
    ∧ Serves Instr.setSetting 0x0D02 (fun q e u =>
        let key := q.u16 0
        let v : List Byte := ((q.body.drop 4).take (q.u16 2))
        let w := writeSetting key v false e
        (0xC000 ≤ key → ReplyNo q 5 e u)
        ∧ (key < 0x8000 → e.kpf.sealed = true ∨ key = 0x0050 ∨ key = 0x0051 ∨ key = 0x0052 → ReplyNo q 6 e u)
        ∧ (key < 0x8000 → e.kpf.sealed = false → key ∉ [0x0010, 0x0020, 0x0030, 0x0040, 0x0050, 0x0051, 0x0052] →
          ReplyNo q 7 e u)
        ∧ ((0x8000 ≤ key ∧ key < 0xC000) ∨ (e.kpf.sealed = false ∧ key ∈ [0x0010, 0x0020, 0x0030, 0x0040]) →
          (480 < q.u16 2 ∨ (key < 0x8000 ∧ valueGood key v = false) → ReplyNo q 5 e u)
          ∧ (q.u16 2 ≤ 480 → 0x8000 ≤ key ∨ valueGood key v = true →
            (if w.1 then ReplyOk q [] (if key = 0x0020 then chargeApply (takeLimits w.2) else w.2) u
              else ReplyNo q 12 w.2 u))))
    ∧ Serves Instr.deleteSetting 0x0D03 (fun q e u =>
        let key := q.u16 0
        let v : List Byte := []
        let w := writeSetting key v true (kpfScan 0x380000 0x40000 e)
        (0xC000 ≤ key → ReplyNo q 5 e u)
        ∧ (key < 0x8000 → e.kpf.sealed = true ∨ key = 0x0050 ∨ key = 0x0051 ∨ key = 0x0052 → ReplyNo q 6 e u)
        ∧ (key < 0x8000 → e.kpf.sealed = false → key ∉ [0x0010, 0x0020, 0x0030, 0x0040, 0x0050, 0x0051, 0x0052] →
          ReplyNo q 7 e u)
        ∧ ((0x8000 ≤ key ∧ key < 0xC000) ∨ (e.kpf.sealed = false ∧ key ∈ [0x0010, 0x0020, 0x0030, 0x0040]) →
          ((settingOf e key).isNone = true → ReplyNo q 7 (kpfScan 0x380000 0x40000 e) u)
          ∧ ((settingOf e key).isSome = true →
            (if w.1 then ReplyOk q [] (if key = 0x0020 then chargeApply (takeLimits w.2) else w.2) u
              else ReplyNo q 12 w.2 u))))

/-- After a core reset for any cause from any state, and in the state after reset, D0 to D15, A0 to A6, Q0 and Q1 are
zero, A7 is 0x2010_0000, PC is in the boot ROM, the core is in privileged mode and is not halted by WAIT.
Cites: R409. -/
def Obligations.ResetValues : Prop :=
  StartsAfresh State.reset.cpu ∧ ∀ (cause : Field) (s : State), StartsAfresh (coreReset cause s).cpu

/-- In the state after reset the registers, the memory and the Firn store are in canonical form, so that CanonicalKept
applies from there; memory and the Firn store list nothing and the queue is empty. The canonical form is the model's
own. Choices of the model: assumption log 9, 10, 17.
Cites: 01_architecture.md. -/
def Obligations.CanonicalReset : Prop :=
  Canonical State.reset ∧ State.reset.mem = [] ∧ State.reset.firn = [] ∧ State.reset.pending = []

/-- From every state whose register table, memory and Firn store are in canonical form (keys strictly rise, no entry
equals what an unlisted key reads as), whatever command stands at the front of the queue and also when none does, a
step leads to such a state. So equal contents are equal data in every state that a run reaches. The canonical form is
the model's own. Choices of the model: assumption log 1.
Cites: 01_architecture.md, R5, R38, R43. -/
def Obligations.CanonicalKept : Prop :=
  ∀ s t : State, Canonical s → step s = .next t → Canonical t

/-- From every state, whatever command stands at the front of the queue and also when none does, a step leaves DEVID as it
is, and every life-cycle fuse, every set bit of SVC, FWARB and HOSTARB, every revocation and every programmed slot
hash as burned as it was: life-cycle fuses go from 0 to 1 only, the counters do not fall, a slot that holds a hash
keeps it. Resets and power cycles of every depth are steps too.
Cites: R298, R301, R302, R303. -/
def Obligations.FusesOnlyBurn : Prop :=
  ∀ s t : State, step s = .next t → s.sec.fuses.burntIn t.sec.fuses
end

