-- ==== Sys2Proof/Laws/Sparse.lean ====
section
/-! SUPPORT. Laws of the sparse tables: what a read gives after a write, and that every operation keeps the canonical
form. -/

namespace Sys2Proof.Machine.Sparse

variable {α : Type}

/-! ### Reading back -/

@[simp] theorem get_nil (d : α) (k : Nat) : get d k [] = d := rfl

theorem get_erase_self (d : α) (k : Nat) (l : List (Nat × α)) : get d k (erase k l) = d := by
  induction l with
  | nil => rfl
  | cons p l ih =>
    obtain ⟨j, v⟩ := p
    by_cases h : j = k
    · simpa [erase, h] using ih
    · simp [erase, h, get, ih]

theorem get_erase_of_ne (d : α) {j k : Nat} (h : j ≠ k) (l : List (Nat × α)) :
    get d j (erase k l) = get d j l := by
  induction l with
  | nil => rfl
  | cons p l ih =>
    obtain ⟨i, v⟩ := p
    by_cases hk : i = k
    · subst hk
      simp [erase, get, Ne.symm h, ih]
    · by_cases hj : i = j
      · subst hj; simp [erase, hk, get]
      · simp [erase, hk, get, hj, ih]

theorem get_insert_self (d : α) (k : Nat) (v : α) {l : List (Nat × α)} (h : ∀ p ∈ l, p.1 ≠ k) :
    get d k (insert k v l) = v := by
  induction l with
  | nil => simp [insert, get]
  | cons p l ih =>
    obtain ⟨j, w⟩ := p
    have hj : j ≠ k := h (j, w) (by simp)
    by_cases hlt : k < j
    · simp [insert, hlt, get]
    · simp [insert, hlt, get, hj, ih fun p hp => h p (by simp [hp])]

theorem get_insert_of_ne (d : α) {j k : Nat} (h : j ≠ k) (v : α) (l : List (Nat × α)) :
    get d j (insert k v l) = get d j l := by
  induction l with
  | nil => simp [insert, get, Ne.symm h]
  | cons p l ih =>
    obtain ⟨i, w⟩ := p
    by_cases hlt : k < i
    · simp [insert, hlt, get, Ne.symm h]
    · by_cases hj : i = j
      · subst hj; simp [insert, hlt, get]
      · simp [insert, hlt, get, hj, ih]

theorem erase_keys (k : Nat) (l : List (Nat × α)) : ∀ p ∈ erase k l, p.1 ≠ k := by
  induction l with
  | nil => simp [erase]
  | cons p l ih =>
    obtain ⟨j, v⟩ := p
    by_cases h : j = k
    · simpa [erase, h] using ih
    · simp only [erase, h, if_false, List.mem_cons, forall_eq_or_imp]
      exact ⟨h, ih⟩

/-- A read of the key just written gives the value written. -/
@[simp] theorem get_put_self [DecidableEq α] (d : α) (k : Nat) (v : α) (l : List (Nat × α)) :
    get d k (put d k v l) = v := by
  unfold put
  split
  · rename_i h; rw [get_erase_self, h]
  · exact get_insert_self d k v (erase_keys k l)

/-- A write leaves every other key as it was. -/
theorem get_put_of_ne [DecidableEq α] (d : α) {j k : Nat} (h : j ≠ k) (v : α) (l : List (Nat × α)) :
    get d j (put d k v l) = get d j l := by
  unfold put
  split
  · exact get_erase_of_ne d h l
  · rw [get_insert_of_ne d h, get_erase_of_ne d h]

/-- Reading after writing, both cases at once. -/
theorem get_put [DecidableEq α] (d : α) (j k : Nat) (v : α) (l : List (Nat × α)) :
    get d j (put d k v l) = if j = k then v else get d j l := by
  split
  · rename_i h; subst h; exact get_put_self d j v l
  · rename_i h; exact get_put_of_ne d h v l

/-- A cleared key reads as an unlisted one; the others keep their values. -/
theorem get_clearRange (d : α) (lo hi j : Nat) (l : List (Nat × α)) :
    get d j (clearRange lo hi l) = if lo ≤ j ∧ j < hi then d else get d j l := by
  induction l with
  | nil => simp [clearRange]
  | cons p l ih =>
    obtain ⟨i, v⟩ := p
    by_cases h : lo ≤ i ∧ i < hi
    · simp only [clearRange, h, and_self, if_true, ih, get]
      by_cases hj : i = j
      · subst hj; simp [h]
      · simp [hj]
    · simp only [clearRange, h, if_false, get, ih]
      by_cases hj : i = j
      · subst hj; simp [h]
      · simp [hj]

/-! ### The canonical form -/

/-- Rising keys, as a relation between every two entries. -/
theorem sorted_iff (l : List (Nat × α)) : sorted l = true ↔ l.Pairwise (fun a b => a.1 < b.1) := by
  induction l with
  | nil => simp [sorted]
  | cons p l ih =>
    obtain ⟨j, v⟩ := p
    cases l with
    | nil => simp [sorted]
    | cons q l =>
      obtain ⟨k, w⟩ := q
      simp only [sorted, Bool.and_eq_true, decide_eq_true_eq, List.pairwise_cons, ih]
      constructor
      · rintro ⟨h, h1, h2⟩
        refine ⟨?_, h1, h2⟩
        intro p hp
        rcases List.mem_cons.1 hp with rfl | hp
        · exact h
        · exact Nat.lt_trans h (h1 p hp)
      · rintro ⟨h, h1, h2⟩
        exact ⟨h (k, w) (by simp), h1, h2⟩

theorem wf_iff [DecidableEq α] (d : α) (l : List (Nat × α)) :
    wf d l = true ↔ l.Pairwise (fun a b => a.1 < b.1) ∧ ∀ p ∈ l, p.2 ≠ d := by
  simp [wf, sorted_iff]

@[simp] theorem wf_nil [DecidableEq α] (d : α) : wf d ([] : List (Nat × α)) = true := rfl

theorem erase_sublist (k : Nat) (l : List (Nat × α)) : (erase k l).Sublist l := by
  induction l with
  | nil => exact List.Sublist.slnil
  | cons p l ih =>
    obtain ⟨j, v⟩ := p
    by_cases h : j = k
    · simp only [erase, h, if_true]; exact ih.cons _
    · simp only [erase, h, if_false]; exact ih.cons_cons _

theorem clearRange_sublist (lo hi : Nat) (l : List (Nat × α)) : (clearRange lo hi l).Sublist l := by
  induction l with
  | nil => exact List.Sublist.slnil
  | cons p l ih =>
    obtain ⟨j, v⟩ := p
    by_cases h : lo ≤ j ∧ j < hi
    · simp only [clearRange, h, and_self, if_true]; exact ih.cons _
    · simp only [clearRange, h, if_false]; exact ih.cons_cons _

theorem wf_of_sublist [DecidableEq α] {d : α} {l m : List (Nat × α)} (h : l.Sublist m) (hm : wf d m = true) :
    wf d l = true := by
  rw [wf_iff] at hm ⊢
  exact ⟨hm.1.sublist h, fun p hp => hm.2 p (h.subset hp)⟩

theorem mem_insert (k : Nat) (v : α) (l : List (Nat × α)) (p : Nat × α) :
    p ∈ insert k v l ↔ p = (k, v) ∨ p ∈ l := by
  induction l with
  | nil => simp [insert]
  | cons q l ih =>
    obtain ⟨j, w⟩ := q
    by_cases h : k < j
    · simp [insert, h]
    · simp only [insert, h, if_false, List.mem_cons, ih]; exact or_left_comm

theorem pairwise_insert (k : Nat) (v : α) {l : List (Nat × α)} (hl : l.Pairwise (fun a b => a.1 < b.1))
    (hk : ∀ p ∈ l, p.1 ≠ k) : (insert k v l).Pairwise (fun a b => a.1 < b.1) := by
  induction l with
  | nil => simp [insert]
  | cons q l ih =>
    obtain ⟨j, w⟩ := q
    rw [List.pairwise_cons] at hl
    by_cases h : k < j
    · simp only [insert, h, if_true, List.pairwise_cons]
      refine ⟨?_, hl.1, hl.2⟩
      intro p hp
      rcases List.mem_cons.1 hp with rfl | hp
      · exact h
      · exact Nat.lt_trans h (hl.1 p hp)
    · simp only [insert, h, if_false, List.pairwise_cons]
      refine ⟨?_, ih hl.2 fun p hp => hk p (by simp [hp])⟩
      intro p hp
      rcases (mem_insert k v l p).1 hp with rfl | hp
      · have := hk (j, w) (by simp)
        simp only at this ⊢
        omega
      · exact hl.1 p hp

theorem wf_erase [DecidableEq α] {d : α} {l : List (Nat × α)} (k : Nat) (h : wf d l = true) :
    wf d (erase k l) = true := wf_of_sublist (erase_sublist k l) h

/-- A write keeps the canonical form. -/
theorem wf_put [DecidableEq α] {d : α} {l : List (Nat × α)} (k : Nat) (v : α) (h : wf d l = true) :
    wf d (put d k v l) = true := by
  unfold put
  split
  · exact wf_erase k h
  · rename_i hv
    have he := wf_erase (d := d) k h
    rw [wf_iff] at he ⊢
    refine ⟨pairwise_insert k v he.1 (erase_keys k l), ?_⟩
    intro p hp
    rcases (mem_insert k v _ p).1 hp with rfl | hp
    · exact hv
    · exact he.2 p hp

/-- Clearing a range keeps the canonical form. -/
theorem wf_clearRange [DecidableEq α] {d : α} {l : List (Nat × α)} (lo hi : Nat) (h : wf d l = true) :
    wf d (clearRange lo hi l) = true := wf_of_sublist (clearRange_sublist lo hi l) h

/-- Keeping some entries keeps the canonical form. -/
theorem wf_filter [DecidableEq α] {d : α} {l : List (Nat × α)} (f : Nat × α → Bool) (h : wf d l = true) :
    wf d (l.filter f) = true := wf_of_sublist List.filter_sublist h

theorem mem_merge (n : Nat) (a b : List (Nat × α)) (p : Nat × α) (h : p ∈ merge n a b) : p ∈ a ∨ p ∈ b := by
  induction n generalizing a b with
  | zero => exact .inl h
  | succ n ih =>
    match a, b with
    | [], b => exact .inr (by simpa [merge] using h)
    | x :: a, [] => exact .inl (by simpa [merge] using h)
    | (j, v) :: a, (k, w) :: b =>
      simp only [merge] at h
      split at h
      · rcases List.mem_cons.1 h with rfl | h
        · simp
        · rcases ih _ _ h with h | h
          · simp [h]
          · exact .inr h
      · split at h
        · rcases List.mem_cons.1 h with rfl | h
          · simp
          · rcases ih _ _ h with h | h
            · exact .inl h
            · simp [h]
        · rcases List.mem_cons.1 h with rfl | h
          · simp
          · rcases ih _ _ h with h | h
            · simp [h]
            · simp [h]

theorem pairwise_merge (n : Nat) (a b : List (Nat × α)) (ha : a.Pairwise (fun a b => a.1 < b.1))
    (hb : b.Pairwise (fun a b => a.1 < b.1)) : (merge n a b).Pairwise (fun a b => a.1 < b.1) := by
  induction n generalizing a b with
  | zero => exact ha
  | succ n ih =>
    match a, b with
    | [], b => simpa [merge] using hb
    | x :: a, [] => simpa [merge] using ha
    | (j, v) :: a, (k, w) :: b =>
      have ha' := List.pairwise_cons.1 ha
      have hb' := List.pairwise_cons.1 hb
      simp only [merge]
      split
      · rename_i h
        refine List.pairwise_cons.2 ⟨?_, ih _ _ ha'.2 hb⟩
        intro p hp
        rcases mem_merge _ _ _ _ hp with hp | hp
        · exact ha'.1 p hp
        · rcases List.mem_cons.1 hp with rfl | hp
          · exact h
          · exact Nat.lt_trans h (hb'.1 p hp)
      · split
        · rename_i h
          refine List.pairwise_cons.2 ⟨?_, ih _ _ ha hb'.2⟩
          intro p hp
          rcases mem_merge _ _ _ _ hp with hp | hp
          · rcases List.mem_cons.1 hp with rfl | hp
            · exact h
            · exact Nat.lt_trans h (ha'.1 p hp)
          · exact hb'.1 p hp
        · rename_i h1 h2
          have hjk : j = k := by omega
          subst hjk
          refine List.pairwise_cons.2 ⟨?_, ih _ _ ha'.2 hb'.2⟩
          intro p hp
          rcases mem_merge _ _ _ _ hp with hp | hp
          · exact ha'.1 p hp
          · exact hb'.1 p hp

/-- A merge of canonical tables is canonical. -/
theorem wf_merge [DecidableEq α] {d : α} {a b : List (Nat × α)} (n : Nat) (ha : wf d a = true)
    (hb : wf d b = true) : wf d (merge n a b) = true := by
  rw [wf_iff] at ha hb ⊢
  refine ⟨pairwise_merge n a b ha.1 hb.1, ?_⟩
  intro p hp
  rcases mem_merge _ _ _ _ hp with h | h
  · exact ha.2 p h
  · exact hb.2 p h

/-- A run of writes keeps the canonical form. -/
theorem wf_putMany [DecidableEq α] {d : α} (vs : List α) (k : Nat) {l : List (Nat × α)} (h : wf d l = true) :
    wf d (putMany d k vs l) = true := by
  induction vs generalizing k l with
  | nil => exact h
  | cons v vs ih => exact ih (k + 1) (wf_put k v h)

end Sys2Proof.Machine.Sparse
end

