-- ==== Sys2Proof/Laws/State.lean ====
section
/-! SUPPORT. Reading a state after each named update (Machine/Ops.lean): one lemma per field per update, and what a
register field, a byte and a Firn word read after each of them. -/

namespace Sys2Proof.Machine

variable (s : State)

/-! ### Fields of the state -/

@[simp] theorem State.wr_mem (f : Field) (v : Nat) : (s.wr f v).mem = s.mem := rfl
@[simp] theorem State.wr_badBytes (f : Field) (v : Nat) : (s.wr f v).badBytes = s.badBytes := rfl
@[simp] theorem State.wr_firn (f : Field) (v : Nat) : (s.wr f v).firn = s.firn := rfl
@[simp] theorem State.wr_firnCorr (f : Field) (v : Nat) : (s.wr f v).firnCorr = s.firnCorr := rfl
@[simp] theorem State.wr_firnDed (f : Field) (v : Nat) : (s.wr f v).firnDed = s.firnDed := rfl
@[simp] theorem State.wr_tbase (f : Field) (v : Nat) : (s.wr f v).tbase = s.tbase := rfl
@[simp] theorem State.wr_rdata (f : Field) (v : Nat) : (s.wr f v).rdata = s.rdata := rfl
@[simp] theorem State.wr_free (f : Field) (v : Nat) : (s.wr f v).free = s.free := rfl
@[simp] theorem State.wr_cpu (f : Field) (v : Nat) : (s.wr f v).cpu = s.cpu := rfl
@[simp] theorem State.wr_board (f : Field) (v : Nat) : (s.wr f v).board = s.board := rfl
@[simp] theorem State.wr_balls (f : Field) (v : Nat) : (s.wr f v).balls = s.balls := rfl
@[simp] theorem State.wr_sys (f : Field) (v : Nat) : (s.wr f v).sys = s.sys := rfl
@[simp] theorem State.wr_log (f : Field) (v : Nat) : (s.wr f v).log = s.log := rfl
@[simp] theorem State.wr_link (f : Field) (v : Nat) : (s.wr f v).link = s.link := rfl
@[simp] theorem State.wr_ec (f : Field) (v : Nat) : (s.wr f v).ec = s.ec := rfl
@[simp] theorem State.wr_bulk (f : Field) (v : Nat) : (s.wr f v).bulk = s.bulk := rfl
@[simp] theorem State.wr_mbx (f : Field) (v : Nat) : (s.wr f v).mbx = s.mbx := rfl
@[simp] theorem State.wr_lpe (f : Field) (v : Nat) : (s.wr f v).lpe = s.lpe := rfl
@[simp] theorem State.wr_rail (f : Field) (v : Nat) : (s.wr f v).rail = s.rail := rfl
@[simp] theorem State.wr_pwr (f : Field) (v : Nat) : (s.wr f v).pwr = s.pwr := rfl
@[simp] theorem State.wr_port0 (f : Field) (v : Nat) : (s.wr f v).port0 = s.port0 := rfl
@[simp] theorem State.wr_port1 (f : Field) (v : Nat) : (s.wr f v).port1 = s.port1 := rfl
@[simp] theorem State.wr_chg (f : Field) (v : Nat) : (s.wr f v).chg = s.chg := rfl
@[simp] theorem State.wr_kbd (f : Field) (v : Nat) : (s.wr f v).kbd = s.kbd := rfl
@[simp] theorem State.wr_lux (f : Field) (v : Nat) : (s.wr f v).lux = s.lux := rfl
@[simp] theorem State.wr_chn (f : Field) (v : Nat) : (s.wr f v).chn = s.chn := rfl
@[simp] theorem State.wr_thm (f : Field) (v : Nat) : (s.wr f v).thm = s.thm := rfl
@[simp] theorem State.wr_floe0 (f : Field) (v : Nat) : (s.wr f v).floe0 = s.floe0 := rfl
@[simp] theorem State.wr_floe1 (f : Field) (v : Nat) : (s.wr f v).floe1 = s.floe1 := rfl
@[simp] theorem State.wr_sec (f : Field) (v : Nat) : (s.wr f v).sec = s.sec := rfl
@[simp] theorem State.wr_fgd (f : Field) (v : Nat) : (s.wr f v).fgd = s.fgd := rfl
@[simp] theorem State.wr_nvc (f : Field) (v : Nat) : (s.wr f v).nvc = s.nvc := rfl
@[simp] theorem State.wr_kpf (f : Field) (v : Nat) : (s.wr f v).kpf = s.kpf := rfl
@[simp] theorem State.wr_wdog (f : Field) (v : Nat) : (s.wr f v).wdog = s.wdog := rfl
@[simp] theorem State.wr_pending (f : Field) (v : Nat) : (s.wr f v).pending = s.pending := rfl

@[simp] theorem State.set_mem (f : Field) : (s.set f).mem = s.mem := rfl
@[simp] theorem State.set_badBytes (f : Field) : (s.set f).badBytes = s.badBytes := rfl
@[simp] theorem State.set_firn (f : Field) : (s.set f).firn = s.firn := rfl
@[simp] theorem State.set_firnCorr (f : Field) : (s.set f).firnCorr = s.firnCorr := rfl
@[simp] theorem State.set_firnDed (f : Field) : (s.set f).firnDed = s.firnDed := rfl
@[simp] theorem State.set_tbase (f : Field) : (s.set f).tbase = s.tbase := rfl
@[simp] theorem State.set_rdata (f : Field) : (s.set f).rdata = s.rdata := rfl
@[simp] theorem State.set_free (f : Field) : (s.set f).free = s.free := rfl
@[simp] theorem State.set_cpu (f : Field) : (s.set f).cpu = s.cpu := rfl
@[simp] theorem State.set_board (f : Field) : (s.set f).board = s.board := rfl
@[simp] theorem State.set_balls (f : Field) : (s.set f).balls = s.balls := rfl
@[simp] theorem State.set_sys (f : Field) : (s.set f).sys = s.sys := rfl
@[simp] theorem State.set_log (f : Field) : (s.set f).log = s.log := rfl
@[simp] theorem State.set_link (f : Field) : (s.set f).link = s.link := rfl
@[simp] theorem State.set_ec (f : Field) : (s.set f).ec = s.ec := rfl
@[simp] theorem State.set_bulk (f : Field) : (s.set f).bulk = s.bulk := rfl
@[simp] theorem State.set_mbx (f : Field) : (s.set f).mbx = s.mbx := rfl
@[simp] theorem State.set_lpe (f : Field) : (s.set f).lpe = s.lpe := rfl
@[simp] theorem State.set_rail (f : Field) : (s.set f).rail = s.rail := rfl
@[simp] theorem State.set_pwr (f : Field) : (s.set f).pwr = s.pwr := rfl
@[simp] theorem State.set_port0 (f : Field) : (s.set f).port0 = s.port0 := rfl
@[simp] theorem State.set_port1 (f : Field) : (s.set f).port1 = s.port1 := rfl
@[simp] theorem State.set_chg (f : Field) : (s.set f).chg = s.chg := rfl
@[simp] theorem State.set_kbd (f : Field) : (s.set f).kbd = s.kbd := rfl
@[simp] theorem State.set_lux (f : Field) : (s.set f).lux = s.lux := rfl
@[simp] theorem State.set_chn (f : Field) : (s.set f).chn = s.chn := rfl
@[simp] theorem State.set_thm (f : Field) : (s.set f).thm = s.thm := rfl
@[simp] theorem State.set_floe0 (f : Field) : (s.set f).floe0 = s.floe0 := rfl
@[simp] theorem State.set_floe1 (f : Field) : (s.set f).floe1 = s.floe1 := rfl
@[simp] theorem State.set_sec (f : Field) : (s.set f).sec = s.sec := rfl
@[simp] theorem State.set_fgd (f : Field) : (s.set f).fgd = s.fgd := rfl
@[simp] theorem State.set_nvc (f : Field) : (s.set f).nvc = s.nvc := rfl
@[simp] theorem State.set_kpf (f : Field) : (s.set f).kpf = s.kpf := rfl
@[simp] theorem State.set_wdog (f : Field) : (s.set f).wdog = s.wdog := rfl
@[simp] theorem State.set_pending (f : Field) : (s.set f).pending = s.pending := rfl

@[simp] theorem State.clr_mem (f : Field) : (s.clr f).mem = s.mem := rfl
@[simp] theorem State.clr_badBytes (f : Field) : (s.clr f).badBytes = s.badBytes := rfl
@[simp] theorem State.clr_firn (f : Field) : (s.clr f).firn = s.firn := rfl
@[simp] theorem State.clr_firnCorr (f : Field) : (s.clr f).firnCorr = s.firnCorr := rfl
@[simp] theorem State.clr_firnDed (f : Field) : (s.clr f).firnDed = s.firnDed := rfl
@[simp] theorem State.clr_tbase (f : Field) : (s.clr f).tbase = s.tbase := rfl
@[simp] theorem State.clr_rdata (f : Field) : (s.clr f).rdata = s.rdata := rfl
@[simp] theorem State.clr_free (f : Field) : (s.clr f).free = s.free := rfl
@[simp] theorem State.clr_cpu (f : Field) : (s.clr f).cpu = s.cpu := rfl
@[simp] theorem State.clr_board (f : Field) : (s.clr f).board = s.board := rfl
@[simp] theorem State.clr_balls (f : Field) : (s.clr f).balls = s.balls := rfl
@[simp] theorem State.clr_sys (f : Field) : (s.clr f).sys = s.sys := rfl
@[simp] theorem State.clr_log (f : Field) : (s.clr f).log = s.log := rfl
@[simp] theorem State.clr_link (f : Field) : (s.clr f).link = s.link := rfl
@[simp] theorem State.clr_ec (f : Field) : (s.clr f).ec = s.ec := rfl
@[simp] theorem State.clr_bulk (f : Field) : (s.clr f).bulk = s.bulk := rfl
@[simp] theorem State.clr_mbx (f : Field) : (s.clr f).mbx = s.mbx := rfl
@[simp] theorem State.clr_lpe (f : Field) : (s.clr f).lpe = s.lpe := rfl
@[simp] theorem State.clr_rail (f : Field) : (s.clr f).rail = s.rail := rfl
@[simp] theorem State.clr_pwr (f : Field) : (s.clr f).pwr = s.pwr := rfl
@[simp] theorem State.clr_port0 (f : Field) : (s.clr f).port0 = s.port0 := rfl
@[simp] theorem State.clr_port1 (f : Field) : (s.clr f).port1 = s.port1 := rfl
@[simp] theorem State.clr_chg (f : Field) : (s.clr f).chg = s.chg := rfl
@[simp] theorem State.clr_kbd (f : Field) : (s.clr f).kbd = s.kbd := rfl
@[simp] theorem State.clr_lux (f : Field) : (s.clr f).lux = s.lux := rfl
@[simp] theorem State.clr_chn (f : Field) : (s.clr f).chn = s.chn := rfl
@[simp] theorem State.clr_thm (f : Field) : (s.clr f).thm = s.thm := rfl
@[simp] theorem State.clr_floe0 (f : Field) : (s.clr f).floe0 = s.floe0 := rfl
@[simp] theorem State.clr_floe1 (f : Field) : (s.clr f).floe1 = s.floe1 := rfl
@[simp] theorem State.clr_sec (f : Field) : (s.clr f).sec = s.sec := rfl
@[simp] theorem State.clr_fgd (f : Field) : (s.clr f).fgd = s.fgd := rfl
@[simp] theorem State.clr_nvc (f : Field) : (s.clr f).nvc = s.nvc := rfl
@[simp] theorem State.clr_kpf (f : Field) : (s.clr f).kpf = s.kpf := rfl
@[simp] theorem State.clr_wdog (f : Field) : (s.clr f).wdog = s.wdog := rfl
@[simp] theorem State.clr_pending (f : Field) : (s.clr f).pending = s.pending := rfl

@[simp] theorem State.wrB_mem (f : Field) (b : Bool) : (s.wrB f b).mem = s.mem := rfl
@[simp] theorem State.wrB_badBytes (f : Field) (b : Bool) : (s.wrB f b).badBytes = s.badBytes := rfl
@[simp] theorem State.wrB_firn (f : Field) (b : Bool) : (s.wrB f b).firn = s.firn := rfl
@[simp] theorem State.wrB_firnCorr (f : Field) (b : Bool) : (s.wrB f b).firnCorr = s.firnCorr := rfl
@[simp] theorem State.wrB_firnDed (f : Field) (b : Bool) : (s.wrB f b).firnDed = s.firnDed := rfl
@[simp] theorem State.wrB_tbase (f : Field) (b : Bool) : (s.wrB f b).tbase = s.tbase := rfl
@[simp] theorem State.wrB_rdata (f : Field) (b : Bool) : (s.wrB f b).rdata = s.rdata := rfl
@[simp] theorem State.wrB_free (f : Field) (b : Bool) : (s.wrB f b).free = s.free := rfl
@[simp] theorem State.wrB_cpu (f : Field) (b : Bool) : (s.wrB f b).cpu = s.cpu := rfl
@[simp] theorem State.wrB_board (f : Field) (b : Bool) : (s.wrB f b).board = s.board := rfl
@[simp] theorem State.wrB_balls (f : Field) (b : Bool) : (s.wrB f b).balls = s.balls := rfl
@[simp] theorem State.wrB_sys (f : Field) (b : Bool) : (s.wrB f b).sys = s.sys := rfl
@[simp] theorem State.wrB_log (f : Field) (b : Bool) : (s.wrB f b).log = s.log := rfl
@[simp] theorem State.wrB_link (f : Field) (b : Bool) : (s.wrB f b).link = s.link := rfl
@[simp] theorem State.wrB_ec (f : Field) (b : Bool) : (s.wrB f b).ec = s.ec := rfl
@[simp] theorem State.wrB_bulk (f : Field) (b : Bool) : (s.wrB f b).bulk = s.bulk := rfl
@[simp] theorem State.wrB_mbx (f : Field) (b : Bool) : (s.wrB f b).mbx = s.mbx := rfl
@[simp] theorem State.wrB_lpe (f : Field) (b : Bool) : (s.wrB f b).lpe = s.lpe := rfl
@[simp] theorem State.wrB_rail (f : Field) (b : Bool) : (s.wrB f b).rail = s.rail := rfl
@[simp] theorem State.wrB_pwr (f : Field) (b : Bool) : (s.wrB f b).pwr = s.pwr := rfl
@[simp] theorem State.wrB_port0 (f : Field) (b : Bool) : (s.wrB f b).port0 = s.port0 := rfl
@[simp] theorem State.wrB_port1 (f : Field) (b : Bool) : (s.wrB f b).port1 = s.port1 := rfl
@[simp] theorem State.wrB_chg (f : Field) (b : Bool) : (s.wrB f b).chg = s.chg := rfl
@[simp] theorem State.wrB_kbd (f : Field) (b : Bool) : (s.wrB f b).kbd = s.kbd := rfl
@[simp] theorem State.wrB_lux (f : Field) (b : Bool) : (s.wrB f b).lux = s.lux := rfl
@[simp] theorem State.wrB_chn (f : Field) (b : Bool) : (s.wrB f b).chn = s.chn := rfl
@[simp] theorem State.wrB_thm (f : Field) (b : Bool) : (s.wrB f b).thm = s.thm := rfl
@[simp] theorem State.wrB_floe0 (f : Field) (b : Bool) : (s.wrB f b).floe0 = s.floe0 := rfl
@[simp] theorem State.wrB_floe1 (f : Field) (b : Bool) : (s.wrB f b).floe1 = s.floe1 := rfl
@[simp] theorem State.wrB_sec (f : Field) (b : Bool) : (s.wrB f b).sec = s.sec := rfl
@[simp] theorem State.wrB_fgd (f : Field) (b : Bool) : (s.wrB f b).fgd = s.fgd := rfl
@[simp] theorem State.wrB_nvc (f : Field) (b : Bool) : (s.wrB f b).nvc = s.nvc := rfl
@[simp] theorem State.wrB_kpf (f : Field) (b : Bool) : (s.wrB f b).kpf = s.kpf := rfl
@[simp] theorem State.wrB_wdog (f : Field) (b : Bool) : (s.wrB f b).wdog = s.wdog := rfl
@[simp] theorem State.wrB_pending (f : Field) (b : Bool) : (s.wrB f b).pending = s.pending := rfl

@[simp] theorem State.count_mem (f : Field) (n : Nat) : (s.count f n).mem = s.mem := rfl
@[simp] theorem State.count_badBytes (f : Field) (n : Nat) : (s.count f n).badBytes = s.badBytes := rfl
@[simp] theorem State.count_firn (f : Field) (n : Nat) : (s.count f n).firn = s.firn := rfl
@[simp] theorem State.count_firnCorr (f : Field) (n : Nat) : (s.count f n).firnCorr = s.firnCorr := rfl
@[simp] theorem State.count_firnDed (f : Field) (n : Nat) : (s.count f n).firnDed = s.firnDed := rfl
@[simp] theorem State.count_tbase (f : Field) (n : Nat) : (s.count f n).tbase = s.tbase := rfl
@[simp] theorem State.count_rdata (f : Field) (n : Nat) : (s.count f n).rdata = s.rdata := rfl
@[simp] theorem State.count_free (f : Field) (n : Nat) : (s.count f n).free = s.free := rfl
@[simp] theorem State.count_cpu (f : Field) (n : Nat) : (s.count f n).cpu = s.cpu := rfl
@[simp] theorem State.count_board (f : Field) (n : Nat) : (s.count f n).board = s.board := rfl
@[simp] theorem State.count_balls (f : Field) (n : Nat) : (s.count f n).balls = s.balls := rfl
@[simp] theorem State.count_sys (f : Field) (n : Nat) : (s.count f n).sys = s.sys := rfl
@[simp] theorem State.count_log (f : Field) (n : Nat) : (s.count f n).log = s.log := rfl
@[simp] theorem State.count_link (f : Field) (n : Nat) : (s.count f n).link = s.link := rfl
@[simp] theorem State.count_ec (f : Field) (n : Nat) : (s.count f n).ec = s.ec := rfl
@[simp] theorem State.count_bulk (f : Field) (n : Nat) : (s.count f n).bulk = s.bulk := rfl
@[simp] theorem State.count_mbx (f : Field) (n : Nat) : (s.count f n).mbx = s.mbx := rfl
@[simp] theorem State.count_lpe (f : Field) (n : Nat) : (s.count f n).lpe = s.lpe := rfl
@[simp] theorem State.count_rail (f : Field) (n : Nat) : (s.count f n).rail = s.rail := rfl
@[simp] theorem State.count_pwr (f : Field) (n : Nat) : (s.count f n).pwr = s.pwr := rfl
@[simp] theorem State.count_port0 (f : Field) (n : Nat) : (s.count f n).port0 = s.port0 := rfl
@[simp] theorem State.count_port1 (f : Field) (n : Nat) : (s.count f n).port1 = s.port1 := rfl
@[simp] theorem State.count_chg (f : Field) (n : Nat) : (s.count f n).chg = s.chg := rfl
@[simp] theorem State.count_kbd (f : Field) (n : Nat) : (s.count f n).kbd = s.kbd := rfl
@[simp] theorem State.count_lux (f : Field) (n : Nat) : (s.count f n).lux = s.lux := rfl
@[simp] theorem State.count_chn (f : Field) (n : Nat) : (s.count f n).chn = s.chn := rfl
@[simp] theorem State.count_thm (f : Field) (n : Nat) : (s.count f n).thm = s.thm := rfl
@[simp] theorem State.count_floe0 (f : Field) (n : Nat) : (s.count f n).floe0 = s.floe0 := rfl
@[simp] theorem State.count_floe1 (f : Field) (n : Nat) : (s.count f n).floe1 = s.floe1 := rfl
@[simp] theorem State.count_sec (f : Field) (n : Nat) : (s.count f n).sec = s.sec := rfl
@[simp] theorem State.count_fgd (f : Field) (n : Nat) : (s.count f n).fgd = s.fgd := rfl
@[simp] theorem State.count_nvc (f : Field) (n : Nat) : (s.count f n).nvc = s.nvc := rfl
@[simp] theorem State.count_kpf (f : Field) (n : Nat) : (s.count f n).kpf = s.kpf := rfl
@[simp] theorem State.count_wdog (f : Field) (n : Nat) : (s.count f n).wdog = s.wdog := rfl
@[simp] theorem State.count_pending (f : Field) (n : Nat) : (s.count f n).pending = s.pending := rfl

@[simp] theorem State.setBit_mem (f : Field) (i : Nat) : (s.setBit f i).mem = s.mem := rfl
@[simp] theorem State.setBit_badBytes (f : Field) (i : Nat) : (s.setBit f i).badBytes = s.badBytes := rfl
@[simp] theorem State.setBit_firn (f : Field) (i : Nat) : (s.setBit f i).firn = s.firn := rfl
@[simp] theorem State.setBit_firnCorr (f : Field) (i : Nat) : (s.setBit f i).firnCorr = s.firnCorr := rfl
@[simp] theorem State.setBit_firnDed (f : Field) (i : Nat) : (s.setBit f i).firnDed = s.firnDed := rfl
@[simp] theorem State.setBit_tbase (f : Field) (i : Nat) : (s.setBit f i).tbase = s.tbase := rfl
@[simp] theorem State.setBit_rdata (f : Field) (i : Nat) : (s.setBit f i).rdata = s.rdata := rfl
@[simp] theorem State.setBit_free (f : Field) (i : Nat) : (s.setBit f i).free = s.free := rfl
@[simp] theorem State.setBit_cpu (f : Field) (i : Nat) : (s.setBit f i).cpu = s.cpu := rfl
@[simp] theorem State.setBit_board (f : Field) (i : Nat) : (s.setBit f i).board = s.board := rfl
@[simp] theorem State.setBit_balls (f : Field) (i : Nat) : (s.setBit f i).balls = s.balls := rfl
@[simp] theorem State.setBit_sys (f : Field) (i : Nat) : (s.setBit f i).sys = s.sys := rfl
@[simp] theorem State.setBit_log (f : Field) (i : Nat) : (s.setBit f i).log = s.log := rfl
@[simp] theorem State.setBit_link (f : Field) (i : Nat) : (s.setBit f i).link = s.link := rfl
@[simp] theorem State.setBit_ec (f : Field) (i : Nat) : (s.setBit f i).ec = s.ec := rfl
@[simp] theorem State.setBit_bulk (f : Field) (i : Nat) : (s.setBit f i).bulk = s.bulk := rfl
@[simp] theorem State.setBit_mbx (f : Field) (i : Nat) : (s.setBit f i).mbx = s.mbx := rfl
@[simp] theorem State.setBit_lpe (f : Field) (i : Nat) : (s.setBit f i).lpe = s.lpe := rfl
@[simp] theorem State.setBit_rail (f : Field) (i : Nat) : (s.setBit f i).rail = s.rail := rfl
@[simp] theorem State.setBit_pwr (f : Field) (i : Nat) : (s.setBit f i).pwr = s.pwr := rfl
@[simp] theorem State.setBit_port0 (f : Field) (i : Nat) : (s.setBit f i).port0 = s.port0 := rfl
@[simp] theorem State.setBit_port1 (f : Field) (i : Nat) : (s.setBit f i).port1 = s.port1 := rfl
@[simp] theorem State.setBit_chg (f : Field) (i : Nat) : (s.setBit f i).chg = s.chg := rfl
@[simp] theorem State.setBit_kbd (f : Field) (i : Nat) : (s.setBit f i).kbd = s.kbd := rfl
@[simp] theorem State.setBit_lux (f : Field) (i : Nat) : (s.setBit f i).lux = s.lux := rfl
@[simp] theorem State.setBit_chn (f : Field) (i : Nat) : (s.setBit f i).chn = s.chn := rfl
@[simp] theorem State.setBit_thm (f : Field) (i : Nat) : (s.setBit f i).thm = s.thm := rfl
@[simp] theorem State.setBit_floe0 (f : Field) (i : Nat) : (s.setBit f i).floe0 = s.floe0 := rfl
@[simp] theorem State.setBit_floe1 (f : Field) (i : Nat) : (s.setBit f i).floe1 = s.floe1 := rfl
@[simp] theorem State.setBit_sec (f : Field) (i : Nat) : (s.setBit f i).sec = s.sec := rfl
@[simp] theorem State.setBit_fgd (f : Field) (i : Nat) : (s.setBit f i).fgd = s.fgd := rfl
@[simp] theorem State.setBit_nvc (f : Field) (i : Nat) : (s.setBit f i).nvc = s.nvc := rfl
@[simp] theorem State.setBit_kpf (f : Field) (i : Nat) : (s.setBit f i).kpf = s.kpf := rfl
@[simp] theorem State.setBit_wdog (f : Field) (i : Nat) : (s.setBit f i).wdog = s.wdog := rfl
@[simp] theorem State.setBit_pending (f : Field) (i : Nat) : (s.setBit f i).pending = s.pending := rfl

@[simp] theorem State.clrBit_mem (f : Field) (i : Nat) : (s.clrBit f i).mem = s.mem := rfl
@[simp] theorem State.clrBit_badBytes (f : Field) (i : Nat) : (s.clrBit f i).badBytes = s.badBytes := rfl
@[simp] theorem State.clrBit_firn (f : Field) (i : Nat) : (s.clrBit f i).firn = s.firn := rfl
@[simp] theorem State.clrBit_firnCorr (f : Field) (i : Nat) : (s.clrBit f i).firnCorr = s.firnCorr := rfl
@[simp] theorem State.clrBit_firnDed (f : Field) (i : Nat) : (s.clrBit f i).firnDed = s.firnDed := rfl
@[simp] theorem State.clrBit_tbase (f : Field) (i : Nat) : (s.clrBit f i).tbase = s.tbase := rfl
@[simp] theorem State.clrBit_rdata (f : Field) (i : Nat) : (s.clrBit f i).rdata = s.rdata := rfl
@[simp] theorem State.clrBit_free (f : Field) (i : Nat) : (s.clrBit f i).free = s.free := rfl
@[simp] theorem State.clrBit_cpu (f : Field) (i : Nat) : (s.clrBit f i).cpu = s.cpu := rfl
@[simp] theorem State.clrBit_board (f : Field) (i : Nat) : (s.clrBit f i).board = s.board := rfl
@[simp] theorem State.clrBit_balls (f : Field) (i : Nat) : (s.clrBit f i).balls = s.balls := rfl
@[simp] theorem State.clrBit_sys (f : Field) (i : Nat) : (s.clrBit f i).sys = s.sys := rfl
@[simp] theorem State.clrBit_log (f : Field) (i : Nat) : (s.clrBit f i).log = s.log := rfl
@[simp] theorem State.clrBit_link (f : Field) (i : Nat) : (s.clrBit f i).link = s.link := rfl
@[simp] theorem State.clrBit_ec (f : Field) (i : Nat) : (s.clrBit f i).ec = s.ec := rfl
@[simp] theorem State.clrBit_bulk (f : Field) (i : Nat) : (s.clrBit f i).bulk = s.bulk := rfl
@[simp] theorem State.clrBit_mbx (f : Field) (i : Nat) : (s.clrBit f i).mbx = s.mbx := rfl
@[simp] theorem State.clrBit_lpe (f : Field) (i : Nat) : (s.clrBit f i).lpe = s.lpe := rfl
@[simp] theorem State.clrBit_rail (f : Field) (i : Nat) : (s.clrBit f i).rail = s.rail := rfl
@[simp] theorem State.clrBit_pwr (f : Field) (i : Nat) : (s.clrBit f i).pwr = s.pwr := rfl
@[simp] theorem State.clrBit_port0 (f : Field) (i : Nat) : (s.clrBit f i).port0 = s.port0 := rfl
@[simp] theorem State.clrBit_port1 (f : Field) (i : Nat) : (s.clrBit f i).port1 = s.port1 := rfl
@[simp] theorem State.clrBit_chg (f : Field) (i : Nat) : (s.clrBit f i).chg = s.chg := rfl
@[simp] theorem State.clrBit_kbd (f : Field) (i : Nat) : (s.clrBit f i).kbd = s.kbd := rfl
@[simp] theorem State.clrBit_lux (f : Field) (i : Nat) : (s.clrBit f i).lux = s.lux := rfl
@[simp] theorem State.clrBit_chn (f : Field) (i : Nat) : (s.clrBit f i).chn = s.chn := rfl
@[simp] theorem State.clrBit_thm (f : Field) (i : Nat) : (s.clrBit f i).thm = s.thm := rfl
@[simp] theorem State.clrBit_floe0 (f : Field) (i : Nat) : (s.clrBit f i).floe0 = s.floe0 := rfl
@[simp] theorem State.clrBit_floe1 (f : Field) (i : Nat) : (s.clrBit f i).floe1 = s.floe1 := rfl
@[simp] theorem State.clrBit_sec (f : Field) (i : Nat) : (s.clrBit f i).sec = s.sec := rfl
@[simp] theorem State.clrBit_fgd (f : Field) (i : Nat) : (s.clrBit f i).fgd = s.fgd := rfl
@[simp] theorem State.clrBit_nvc (f : Field) (i : Nat) : (s.clrBit f i).nvc = s.nvc := rfl
@[simp] theorem State.clrBit_kpf (f : Field) (i : Nat) : (s.clrBit f i).kpf = s.kpf := rfl
@[simp] theorem State.clrBit_wdog (f : Field) (i : Nat) : (s.clrBit f i).wdog = s.wdog := rfl
@[simp] theorem State.clrBit_pending (f : Field) (i : Nat) : (s.clrBit f i).pending = s.pending := rfl

@[simp] theorem State.seen_fields (t : Nat) : (s.seen t).fields = s.fields := rfl
@[simp] theorem State.seen_mem (t : Nat) : (s.seen t).mem = s.mem := rfl
@[simp] theorem State.seen_badBytes (t : Nat) : (s.seen t).badBytes = s.badBytes := rfl
@[simp] theorem State.seen_firn (t : Nat) : (s.seen t).firn = s.firn := rfl
@[simp] theorem State.seen_firnCorr (t : Nat) : (s.seen t).firnCorr = s.firnCorr := rfl
@[simp] theorem State.seen_firnDed (t : Nat) : (s.seen t).firnDed = s.firnDed := rfl
@[simp] theorem State.seen_rdata (t : Nat) : (s.seen t).rdata = s.rdata := rfl
@[simp] theorem State.seen_free (t : Nat) : (s.seen t).free = s.free := rfl
@[simp] theorem State.seen_cpu (t : Nat) : (s.seen t).cpu = s.cpu := rfl
@[simp] theorem State.seen_board (t : Nat) : (s.seen t).board = s.board := rfl
@[simp] theorem State.seen_balls (t : Nat) : (s.seen t).balls = s.balls := rfl
@[simp] theorem State.seen_sys (t : Nat) : (s.seen t).sys = s.sys := rfl
@[simp] theorem State.seen_log (t : Nat) : (s.seen t).log = s.log := rfl
@[simp] theorem State.seen_link (t : Nat) : (s.seen t).link = s.link := rfl
@[simp] theorem State.seen_ec (t : Nat) : (s.seen t).ec = s.ec := rfl
@[simp] theorem State.seen_bulk (t : Nat) : (s.seen t).bulk = s.bulk := rfl
@[simp] theorem State.seen_mbx (t : Nat) : (s.seen t).mbx = s.mbx := rfl
@[simp] theorem State.seen_lpe (t : Nat) : (s.seen t).lpe = s.lpe := rfl
@[simp] theorem State.seen_rail (t : Nat) : (s.seen t).rail = s.rail := rfl
@[simp] theorem State.seen_pwr (t : Nat) : (s.seen t).pwr = s.pwr := rfl
@[simp] theorem State.seen_port0 (t : Nat) : (s.seen t).port0 = s.port0 := rfl
@[simp] theorem State.seen_port1 (t : Nat) : (s.seen t).port1 = s.port1 := rfl
@[simp] theorem State.seen_chg (t : Nat) : (s.seen t).chg = s.chg := rfl
@[simp] theorem State.seen_kbd (t : Nat) : (s.seen t).kbd = s.kbd := rfl
@[simp] theorem State.seen_lux (t : Nat) : (s.seen t).lux = s.lux := rfl
@[simp] theorem State.seen_chn (t : Nat) : (s.seen t).chn = s.chn := rfl
@[simp] theorem State.seen_thm (t : Nat) : (s.seen t).thm = s.thm := rfl
@[simp] theorem State.seen_floe0 (t : Nat) : (s.seen t).floe0 = s.floe0 := rfl
@[simp] theorem State.seen_floe1 (t : Nat) : (s.seen t).floe1 = s.floe1 := rfl
@[simp] theorem State.seen_sec (t : Nat) : (s.seen t).sec = s.sec := rfl
@[simp] theorem State.seen_fgd (t : Nat) : (s.seen t).fgd = s.fgd := rfl
@[simp] theorem State.seen_nvc (t : Nat) : (s.seen t).nvc = s.nvc := rfl
@[simp] theorem State.seen_kpf (t : Nat) : (s.seen t).kpf = s.kpf := rfl
@[simp] theorem State.seen_wdog (t : Nat) : (s.seen t).wdog = s.wdog := rfl
@[simp] theorem State.seen_pending (t : Nat) : (s.seen t).pending = s.pending := rfl

@[simp] theorem State.drawn_fields : (s.drawn).fields = s.fields := rfl
@[simp] theorem State.drawn_mem : (s.drawn).mem = s.mem := rfl
@[simp] theorem State.drawn_badBytes : (s.drawn).badBytes = s.badBytes := rfl
@[simp] theorem State.drawn_firn : (s.drawn).firn = s.firn := rfl
@[simp] theorem State.drawn_firnCorr : (s.drawn).firnCorr = s.firnCorr := rfl
@[simp] theorem State.drawn_firnDed : (s.drawn).firnDed = s.firnDed := rfl
@[simp] theorem State.drawn_tbase : (s.drawn).tbase = s.tbase := rfl
@[simp] theorem State.drawn_rdata : (s.drawn).rdata = s.rdata := rfl
@[simp] theorem State.drawn_cpu : (s.drawn).cpu = s.cpu := rfl
@[simp] theorem State.drawn_board : (s.drawn).board = s.board := rfl
@[simp] theorem State.drawn_balls : (s.drawn).balls = s.balls := rfl
@[simp] theorem State.drawn_sys : (s.drawn).sys = s.sys := rfl
@[simp] theorem State.drawn_log : (s.drawn).log = s.log := rfl
@[simp] theorem State.drawn_link : (s.drawn).link = s.link := rfl
@[simp] theorem State.drawn_ec : (s.drawn).ec = s.ec := rfl
@[simp] theorem State.drawn_bulk : (s.drawn).bulk = s.bulk := rfl
@[simp] theorem State.drawn_mbx : (s.drawn).mbx = s.mbx := rfl
@[simp] theorem State.drawn_lpe : (s.drawn).lpe = s.lpe := rfl
@[simp] theorem State.drawn_rail : (s.drawn).rail = s.rail := rfl
@[simp] theorem State.drawn_pwr : (s.drawn).pwr = s.pwr := rfl
@[simp] theorem State.drawn_port0 : (s.drawn).port0 = s.port0 := rfl
@[simp] theorem State.drawn_port1 : (s.drawn).port1 = s.port1 := rfl
@[simp] theorem State.drawn_chg : (s.drawn).chg = s.chg := rfl
@[simp] theorem State.drawn_kbd : (s.drawn).kbd = s.kbd := rfl
@[simp] theorem State.drawn_lux : (s.drawn).lux = s.lux := rfl
@[simp] theorem State.drawn_chn : (s.drawn).chn = s.chn := rfl
@[simp] theorem State.drawn_thm : (s.drawn).thm = s.thm := rfl
@[simp] theorem State.drawn_floe0 : (s.drawn).floe0 = s.floe0 := rfl
@[simp] theorem State.drawn_floe1 : (s.drawn).floe1 = s.floe1 := rfl
@[simp] theorem State.drawn_sec : (s.drawn).sec = s.sec := rfl
@[simp] theorem State.drawn_fgd : (s.drawn).fgd = s.fgd := rfl
@[simp] theorem State.drawn_nvc : (s.drawn).nvc = s.nvc := rfl
@[simp] theorem State.drawn_kpf : (s.drawn).kpf = s.kpf := rfl
@[simp] theorem State.drawn_wdog : (s.drawn).wdog = s.wdog := rfl
@[simp] theorem State.drawn_pending : (s.drawn).pending = s.pending := rfl

@[simp] theorem State.setByte_fields (a : Nat) (b : Byte) : (s.setByte a b).fields = s.fields := rfl
@[simp] theorem State.setByte_firn (a : Nat) (b : Byte) : (s.setByte a b).firn = s.firn := rfl
@[simp] theorem State.setByte_firnCorr (a : Nat) (b : Byte) : (s.setByte a b).firnCorr = s.firnCorr := rfl
@[simp] theorem State.setByte_firnDed (a : Nat) (b : Byte) : (s.setByte a b).firnDed = s.firnDed := rfl
@[simp] theorem State.setByte_tbase (a : Nat) (b : Byte) : (s.setByte a b).tbase = s.tbase := rfl
@[simp] theorem State.setByte_rdata (a : Nat) (b : Byte) : (s.setByte a b).rdata = s.rdata := rfl
@[simp] theorem State.setByte_free (a : Nat) (b : Byte) : (s.setByte a b).free = s.free := rfl
@[simp] theorem State.setByte_cpu (a : Nat) (b : Byte) : (s.setByte a b).cpu = s.cpu := rfl
@[simp] theorem State.setByte_board (a : Nat) (b : Byte) : (s.setByte a b).board = s.board := rfl
@[simp] theorem State.setByte_balls (a : Nat) (b : Byte) : (s.setByte a b).balls = s.balls := rfl
@[simp] theorem State.setByte_sys (a : Nat) (b : Byte) : (s.setByte a b).sys = s.sys := rfl
@[simp] theorem State.setByte_log (a : Nat) (b : Byte) : (s.setByte a b).log = s.log := rfl
@[simp] theorem State.setByte_link (a : Nat) (b : Byte) : (s.setByte a b).link = s.link := rfl
@[simp] theorem State.setByte_ec (a : Nat) (b : Byte) : (s.setByte a b).ec = s.ec := rfl
@[simp] theorem State.setByte_bulk (a : Nat) (b : Byte) : (s.setByte a b).bulk = s.bulk := rfl
@[simp] theorem State.setByte_mbx (a : Nat) (b : Byte) : (s.setByte a b).mbx = s.mbx := rfl
@[simp] theorem State.setByte_lpe (a : Nat) (b : Byte) : (s.setByte a b).lpe = s.lpe := rfl
@[simp] theorem State.setByte_rail (a : Nat) (b : Byte) : (s.setByte a b).rail = s.rail := rfl
@[simp] theorem State.setByte_pwr (a : Nat) (b : Byte) : (s.setByte a b).pwr = s.pwr := rfl
@[simp] theorem State.setByte_port0 (a : Nat) (b : Byte) : (s.setByte a b).port0 = s.port0 := rfl
@[simp] theorem State.setByte_port1 (a : Nat) (b : Byte) : (s.setByte a b).port1 = s.port1 := rfl
@[simp] theorem State.setByte_chg (a : Nat) (b : Byte) : (s.setByte a b).chg = s.chg := rfl
@[simp] theorem State.setByte_kbd (a : Nat) (b : Byte) : (s.setByte a b).kbd = s.kbd := rfl
@[simp] theorem State.setByte_lux (a : Nat) (b : Byte) : (s.setByte a b).lux = s.lux := rfl
@[simp] theorem State.setByte_chn (a : Nat) (b : Byte) : (s.setByte a b).chn = s.chn := rfl
@[simp] theorem State.setByte_thm (a : Nat) (b : Byte) : (s.setByte a b).thm = s.thm := rfl
@[simp] theorem State.setByte_floe0 (a : Nat) (b : Byte) : (s.setByte a b).floe0 = s.floe0 := rfl
@[simp] theorem State.setByte_floe1 (a : Nat) (b : Byte) : (s.setByte a b).floe1 = s.floe1 := rfl
@[simp] theorem State.setByte_sec (a : Nat) (b : Byte) : (s.setByte a b).sec = s.sec := rfl
@[simp] theorem State.setByte_fgd (a : Nat) (b : Byte) : (s.setByte a b).fgd = s.fgd := rfl
@[simp] theorem State.setByte_nvc (a : Nat) (b : Byte) : (s.setByte a b).nvc = s.nvc := rfl
@[simp] theorem State.setByte_kpf (a : Nat) (b : Byte) : (s.setByte a b).kpf = s.kpf := rfl
@[simp] theorem State.setByte_wdog (a : Nat) (b : Byte) : (s.setByte a b).wdog = s.wdog := rfl
@[simp] theorem State.setByte_pending (a : Nat) (b : Byte) : (s.setByte a b).pending = s.pending := rfl

@[simp] theorem State.wipe_fields (lo hi : Nat) : (s.wipe lo hi).fields = s.fields := rfl
@[simp] theorem State.wipe_firn (lo hi : Nat) : (s.wipe lo hi).firn = s.firn := rfl
@[simp] theorem State.wipe_firnCorr (lo hi : Nat) : (s.wipe lo hi).firnCorr = s.firnCorr := rfl
@[simp] theorem State.wipe_firnDed (lo hi : Nat) : (s.wipe lo hi).firnDed = s.firnDed := rfl
@[simp] theorem State.wipe_tbase (lo hi : Nat) : (s.wipe lo hi).tbase = s.tbase := rfl
@[simp] theorem State.wipe_rdata (lo hi : Nat) : (s.wipe lo hi).rdata = s.rdata := rfl
@[simp] theorem State.wipe_free (lo hi : Nat) : (s.wipe lo hi).free = s.free := rfl
@[simp] theorem State.wipe_cpu (lo hi : Nat) : (s.wipe lo hi).cpu = s.cpu := rfl
@[simp] theorem State.wipe_board (lo hi : Nat) : (s.wipe lo hi).board = s.board := rfl
@[simp] theorem State.wipe_balls (lo hi : Nat) : (s.wipe lo hi).balls = s.balls := rfl
@[simp] theorem State.wipe_sys (lo hi : Nat) : (s.wipe lo hi).sys = s.sys := rfl
@[simp] theorem State.wipe_log (lo hi : Nat) : (s.wipe lo hi).log = s.log := rfl
@[simp] theorem State.wipe_link (lo hi : Nat) : (s.wipe lo hi).link = s.link := rfl
@[simp] theorem State.wipe_ec (lo hi : Nat) : (s.wipe lo hi).ec = s.ec := rfl
@[simp] theorem State.wipe_bulk (lo hi : Nat) : (s.wipe lo hi).bulk = s.bulk := rfl
@[simp] theorem State.wipe_mbx (lo hi : Nat) : (s.wipe lo hi).mbx = s.mbx := rfl
@[simp] theorem State.wipe_lpe (lo hi : Nat) : (s.wipe lo hi).lpe = s.lpe := rfl
@[simp] theorem State.wipe_rail (lo hi : Nat) : (s.wipe lo hi).rail = s.rail := rfl
@[simp] theorem State.wipe_pwr (lo hi : Nat) : (s.wipe lo hi).pwr = s.pwr := rfl
@[simp] theorem State.wipe_port0 (lo hi : Nat) : (s.wipe lo hi).port0 = s.port0 := rfl
@[simp] theorem State.wipe_port1 (lo hi : Nat) : (s.wipe lo hi).port1 = s.port1 := rfl
@[simp] theorem State.wipe_chg (lo hi : Nat) : (s.wipe lo hi).chg = s.chg := rfl
@[simp] theorem State.wipe_kbd (lo hi : Nat) : (s.wipe lo hi).kbd = s.kbd := rfl
@[simp] theorem State.wipe_lux (lo hi : Nat) : (s.wipe lo hi).lux = s.lux := rfl
@[simp] theorem State.wipe_chn (lo hi : Nat) : (s.wipe lo hi).chn = s.chn := rfl
@[simp] theorem State.wipe_thm (lo hi : Nat) : (s.wipe lo hi).thm = s.thm := rfl
@[simp] theorem State.wipe_floe0 (lo hi : Nat) : (s.wipe lo hi).floe0 = s.floe0 := rfl
@[simp] theorem State.wipe_floe1 (lo hi : Nat) : (s.wipe lo hi).floe1 = s.floe1 := rfl
@[simp] theorem State.wipe_sec (lo hi : Nat) : (s.wipe lo hi).sec = s.sec := rfl
@[simp] theorem State.wipe_fgd (lo hi : Nat) : (s.wipe lo hi).fgd = s.fgd := rfl
@[simp] theorem State.wipe_nvc (lo hi : Nat) : (s.wipe lo hi).nvc = s.nvc := rfl
@[simp] theorem State.wipe_kpf (lo hi : Nat) : (s.wipe lo hi).kpf = s.kpf := rfl
@[simp] theorem State.wipe_wdog (lo hi : Nat) : (s.wipe lo hi).wdog = s.wdog := rfl
@[simp] theorem State.wipe_pending (lo hi : Nat) : (s.wipe lo hi).pending = s.pending := rfl

@[simp] theorem State.setFirnWord_fields (w v : Nat) : (s.setFirnWord w v).fields = s.fields := rfl
@[simp] theorem State.setFirnWord_mem (w v : Nat) : (s.setFirnWord w v).mem = s.mem := rfl
@[simp] theorem State.setFirnWord_badBytes (w v : Nat) : (s.setFirnWord w v).badBytes = s.badBytes := rfl
@[simp] theorem State.setFirnWord_tbase (w v : Nat) : (s.setFirnWord w v).tbase = s.tbase := rfl
@[simp] theorem State.setFirnWord_rdata (w v : Nat) : (s.setFirnWord w v).rdata = s.rdata := rfl
@[simp] theorem State.setFirnWord_free (w v : Nat) : (s.setFirnWord w v).free = s.free := rfl
@[simp] theorem State.setFirnWord_cpu (w v : Nat) : (s.setFirnWord w v).cpu = s.cpu := rfl
@[simp] theorem State.setFirnWord_board (w v : Nat) : (s.setFirnWord w v).board = s.board := rfl
@[simp] theorem State.setFirnWord_balls (w v : Nat) : (s.setFirnWord w v).balls = s.balls := rfl
@[simp] theorem State.setFirnWord_sys (w v : Nat) : (s.setFirnWord w v).sys = s.sys := rfl
@[simp] theorem State.setFirnWord_log (w v : Nat) : (s.setFirnWord w v).log = s.log := rfl
@[simp] theorem State.setFirnWord_link (w v : Nat) : (s.setFirnWord w v).link = s.link := rfl
@[simp] theorem State.setFirnWord_ec (w v : Nat) : (s.setFirnWord w v).ec = s.ec := rfl
@[simp] theorem State.setFirnWord_bulk (w v : Nat) : (s.setFirnWord w v).bulk = s.bulk := rfl
@[simp] theorem State.setFirnWord_mbx (w v : Nat) : (s.setFirnWord w v).mbx = s.mbx := rfl
@[simp] theorem State.setFirnWord_lpe (w v : Nat) : (s.setFirnWord w v).lpe = s.lpe := rfl
@[simp] theorem State.setFirnWord_rail (w v : Nat) : (s.setFirnWord w v).rail = s.rail := rfl
@[simp] theorem State.setFirnWord_pwr (w v : Nat) : (s.setFirnWord w v).pwr = s.pwr := rfl
@[simp] theorem State.setFirnWord_port0 (w v : Nat) : (s.setFirnWord w v).port0 = s.port0 := rfl
@[simp] theorem State.setFirnWord_port1 (w v : Nat) : (s.setFirnWord w v).port1 = s.port1 := rfl
@[simp] theorem State.setFirnWord_chg (w v : Nat) : (s.setFirnWord w v).chg = s.chg := rfl
@[simp] theorem State.setFirnWord_kbd (w v : Nat) : (s.setFirnWord w v).kbd = s.kbd := rfl
@[simp] theorem State.setFirnWord_lux (w v : Nat) : (s.setFirnWord w v).lux = s.lux := rfl
@[simp] theorem State.setFirnWord_chn (w v : Nat) : (s.setFirnWord w v).chn = s.chn := rfl
@[simp] theorem State.setFirnWord_thm (w v : Nat) : (s.setFirnWord w v).thm = s.thm := rfl
@[simp] theorem State.setFirnWord_floe0 (w v : Nat) : (s.setFirnWord w v).floe0 = s.floe0 := rfl
@[simp] theorem State.setFirnWord_floe1 (w v : Nat) : (s.setFirnWord w v).floe1 = s.floe1 := rfl
@[simp] theorem State.setFirnWord_sec (w v : Nat) : (s.setFirnWord w v).sec = s.sec := rfl
@[simp] theorem State.setFirnWord_fgd (w v : Nat) : (s.setFirnWord w v).fgd = s.fgd := rfl
@[simp] theorem State.setFirnWord_nvc (w v : Nat) : (s.setFirnWord w v).nvc = s.nvc := rfl
@[simp] theorem State.setFirnWord_kpf (w v : Nat) : (s.setFirnWord w v).kpf = s.kpf := rfl
@[simp] theorem State.setFirnWord_wdog (w v : Nat) : (s.setFirnWord w v).wdog = s.wdog := rfl
@[simp] theorem State.setFirnWord_pending (w v : Nat) : (s.setFirnWord w v).pending = s.pending := rfl

@[simp] theorem State.eraseFirn_fields (lo hi : Nat) : (s.eraseFirn lo hi).fields = s.fields := rfl
@[simp] theorem State.eraseFirn_mem (lo hi : Nat) : (s.eraseFirn lo hi).mem = s.mem := rfl
@[simp] theorem State.eraseFirn_badBytes (lo hi : Nat) : (s.eraseFirn lo hi).badBytes = s.badBytes := rfl
@[simp] theorem State.eraseFirn_tbase (lo hi : Nat) : (s.eraseFirn lo hi).tbase = s.tbase := rfl
@[simp] theorem State.eraseFirn_rdata (lo hi : Nat) : (s.eraseFirn lo hi).rdata = s.rdata := rfl
@[simp] theorem State.eraseFirn_free (lo hi : Nat) : (s.eraseFirn lo hi).free = s.free := rfl
@[simp] theorem State.eraseFirn_cpu (lo hi : Nat) : (s.eraseFirn lo hi).cpu = s.cpu := rfl
@[simp] theorem State.eraseFirn_board (lo hi : Nat) : (s.eraseFirn lo hi).board = s.board := rfl
@[simp] theorem State.eraseFirn_balls (lo hi : Nat) : (s.eraseFirn lo hi).balls = s.balls := rfl
@[simp] theorem State.eraseFirn_sys (lo hi : Nat) : (s.eraseFirn lo hi).sys = s.sys := rfl
@[simp] theorem State.eraseFirn_log (lo hi : Nat) : (s.eraseFirn lo hi).log = s.log := rfl
@[simp] theorem State.eraseFirn_link (lo hi : Nat) : (s.eraseFirn lo hi).link = s.link := rfl
@[simp] theorem State.eraseFirn_ec (lo hi : Nat) : (s.eraseFirn lo hi).ec = s.ec := rfl
@[simp] theorem State.eraseFirn_bulk (lo hi : Nat) : (s.eraseFirn lo hi).bulk = s.bulk := rfl
@[simp] theorem State.eraseFirn_mbx (lo hi : Nat) : (s.eraseFirn lo hi).mbx = s.mbx := rfl
@[simp] theorem State.eraseFirn_lpe (lo hi : Nat) : (s.eraseFirn lo hi).lpe = s.lpe := rfl
@[simp] theorem State.eraseFirn_rail (lo hi : Nat) : (s.eraseFirn lo hi).rail = s.rail := rfl
@[simp] theorem State.eraseFirn_pwr (lo hi : Nat) : (s.eraseFirn lo hi).pwr = s.pwr := rfl
@[simp] theorem State.eraseFirn_port0 (lo hi : Nat) : (s.eraseFirn lo hi).port0 = s.port0 := rfl
@[simp] theorem State.eraseFirn_port1 (lo hi : Nat) : (s.eraseFirn lo hi).port1 = s.port1 := rfl
@[simp] theorem State.eraseFirn_chg (lo hi : Nat) : (s.eraseFirn lo hi).chg = s.chg := rfl
@[simp] theorem State.eraseFirn_kbd (lo hi : Nat) : (s.eraseFirn lo hi).kbd = s.kbd := rfl
@[simp] theorem State.eraseFirn_lux (lo hi : Nat) : (s.eraseFirn lo hi).lux = s.lux := rfl
@[simp] theorem State.eraseFirn_chn (lo hi : Nat) : (s.eraseFirn lo hi).chn = s.chn := rfl
@[simp] theorem State.eraseFirn_thm (lo hi : Nat) : (s.eraseFirn lo hi).thm = s.thm := rfl
@[simp] theorem State.eraseFirn_floe0 (lo hi : Nat) : (s.eraseFirn lo hi).floe0 = s.floe0 := rfl
@[simp] theorem State.eraseFirn_floe1 (lo hi : Nat) : (s.eraseFirn lo hi).floe1 = s.floe1 := rfl
@[simp] theorem State.eraseFirn_sec (lo hi : Nat) : (s.eraseFirn lo hi).sec = s.sec := rfl
@[simp] theorem State.eraseFirn_fgd (lo hi : Nat) : (s.eraseFirn lo hi).fgd = s.fgd := rfl
@[simp] theorem State.eraseFirn_nvc (lo hi : Nat) : (s.eraseFirn lo hi).nvc = s.nvc := rfl
@[simp] theorem State.eraseFirn_kpf (lo hi : Nat) : (s.eraseFirn lo hi).kpf = s.kpf := rfl
@[simp] theorem State.eraseFirn_wdog (lo hi : Nat) : (s.eraseFirn lo hi).wdog = s.wdog := rfl
@[simp] theorem State.eraseFirn_pending (lo hi : Nat) : (s.eraseFirn lo hi).pending = s.pending := rfl

@[simp] theorem State.seen_tbase (t : Nat) : (s.seen t).tbase = max s.tbase t := rfl
@[simp] theorem State.drawn_free : s.drawn.free = s.free + 1 := rfl

/-! ### Register fields -/

/-- A register field after a write of a register field. -/
theorem State.rd_wr (f g : Field) (v : Nat) :
    (s.wr f v).rd g = if g.key = f.key then v % 2 ^ f.width else s.rd g := by
  simp [State.rd, State.wr, Sparse.get_put]

@[simp] theorem State.rd_wr_self (f : Field) (v : Nat) : (s.wr f v).rd f = v % 2 ^ f.width := by
  simp [State.rd_wr]

theorem State.rd_wr_of_ne {f g : Field} (v : Nat) (h : g.key ≠ f.key) : (s.wr f v).rd g = s.rd g := by
  simp [State.rd_wr, h]

/-- A bit that was set reads 1. -/
theorem State.on_set {f : Field} (h : f.width ≠ 0) : (s.set f).on f = true := by
  have : 1 % 2 ^ f.width = 1 := Nat.mod_eq_of_lt (by have := Nat.one_lt_two_pow h; omega)
  simp [State.on, State.set, this]

/-- A bit that was cleared reads 0. -/
@[simp] theorem State.on_clr (f : Field) : (s.clr f).on f = false := by
  simp [State.on, State.clr]

/-- The register fields are those of the field table. -/
theorem State.rd_congr {s t : State} (h : t.fields = s.fields) (f : Field) : t.rd f = s.rd f := by
  simp [State.rd, h]

@[simp] theorem State.rd_seen (t : Nat) (g : Field) : (s.seen t).rd g = s.rd g := rfl
@[simp] theorem State.on_seen (t : Nat) (g : Field) : (s.seen t).on g = s.on g := rfl
@[simp] theorem State.rd_drawn (g : Field) : (s.drawn).rd g = s.rd g := rfl
@[simp] theorem State.on_drawn (g : Field) : (s.drawn).on g = s.on g := rfl
@[simp] theorem State.rd_setByte (a : Nat) (b : Byte) (g : Field) : (s.setByte a b).rd g = s.rd g := rfl
@[simp] theorem State.on_setByte (a : Nat) (b : Byte) (g : Field) : (s.setByte a b).on g = s.on g := rfl
@[simp] theorem State.rd_wipe (lo hi : Nat) (g : Field) : (s.wipe lo hi).rd g = s.rd g := rfl
@[simp] theorem State.on_wipe (lo hi : Nat) (g : Field) : (s.wipe lo hi).on g = s.on g := rfl
@[simp] theorem State.rd_setFirnWord (w v : Nat) (g : Field) : (s.setFirnWord w v).rd g = s.rd g := rfl
@[simp] theorem State.on_setFirnWord (w v : Nat) (g : Field) : (s.setFirnWord w v).on g = s.on g := rfl
@[simp] theorem State.rd_eraseFirn (lo hi : Nat) (g : Field) : (s.eraseFirn lo hi).rd g = s.rd g := rfl
@[simp] theorem State.on_eraseFirn (lo hi : Nat) (g : Field) : (s.eraseFirn lo hi).on g = s.on g := rfl

/-! ### Memory -/

/-- A byte after a store of a byte. -/
theorem State.byte_setByte (a c : Nat) (b : Byte) : (s.setByte a b).byte c = if c = a then b else s.byte c := by
  simp [State.byte, State.setByte, Sparse.get_put]

@[simp] theorem State.byte_setByte_self (a : Nat) (b : Byte) : (s.setByte a b).byte a = b := by
  simp [State.byte_setByte]

/-- A byte after a memory was zeroed. -/
theorem State.byte_wipe (lo hi a : Nat) : (s.wipe lo hi).byte a = if lo ≤ a ∧ a < hi then 0 else s.byte a := by
  simp [State.byte, State.wipe, Sparse.get_clearRange]

/-- Bytes outside those stored are as before. -/
theorem State.byte_setBytes_outside (l : List Byte) (a c : Nat) (h : c < a ∨ a + l.length ≤ c) :
    (s.setBytes a l).byte c = s.byte c := by
  induction l generalizing s a with
  | nil => rfl
  | cons b l ih =>
    simp only [List.length_cons] at h
    rw [State.setBytes, ih _ _ (by omega), State.byte_setByte]
    split
    · omega
    · rfl

/-- The bytes stored. -/
theorem State.byte_setBytes_inside (l : List Byte) (a i : Nat) (h : i < l.length) :
    (s.setBytes a l).byte (a + i) = l[i] := by
  induction l generalizing s a i with
  | nil => simp at h
  | cons b l ih =>
    rw [State.setBytes]
    cases i with
    | zero => rw [State.byte_setBytes_outside _ _ _ _ (by omega)]; simp
    | succ i =>
      have := ih (s.setByte a b) (a + 1) i (by simpa using h)
      rw [show a + 1 + i = a + (i + 1) by omega] at this
      simpa using this

/-- A Firn word after a Firn word was set. -/
theorem State.firnWord_setFirnWord (w v x : Nat) :
    (s.setFirnWord w v).firnWord x = if x = w then v % 2 ^ 64 else s.firnWord x := by
  simp [State.firnWord, State.setFirnWord, Sparse.get_put]

/-- Firn words after sectors were erased. -/
theorem State.firnWord_eraseFirn (lo hi x : Nat) :
    (s.eraseFirn lo hi).firnWord x = if lo / 8 ≤ x ∧ x < hi / 8 then erasedWord else s.firnWord x := by
  simp [State.firnWord, State.eraseFirn, Sparse.get_clearRange]

@[simp] theorem State.byte_wr (f : Field) (v : Nat) (c : Nat) : (s.wr f v).byte c = s.byte c := rfl
@[simp] theorem State.firnWord_wr (f : Field) (v : Nat) (x : Nat) : (s.wr f v).firnWord x = s.firnWord x := rfl
@[simp] theorem State.byte_set (f : Field) (c : Nat) : (s.set f).byte c = s.byte c := rfl
@[simp] theorem State.firnWord_set (f : Field) (x : Nat) : (s.set f).firnWord x = s.firnWord x := rfl
@[simp] theorem State.byte_clr (f : Field) (c : Nat) : (s.clr f).byte c = s.byte c := rfl
@[simp] theorem State.firnWord_clr (f : Field) (x : Nat) : (s.clr f).firnWord x = s.firnWord x := rfl
@[simp] theorem State.byte_wrB (f : Field) (b : Bool) (c : Nat) : (s.wrB f b).byte c = s.byte c := rfl
@[simp] theorem State.firnWord_wrB (f : Field) (b : Bool) (x : Nat) : (s.wrB f b).firnWord x = s.firnWord x := rfl
@[simp] theorem State.byte_count (f : Field) (n : Nat) (c : Nat) : (s.count f n).byte c = s.byte c := rfl
@[simp] theorem State.firnWord_count (f : Field) (n : Nat) (x : Nat) : (s.count f n).firnWord x = s.firnWord x := rfl
@[simp] theorem State.byte_setBit (f : Field) (i : Nat) (c : Nat) : (s.setBit f i).byte c = s.byte c := rfl
@[simp] theorem State.firnWord_setBit (f : Field) (i : Nat) (x : Nat) : (s.setBit f i).firnWord x = s.firnWord x := rfl
@[simp] theorem State.byte_clrBit (f : Field) (i : Nat) (c : Nat) : (s.clrBit f i).byte c = s.byte c := rfl
@[simp] theorem State.firnWord_clrBit (f : Field) (i : Nat) (x : Nat) : (s.clrBit f i).firnWord x = s.firnWord x := rfl
@[simp] theorem State.byte_seen (t : Nat) (c : Nat) : (s.seen t).byte c = s.byte c := rfl
@[simp] theorem State.firnWord_seen (t : Nat) (x : Nat) : (s.seen t).firnWord x = s.firnWord x := rfl
@[simp] theorem State.byte_drawn (c : Nat) : (s.drawn).byte c = s.byte c := rfl
@[simp] theorem State.firnWord_drawn (x : Nat) : (s.drawn).firnWord x = s.firnWord x := rfl
@[simp] theorem State.firnWord_setByte (a : Nat) (b : Byte) (x : Nat) : (s.setByte a b).firnWord x = s.firnWord x := rfl
@[simp] theorem State.firnWord_wipe (lo hi : Nat) (x : Nat) : (s.wipe lo hi).firnWord x = s.firnWord x := rfl
@[simp] theorem State.byte_setFirnWord (w v : Nat) (c : Nat) : (s.setFirnWord w v).byte c = s.byte c := rfl
@[simp] theorem State.byte_eraseFirn (lo hi : Nat) (c : Nat) : (s.eraseFirn lo hi).byte c = s.byte c := rfl

end Sys2Proof.Machine
end

