-- ==== Sys2Proof/Laws/Core.lean ====
section
/-! SUPPORT. What the frame around every instruction does, once: an instruction that issues runs on the fetched state, and
retires. -/

namespace Sys2Proof.Machine

/-- Fetching changes no core register but the wait that ends. -/
theorem firnChecked_cpu (s : State) (w : Nat) : (s.firnChecked w).cpu = s.cpu := by
  unfold State.firnChecked; split <;> (try split) <;> rfl

/-- Nor does the wait for a running erase. -/
theorem firnReady_cpu (s : State) : (firnReady s).cpu = s.cpu := by
  unfold firnReady
  split
  · split
    · rename_i hc h
      simp [nvcDone, hc, h, nvcEnds, State.eraseFirn]
    · rfl
  · rfl

theorem fetchMarks_cpu (s : State) : (fetchMarks s).cpu = s.cpu := by
  unfold fetchMarks
  dsimp only
  split <;> (try rw [firnChecked_cpu, firnReady_cpu]) <;> split <;> rfl

@[simp] theorem fetched_cpu (s : State) : (fetched s).cpu = awake s := fetchMarks_cpu _

/-- The decode checks look at the mode, the decode table and the microcode alone. -/
theorem decodeCheck_fetched (s : State) (p : Pred) (op : Op) : decodeCheck (fetched s) p op = decodeCheck s p op := by
  have micro : ∀ ops i n, microOps (fetched s) ops i n = microOps s ops i n := by
    intro ops i n
    induction n generalizing i with
    | zero => rfl
    | succ n ih => simp only [microOps, fetched_cpu, awake, ih]
  cases op with
  | custom => simp only [decodeCheck, fetched_cpu, awake, customCheck, tableWord, entryOps, micro]; rfl
  | _ => simp only [decodeCheck, fetched_cpu, awake]

/-- An instruction that issues runs on the fetched state. -/
theorem runCore_issues {p : Pred} {op : Op} {s : State} (h : Issues p op s) :
    runCore p op s = match runOp (fetched s) op with
      | .error (e, s') => faultAtPc e s'
      | .ok d => trapDz d.dz (finish d) := by
  obtain ⟨h1, h2, h3, h4⟩ := h
  have e : (fetched s).cpu.holds p = true := by rw [fetched_cpu]; exact h4
  have key : runCore p op s =
      if !canIssue s then s
      else match accessCheck s .fetch s.cpu.pc 4 with
        | some x => faultAtPc x (issued s)
        | none => match decodeCheck (fetched s) p op with
          | some x => faultAtPc x (fetched s)
          | none => if (fetched s).cpu.holds p then
              match runOp (fetched s) op with
              | .error (x, s') => faultAtPc x s'
              | .ok d => trapDz d.dz (finish d)
            else finish { s := fetched s, pc := (fetched s).cpu.pc + 4 } := rfl
  rw [key, h1, h2, decodeCheck_fetched, h3, e]
  rfl

/-- The end of an instruction is `retire`. -/
theorem finish_eq (d : Done) : finish d = retire d.s d.s.cpu d.pc d.load := by
  simp only [finish, retire, State.drawn, State.freeVal]

/-- An instruction that issues, raises nothing and divides by no zero retires. -/
theorem runCore_done {p : Pred} {op : Op} {s : State} {d : Done} (h : Issues p op s)
    (hd : runOp (fetched s) op = .ok d) (hz : (d.dz && d.s.cpu.commitSlot.dztrap) = false) :
    runCore p op s = retire d.s d.s.cpu d.pc d.load := by
  rw [runCore_issues h, hd]
  simp only [← finish_eq]
  have t : (finish d).cpu.dztrap = d.s.cpu.commitSlot.dztrap := rfl
  simp only [trapDz, t, hz, Bool.false_eq_true, if_false]

/-- A load's end leaves every core flag. -/
@[simp] theorem Cpu.commitSlot_dztrap (c : Cpu) : c.commitSlot.dztrap = c.dztrap := by
  unfold Cpu.commitSlot; split <;> rfl

/-- An instruction that changes core registers only. -/
theorem runCore_after {p : Pred} {op : Op} {s : State} {c : Cpu} (h : Issues p op s)
    (hd : runOp (fetched s) op = .ok { s := { fetched s with cpu := c }, pc := s.cpu.pc + 4 }) :
    runCore p op s = after s c := by
  rw [runCore_done h hd rfl]; rfl

end Sys2Proof.Machine
end

