-- ==== Sys2Proof/Laws/Kept.lean ====
section
/-! SUPPORT. What every operation of the model keeps: the canonical form, the queue, and burned fuses. The lemmas of the
files KeptUnits1 to KeptCommands say it once of every definition of Machine/ that yields a state. -/

namespace Sys2Proof.Machine

/-- A table of registers or memory that is canonical if `o`'s are. -/
def WfFields (o : State) (l : List (Nat × Nat)) : Prop := Canonical o → Sparse.wf 0 l = true
def WfMem (o : State) (l : List Host.Cell) : Prop := Canonical o → Sparse.wf 0 l = true
def WfFirn (o : State) (l : List (Nat × Nat)) : Prop := Canonical o → Sparse.wf erasedWord l = true

/-- The queue is that of `o`. -/
def SameQueue (o : State) (q : List Instr) : Prop := q = o.pending

/-- No fuse of `o` is unburned. -/
def Burnt (o : State) (f : Fuses) : Prop := o.sec.fuses.burntIn f

/-- `s` keeps what `o` had. -/
def Kept (o s : State) : Prop :=
  WfFields o s.fields ∧ WfMem o s.mem ∧ WfFirn o s.firn ∧ SameQueue o s.pending ∧ Burnt o s.sec.fuses

/-- The same of a command's outcome, of a served transaction's commit, of what KPF does about something it watches, and
of what can end in an exception. -/
def KeptNext (o : State) (x : Host.Outcome State Fault Refusal) : Prop := ∀ t, x = .next t → Kept o t
def KeptS (o : State) (r : Served) : Prop := ∀ t, Kept o t → Kept o (r.commit t)
def KeptW (o : State) (w : Watch) : Prop := ∀ a b t, Kept o t → Kept o (w.act a b t)
def KeptE1 (o : State) (x : Except Exc State) : Prop := match x with | .error _ => True | .ok t => Kept o t
def KeptE2 (o : State) (x : Except Exc (Word × State)) : Prop := match x with | .error _ => True | .ok r => Kept o r.2
def KeptE3 (o : State) (x : OpOut) : Prop := match x with | .error r => Kept o r.2 | .ok d => Kept o d.s
def KeptE4 (o : State) (x : Except Exc (State × Bool)) : Prop := match x with | .error _ => True | .ok r => Kept o r.1
def KeptE5 (o : State) (x : Elem) : Prop := match x with | .exc _ => True | .next t => Kept o t | .stop t => Kept o t

theorem Fuses.burntIn_refl (f : Fuses) : f.burntIn f := by
  simp [Fuses.burntIn]

theorem Fuses.burntIn_trans {f g h : Fuses} (a : f.burntIn g) (b : g.burntIn h) : f.burntIn h := by
  obtain ⟨a0, a1, a2, a3, a4, a5, a6, a7, a8⟩ := a
  obtain ⟨b0, b1, b2, b3, b4, b5, b6, b7, b8⟩ := b
  refine ⟨b0.trans a0, b1 ∘ a1, b2 ∘ a2, b3 ∘ a3, by omega, by omega, by omega, fun i => b7 i ∘ a7 i, fun k hk => ?_⟩
  rw [b8 k (by rw [a8 k hk]; exact hk), a8 k hk]

theorem Kept.refl (s : State) : Kept s s :=
  ⟨fun h => h.1, fun h => h.2.1, fun h => h.2.2, rfl, Fuses.burntIn_refl _⟩

/-- What `Kept` says of a state from a canonical one. -/
theorem Kept.canonical {o s : State} (h : Kept o s) (ho : Canonical o) : Canonical s := ⟨h.1 ho, h.2.1 ho, h.2.2.1 ho⟩
theorem Kept.pending {o s : State} (h : Kept o s) : s.pending = o.pending := h.2.2.2.1
theorem Kept.burnt {o s : State} (h : Kept o s) : o.sec.fuses.burntIn s.sec.fuses := h.2.2.2.2

variable {o s : State}

/-! ### Primitive operations -/

theorem kept_wr {f : Field} {v : Nat} (h : Kept o s) : Kept o (s.wr f v) :=
  ⟨fun ho => Sparse.wf_put _ _ (h.1 ho), h.2⟩
theorem kept_setByte {a : Nat} {b : Byte} (h : Kept o s) : Kept o (s.setByte a b) :=
  ⟨h.1, fun ho => Sparse.wf_put _ _ (h.2.1 ho), h.2.2⟩
theorem kept_wipe {lo hi : Nat} (h : Kept o s) : Kept o (s.wipe lo hi) :=
  ⟨h.1, fun ho => Sparse.wf_clearRange _ _ (h.2.1 ho), h.2.2⟩
theorem kept_setFirnWord {w v : Nat} (h : Kept o s) : Kept o (s.setFirnWord w v) :=
  ⟨h.1, h.2.1, fun ho => Sparse.wf_put _ _ (h.2.2.1 ho), h.2.2.2⟩
theorem kept_eraseFirn {lo hi : Nat} (h : Kept o s) : Kept o (s.eraseFirn lo hi) :=
  ⟨h.1, h.2.1, fun ho => Sparse.wf_clearRange _ _ (h.2.2.1 ho), h.2.2.2⟩

/-! ### Forms of definitions -/

/-- A state put together from parts. -/
theorem kept_mk {fields mem badBytes firn firnCorr firnDed tbase rdata free cpu board balls sys log link ec bulk mbx
    lpe rail pwr port0 port1 chg kbd lux chn thm floe0 floe1 sec fgd nvc kpf wdog pending} :
    Kept o ⟨fields, mem, badBytes, firn, firnCorr, firnDed, tbase, rdata, free, cpu, board, balls, sys, log, link, ec, bulk, mbx,
      lpe, rail, pwr, port0, port1, chg, kbd, lux, chn, thm, floe0, floe1, sec, fgd, nvc, kpf, wdog, pending⟩ ↔
      WfFields o fields ∧ WfMem o mem ∧ WfFirn o firn ∧ SameQueue o pending ∧ Burnt o sec.fuses := Iff.rfl

theorem keptIte {c : Prop} [Decidable c] {a b : State} (ha : Kept o a) (hb : Kept o b) : Kept o (if c then a else b) := by split <;> assumption
theorem keptFold {α : Type} {l : List α} {f : State → α → State} {s : State} (h : Kept o s)
    (hf : ∀ s a, Kept o s → Kept o (f s a)) : Kept o (l.foldl f s) := by
  induction l generalizing s with
  | nil => exact h
  | cons a l ih => exact ih (hf s a h)
theorem keptFoldSnd {α β : Type} {l : List α} {f : β × State → α → β × State} {p : β × State}
    (h : Kept o p.2) (hf : ∀ p a, Kept o p.2 → Kept o (f p a).2) : Kept o (l.foldl f p).2 := by
  induction l generalizing p with
  | nil => exact h
  | cons a l ih => exact ih (hf p a h)
theorem keptVia_2 {α : Type} {r : α × State} {a : α} {t : State} {G : Prop} (e : r = (a, t)) (h : Kept o r.2)
    (hG : Kept o t → G) : G := hG (by rw [e] at h; exact h)

theorem keptServed {r : LinkResp} {f : Bool} {c : State → State} (h : ∀ t, Kept o t → Kept o (c t)) :
    KeptS o ⟨r, f, c⟩ := h
theorem kept_Served_commit {self : Served} {s : State} (h : KeptS o self) (h2 : Kept o s) :
    Kept o (self.commit s) := h s h2
theorem keptWatch {k : Nat} {f : State → Nat} {c : Nat → Nat → State → State}
    (h : ∀ a b t, Kept o t → Kept o (c a b t)) : KeptW o ⟨k, f, c⟩ := h
theorem keptFoldMem {α : Type} {l : List α} {f : State → α → State} {s : State} (h : Kept o s)
    (hf : ∀ s a, a ∈ l → Kept o s → Kept o (f s a)) : Kept o (l.foldl f s) := by
  induction l generalizing s with
  | nil => exact h
  | cons a l ih => exact ih (hf s a (by simp) h) fun s b hb => hf s b (by simp [hb])

theorem keptNext {t : State} (h : Kept o t) : KeptNext o (.next t) := by
  intro t e; cases e; exact h
theorem kept_fuses {s : State} {f : Fuses} (h : Kept o s) (hf : s.sec.fuses.burntIn f) :
    Kept o { s with sec := { s.sec with fuses := f } } :=
  ⟨h.1, h.2.1, h.2.2.1, h.2.2.2.1, Fuses.burntIn_trans h.2.2.2.2 hf⟩

theorem keptE1_ok {t : State} (h : Kept o t) : KeptE1 o (.ok t) := h
theorem keptE2_ok {r : Word × State} (h : Kept o r.2) : KeptE2 o (.ok r) := h
theorem keptE3_ok {d : Done} (h : Kept o d.s) : KeptE3 o (.ok d) := h
theorem keptE3_error {r : Exc × State} (h : Kept o r.2) : KeptE3 o (.error r) := h
theorem of_keptE1_ok {t : State} (h : KeptE1 o (.ok t)) : Kept o t := h
theorem of_keptE2_ok {r : Word × State} (h : KeptE2 o (.ok r)) : Kept o r.2 := h
theorem of_keptE3_ok {d : Done} (h : KeptE3 o (.ok d)) : Kept o d.s := h
theorem of_keptE3_error {r : Exc × State} (h : KeptE3 o (.error r)) : Kept o r.2 := h
theorem keptViaE1ok {x : Except Exc State} {t : State} {G : Prop} (e : x = .ok t) (h : KeptE1 o x) (hG : Kept o t → G) : G :=
  hG (by rw [e] at h; exact h)
theorem keptViaE2ok {x : Except Exc (Word × State)} {r : Word × State} {G : Prop} (e : x = .ok r) (h : KeptE2 o x)
    (hG : Kept o r.2 → G) : G := hG (by rw [e] at h; exact h)
theorem keptViaE3ok {x : OpOut} {d : Done} {G : Prop} (e : x = .ok d) (h : KeptE3 o x) (hG : Kept o d.s → G) : G :=
  hG (by rw [e] at h; exact h)
theorem keptViaE3error {x : OpOut} {r : Exc × State} {G : Prop} (e : x = .error r) (h : KeptE3 o x) (hG : Kept o r.2 → G) : G :=
  hG (by rw [e] at h; exact h)

theorem keptE4_ok {r : State × Bool} (h : Kept o r.1) : KeptE4 o (.ok r) := h
theorem keptE5_next {t : State} (h : Kept o t) : KeptE5 o (.next t) := h
theorem keptE5_stop {t : State} (h : Kept o t) : KeptE5 o (.stop t) := h
theorem keptViaE4ok {x : Except Exc (State × Bool)} {r : State × Bool} {G : Prop} (e : x = .ok r) (h : KeptE4 o x)
    (hG : Kept o r.1 → G) : G := hG (by rw [e] at h; exact h)
theorem keptViaE5next {x : Elem} {t : State} {G : Prop} (e : x = .next t) (h : KeptE5 o x) (hG : Kept o t → G) : G :=
  hG (by rw [e] at h; exact h)
theorem keptViaE5stop {x : Elem} {t : State} {G : Prop} (e : x = .stop t) (h : KeptE5 o x) (hG : Kept o t → G) : G :=
  hG (by rw [e] at h; exact h)
theorem keptElim {α : Type} {x : Option α} {a : State} {f : α → State} (h : Kept o a) (hf : ∀ y, Kept o (f y)) :
    Kept o (x.elim a f) := by cases x <;> simp [h, hf]
theorem keptId {t : State} (h : Kept o t) : Kept o (id t) := h
theorem keptSnd {α : Type} {a : α} {t : State} (h : Kept o t) : Kept o (a, t).2 := h
theorem keptFst {α : Type} {a : α} {t : State} (h : Kept o t) : Kept o (t, a).1 := h
theorem keptOpEnd {t : State} {a b} (h : Kept o t) : Kept o (OpEnd.mk a b t).s := h
theorem keptDone {t : State} {a b c} (h : Kept o t) : Kept o (Done.mk t a b c).s := h
theorem kept_fieldsMerge {s : State} {l : List (Nat × Nat)} {n : Nat} {f g : Nat × Nat → Bool} (h : Kept o s)
    (hl : Sparse.wf 0 l = true) : Kept o { s with fields := Sparse.merge n (s.fields.filter f) (l.filter g) } :=
  ⟨fun ho => Sparse.wf_merge _ (Sparse.wf_filter _ (h.1 ho)) (Sparse.wf_filter _ hl), h.2⟩

end Sys2Proof.Machine
end

