-- ==== Sys2Proof/Laws/KeptUnits1.lean ====
section
/-! SUPPORT. What the operations keep (Laws/Kept.lean): power, PD, charging, the SEC block and the crypto engine. -/

namespace Sys2Proof.Machine

variable {o : State}

/-! ### Machine/State.lean -/

theorem kept_reset_self : Kept State.reset State.reset := Kept.refl _

/-! ### Machine/Ops.lean -/

theorem kept_seen {s t} (h1 : Kept o s) :
    Kept o (State.seen s t) := by
  unfold State.seen
  exact kept_mk.mpr h1

theorem kept_set {s f} (h1 : Kept o s) :
    Kept o (State.set s f) := by
  unfold State.set
  exact kept_wr h1

theorem kept_count {s f n} (h1 : Kept o s) :
    Kept o (State.count s f n) := by
  unfold State.count
  exact kept_wr h1

theorem kept_firnChecked {s w} (h1 : Kept o s) :
    Kept o (State.firnChecked s w) := by
  unfold State.firnChecked
  exact keptIte (kept_count (kept_set h1)) (keptIte (kept_count (kept_set h1)) h1)

theorem kept_firnScan {off n s} (h3 : Kept o s) :
    Kept o (State.firnScan off n s) := by
  unfold State.firnScan
  refine keptFold ?_ ?_
  · exact h3
  · intro y0 y1 y2
    exact kept_firnChecked y2

theorem kept_nvcError {result w s} (h3 : Kept o s) :
    Kept o (State.nvcError result w s) := by
  unfold State.nvcError
  exact kept_wr (kept_set (kept_wr h3))

theorem kept_clr {s f} (h1 : Kept o s) :
    Kept o (State.clr s f) := by
  unfold State.clr
  exact kept_wr h1

theorem kept_programWord {w v s} (h3 : Kept o s) :
    Kept o (State.programWord w v s) := by
  unfold State.programWord
  exact keptIte (kept_setFirnWord h3) (kept_nvcError h3)

theorem kept_drawn {s} (h1 : Kept o s) :
    Kept o (State.drawn s) := by
  unfold State.drawn
  exact kept_mk.mpr h1

theorem kept_wrB {s f b} (h1 : Kept o s) :
    Kept o (State.wrB s f b) := by
  unfold State.wrB
  exact kept_wr h1

theorem kept_logEnter {s r} (h1 : Kept o s) :
    Kept o (State.logEnter s r) := by
  unfold State.logEnter
  extract_lets +onlyGivenNames v0
  clear_value v0
  extract_lets +onlyGivenNames v1
  have k2 : Kept o v1 := kept_mk.mpr h1
  exact keptIte (kept_set k2) k2

theorem kept_logDrop {s} (h1 : Kept o s) :
    Kept o (State.logDrop s) := by
  unfold State.logDrop
  exact kept_set (kept_count h1)

theorem kept_hwLog {s source sev code data} (h1 : Kept o s) :
    Kept o (State.hwLog s source sev code data) := by
  unfold State.hwLog
  extract_lets +onlyGivenNames v0
  clear_value v0
  exact keptIte (keptIte (kept_logEnter h1) (kept_logDrop h1)) (keptIte h1 (keptIte (kept_mk.mpr h1) (kept_mk.mpr
      h1)))

theorem kept_clearRc {s a} (h1 : Kept o s) :
    Kept o (State.clearRc s a) := by
  unfold State.clearRc
  refine keptFold ?_ ?_
  · exact h1
  · intro y0 y1 y2
    exact keptIte (kept_wr y2) y2

theorem kept_setBytes {s a x3} (h1 : Kept o s) :
    Kept o (State.setBytes s a x3) := by
  fun_induction State.setBytes s a x3
  · exact h1
  · rename_i a6
    exact a6 (kept_setByte h1)

theorem kept_storeNat {s a n v} (h1 : Kept o s) :
    Kept o (State.storeNat s a n v) := by
  unfold State.storeNat
  exact kept_setBytes h1

theorem kept_setBit {s f i} (h1 : Kept o s) :
    Kept o (State.setBit s f i) := by
  unfold State.setBit
  exact kept_wr h1

theorem kept_writeRow {s0 a v s r} (h1 : Kept o s0) (h4 : Kept o s) :
    Kept o (writeRow s0 a v s r) := by
  unfold writeRow
  extract_lets +onlyGivenNames v0
  clear_value v0
  extract_lets +onlyGivenNames v1
  clear_value v1
  split
  · exact kept_wr h4
  · exact kept_wr h4
  · exact kept_wr h4
  · exact keptIte h4 (kept_wr h4)
  · exact h4
  · exact h4
  · exact h4

theorem kept_regWrite {s a v} (h1 : Kept o s) :
    Kept o (State.regWrite s a v) := by
  unfold State.regWrite
  refine keptFold ?_ ?_
  · exact h1
  · intro y0 y1 y2
    exact kept_writeRow h1 y2

theorem kept_hostUnseal {s} (h1 : Kept o s) :
    Kept o (hostUnseal s) := by
  unfold hostUnseal
  exact kept_mk.mpr h1

theorem kept_clrBit {s f i} (h1 : Kept o s) :
    Kept o (State.clrBit s f i) := by
  unfold State.clrBit
  exact kept_wr h1

/-! ### Machine/Power.lean -/

theorem kept_setPin {n x s} (h3 : Kept o s) :
    Kept o (setPin n x s) := by
  unfold setPin
  exact kept_mk.mpr h3

theorem kept_trackerOff {n s} (h2 : Kept o s) :
    Kept o (trackerOff n s) := by
  unfold trackerOff
  exact kept_setPin h2

theorem kept_handOver {s} (h1 : Kept o s) :
    Kept o (handOver s) := by
  unfold handOver
  split
  · exact h1
  · extract_lets +onlyGivenNames v5
    have k6 : Kept o v5 := kept_trackerOff h1
    clear_value v5
    extract_lets +onlyGivenNames v7
    clear_value v7
    extract_lets +onlyGivenNames v8
    have k9 : Kept o v8 := kept_mk.mpr k6
    clear_value v8
    exact kept_set (keptIte (kept_set k9) k9)

theorem kept_protectOff {n s} (h2 : Kept o s) :
    Kept o (protectOff n s) := by
  unfold protectOff
  extract_lets +onlyGivenNames v0
  clear_value v0
  extract_lets +onlyGivenNames v1
  have k2 : Kept o v1 := kept_setPin h2
  clear_value v1
  exact keptIte (kept_handOver k2) (kept_trackerOff k2)

theorem kept_overVoltage {n vin s} (h3 : Kept o s) :
    Kept o (overVoltage n vin s) := by
  unfold overVoltage
  exact kept_protectOff (kept_set (kept_setPin h3))

theorem kept_pwrRead {a s} (h2 : Kept o s) :
    Kept o (pwrRead a s).2 := by
  unfold pwrRead
  split
  · exact keptSnd h2
  · split
    · exact keptSnd h2
    · exact keptSnd (kept_clearRc h2)

theorem kept_refreshCeil {n s} (h2 : Kept o s) :
    Kept o (refreshCeil n s) := by
  unfold refreshCeil
  extract_lets +onlyGivenNames v0
  clear_value v0
  extract_lets +onlyGivenNames v1
  clear_value v1
  extract_lets +onlyGivenNames v2
  clear_value v2
  exact kept_setPin h2

theorem kept_setPort {p x s} (h3 : Kept o s) :
    Kept o (setPort p x s) := by
  unfold setPort
  exact keptIte (kept_mk.mpr h3) (kept_mk.mpr h3)

theorem kept_endContract {p s} (h2 : Kept o s) :
    Kept o (endContract p s) := by
  unfold endContract
  extract_lets +onlyGivenNames v0
  have k1 : Kept o v0 := kept_clr (kept_clr h2)
  clear_value v0
  extract_lets +onlyGivenNames v2
  have k3 : Kept o v2 := kept_wr (kept_wr (kept_wr k1))
  clear_value v2
  exact kept_setPort k3

theorem kept_portDetach {p s} (h2 : Kept o s) :
    Kept o (portDetach p s) := by
  unfold portDetach
  extract_lets +onlyGivenNames v0
  have k1 : Kept o v0 := kept_endContract h2
  clear_value v0
  extract_lets +onlyGivenNames v2
  have k3 : Kept o v2 := kept_clr (kept_clr (kept_clr (kept_clr (kept_clr k1))))
  clear_value v2
  extract_lets +onlyGivenNames v4
  have k5 : Kept o v4 := kept_set (kept_wr k3)
  clear_value v4
  extract_lets +onlyGivenNames v6
  have k7 : Kept o v6 := kept_clr k5
  clear_value v6
  extract_lets +onlyGivenNames v8
  clear_value v8
  exact kept_setPort k7

theorem kept_reverseStop {cause s} (h2 : Kept o s) :
    Kept o (reverseStop cause s) := by
  unfold reverseStop
  refine keptIte ?_ ?_
  · extract_lets +onlyGivenNames v0
    clear_value v0
    extract_lets +onlyGivenNames v1
    clear_value v1
    extract_lets +onlyGivenNames v2
    have k3 : Kept o v2 := kept_portDetach h2
    clear_value v2
    extract_lets +onlyGivenNames v4
    have k5 : Kept o v4 := keptIte (kept_set k3) k3
    clear_value v4
    extract_lets +onlyGivenNames v6
    have k7 : Kept o v6 := kept_wr (kept_wr (kept_clr k5))
    clear_value v6
    exact kept_set k7
  · exact h2

theorem kept_rdEnforced {s} (h1 : Kept o s) :
    Kept o (rdEnforced s) := by
  unfold rdEnforced
  refine keptFold ?_ ?_
  · exact h1
  · intro y0 y1 y2
    exact keptIte (kept_portDetach y2) y2

theorem kept_vocDone {n voc s} (h3 : Kept o s) :
    Kept o (vocDone n voc s) := by
  unfold vocDone
  extract_lets +onlyGivenNames v0
  clear_value v0
  extract_lets +onlyGivenNames v1
  have k2 : Kept o v1 := kept_refreshCeil (kept_setPin h3)
  clear_value v1
  extract_lets +onlyGivenNames v3
  clear_value v3
  refine keptIte ?_ ?_
  · exact kept_setPin k2
  · extract_lets +onlyGivenNames v4
    clear_value v4
    exact kept_setPin k2

theorem kept_skipVoc {n s} (h2 : Kept o s) :
    Kept o (skipVoc n s) := by
  unfold skipVoc
  extract_lets +onlyGivenNames v0
  clear_value v0
  exact kept_vocDone h2

theorem kept_startVoc {n again s} (h3 : Kept o s) :
    Kept o (startVoc n again s) := by
  unfold startVoc
  extract_lets +onlyGivenNames v0
  clear_value v0
  extract_lets +onlyGivenNames v1
  have k2 : Kept o v1 := kept_setPin h3
  clear_value v1
  exact keptIte k2 (kept_skipVoc k2)

theorem kept_select {n s} (h2 : Kept o s) :
    Kept o (select n s) := by
  unfold select
  refine keptIte ?_ ?_
  · extract_lets +onlyGivenNames v0
    have k1 : Kept o v0 := kept_reverseStop h2
    clear_value v0
    exact kept_mk.mpr k1
  · extract_lets +onlyGivenNames v2
    clear_value v2
    extract_lets +onlyGivenNames v3
    have k4 : Kept o v3 := kept_rdEnforced (kept_set (kept_mk.mpr h2))
    clear_value v3
    extract_lets +onlyGivenNames v5
    clear_value v5
    extract_lets +onlyGivenNames v6
    have k7 : Kept o v6 := kept_setPin k4
    clear_value v6
    exact keptIte (kept_startVoc k7) k7

theorem kept_reselect {s} (h1 : Kept o s) :
    Kept o (reselect s) := by
  unfold reselect
  refine keptIte ?_ ?_
  · exact h1
  · refine keptIte ?_ ?_
    · split
      · exact keptIte h1 (kept_handOver h1)
      · exact h1
    · refine keptIte ?_ ?_
      · exact h1
      · split
        · exact kept_select h1
        · exact h1
        · exact keptIte (kept_handOver h1) (keptIte (kept_handOver h1) h1)

theorem kept_takeRun {s} (h1 : Kept o s) :
    Kept o (takeRun s) := by
  unfold takeRun
  extract_lets +onlyGivenNames v0
  clear_value v0
  extract_lets +onlyGivenNames v1
  have k2 : Kept o v1 := kept_mk.mpr h1
  clear_value v1
  extract_lets +onlyGivenNames v3
  have k4 : Kept o v3 := by
    unfold v3
    refine keptFold ?_ ?_
    · exact k2
    · intro y5 y6 y7
      exact kept_refreshCeil y7
  clear_value v3
  refine kept_reselect ?_
  refine keptFold ?_ ?_
  · exact k4
  · intro y8 y9 y10
    exact keptIte (kept_startVoc y10) y10

theorem kept_clamp {s f lo x4} (h1 : Kept o s) :
    Kept o (State.clamp s f lo x4) := by
  unfold State.clamp
  exact kept_wr h1

theorem kept_refreshTrack {n s} (h2 : Kept o s) :
    Kept o (refreshTrack n s) := by
  unfold refreshTrack
  extract_lets +onlyGivenNames v0
  have k1 : Kept o v0 := kept_refreshCeil h2
  clear_value v0
  extract_lets +onlyGivenNames v2
  clear_value v2
  exact keptIte (kept_setPin k1) (keptIte (kept_startVoc k1) k1)

theorem kept_pwrWrite {a v s0} (h3 : Kept o s0) :
    Kept o (pwrWrite a v s0) := by
  unfold pwrWrite
  extract_lets +onlyGivenNames v0
  have k1 : Kept o v0 := kept_regWrite h3
  clear_value v0
  refine keptIte ?_ ?_
  · exact keptIte (kept_takeRun k1) (kept_reselect k1)
  · refine keptIte ?_ ?_
    · exact kept_clamp k1
    · refine keptIte ?_ ?_
      · extract_lets +onlyGivenNames v2
        clear_value v2
        split
        · exact kept_reselect (keptIte (kept_refreshTrack k1) k1)
        · exact kept_clamp k1
        · exact k1
      · exact k1

theorem kept_requalify {n before s} (h3 : Kept o s) :
    Kept o (requalify n before s) := by
  unfold requalify
  exact kept_reselect (keptIte (kept_set h3) h3)

theorem kept_pwrDomainReset {s} (h1 : Kept o s) :
    Kept o (pwrDomainReset s) := by
  unfold pwrDomainReset
  extract_lets +onlyGivenNames v0
  clear_value v0
  extract_lets +onlyGivenNames v1
  clear_value v1
  extract_lets +onlyGivenNames v2
  have k3 : Kept o v2 := keptIte (kept_mk.mpr h1) h1
  clear_value v2
  refine keptFold ?_ ?_
  · exact k3
  · intro y4 y5 y6
    exact kept_setPin y6

theorem kept_bounce {n s} (h2 : Kept o s) :
    Kept o (bounce n s) := by
  unfold bounce
  extract_lets +onlyGivenNames v0
  clear_value v0
  extract_lets +onlyGivenNames v1
  clear_value v1
  extract_lets +onlyGivenNames v2
  clear_value v2
  refine keptIte ?_ ?_
  · extract_lets +onlyGivenNames v3
    clear_value v3
    exact kept_hwLog (kept_set (kept_refreshCeil (kept_setPin h2)))
  · exact kept_setPin h2

theorem kept_invalidate {n counts s} (h3 : Kept o s) :
    Kept o (invalidate n counts s) := by
  unfold invalidate
  extract_lets +onlyGivenNames v0
  clear_value v0
  extract_lets +onlyGivenNames v1
  have k2 : Kept o v1 := keptIte (kept_bounce h3) h3
  clear_value v1
  extract_lets +onlyGivenNames v3
  have k4 : Kept o v3 := keptIte k2 (kept_trackerOff k2)
  clear_value v3
  exact kept_reselect (kept_setPin k4)

theorem kept_inputSeen {n vin s} (h3 : Kept o s) :
    Kept o (inputSeen n vin s) := by
  unfold inputSeen
  extract_lets +onlyGivenNames v0
  refine keptIte ?_ ?_
  · exact kept_setPin h3
  · extract_lets +onlyGivenNames v1
    extract_lets +onlyGivenNames v2
    clear_value v2
    extract_lets +onlyGivenNames v3
    have k4 : Kept o v3 := kept_setPin h3
    clear_value v3
    exact keptIte (keptIte k4 (kept_overVoltage k4)) (keptIte (keptIte k4 (kept_setPin k4)) (keptIte
        (kept_invalidate k4) k4))

theorem kept_settleAt {n i s} (h3 : Kept o s) :
    Kept o (settleAt n i s) := by
  unfold settleAt
  extract_lets +onlyGivenNames v0
  clear_value v0
  extract_lets +onlyGivenNames v1
  clear_value v1
  extract_lets +onlyGivenNames v2
  clear_value v2
  exact kept_set (kept_setPin h3)

theorem kept_trackerRun {n vin iin s} (h4 : Kept o s) :
    Kept o (trackerRun n vin iin s) := by
  unfold trackerRun
  extract_lets +onlyGivenNames v0
  clear_value v0
  refine keptIte ?_ ?_
  · exact kept_startVoc h4
  · split
    · exact keptIte (kept_skipVoc h4) (keptIte (kept_vocDone h4) h4)
    · refine keptIte ?_ ?_
      · exact kept_settleAt h4
      · refine keptIte ?_ ?_
        · exact kept_set (kept_setPin h4)
        · refine keptIte ?_ ?_
          · exact h4
          · extract_lets +onlyGivenNames v5
            clear_value v5
            exact kept_setPin h4
    · exact keptIte (kept_settleAt h4) h4
    · exact keptIte (kept_settleAt h4) h4
    · exact h4

theorem kept_inputTimed {n s} (h2 : Kept o s) :
    Kept o (inputTimed n s) := by
  unfold inputTimed
  extract_lets +onlyGivenNames v0
  clear_value v0
  exact keptIte (kept_requalify (kept_setPin h2)) h2

theorem kept_unplug {n s} (h2 : Kept o s) :
    Kept o (unplug n s) := by
  unfold unplug
  extract_lets +onlyGivenNames v0
  have k1 : Kept o v0 := keptIte h2 (kept_trackerOff h2)
  clear_value v0
  extract_lets +onlyGivenNames v2
  clear_value v2
  extract_lets +onlyGivenNames v3
  have k4 : Kept o v3 := kept_setPin k1
  clear_value v3
  extract_lets +onlyGivenNames v5
  have k6 : Kept o v5 := keptIte (kept_clr k4) k4
  clear_value v5
  exact kept_reselect (kept_refreshCeil k6)

theorem kept_inputLoss {n vin s} (h3 : Kept o s) :
    Kept o (inputLoss n vin s) := by
  unfold inputLoss
  extract_lets +onlyGivenNames v0
  refine keptIte ?_ ?_
  · extract_lets +onlyGivenNames v1
    clear_value v1
    extract_lets +onlyGivenNames v2
    have k3 : Kept o v2 := kept_setPin h3
    clear_value v2
    exact kept_handOver (kept_setPin (kept_bounce k3))
  · exact h3

/-! ### Machine/Pd.lean -/

theorem kept_pdSend {p m s} (h3 : Kept o s) :
    Kept o (pdSend p m s) := by
  unfold pdSend
  exact kept_setPort h3

theorem kept_contractMoved {p before s} (h3 : Kept o s) :
    Kept o (contractMoved p before s) := by
  unfold contractMoved
  exact kept_requalify (keptIte (kept_refreshTrack h3) h3)

theorem kept_hardReset {p s} (h2 : Kept o s) :
    Kept o (hardReset p s) := by
  unfold hardReset
  refine keptIte ?_ ?_
  · extract_lets +onlyGivenNames v0
    clear_value v0
    extract_lets +onlyGivenNames v1
    have k2 : Kept o v1 := kept_set (kept_count h2)
    clear_value v1
    extract_lets +onlyGivenNames v3
    have k4 : Kept o v3 := kept_pdSend (kept_clr (kept_endContract k2))
    clear_value v3
    exact kept_contractMoved (kept_setPort k4)
  · exact h2

theorem kept_showVconn {p s} (h2 : Kept o s) :
    Kept o (showVconn p s) := by
  unfold showVconn
  exact kept_wrB h2

theorem kept_showAttach {p s} (h2 : Kept o s) :
    Kept o (showAttach p s) := by
  unfold showAttach
  extract_lets +onlyGivenNames v0
  clear_value v0
  extract_lets +onlyGivenNames v1
  have k2 : Kept o v1 := kept_wrB (kept_wrB (kept_set h2))
  clear_value v1
  extract_lets +onlyGivenNames v3
  have k4 : Kept o v3 := kept_wr (kept_wrB k2)
  clear_value v3
  exact kept_showVconn k4

theorem kept_pdStart {s} (h1 : Kept o s) :
    Kept o (pdStart s) := by
  unfold pdStart
  refine keptFold ?_ ?_
  · exact h1
  · intro y0 y1 y2
    exact keptIte (kept_hardReset (kept_showAttach (kept_setPort y2))) y2

theorem kept_pwrBlockWrite {a v s} (h3 : Kept o s) :
    Kept o (pwrBlockWrite a v s) := by
  unfold pwrBlockWrite
  extract_lets +onlyGivenNames v0
  have k1 : Kept o v0 := kept_pwrWrite h3
  clear_value v0
  exact keptIte (kept_pdStart k1) k1

theorem kept_pdSendMore {p m s} (h3 : Kept o s) :
    Kept o (pdSendMore p m s) := by
  unfold pdSendMore
  exact kept_setPort h3

theorem kept_policyRequest {p s} (h2 : Kept o s) :
    Kept o (policyRequest p s) := by
  unfold policyRequest
  split
  · exact h2
  · extract_lets +onlyGivenNames v5
    extract_lets +onlyGivenNames v6
    clear_value v6
    extract_lets +onlyGivenNames v7
    have k8 : Kept o v7 := kept_setPort h2
    clear_value v7
    extract_lets +onlyGivenNames v9
    have k10 : Kept o v9 := kept_pdSendMore k8
    clear_value v9
    extract_lets +onlyGivenNames v11
    have k12 : Kept o v11 := kept_wrB k10
    clear_value v11
    exact keptIte (kept_set k12) k12

theorem kept_pdQuiet {p s} (h2 : Kept o s) :
    Kept o (pdQuiet p s) := by
  unfold pdQuiet
  exact kept_setPort h2

theorem kept_pdReqWrite {p v s} (h3 : Kept o s) :
    Kept o (pdReqWrite p v s) := by
  unfold pdReqWrite
  extract_lets +onlyGivenNames v0
  clear_value v0
  extract_lets +onlyGivenNames v1
  clear_value v1
  extract_lets +onlyGivenNames v2
  have k3 : Kept o v2 := keptIte (keptIte (kept_policyRequest (kept_pdQuiet h3)) (kept_setPort h3)) h3
  clear_value v2
  refine keptIte ?_ ?_
  · exact k3
  · extract_lets +onlyGivenNames v4
    clear_value v4
    refine keptIte ?_ ?_
    · exact kept_set k3
    · extract_lets +onlyGivenNames v5
      clear_value v5
      exact kept_setPort k3

theorem kept_vdmCtlWrite {p v acked s} (h4 : Kept o s) :
    Kept o (vdmCtlWrite p v acked s) := by
  unfold vdmCtlWrite
  extract_lets +onlyGivenNames v0
  have k1 : Kept o v0 := kept_regWrite h4
  clear_value v0
  extract_lets +onlyGivenNames v2
  clear_value v2
  extract_lets +onlyGivenNames v3
  have k4 : Kept o v3 := keptIte (kept_setPort (kept_wr (kept_clr k1))) k1
  clear_value v3
  exact keptIte (kept_setPort (keptIte (kept_set k4) (kept_set k4))) k4

theorem kept_pdConfigured {p s} (h2 : Kept o s) :
    Kept o (pdConfigured p s) := by
  unfold pdConfigured
  extract_lets +onlyGivenNames v0
  have k1 : Kept o v0 := kept_showVconn h2
  clear_value v0
  extract_lets +onlyGivenNames v2
  clear_value v2
  extract_lets +onlyGivenNames v3
  have k4 : Kept o v3 := keptIte k1 (keptIte (kept_contractMoved (kept_endContract k1)) (keptIte (kept_reverseStop
      k1) (kept_portDetach k1)))
  clear_value v3
  exact kept_reselect (keptIte (kept_refreshTrack k4) k4)

theorem kept_pdWrite {a v s} (h3 : Kept o s) :
    Kept o (pdWrite a v s) := by
  unfold pdWrite
  extract_lets +onlyGivenNames v0
  clear_value v0
  split
  · exact kept_pdReqWrite h3
  · exact keptIte (kept_vdmCtlWrite (kept_drawn h3)) (kept_vdmCtlWrite h3)
  · exact kept_pdConfigured (kept_regWrite h3)
  · exact kept_regWrite h3

theorem kept_pdDomainReset {s} (h1 : Kept o s) :
    Kept o (pdDomainReset s) := by
  unfold pdDomainReset
  refine keptFold ?_ ?_
  · exact h1
  · intro y0 y1 y2
    exact kept_setPort y2

theorem kept_holdTerms {s} (h1 : Kept o s) :
    Kept o (holdTerms s) := by
  unfold holdTerms
  refine keptIte ?_ ?_
  · exact h1
  · refine keptFold ?_ ?_
    · exact h1
    · intro y0 y1 y2
      exact kept_setPort y2

theorem kept_attach {p source flipped rp s} (h5 : Kept o s) :
    Kept o (attach p source flipped rp s) := by
  unfold attach
  refine keptIte ?_ ?_
  · exact h5
  · extract_lets +onlyGivenNames v0
    clear_value v0
    extract_lets +onlyGivenNames v1
    have k2 : Kept o v1 := kept_setPort h5
    clear_value v1
    extract_lets +onlyGivenNames v3
    have k4 : Kept o v3 := keptIte (kept_pdSend k2) k2
    clear_value v3
    extract_lets +onlyGivenNames v5
    clear_value v5
    extract_lets +onlyGivenNames v6
    have k7 : Kept o v6 := keptIte k4 (kept_setPin k4)
    clear_value v6
    extract_lets +onlyGivenNames v8
    have k9 : Kept o v8 := kept_set (kept_showAttach (kept_wr k7))
    clear_value v8
    exact keptIte (kept_refreshTrack k9) k9

theorem kept_detach {p s} (h2 : Kept o s) :
    Kept o (detach p s) := by
  unfold detach
  refine keptIte ?_ ?_
  · extract_lets +onlyGivenNames v0
    have k1 : Kept o v0 := keptIte (kept_reverseStop h2) (kept_portDetach h2)
    clear_value v0
    exact kept_invalidate k1
  · exact kept_clr h2

theorem kept_sourceCaps {p pdos eprOk s} (h4 : Kept o s) :
    Kept o (sourceCaps p pdos eprOk s) := by
  unfold sourceCaps
  refine keptIte ?_ ?_
  · exact h4
  · extract_lets +onlyGivenNames v0
    clear_value v0
    extract_lets +onlyGivenNames v1
    have k2 : Kept o v1 := by
      unfold v1
      refine keptFold ?_ ?_
      · exact h4
      · intro y3 y4 y5
        exact kept_wr y5
    clear_value v1
    extract_lets +onlyGivenNames v6
    have k7 : Kept o v6 := kept_set (kept_set (kept_wr k2))
    clear_value v6
    extract_lets +onlyGivenNames v8
    clear_value v8
    extract_lets +onlyGivenNames v9
    clear_value v9
    extract_lets +onlyGivenNames v10
    have k11 : Kept o v10 := kept_pdQuiet (kept_setPin k7)
    clear_value v10
    extract_lets +onlyGivenNames v12
    have k13 : Kept o v12 := keptIte (kept_pdSendMore (keptIte (kept_set k11) (kept_set k11))) k11
    clear_value v12
    exact kept_requalify (kept_policyRequest k13)

theorem kept_drSwapSent {p s} (h2 : Kept o s) :
    Kept o (drSwapSent p s) := by
  unfold drSwapSent
  refine keptIte ?_ ?_
  · exact h2
  · extract_lets +onlyGivenNames v0
    have k1 : Kept o v0 := kept_pdSend (kept_drawn h2)
    clear_value v0
    exact keptIte (kept_set (kept_wrB k1)) k1

theorem kept_makeContract {p r s} (h3 : Kept o s) :
    Kept o (makeContract p r s) := by
  unfold makeContract
  extract_lets +onlyGivenNames v0
  clear_value v0
  extract_lets +onlyGivenNames v1
  clear_value v1
  extract_lets +onlyGivenNames v2
  have k3 : Kept o v2 := kept_wrB (kept_set h3)
  clear_value v2
  extract_lets +onlyGivenNames v4
  have k5 : Kept o v4 := kept_wr (kept_wr (kept_wr k3))
  clear_value v4
  extract_lets +onlyGivenNames v6
  clear_value v6
  extract_lets +onlyGivenNames v7
  have k8 : Kept o v7 := kept_setPort (kept_set k5)
  clear_value v7
  extract_lets +onlyGivenNames v9
  clear_value v9
  extract_lets +onlyGivenNames v10
  have k11 : Kept o v10 := keptIte (kept_setPin k8) k8
  clear_value v10
  exact kept_drSwapSent (kept_contractMoved k11)

theorem kept_pdReply {p r s} (h3 : Kept o s) :
    Kept o (pdReply p r s) := by
  unfold pdReply
  exact kept_setPort h3

theorem kept_sourceRequest {p obj curr s} (h4 : Kept o s) :
    Kept o (sourceRequest p obj curr s) := by
  unfold sourceRequest
  split
  · exact keptIte (kept_makeContract (kept_pdReply h4)) (kept_pdReply h4)
  · exact kept_pdReply h4

theorem kept_requestReply {p accepted obj curr s} (h5 : Kept o s) :
    Kept o (requestReply p accepted obj curr s) := by
  unfold requestReply
  refine keptIte ?_ ?_
  · exact h5
  · refine keptIte ?_ ?_
    · exact keptIte (kept_sourceRequest h5) h5
    · split
      · exact h5
      · exact keptIte (kept_makeContract h5) (kept_setPort (kept_set h5))

theorem kept_vdmReceive {p sop words s} (h4 : Kept o s) :
    Kept o (vdmReceive p sop words s) := by
  unfold vdmReceive
  refine keptIte ?_ ?_
  · exact h4
  · refine keptIte ?_ ?_
    · extract_lets +onlyGivenNames v0
      have k1 : Kept o v0 := kept_count h4
      clear_value v0
      exact keptIte (kept_pdReply k1) k1
    · extract_lets +onlyGivenNames v2
      clear_value v2
      extract_lets +onlyGivenNames v3
      have k4 : Kept o v3 := by
        unfold v3
        refine keptFold ?_ ?_
        · exact h4
        · intro y5 y6 y7
          exact kept_wr y7
      clear_value v3
      extract_lets +onlyGivenNames v8
      have k9 : Kept o v8 := kept_wr (kept_wr (kept_set k4))
      clear_value v8
      exact kept_setPort (kept_set k9)

theorem kept_vdmTimeout {p s} (h2 : Kept o s) :
    Kept o (vdmTimeout p s) := by
  unfold vdmTimeout
  split
  · exact keptIte (kept_setPort h2) h2
  · exact h2

theorem kept_prSwap {p toSource s} (h3 : Kept o s) :
    Kept o (prSwap p toSource s) := by
  unfold prSwap
  refine keptIte ?_ ?_
  · exact h3
  · refine keptIte ?_ ?_
    · extract_lets +onlyGivenNames v0
      have k1 : Kept o v0 := kept_clr (kept_endContract (kept_pdReply h3))
      clear_value v0
      extract_lets +onlyGivenNames v2
      clear_value v2
      extract_lets +onlyGivenNames v3
      have k4 : Kept o v3 := kept_setPort k1
      clear_value v3
      extract_lets +onlyGivenNames v5
      have k6 : Kept o v5 := kept_set (kept_wr (kept_set k4))
      clear_value v5
      exact kept_invalidate k6
    · exact kept_pdReply h3

theorem kept_drSwap {p toDfp s} (h3 : Kept o s) :
    Kept o (drSwap p toDfp s) := by
  unfold drSwap
  exact keptIte h3 (keptIte (kept_set (kept_wrB (kept_pdReply h3))) (kept_pdReply h3))

theorem kept_vconnSwap {p s} (h2 : Kept o s) :
    Kept o (vconnSwap p s) := by
  unfold vconnSwap
  refine keptIte ?_ ?_
  · exact h2
  · extract_lets +onlyGivenNames v0
    clear_value v0
    extract_lets +onlyGivenNames v1
    clear_value v1
    extract_lets +onlyGivenNames v2
    have k3 : Kept o v2 := kept_showVconn (kept_setPort h2)
    clear_value v2
    exact kept_set (keptIte (kept_pdSend k3) k3)

/-! ### Machine/Charge.lean -/

theorem kept_endCycle {s} (h1 : Kept o s) :
    Kept o (endCycle s) := by
  unfold endCycle
  extract_lets +onlyGivenNames v0
  have k1 : Kept o v0 := kept_wr (kept_clr h1)
  clear_value v0
  exact kept_mk.mpr k1

theorem kept_faultClear {s} (h1 : Kept o s) :
    Kept o (faultClear s) := by
  unfold faultClear
  refine keptIte ?_ ?_
  · exact h1
  · refine keptIte ?_ ?_
    · exact kept_set h1
    · extract_lets +onlyGivenNames v0
      clear_value v0
      extract_lets +onlyGivenNames v1
      have k2 : Kept o v1 := kept_wr h1
      clear_value v1
      exact keptIte (kept_endCycle k2) (keptIte (kept_mk.mpr k2) k2)

theorem kept_chgCtrlWrite {v s} (h2 : Kept o s) :
    Kept o (chgCtrlWrite v s) := by
  unfold chgCtrlWrite
  extract_lets +onlyGivenNames v0
  have k1 : Kept o v0 := kept_regWrite h2
  clear_value v0
  extract_lets +onlyGivenNames v2
  have k3 : Kept o v2 := keptIte (kept_wr k1) k1
  clear_value v2
  exact keptIte (kept_faultClear k3) k3

theorem kept_noCurrent {s} (h1 : Kept o s) :
    Kept o (noCurrent s) := by
  unfold noCurrent
  exact kept_wr h1

theorem kept_latchFault {cause s} (h2 : Kept o s) :
    Kept o (latchFault cause s) := by
  unfold latchFault
  refine keptIte ?_ ?_
  · exact h2
  · extract_lets +onlyGivenNames v0
    have k1 : Kept o v0 := kept_set (kept_noCurrent (kept_wr h2))
    clear_value v0
    extract_lets +onlyGivenNames v2
    have k3 : Kept o v2 := kept_hwLog k1
    clear_value v2
    exact kept_reverseStop k3

theorem kept_timerCheck {s} (h1 : Kept o s) :
    Kept o (timerCheck s) := by
  unfold timerCheck
  exact keptIte (kept_latchFault h1) h1

theorem kept_chgWrite {a v s0} (h3 : Kept o s0) :
    Kept o (chgWrite a v s0) := by
  unfold chgWrite
  refine keptIte ?_ ?_
  · exact kept_chgCtrlWrite h3
  · extract_lets +onlyGivenNames v0
    have k1 : Kept o v0 := kept_regWrite h3
    clear_value v0
    split
    · exact kept_clamp k1
    · exact kept_clamp (kept_clamp k1)
    · exact kept_clamp (kept_clamp k1)
    · exact kept_clamp k1
    · exact kept_timerCheck k1
    · exact kept_clamp k1
    · exact keptIte k1 (kept_reverseStop k1)
    · exact kept_clamp k1
    · exact k1

theorem kept_chgDomainReset {s} (h1 : Kept o s) :
    Kept o (chgDomainReset s) := by
  unfold chgDomainReset
  exact kept_mk.mpr h1

theorem kept_dieStop {s} (h1 : Kept o s) :
    Kept o (dieStop s) := by
  unfold dieStop
  exact keptIte h1 (kept_reverseStop (kept_noCurrent (kept_set (kept_set h1))))

theorem kept_removalLatch {cond s} (h2 : Kept o s) :
    Kept o (removalLatch cond s) := by
  unfold removalLatch
  refine keptIte ?_ ?_
  · exact h2
  · extract_lets +onlyGivenNames v0
    have k1 : Kept o v0 := kept_set (kept_set h2)
    clear_value v0
    extract_lets +onlyGivenNames v2
    have k3 : Kept o v2 := kept_endCycle (kept_noCurrent (kept_wr k1))
    clear_value v2
    extract_lets +onlyGivenNames v4
    clear_value v4
    extract_lets +onlyGivenNames v5
    have k6 : Kept o v5 := kept_mk.mpr k3
    clear_value v5
    extract_lets +onlyGivenNames v7
    have k8 : Kept o v7 := by
      unfold v7
      split
      · exact keptIte (kept_skipVoc k6) k6
      · exact k6
    clear_value v7
    exact kept_reverseStop (kept_hwLog k8)

theorem kept_vbatSeen {v s} (h2 : Kept o s) :
    Kept o (vbatSeen v s) := by
  unfold vbatSeen
  extract_lets +onlyGivenNames v0
  have k1 : Kept o v0 := kept_wr h2
  clear_value v0
  exact keptIte (kept_removalLatch k1) k1

theorem kept_qaccAdd {q s} (h2 : Kept o s) :
    Kept o (qaccAdd q s) := by
  unfold qaccAdd
  extract_lets +onlyGivenNames v0
  clear_value v0
  extract_lets +onlyGivenNames v1
  clear_value v1
  extract_lets +onlyGivenNames v2
  have k3 : Kept o v2 := kept_wr h2
  clear_value v2
  exact keptIte (kept_set k3) k3

theorem kept_chgMeasure {d s} (h2 : Kept o s) :
    Kept o (chgMeasure d s) := by
  unfold chgMeasure
  extract_lets +onlyGivenNames v0
  have k1 : Kept o v0 := kept_wr (kept_vbatSeen h2)
  clear_value v0
  extract_lets +onlyGivenNames v2
  have k3 : Kept o v2 := kept_wr (kept_wr k1)
  clear_value v2
  extract_lets +onlyGivenNames v4
  have k5 : Kept o v4 := kept_wr k3
  clear_value v4
  extract_lets +onlyGivenNames v6
  clear_value v6
  exact kept_qaccAdd (kept_mk.mpr k5)

theorem kept_chgFilters {s} (h1 : Kept o s) :
    Kept o (chgFilters s) := by
  unfold chgFilters
  extract_lets +onlyGivenNames v0
  clear_value v0
  extract_lets +onlyGivenNames v1
  clear_value v1
  extract_lets +onlyGivenNames v2
  clear_value v2
  exact kept_mk.mpr h1

theorem kept_chgLoop {x1 s} (h2 : Kept o s) :
    Kept o (chgLoop x1 s) := by
  unfold chgLoop
  extract_lets +onlyGivenNames v0
  extract_lets +onlyGivenNames v1
  extract_lets +onlyGivenNames v2
  clear_value v2
  extract_lets +onlyGivenNames v3
  have k4 : Kept o v3 := kept_wr h2
  clear_value v3
  exact keptIte k4 (kept_mk.mpr k4)

theorem kept_chgEnter {new s} (h2 : Kept o s) :
    Kept o (chgEnter new s) := by
  unfold chgEnter
  extract_lets +onlyGivenNames v0
  clear_value v0
  refine keptIte ?_ ?_
  · exact h2
  · extract_lets +onlyGivenNames v1
    have k2 : Kept o v1 := kept_set (kept_noCurrent (kept_wr h2))
    clear_value v1
    extract_lets +onlyGivenNames v3
    clear_value v3
    extract_lets +onlyGivenNames v4
    clear_value v4
    extract_lets +onlyGivenNames v5
    have k6 : Kept o v5 := kept_mk.mpr k2
    clear_value v5
    split
    · exact keptIte (kept_endCycle k6) k6
    · extract_lets +onlyGivenNames v9
      clear_value v9
      extract_lets +onlyGivenNames v10
      have k11 : Kept o v10 := kept_mk.mpr k6
      clear_value v10
      refine keptIte ?_ ?_
      · exact k11
      · extract_lets +onlyGivenNames v12
        have k13 : Kept o v12 := kept_set (kept_endCycle k11)
        clear_value v12
        exact kept_mk.mpr k13
    · extract_lets +onlyGivenNames v15
      have k16 : Kept o v15 := kept_clr k6
      clear_value v15
      exact kept_mk.mpr k16
    · refine keptIte ?_ ?_
      · extract_lets +onlyGivenNames v18
        have k19 : Kept o v18 := kept_wr (kept_set k6)
        clear_value v18
        exact kept_mk.mpr k19
      · refine keptIte ?_ ?_
        · extract_lets +onlyGivenNames v20
          have k21 : Kept o v20 := kept_set k6
          clear_value v20
          exact kept_mk.mpr k21
        · exact k6
    · exact kept_set (kept_endCycle k6)
    · exact k6

theorem kept_reverseStart {p s} (h2 : Kept o s) :
    Kept o (reverseStart p s) := by
  unfold reverseStart
  extract_lets +onlyGivenNames v0
  have k1 : Kept o v0 := kept_set (kept_wr (kept_set h2))
  clear_value v0
  exact kept_rdEnforced (kept_pdSend k1)

theorem kept_reverseStep {s} (h1 : Kept o s) :
    Kept o (reverseStep s) := by
  unfold reverseStep
  refine keptIte ?_ ?_
  · exact kept_rdEnforced h1
  · split
    · exact kept_reverseStart h1
    · exact kept_reverseStart h1
    · exact kept_reverseStart h1
    · exact h1

theorem kept_chgStep {d s} (h2 : Kept o s) :
    Kept o (chgStep d s) := by
  unfold chgStep
  extract_lets +onlyGivenNames v0
  have k1 : Kept o v0 := kept_chgMeasure h2
  clear_value v0
  extract_lets +onlyGivenNames v2
  have k3 : Kept o v2 := keptIte (kept_clr k1) k1
  clear_value v2
  extract_lets +onlyGivenNames v4
  clear_value v4
  extract_lets +onlyGivenNames v5
  have k6 : Kept o v5 := kept_mk.mpr k3
  clear_value v5
  extract_lets +onlyGivenNames v7
  have k8 : Kept o v7 := kept_chgFilters k6
  clear_value v7
  extract_lets +onlyGivenNames v9
  have k10 : Kept o v9 := kept_chgLoop (kept_chgEnter k8)
  clear_value v9
  exact kept_reverseStep k10

theorem kept_trackerStep {n d s} (h3 : Kept o s) :
    Kept o (trackerStep n d s) := by
  unfold trackerStep
  refine keptIte ?_ ?_
  · exact h3
  · extract_lets +onlyGivenNames v0
    clear_value v0
    extract_lets +onlyGivenNames v1
    have k2 : Kept o v1 := kept_setPin h3
    clear_value v1
    extract_lets +onlyGivenNames v3
    have k4 : Kept o v3 := kept_refreshTrack k2
    clear_value v3
    exact keptIte (kept_reselect (kept_trackerRun k4)) k4

theorem kept_removalClear {s} (h1 : Kept o s) :
    Kept o (removalClear s) := by
  unfold removalClear
  refine keptIte ?_ ?_
  · extract_lets +onlyGivenNames v0
    have k1 : Kept o v0 := kept_clr h1
    clear_value v0
    exact kept_mk.mpr k1
  · exact h1

theorem kept_batovEvent {s} (h1 : Kept o s) :
    Kept o (batovEvent s) := by
  unfold batovEvent
  extract_lets +onlyGivenNames v0
  have k1 : Kept o v0 := kept_noCurrent (kept_set (kept_set h1))
  refine keptIte ?_ ?_
  · extract_lets +onlyGivenNames v2
    clear_value v2
    extract_lets +onlyGivenNames v3
    have k4 : Kept o v3 := kept_mk.mpr k1
    exact keptIte (kept_latchFault k4) k4
  · exact k1

theorem kept_timerTick {s} (h1 : Kept o s) :
    Kept o (timerTick s) := by
  unfold timerTick
  refine keptIte ?_ ?_
  · extract_lets +onlyGivenNames v0
    have k1 : Kept o v0 := kept_wrB (kept_count h1)
    clear_value v0
    exact kept_timerCheck (kept_mk.mpr k1)
  · exact h1

theorem kept_reverseOcp {s} (h1 : Kept o s) :
    Kept o (reverseOcp s) := by
  unfold reverseOcp
  extract_lets +onlyGivenNames v0
  clear_value v0
  extract_lets +onlyGivenNames v1
  clear_value v1
  extract_lets +onlyGivenNames v2
  clear_value v2
  extract_lets +onlyGivenNames v3
  clear_value v3
  extract_lets +onlyGivenNames v4
  have k5 : Kept o v4 := kept_mk.mpr h1
  clear_value v4
  extract_lets +onlyGivenNames v6
  have k7 : Kept o v6 := keptIte (kept_set k5) k5
  clear_value v6
  exact kept_reverseStop k7

/-! ### Machine/Irq.lean -/

theorem kept_wdHold {x1 s} (h2 : Kept o s) :
    Kept o (wdHold x1 s) := by
  unfold wdHold
  exact kept_mk.mpr h2

/-! ### Machine/Sec.lean -/

theorem kept_secCoreReset {s} (h1 : Kept o s) :
    Kept o (secCoreReset s) := by
  unfold secCoreReset
  extract_lets +onlyGivenNames v0
  have k1 : Kept o v0 := kept_wr (kept_clr (kept_clr h1))
  clear_value v0
  extract_lets +onlyGivenNames v2
  clear_value v2
  exact kept_mk.mpr k1

theorem kept_clearSlot {k s} (h2 : Kept o s) :
    Kept o (clearSlot k s) := by
  unfold clearSlot
  extract_lets +onlyGivenNames v0
  have k1 : Kept o v0 := kept_wr (kept_wr (kept_clr h2))
  clear_value v0
  extract_lets +onlyGivenNames v2
  have k3 : Kept o v2 := kept_wr k1
  clear_value v2
  exact kept_mk.mpr ⟨k3.1, k3.2.1, k3.2.2.1, k3.2.2.2.1, k1.2.2.2.2⟩

theorem kept_clearSlots {n s} (h2 : Kept o s) :
    Kept o (clearSlots n s) := by
  unfold clearSlots
  refine keptFold ?_ ?_
  · exact h2
  · intro y0 y1 y2
    exact kept_clearSlot y2

theorem kept_debugOpens {level s} (h2 : Kept o s) :
    Kept o (debugOpens level s) := by
  unfold debugOpens
  exact kept_clearSlots (kept_set (kept_wr (kept_set h2)))

theorem kept_trngRead {s} (h1 : Kept o s) :
    Kept o (trngRead s).2 := by
  unfold trngRead
  split
  · refine keptSnd ?_
    extract_lets +onlyGivenNames v1
    have k2 : Kept o v1 := kept_drawn h1
    clear_value v1
    exact kept_mk.mpr ⟨k2.1, k2.2.1, k2.2.2.1, k2.2.2.2.1, h1.2.2.2.2⟩
  · exact keptSnd h1

theorem kept_secRefuse {cause s} (h2 : Kept o s) :
    Kept o (secRefuse cause s) := by
  unfold secRefuse
  exact kept_set (kept_wr h2)

theorem kept_transition {dst s} (h2 : Kept o s) :
    Kept o (transition dst s) := by
  unfold transition
  extract_lets +onlyGivenNames v0
  have k1 : Kept o v0 := kept_hwLog h2
  clear_value v0
  extract_lets +onlyGivenNames v2
  have k3 : Kept o v2 := kept_set k1
  clear_value v2
  exact kept_mk.mpr ⟨k3.1, k3.2.1, k3.2.2.1, k3.2.2.2.1, k1.2.2.2.2⟩

theorem kept_lcRequest {dst s} (h2 : Kept o s) :
    Kept o (lcRequest dst s) := by
  unfold lcRequest
  exact keptIte (kept_secRefuse h2) (keptIte (kept_secRefuse h2) (keptIte (kept_secRefuse h2) (keptIte
      (kept_secRefuse h2) (kept_transition h2))))

theorem kept_putBytes {f n bs s} (h4 : Kept o s) :
    Kept o (putBytes f n bs s) := by
  unfold putBytes
  refine keptFold ?_ ?_
  · exact h4
  · intro y0 y1 y2
    exact kept_wr y2

theorem kept_fuseView {s} (h1 : Kept o s) :
    Kept o (fuseView s) := by
  unfold fuseView
  extract_lets +onlyGivenNames v0
  extract_lets +onlyGivenNames v1
  have k2 : Kept o v1 := kept_wr (kept_wr h1)
  clear_value v1
  extract_lets +onlyGivenNames v3
  have k4 : Kept o v3 := kept_wr (kept_wr k2)
  clear_value v3
  refine keptFold ?_ ?_
  · exact k4
  · intro y5 y6 y7
    exact kept_putBytes y7

theorem kept_advanceFw {target s} (h2 : Kept o s) : Kept o (advanceFw target s) := by
  unfold advanceFw
  extract_lets f
  split
  · exact h2
  · rename_i hf
    split
    · exact kept_secRefuse h2
    · split
      · exact kept_secRefuse h2
      · refine kept_fuseView (kept_fuses h2 ⟨rfl, id, id, id, Nat.le_refl _, ?_, Nat.le_refl _, fun _ => id, fun _ _
          => rfl⟩)
        exact Nat.le_of_lt (Nat.lt_of_not_le hf)

theorem kept_advanceHost {target s} (h2 : Kept o s) : Kept o (advanceHost target s) := by
  unfold advanceHost
  extract_lets f
  split
  · exact h2
  · rename_i hf
    split
    · exact kept_secRefuse h2
    · split
      · exact kept_secRefuse h2
      · refine kept_fuseView (kept_fuses h2 ⟨rfl, id, id, id, Nat.le_refl _, Nat.le_refl _, ?_, fun _ => id, fun _ _
          => rfl⟩)
        exact Nat.le_of_lt (Nat.lt_of_not_le hf)

theorem kept_arbWrite {v s} (h2 : Kept o s) :
    Kept o (arbWrite v s) := by
  unfold arbWrite
  refine keptIte ?_ ?_
  · refine keptIte ?_ ?_
    · exact kept_secRefuse h2
    · refine keptIte ?_ ?_
      · exact kept_secRefuse h2
      · extract_lets +onlyGivenNames v0
        have k1 : Kept o v0 := keptIte (kept_advanceFw h2) h2
        clear_value v0
        exact keptIte (kept_advanceHost k1) k1
  · exact h2

theorem kept_debugCloses {s} (h1 : Kept o s) :
    Kept o (debugCloses s) := by
  unfold debugCloses
  extract_lets +onlyGivenNames v0
  have k1 : Kept o v0 := kept_wdHold (kept_wr (kept_clr h1))
  clear_value v0
  exact kept_mk.mpr k1

theorem kept_oemProgram {k hash s} (h2 : Kept o s) : Kept o (oemProgram k hash s) := by
  unfold oemProgram
  split
  · exact kept_secRefuse h2
  · rename_i hp
    split
    · exact kept_secRefuse h2
    · extract_lets t
      have ht : Kept o t := keptIte (kept_debugCloses h2) h2
      have hs : t.sec.fuses = s.sec.fuses := by unfold t; split <;> rfl
      refine kept_fuseView (kept_fuses ht ⟨rfl, id, id, id, Nat.le_refl _, Nat.le_refl _, Nat.le_refl _, fun _ =>
          id, ?_⟩)
      intro j hj
      rw [hs] at hj ⊢
      refine Sparse.get_put_of_ne _ ?_ _ _
      rintro rfl
      exact hp (by simpa [slotProg, slotHash] using hj)

theorem kept_oemRevoke {k s} (h2 : Kept o s) : Kept o (oemRevoke k s) := by
  unfold oemRevoke
  split
  · exact kept_secRefuse h2
  · split
    · exact kept_secRefuse h2
    · refine kept_fuseView (kept_fuses h2 ⟨rfl, id, id, id, Nat.le_refl _, Nat.le_refl _, Nat.le_refl _, ?_, fun _ _
        => rfl⟩)
      intro i hi
      rw [Nat.testBit_or, hi, Bool.true_or]

theorem kept_oemWrite {v s} (h2 : Kept o s) :
    Kept o (oemWrite v s) := by
  unfold oemWrite
  extract_lets +onlyGivenNames v0
  clear_value v0
  refine keptIte ?_ ?_
  · refine keptIte ?_ ?_
    · exact kept_secRefuse h2
    · refine keptIte ?_ ?_
      · exact kept_secRefuse h2
      · extract_lets +onlyGivenNames v1
        have k2 : Kept o v1 := keptIte (kept_oemProgram h2) h2
        clear_value v1
        exact keptIte (kept_oemRevoke k2) k2
  · exact h2

theorem kept_drawBytes {x1 x2} (h2 : Kept o x2) :
    Kept o (drawBytes x1 x2).2 := by
  fun_induction drawBytes x1 x2
  · exact keptSnd h2
  · rename_i a3
    exact keptSnd (a3 (kept_drawn h2))

theorem kept_newNonce {s} (h1 : Kept o s) :
    Kept o (newNonce s) := by
  unfold newNonce
  exact keptIte (kept_putBytes h1) (kept_putBytes (kept_drawBytes h1))

theorem kept_tokSubmit {tok s} (h2 : Kept o s) :
    Kept o (tokSubmit tok s) := by
  unfold tokSubmit
  refine keptIte ?_ ?_
  · exact kept_secRefuse (kept_wr h2)
  · extract_lets +onlyGivenNames v0
    have k1 : Kept o v0 := kept_set (kept_set h2)
    clear_value v0
    exact kept_mk.mpr ⟨k1.1, k1.2.1, k1.2.2.1, k1.2.2.2.1, h2.2.2.2.2⟩

theorem kept_tokCtlWrite {v s} (h2 : Kept o s) :
    Kept o (tokCtlWrite v s) := by
  unfold tokCtlWrite
  extract_lets +onlyGivenNames v0
  have k1 : Kept o v0 := keptIte (kept_clr h2) h2
  clear_value v0
  extract_lets +onlyGivenNames v2
  have k3 : Kept o v2 := keptIte (kept_newNonce k1) k1
  clear_value v2
  exact keptIte (kept_tokSubmit k3) k3

theorem kept_fillSlot {k type use origin key s} (h6 : Kept o s) :
    Kept o (fillSlot k type use origin key s) := by
  unfold fillSlot
  extract_lets +onlyGivenNames v0
  have k1 : Kept o v0 := kept_wr (kept_wr (kept_set h6))
  clear_value v0
  extract_lets +onlyGivenNames v2
  have k3 : Kept o v2 := kept_wr k1
  clear_value v2
  exact kept_mk.mpr ⟨k3.1, k3.2.1, k3.2.2.1, k3.2.2.2.1, k1.2.2.2.2⟩

theorem kept_senseFuses {s} (h1 : Kept o s) :
    Kept o (senseFuses s) := by
  unfold senseFuses
  extract_lets +onlyGivenNames v0
  clear_value v0
  extract_lets +onlyGivenNames v1
  have k2 : Kept o v1 := kept_fuseView (kept_wr (kept_wr h1))
  clear_value v1
  extract_lets +onlyGivenNames v3
  have k4 : Kept o v3 := keptIte (kept_set k2) k2
  clear_value v3
  extract_lets +onlyGivenNames v5
  have k6 : Kept o v5 := kept_set k4
  clear_value v5
  extract_lets +onlyGivenNames v7
  extract_lets +onlyGivenNames v8
  have k9 : Kept o v8 := keptIte (kept_mk.mpr ⟨k6.1, k6.2.1, k6.2.2.1, k6.2.2.2.1, k4.2.2.2.2⟩) k4
  clear_value v8
  exact keptIte (kept_debugOpens k9) k9

theorem kept_secDomainReset {s} (h1 : Kept o s) :
    Kept o (secDomainReset s) := by
  unfold secDomainReset
  exact kept_mk.mpr h1

theorem kept_abandonTransition {dst s} (h2 : Kept o s) :
    Kept o (abandonTransition dst s) := by
  unfold abandonTransition
  extract_lets +onlyGivenNames v0
  have k1 : Kept o v0 := kept_wr (kept_set h2)
  clear_value v0
  extract_lets +onlyGivenNames v2
  have k3 : Kept o v2 := kept_hwLog k1
  clear_value v2
  extract_lets +onlyGivenNames v4
  have k5 : Kept o v4 := kept_clr k3
  clear_value v4
  exact kept_mk.mpr ⟨k5.1, k5.2.1, k5.2.2.1, k5.2.2.2.1, k3.2.2.2.2⟩

theorem burntIn_burnTransition (dst : Nat) (f : Fuses) : f.burntIn (burnTransition dst f) := by
  unfold burnTransition Fuses.burntIn
  (repeat' split) <;> simp_all
theorem kept_burned {dst bOk s} (h3 : Kept o s) : Kept o (burned dst bOk s) := by
  unfold burned
  extract_lets t
  have ht : Kept o t := by
    unfold t
    split
    · exact h3
    · exact kept_hwLog h3
  clear_value t
  exact ⟨ht.1, ht.2.1, ht.2.2.1, ht.2.2.2.1, Fuses.burntIn_trans ht.2.2.2.2 (burntIn_burnTransition dst _)⟩

theorem kept_tokAct {tok s} (h2 : Kept o s) :
    Kept o (tokAct tok s) := by
  unfold tokAct
  extract_lets +onlyGivenNames v0
  clear_value v0
  extract_lets +onlyGivenNames v1
  have k2 : ∀ v1y1, (∀ v1y1y1, (Kept o v1y1y1) → Kept o (v1y1 v1y1y1)) → Kept o (v1 v1y1) := by
    intro y3 y4
    unfold v1
    exact keptIte (y4 _ h2) (kept_secRefuse (kept_wr h2))
  clear_value v1
  refine keptIte ?_ ?_
  · exact kept_set (kept_debugOpens h2)
  · refine keptIte ?_ ?_
    · refine keptIte ?_ ?_
      · exact kept_secRefuse h2
      · refine k2 _ ?_
        intro y5 y6
        exact kept_transition y6
    · refine keptIte ?_ ?_
      · refine k2 _ ?_
        intro y7 y8
        exact kept_transition y8
      · refine keptIte ?_ ?_
        · refine k2 _ ?_
          intro y9 y10
          exact kept_transition y10
        · refine keptIte ?_ ?_
          · refine k2 _ ?_
            intro y11 y12
            split
            · exact kept_oemProgram y12
            · exact kept_oemRevoke y12
          · exact kept_set h2

theorem kept_tokDone {s} (h1 : Kept o s) :
    Kept o (tokDone s) := by
  unfold tokDone
  split
  · extract_lets +onlyGivenNames v3
    clear_value v3
    extract_lets +onlyGivenNames v4
    have k5 : Kept o v4 := kept_putBytes h1
    clear_value v4
    extract_lets +onlyGivenNames v6
    have k7 : Kept o v6 := kept_wr (kept_clr (kept_clr k5))
    clear_value v6
    extract_lets +onlyGivenNames v8
    have k9 : Kept o v8 := kept_set k7
    clear_value v8
    extract_lets +onlyGivenNames v10
    extract_lets +onlyGivenNames v11
    have k12 : Kept o v11 := kept_mk.mpr ⟨k9.1, k9.2.1, k9.2.2.1, k9.2.2.2.1, k7.2.2.2.2⟩
    clear_value v11
    exact keptIte (kept_tokAct k12) k12
  · exact h1

theorem kept_ikReady {s} (h1 : Kept o s) :
    Kept o (ikReady s) := by
  unfold ikReady
  refine keptIte ?_ ?_
  · extract_lets +onlyGivenNames v0
    have k1 : Kept o v0 := kept_set h1
    clear_value v0
    exact kept_putBytes (kept_fillSlot k1)
  · exact h1

/-! ### Machine/Engine.lean -/

theorem kept_secRead {s a} (h1 : Kept o s) :
    Kept o (secRead s a).2 := by
  unfold secRead
  split
  · exact keptSnd h1
  · split
    · exact keptSnd h1
    · split
      · split
        · exact keptSnd (kept_drawn h1)
        · exact keptSnd h1
      · split
        · exact kept_trngRead h1
        · split
          · exact keptSnd h1
          · exact keptSnd (kept_clearRc h1)

theorem kept_ends {s code} (h1 : Kept o s) :
    Kept o (State.ends s code).s := by
  unfold State.ends
  exact keptOpEnd h1

theorem kept_OpEnd_s {self} (h1 : Kept o self.s) :
    Kept o (OpEnd.s self) := by
  unfold OpEnd.s
  exact h1

theorem kept_engineGo {run s} (h1 : ∀ runy1 runy2, (Kept o runy2) → Kept o (run runy1 runy2).s) (h2 : Kept o s) :
    Kept o (engineGo run s) := by
  unfold engineGo
  extract_lets +onlyGivenNames v0
  clear_value v0
  extract_lets +onlyGivenNames v1
  have k2 : Kept o v1 := keptIte (kept_drawn h2) h2
  clear_value v1
  refine keptIte ?_ ?_
  · exact kept_set k2
  · extract_lets +onlyGivenNames v3
    clear_value v3
    extract_lets +onlyGivenNames v4
    clear_value v4
    extract_lets +onlyGivenNames v5
    have k6 : Kept o v5 := kept_clr k2
    clear_value v5
    extract_lets +onlyGivenNames v7
    extract_lets +onlyGivenNames v8
    have k9 : Kept o v8 := keptIte k2 (kept_mk.mpr ⟨k6.1, k6.2.1, k6.2.2.1, k6.2.2.2.1, k2.2.2.2.2⟩)
    clear_value v8
    extract_lets +onlyGivenNames v10
    have k11 : Kept o v10.s := by
      unfold v10
      split
      · exact kept_ends k9
      · split
        · exact kept_ends (kept_set k9)
        · exact h1 _ _ k9
    clear_value v10
    extract_lets +onlyGivenNames v16
    have k17 : Kept o v16 := kept_set k11
    clear_value v16
    exact kept_mk.mpr ⟨k17.1, k17.2.1, k17.2.2.1, k17.2.2.2.1, k11.2.2.2.2⟩

theorem kept_checkInput {a n s} (h3 : Kept o s) :
    Kept o (checkInput a n s) := by
  unfold checkInput
  refine keptIte ?_ ?_
  · refine keptFold ?_ ?_
    · exact h3
    · intro y0 y1 y2
      exact kept_firnChecked y2
  · exact keptIte (kept_set h3) h3

theorem kept_onInputs {d aux s run} (h3 : Kept o s) (h4 : ∀ runy1, (Kept o runy1) → Kept o (run runy1).s) :
    Kept o (onInputs d aux s run).s := by
  unfold onInputs
  extract_lets +onlyGivenNames v0
  have k1 : Kept o v0 := kept_checkInput h3
  clear_value v0
  extract_lets +onlyGivenNames v2
  have k3 : Kept o v2 := keptIte (kept_checkInput k1) k1
  clear_value v2
  split
  · exact kept_ends k3
  · exact h4 _ k3

theorem kept_yields {s d out} (h1 : Kept o s) :
    Kept o (State.yields s d out).s := by
  unfold State.yields
  exact keptOpEnd (kept_setBytes h1)

theorem kept_opHash {big d s} (h3 : Kept o s) :
    Kept o (opHash big d s).s := by
  unfold opHash
  extract_lets +onlyGivenNames v0
  clear_value v0
  extract_lets +onlyGivenNames v1
  clear_value v1
  split
  · exact kept_ends h3
  · split
    · exact kept_ends h3
    · refine kept_onInputs ?_ ?_
      · exact h3
      · intro y7 y8
        extract_lets +onlyGivenNames v9
        clear_value v9
        split
        · extract_lets +onlyGivenNames v11
          have k12 : Kept o v11 := kept_clr y8
          clear_value v11
          extract_lets +onlyGivenNames v13
          extract_lets +onlyGivenNames v14
          have k15 : Kept o v14 := kept_mk.mpr ⟨k12.1, k12.2.1, k12.2.2.1, k12.2.2.2.1, y8.2.2.2.2⟩
          clear_value v14
          exact kept_yields k15
        · refine kept_ends ?_
          extract_lets +onlyGivenNames v17
          have k18 : Kept o v17 := kept_set y8
          clear_value v17
          exact kept_mk.mpr ⟨k18.1, k18.2.1, k18.2.2.1, k18.2.2.2.1, y8.2.2.2.2⟩

theorem kept_opGcm {d s} (h2 : Kept o s) :
    Kept o (opGcm d s).s := by
  unfold opGcm
  extract_lets +onlyGivenNames v0
  clear_value v0
  extract_lets +onlyGivenNames v1
  clear_value v1
  split
  · exact kept_ends h2
  · refine kept_onInputs ?_ ?_
    · exact h2
    · intro y4 y5
      split
      · exact kept_ends y5
      · extract_lets +onlyGivenNames v12
        clear_value v12
        extract_lets +onlyGivenNames v13
        clear_value v13
        extract_lets +onlyGivenNames v14
        clear_value v14
        split
        · extract_lets +onlyGivenNames v16
          clear_value v16
          split
          · exact kept_yields y5
          · exact keptOpEnd (kept_setBytes y5)
        · extract_lets +onlyGivenNames v20
          clear_value v20
          exact kept_yields y5

theorem kept_opCmac {d s} (h2 : Kept o s) :
    Kept o (opCmac d s).s := by
  unfold opCmac
  split
  · exact kept_ends h2
  · refine kept_onInputs ?_ ?_
    · exact h2
    · intro y2 y3
      split
      · exact kept_ends y3
      · exact kept_yields y3

theorem kept_opVerify {c d s} (h3 : Kept o s) :
    Kept o (opVerify c d s).s := by
  unfold opVerify
  split
  · exact kept_ends h3
  · refine kept_onInputs ?_ ?_
    · exact h3
    · intro y2 y3
      extract_lets +onlyGivenNames v4
      clear_value v4
      extract_lets +onlyGivenNames v5
      clear_value v5
      extract_lets +onlyGivenNames v6
      clear_value v6
      split
      · exact kept_ends y3
      · split
        · exact kept_ends y3
        · exact kept_ends y3

theorem kept_opSign {c type d s} (h4 : Kept o s) :
    Kept o (opSign c type d s).s := by
  unfold opSign
  split
  · exact kept_ends h4
  · split
    · exact kept_ends h4
    · split
      · exact kept_ends h4
      · split
        · exact kept_ends h4
        · refine kept_onInputs ?_ ?_
          · exact h4
          · intro y11 y12
            extract_lets +onlyGivenNames v13
            clear_value v13
            exact kept_yields (kept_drawBytes y12)

theorem kept_opEcdh {d s} (h2 : Kept o s) :
    Kept o (opEcdh d s).s := by
  unfold opEcdh
  split
  · exact kept_ends h2
  · split
    · exact kept_ends h2
    · split
      · exact kept_ends h2
      · refine kept_onInputs ?_ ?_
        · exact h2
        · intro y9 y10
          extract_lets +onlyGivenNames v11
          clear_value v11
          split
          · exact kept_ends y10
          · exact kept_yields y10

theorem kept_newKey {d origin key s} (h4 : Kept o s) :
    Kept o (newKey d origin key s).s := by
  unfold newKey
  exact kept_yields (kept_fillSlot h4)

theorem kept_opGenerate {d s} (h2 : Kept o s) :
    Kept o (opGenerate d s).s := by
  unfold opGenerate
  split
  · exact kept_ends h2
  · split
    · exact kept_ends h2
    · split
      · exact kept_ends h2
      · exact kept_newKey (kept_drawBytes h2)

theorem kept_opDerive {d s} (h2 : Kept o s) :
    Kept o (opDerive d s).s := by
  unfold opDerive
  split
  · exact kept_ends h2
  · split
    · exact kept_ends h2
    · split
      · exact kept_ends h2
      · refine kept_onInputs ?_ ?_
        · exact h2
        · intro y6 y7
          exact kept_newKey y7

theorem kept_opLoad {d s} (h2 : Kept o s) :
    Kept o (opLoad d s).s := by
  unfold opLoad
  split
  · split
    · exact kept_ends h2
    · split
      · exact kept_ends h2
      · refine kept_onInputs ?_ ?_
        · exact h2
        · intro y5 y6
          extract_lets +onlyGivenNames v7
          clear_value v7
          split
          · exact kept_ends y6
          · exact kept_ends (kept_fillSlot y6)
  · split
    · exact kept_ends h2
    · split
      · exact kept_ends h2
      · refine kept_onInputs ?_ ?_
        · exact h2
        · intro y15 y16
          extract_lets +onlyGivenNames v17
          clear_value v17
          split
          · exact kept_ends y16
          · exact kept_ends (kept_fillSlot y16)

theorem kept_opAttest {d s} (h2 : Kept o s) :
    Kept o (opAttest d s).s := by
  unfold opAttest
  extract_lets +onlyGivenNames v0
  clear_value v0
  extract_lets +onlyGivenNames v1
  clear_value v1
  extract_lets +onlyGivenNames v2
  clear_value v2
  split
  · exact kept_ends h2
  · split
    · exact kept_ends h2
    · split
      · exact kept_ends h2
      · split
        · exact kept_ends h2
        · refine kept_onInputs ?_ ?_
          · exact h2
          · intro y14 y15
            extract_lets +onlyGivenNames v16
            clear_value v16
            extract_lets +onlyGivenNames v17
            clear_value v17
            exact kept_yields (kept_drawBytes y15)

theorem kept_opRandom {d s} (h2 : Kept o s) :
    Kept o (opRandom d s).s := by
  unfold opRandom
  split
  · exact kept_ends h2
  · split
    · exact kept_ends h2
    · exact kept_yields (kept_drawBytes h2)

theorem kept_opRun {d s} (h2 : Kept o s) :
    Kept o (opRun d s).s := by
  unfold opRun
  split
  · exact kept_opHash h2
  · exact kept_opHash h2
  · exact kept_opGcm h2
  · exact kept_opCmac h2
  · exact kept_opVerify h2
  · exact kept_opVerify h2
  · exact kept_opSign h2
  · exact kept_opSign h2
  · exact kept_opEcdh h2
  · exact kept_opGenerate h2
  · exact kept_opDerive h2
  · exact kept_opLoad h2
  · exact kept_opAttest h2
  · exact kept_opRandom h2
  · exact kept_ends h2

theorem kept_cmdWrite {v s} (h2 : Kept o s) :
    Kept o (cmdWrite v s) := by
  unfold cmdWrite
  refine keptIte ?_ ?_
  · refine kept_engineGo ?_ ?_
    · intro y0 y1 y2
      exact kept_opRun y2
    · exact h2
  · exact h2

theorem kept_secWrite {a v s} (h3 : Kept o s) :
    Kept o (secWrite a v s) := by
  unfold secWrite
  exact keptIte (keptIte (kept_lcRequest h3) h3) (keptIte (kept_arbWrite h3) (keptIte (keptIte (kept_oemWrite h3)
      h3) (keptIte (kept_tokCtlWrite h3) (keptIte (kept_cmdWrite h3) (keptIte (kept_wr h3) (keptIte (keptIte
      (kept_clearSlot h3) h3) (keptIte (kept_wr h3) (kept_regWrite h3))))))))

theorem kept_cmdWriteOp {op run s} (h2 : ∀ runy1 runy2, (Kept o runy2) → Kept o (run runy1 runy2).s) (h3 : Kept o s) :
    Kept o (cmdWriteOp op run s) := by
  unfold cmdWriteOp
  refine keptIte ?_ ?_
  · refine kept_engineGo ?_ ?_
    · intro y0 y1 y2
      exact h2 _ _ y2
    · exact h3
  · exact h3

theorem kept_commandDone {s} (h1 : Kept o s) :
    Kept o (commandDone s) := by
  unfold commandDone
  split
  · exact h1
  · extract_lets +onlyGivenNames v5
    have k6 : Kept o v5 := keptIte (kept_storeNat h1) h1
    clear_value v5
    extract_lets +onlyGivenNames v7
    have k8 : Kept o v7 := kept_set (kept_wr (kept_clr k6))
    clear_value v7
    exact kept_mk.mpr k8

end Sys2Proof.Machine
end

