-- ==== Sys2Proof/Laws/KeptUnits2.lean ====
section
/-! SUPPORT. What the operations keep (Laws/Kept.lean): the host link, the flash guard, rails, fans and lamps. -/

namespace Sys2Proof.Machine

variable {o : State}

/-! ### Machine/Link.lean -/

theorem kept_settle {s} (h1 : Kept o s) :
    Kept o (settle s) := by
  unfold settle
  extract_lets +onlyGivenNames v0
  clear_value v0
  extract_lets +onlyGivenNames v1
  clear_value v1
  extract_lets +onlyGivenNames v2
  clear_value v2
  extract_lets +onlyGivenNames v3
  clear_value v3
  extract_lets +onlyGivenNames v4
  clear_value v4
  extract_lets +onlyGivenNames v5
  clear_value v5
  exact kept_mk.mpr h1

theorem kept_closePost {p s} (h2 : Kept o s) :
    Kept o (closePost p s) := by
  unfold closePost
  refine keptIte ?_ ?_
  · exact kept_set h2
  · extract_lets +onlyGivenNames v0
    clear_value v0
    refine keptIte ?_ ?_
    · exact kept_set h2
    · extract_lets +onlyGivenNames v1
      clear_value v1
      extract_lets +onlyGivenNames v2
      clear_value v2
      exact kept_settle (kept_set (kept_mk.mpr h2))

theorem kept_postClose {s} (h1 : Kept o s) :
    Kept o (postClose s) := by
  unfold postClose
  split
  · exact h1
  · exact kept_closePost (kept_clr (kept_mk.mpr h1))

theorem kept_postItem {q s} (h2 : Kept o s) :
    Kept o (postItem q s) := by
  unfold postItem
  split
  · exact kept_mk.mpr h2
  · exact kept_closePost h2

theorem kept_postOpen {s} (h1 : Kept o s) :
    Kept o (postOpen s) := by
  unfold postOpen
  split
  · exact h1
  · exact kept_set (kept_mk.mpr h1)

theorem kept_fwReadyDown {s} (h1 : Kept o s) :
    Kept o (fwReadyDown s) := by
  unfold fwReadyDown
  exact kept_clr (kept_mk.mpr h1)

set_option maxRecDepth 20000 in
theorem wf_resetCells : Sparse.wf 0 resetCells = true := by decide
theorem kept_resetRanges {rs s} (h2 : Kept o s) : Kept o (resetRanges rs s) := kept_fieldsMerge h2 wf_resetCells

theorem kept_directRead {off s} (h2 : Kept o s) :
    Kept o (directRead off s).2 := by
  unfold directRead
  refine keptSnd ?_
  split
  · exact kept_set (kept_set h2)
  · exact h2

theorem kept_ecInRead {s} (h1 : Kept o s) :
    Kept o (ecInRead s).2 := by
  unfold ecInRead
  split
  · exact keptSnd h1
  · exact keptSnd (kept_mk.mpr h1)

theorem kept_ecQueueWrite {a d s} (h3 : Kept o s) :
    Kept o (ecQueueWrite a d s) := by
  unfold ecQueueWrite
  refine keptIte ?_ ?_
  · extract_lets +onlyGivenNames v0
    clear_value v0
    extract_lets +onlyGivenNames v1
    have k2 : Kept o v1 := kept_mk.mpr h3
    clear_value v1
    exact keptIte (kept_set k2) k2
  · exact kept_set (kept_mk.mpr h3)

theorem kept_ecWqRead {s} (h1 : Kept o s) :
    Kept o (ecWqRead s).2 := by
  unfold ecWqRead
  split
  · exact keptSnd h1
  · extract_lets +onlyGivenNames v7
    clear_value v7
    extract_lets +onlyGivenNames v8
    have k9 : Kept o v8 := kept_mk.mpr h1
    clear_value v8
    refine keptSnd ?_
    split
    · exact kept_ecQueueWrite k9
    · exact k9

theorem kept_bulkParity {s} (h1 : Kept o s) :
    Kept o (bulkParity s) := by
  unfold bulkParity
  exact kept_set (kept_set (kept_set h1))

theorem kept_bulkTake {s x2} (h1 : Kept o s) :
    Kept o (bulkTake s x2).2 := by
  fun_induction bulkTake s x2
  · exact keptSnd h1
  · exact keptSnd (kept_bulkParity (kept_mk.mpr h1))
  · rename_i a15 a16
    refine keptSnd ?_
    unfold a15
    exact a16 (kept_mk.mpr h1)
  · exact keptSnd h1

theorem kept_creditHalf {before s} (h2 : Kept o s) :
    Kept o (creditHalf before s) := by
  unfold creditHalf
  exact keptIte (kept_set h2) h2

theorem kept_bulkRd {s} (h1 : Kept o s) :
    Kept o (bulkRd s).2 := by
  unfold bulkRd
  split
  · extract_lets +onlyGivenNames v1
    have k2 : Kept o v1.2 := kept_bulkTake h1
    clear_value v1
    exact keptSnd (kept_creditHalf k2)
  · exact keptSnd h1

theorem kept_pagesChanged {s0 s} (h1 : Kept o s0) (h2 : Kept o s) :
    Kept o (pagesChanged s0 s) := by
  unfold pagesChanged
  exact kept_mk.mpr h2

theorem kept_postAbort {s} (h1 : Kept o s) :
    Kept o (postAbort s) := by
  unfold postAbort
  exact kept_clr (kept_mk.mpr h1)

theorem kept_hostPostWrite {v s} (h2 : Kept o s) :
    Kept o (hostPostWrite v s) := by
  unfold hostPostWrite
  extract_lets +onlyGivenNames v0
  have k1 : Kept o v0 := keptIte (kept_clr h2) h2
  clear_value v0
  extract_lets +onlyGivenNames v2
  have k3 : Kept o v2 := keptIte (kept_clr k1) k1
  clear_value v2
  extract_lets +onlyGivenNames v4
  have k5 : Kept o v4 := keptIte (kept_postClose k3) (keptIte (kept_postAbort k3) k3)
  clear_value v4
  exact keptIte (kept_postOpen k5) k5

theorem kept_offer {g s} (h2 : Kept o s) :
    Kept o (offer g s) := by
  unfold offer
  exact kept_mk.mpr h2

theorem kept_apertureWrite {off v s} (h3 : Kept o s) :
    Kept o (apertureWrite off v s) := by
  unfold apertureWrite
  exact kept_postItem h3

theorem kept_directWrite {off v s} (h3 : Kept o s) :
    Kept o (directWrite off v s) := by
  unfold directWrite
  extract_lets +onlyGivenNames v0
  clear_value v0
  refine keptIte ?_ ?_
  · refine keptFold ?_ ?_
    · exact h3
    · intro y1 y2 y3
      exact keptIte (kept_setByte y3) y3
  · exact kept_set h3

theorem kept_mbxCtrlWrite {v s} (h2 : Kept o s) :
    Kept o (mbxCtrlWrite v s) := by
  unfold mbxCtrlWrite
  extract_lets +onlyGivenNames v0
  have k1 : Kept o v0 := kept_regWrite h2
  clear_value v0
  extract_lets +onlyGivenNames v2
  have k3 : Kept o v2 := keptIte (keptIte (kept_set k1) k1) (keptIte (kept_fwReadyDown k1) k1)
  clear_value v2
  exact kept_settle k3

theorem kept_mbxTake {v s} (h2 : Kept o s) :
    Kept o (mbxTake v s) := by
  unfold mbxTake
  refine keptFold ?_ ?_
  · exact h2
  · intro y0 y1 y2
    refine keptIte ?_ ?_
    · extract_lets +onlyGivenNames v3
      have k4 : Kept o v3 := kept_wr y2
      clear_value v3
      exact kept_mk.mpr k4
    · exact y2

theorem kept_mbxDone {t nostore s} (h3 : Kept o s) :
    Kept o (mbxDone t nostore s) := by
  unfold mbxDone
  exact keptIte (kept_postItem h3) (kept_set h3)

theorem kept_bulkWr {v s} (h2 : Kept o s) :
    Kept o (bulkWr v s) := by
  unfold bulkWr
  exact keptIte (kept_mk.mpr h2) h2

theorem kept_bulkAck {closed incomplete s} (h3 : Kept o s) :
    Kept o (bulkAck closed incomplete s) := by
  unfold bulkAck
  exact keptIte (kept_wrB (kept_set (kept_mk.mpr h3))) h3

theorem kept_hostPowerState {s} (h1 : Kept o s) :
    Kept o (hostPowerState s) := by
  unfold hostPowerState
  extract_lets +onlyGivenNames v0
  have k1 : Kept o v0 := kept_resetRanges h1
  clear_value v0
  extract_lets +onlyGivenNames v2
  have k3 : Kept o v2 := kept_wipe k1
  clear_value v2
  extract_lets +onlyGivenNames v4
  clear_value v4
  extract_lets +onlyGivenNames v5
  clear_value v5
  extract_lets +onlyGivenNames v6
  clear_value v6
  exact kept_mk.mpr k3

theorem kept_pagesEdge {recent s} (h2 : Kept o s) :
    Kept o (pagesEdge recent s) := by
  unfold pagesEdge
  exact kept_mk.mpr h2

theorem kept_holdEdge {s} (h1 : Kept o s) :
    Kept o (holdEdge s) := by
  unfold holdEdge
  extract_lets +onlyGivenNames v0
  have k1 : Kept o v0 := keptIte (kept_set (kept_set (kept_clr h1))) h1
  clear_value v0
  exact kept_wrB (kept_mk.mpr k1)

theorem kept_endReplay {t s} (h2 : Kept o s) :
    Kept o (endReplay t s) := by
  unfold endReplay
  exact kept_mk.mpr h2

theorem kept_clearRvalid {t s} (h2 : Kept o s) :
    Kept o (clearRvalid t s) := by
  unfold clearRvalid
  exact kept_endReplay (kept_clr h2)

theorem kept_setDup {t b s} (h3 : Kept o s) :
    Kept o (setDup t b s) := by
  unfold setDup
  exact kept_setByte h3

theorem kept_hwAnswer {t result s} (h3 : Kept o s) :
    Kept o (hwAnswer t result s) := by
  unfold hwAnswer
  extract_lets +onlyGivenNames v0
  have k1 : Kept o v0 := kept_storeNat (kept_setByte h3)
  clear_value v0
  exact kept_wr (kept_count (kept_clearRvalid (kept_setDup k1)))

theorem kept_busyRung {t s} (h2 : Kept o s) :
    Kept o (busyRung t s) := by
  unfold busyRung
  refine keptIte ?_ ?_
  · extract_lets +onlyGivenNames v0
    have k1 : Kept o v0 := kept_hwAnswer h2
    clear_value v0
    exact keptIte (kept_clr (kept_set k1)) k1
  · exact h2

theorem kept_ecLoad {b s} (h2 : Kept o s) :
    Kept o (ecLoad b s) := by
  unfold ecLoad
  exact kept_set (kept_mk.mpr h2)

theorem kept_promoteByte {s p} (h1 : Kept o s) :
    Kept o (promoteByte s p) := by
  unfold promoteByte
  exact keptIte (kept_mk.mpr h1) (keptIte (kept_wr h1) (keptIte (kept_mk.mpr h1) (keptIte (kept_ecLoad h1) h1)))

theorem kept_pushQuery {s b} (h1 : Kept o s) :
    Kept o (pushQuery s b) := by
  unfold pushQuery
  exact keptIte (kept_mk.mpr h1) (kept_set h1)

theorem kept_completeTag {d s} (h2 : Kept o s) :
    Kept o (completeTag d s) := by
  unfold completeTag
  extract_lets +onlyGivenNames v0
  clear_value v0
  refine keptIte ?_ ?_
  · extract_lets +onlyGivenNames v1
    have k2 : Kept o v1 := kept_wr (kept_wr h2)
    clear_value v1
    exact kept_wr (kept_clr (kept_wrB k2))
  · exact kept_set h2

theorem kept_promote {p s} (h2 : Kept o s) :
    Kept o (promote p s) := by
  unfold promote
  extract_lets +onlyGivenNames v0
  have k1 : Kept o v0 := by
    unfold v0
    refine keptFold ?_ ?_
    · exact h2
    · intro y2 y3 y4
      exact kept_promoteByte y4
  clear_value v0
  extract_lets +onlyGivenNames v5
  have k6 : Kept o v5 := by
    unfold v5
    refine keptFold ?_ ?_
    · exact k1
    · intro y7 y8 y9
      exact kept_pushQuery y9
  clear_value v5
  extract_lets +onlyGivenNames v10
  have k11 : Kept o v10 := by
    unfold v10
    refine keptFold ?_ ?_
    · exact k6
    · intro y12 y13 y14
      exact kept_completeTag y14
  clear_value v10
  exact kept_set (kept_clr (kept_mk.mpr k11))

theorem kept_postsEdge {recent s} (h2 : Kept o s) :
    Kept o (postsEdge recent s) := by
  unfold postsEdge
  split
  · exact keptIte (kept_promote h2) h2
  · exact h2

theorem kept_ecEdge {s} (h1 : Kept o s) :
    Kept o (ecEdge s) := by
  unfold ecEdge
  exact keptIte (kept_clr h1) h1

theorem kept_snapshotEdge {recent s} (h2 : Kept o s) :
    Kept o (snapshotEdge recent s) := by
  unfold snapshotEdge
  extract_lets +onlyGivenNames v0
  have k1 : Kept o v0 := kept_pagesEdge (kept_holdEdge h2)
  clear_value v0
  extract_lets +onlyGivenNames v2
  have k3 : Kept o v2 := by
    unfold v2
    refine keptFold ?_ ?_
    · exact k1
    · intro y4 y5 y6
      exact kept_busyRung y6
  clear_value v2
  extract_lets +onlyGivenNames v7
  clear_value v7
  extract_lets +onlyGivenNames v8
  have k9 : Kept o v8 := kept_settle (kept_postsEdge (kept_ecEdge (kept_mk.mpr k3)))
  clear_value v8
  exact kept_mk.mpr k9

theorem kept_corruptTag {t s} (h2 : Kept o s) :
    Kept o (corruptTag t s) := by
  unfold corruptTag
  extract_lets +onlyGivenNames v0
  have k1 : Kept o v0 := kept_set (kept_clearRvalid (kept_setByte h2))
  clear_value v0
  exact kept_set (kept_set k1)

theorem kept_readParity {off n s} (h3 : Kept o s) :
    Kept o (readParity off n s) := by
  unfold readParity
  refine keptFold ?_ ?_
  · exact h3
  · intro y0 y1 y2
    extract_lets +onlyGivenNames v3
    clear_value v3
    extract_lets +onlyGivenNames v4
    clear_value v4
    exact keptIte (kept_corruptTag y2) y2

theorem kept_bulkReadCommit {n s} (h2 : Kept o s) :
    Kept o (bulkReadCommit n s) := by
  unfold bulkReadCommit
  extract_lets +onlyGivenNames v0
  clear_value v0
  extract_lets +onlyGivenNames v1
  clear_value v1
  extract_lets +onlyGivenNames v2
  clear_value v2
  extract_lets +onlyGivenNames v3
  have k4 : Kept o v3 := keptIte (kept_bulkParity (kept_mk.mpr h2)) (kept_mk.mpr h2)
  clear_value v3
  extract_lets +onlyGivenNames v5
  have k6 : Kept o v5 := keptIte k4 (kept_set k4)
  clear_value v5
  exact keptIte (kept_set k6) k6

theorem kept_identWrites {ws s} (h2 : Kept o s) :
    Kept o (identWrites ws s) := by
  unfold identWrites
  extract_lets +onlyGivenNames v0
  clear_value v0
  extract_lets +onlyGivenNames v1
  have k2 : Kept o v1 := by
    unfold v1
    split
    · exact h2
    · extract_lets +onlyGivenNames v9
      have k10 : Kept o v9 := kept_wrB h2
      clear_value v9
      extract_lets +onlyGivenNames v11
      have k12 : Kept o v11 := keptIte (kept_clr k10) k10
      clear_value v11
      exact keptIte (kept_mk.mpr k12) (keptIte (kept_mk.mpr k12) k12)
  clear_value v1
  extract_lets +onlyGivenNames v13
  clear_value v13
  extract_lets +onlyGivenNames v14
  have k15 : Kept o v14 := kept_wr k2
  clear_value v14
  exact kept_wr k15

theorem kept_headerWrite {t i b s} (h4 : Kept o s) :
    Kept o (headerWrite t i b s) := by
  unfold headerWrite
  exact keptIte (kept_setByte h4) (keptIte (kept_setByte h4) h4)

theorem kept_compareHeader {t s} (h2 : Kept o s) :
    Kept o (compareHeader t s) := by
  unfold compareHeader
  extract_lets +onlyGivenNames v0
  clear_value v0
  extract_lets +onlyGivenNames v1
  have k2 : Kept o v1 := keptIte h2 (kept_clr h2)
  clear_value v1
  exact keptIte (kept_mk.mpr k2) (kept_clearRvalid k2)

theorem kept_boxWrites {t ws s} (h3 : Kept o s) :
    Kept o (boxWrites t ws s) := by
  unfold boxWrites
  refine keptIte ?_ ?_
  · extract_lets +onlyGivenNames v0
    clear_value v0
    extract_lets +onlyGivenNames v1
    clear_value v1
    extract_lets +onlyGivenNames v2
    have k3 : Kept o v2 := by
      unfold v2
      refine keptFold ?_ ?_
      · exact h3
      · intro y4 y5 y6
        exact kept_headerWrite y6
    clear_value v2
    extract_lets +onlyGivenNames v7
    have k8 : Kept o v7 := keptIte (kept_compareHeader k3) k3
    clear_value v7
    refine keptIte ?_ ?_
    · exact k8
    · refine keptFold ?_ ?_
      · exact kept_clearRvalid k8
      · intro y9 y10 y11
        exact kept_setByte y11
  · exact h3

theorem kept_clearComplete {t s} (h2 : Kept o s) :
    Kept o (clearComplete t s) := by
  unfold clearComplete
  exact keptIte (kept_wr h2) h2

theorem kept_ring {t s} (h2 : Kept o s) :
    Kept o (ring t s) := by
  unfold ring
  refine keptIte ?_ ?_
  · refine keptIte ?_ ?_
    · exact kept_wr (kept_set (kept_count (kept_endReplay (kept_setDup h2))))
    · refine keptIte ?_ ?_
      · exact kept_hwAnswer h2
      · refine keptIte ?_ ?_
        · exact kept_hwAnswer h2
        · extract_lets +onlyGivenNames v0
          have k1 : Kept o v0 := kept_wrB (kept_setDup h2)
          clear_value v0
          exact kept_set (kept_wr (kept_clr k1))
  · exact h2

theorem kept_bulkClearErr {s} (h1 : Kept o s) :
    Kept o (bulkClearErr s) := by
  unfold bulkClearErr
  exact kept_clr (kept_clr (kept_clr (kept_clr h1)))

theorem kept_bulkClearStat {s} (h1 : Kept o s) :
    Kept o (bulkClearStat s) := by
  unfold bulkClearStat
  exact kept_clr (kept_clr (kept_bulkClearErr h1))

theorem kept_bulkFlush {s} (h1 : Kept o s) :
    Kept o (bulkFlush s) := by
  unfold bulkFlush
  exact kept_creditHalf (kept_clr (kept_mk.mpr h1))

theorem kept_unitOver {s} (h1 : Kept o s) :
    Kept o (unitOver s) := by
  unfold unitOver
  exact kept_mk.mpr h1

theorem kept_bulkSetTarget {v s} (h2 : Kept o s) :
    Kept o (bulkSetTarget v s) := by
  unfold bulkSetTarget
  exact kept_wr (kept_bulkClearStat (kept_bulkFlush (kept_unitOver h2)))

theorem kept_bulkSetAddr {v s} (h2 : Kept o s) :
    Kept o (bulkSetAddr v s) := by
  unfold bulkSetAddr
  refine keptIte ?_ ?_
  · extract_lets +onlyGivenNames v0
    clear_value v0
    extract_lets +onlyGivenNames v1
    have k2 : Kept o v1 := keptIte (kept_unitOver h2) (kept_mk.mpr h2)
    clear_value v1
    exact kept_clr (kept_wr k2)
  · exact kept_set h2

theorem kept_bulkByte {b s} (h2 : Kept o s) :
    Kept o (bulkByte b s) := by
  unfold bulkByte
  extract_lets +onlyGivenNames v0
  clear_value v0
  refine keptIte ?_ ?_
  · exact h2
  · extract_lets +onlyGivenNames v1
    clear_value v1
    extract_lets +onlyGivenNames v2
    have k3 : Kept o v2 := keptIte h2 (kept_set (kept_mk.mpr h2))
    clear_value v2
    extract_lets +onlyGivenNames v4
    clear_value v4
    refine keptIte ?_ ?_
    · exact kept_set k3
    · extract_lets +onlyGivenNames v5
      clear_value v5
      extract_lets +onlyGivenNames v6
      have k7 : Kept o v6 := kept_mk.mpr k3
      clear_value v6
      exact keptIte (kept_set k7) k7

theorem kept_bulkData {credit bs s} (h3 : Kept o s) :
    Kept o (bulkData credit bs s) := by
  unfold bulkData
  refine keptIte ?_ ?_
  · exact h3
  · refine keptIte ?_ ?_
    · exact kept_set h3
    · refine keptFold ?_ ?_
      · exact h3
      · intro y0 y1 y2
        exact kept_bulkByte y2

theorem kept_bulkClose {s} (h1 : Kept o s) :
    Kept o (bulkClose s) := by
  unfold bulkClose
  refine keptIte ?_ ?_
  · extract_lets +onlyGivenNames v0
    have k1 : Kept o v0 := kept_clr (kept_clr h1)
    clear_value v0
    exact keptIte (kept_mk.mpr k1) (kept_set (kept_mk.mpr k1))
  · exact h1

theorem kept_bulkWrites {ws s} (h2 : Kept o s) :
    Kept o (bulkWrites ws s) := by
  unfold bulkWrites
  extract_lets +onlyGivenNames v0
  clear_value v0
  extract_lets +onlyGivenNames v1
  have k2 : Kept o v1 := by
    unfold v1
    split
    · exact kept_bulkSetTarget h2
    · exact h2
  clear_value v1
  extract_lets +onlyGivenNames v9
  have k10 : Kept o v9 := keptIte (keptIte (kept_bulkSetAddr k2) k2) h2
  clear_value v9
  extract_lets +onlyGivenNames v11
  have k12 : Kept o v11 := keptIte (kept_bulkData k10) k10
  clear_value v11
  split
  · exact keptIte (kept_bulkClose k12) k12
  · exact k12

theorem kept_commitWrites {ws s} (h2 : Kept o s) :
    Kept o (commitWrites ws s) := by
  unfold commitWrites
  extract_lets +onlyGivenNames v0
  clear_value v0
  extract_lets +onlyGivenNames v1
  have k2 : Kept o v1 := keptIte (kept_identWrites h2) h2
  clear_value v1
  extract_lets +onlyGivenNames v3
  have k4 : Kept o v3 := by
    unfold v3
    refine keptIte ?_ ?_
    · refine keptFold ?_ ?_
      · exact k2
      · intro y5 y6 y7
        exact kept_boxWrites y7
    · exact k2
  clear_value v3
  extract_lets +onlyGivenNames v8
  clear_value v8
  extract_lets +onlyGivenNames v9
  clear_value v9
  extract_lets +onlyGivenNames v10
  have k11 : Kept o v10 := by
    unfold v10
    refine keptFold ?_ ?_
    · exact k4
    · intro y12 y13 y14
      exact keptIte (kept_clearComplete y14) y14
  clear_value v10
  extract_lets +onlyGivenNames v15
  have k16 : Kept o v15 := by
    unfold v15
    refine keptIte ?_ ?_
    · refine keptFold ?_ ?_
      · exact k11
      · intro y17 y18 y19
        exact keptIte (kept_ring y19) y19
    · exact k4
  clear_value v15
  extract_lets +onlyGivenNames v20
  have k21 : Kept o v20 := kept_bulkWrites k16
  clear_value v20
  exact kept_settle (keptIte (kept_set k21) k21)

theorem kept_ecForward {b cmd s} (h3 : Kept o s) :
    Kept o (ecForward b cmd s) := by
  unfold ecForward
  extract_lets +onlyGivenNames v0
  clear_value v0
  extract_lets +onlyGivenNames v1
  have k2 : Kept o v1 := kept_set (kept_mk.mpr h3)
  clear_value v1
  exact keptIte (kept_set k2) k2

theorem kept_ecCommand {b s} (h2 : Kept o s) :
    Kept o (ecCommand b s) := by
  unfold ecCommand
  extract_lets +onlyGivenNames v0
  have k1 : ∀ v0y1 v0y2, (Kept o v0y2) → Kept o (v0 v0y1 v0y2) := by
    intro y2 y3 y4
    unfold v0
    exact kept_mk.mpr y4
  clear_value v0
  split
  · exact k1 _ _ h2
  · exact k1 _ _ h2
  · exact kept_set (kept_ecLoad (k1 _ _ h2))
  · exact kept_clr (k1 _ _ h2)
  · split
    · exact kept_ecLoad (k1 _ _ h2)
    · exact kept_ecLoad (k1 _ _ (kept_mk.mpr h2))
  · exact kept_ecForward (k1 _ _ h2)

theorem kept_ecData {b s} (h2 : Kept o s) :
    Kept o (ecData b s) := by
  unfold ecData
  split
  · exact h2
  · exact kept_ecLoad (kept_mk.mpr h2)
  · exact kept_mk.mpr h2
  · exact kept_ecQueueWrite (kept_mk.mpr h2)
  · exact kept_ecForward h2

theorem kept_ecPortWrite {isCmd b s} (h3 : Kept o s) :
    Kept o (ecPortWrite isCmd b s) := by
  unfold ecPortWrite
  refine keptIte ?_ ?_
  · exact kept_set h3
  · extract_lets +onlyGivenNames v0
    have k1 : Kept o v0 := kept_wrB h3
    clear_value v0
    exact kept_settle (keptIte (kept_ecCommand k1) (kept_ecData k1))

theorem kept_resetConfigPair {s} (h1 : Kept o s) :
    Kept o (resetConfigPair s) := by
  unfold resetConfigPair
  extract_lets +onlyGivenNames v0
  clear_value v0
  extract_lets +onlyGivenNames v1
  clear_value v1
  exact kept_resetRanges (kept_mk.mpr h1)

theorem kept_oobDiscard {s} (h1 : Kept o s) :
    Kept o (oobDiscard s) := by
  unfold oobDiscard
  exact keptIte (kept_set (kept_clr h1)) h1

theorem kept_resetEspi {s} (h1 : Kept o s) :
    Kept o (resetEspi s) := by
  unfold resetEspi
  extract_lets +onlyGivenNames v0
  clear_value v0
  extract_lets +onlyGivenNames v1
  clear_value v1
  exact kept_wr (kept_wr (kept_mk.mpr h1))

/-! ### Machine/LinkRegs.lean -/

theorem kept_hostRead {a s} (h2 : Kept o s) :
    Kept o (hostRead a s).2 := by
  unfold hostRead
  split
  · exact keptSnd h2
  · split
    · exact keptSnd h2
    · exact keptSnd (kept_clearRc h2)

theorem kept_mbxRead {a s} (h2 : Kept o s) :
    Kept o (mbxRead a s).2 := by
  unfold mbxRead
  split
  · exact kept_directRead h2
  · split
    · exact keptSnd h2
    · split
      · exact keptSnd h2
      · exact keptSnd h2
      · exact kept_ecInRead h2
      · exact kept_ecWqRead h2
      · exact keptSnd h2
      · exact keptSnd h2
      · exact kept_bulkRd h2
      · exact keptSnd h2
      · exact keptSnd (kept_clearRc h2)

theorem kept_vwoutWrite {v s} (h2 : Kept o s) :
    Kept o (vwoutWrite v s) := by
  unfold vwoutWrite
  extract_lets +onlyGivenNames v0
  have k1 : Kept o v0 := kept_regWrite h2
  clear_value v0
  extract_lets +onlyGivenNames v2
  extract_lets +onlyGivenNames v3
  have k4 : Kept o v3 := keptIte (kept_offer k1) k1
  clear_value v3
  extract_lets +onlyGivenNames v5
  have k6 : Kept o v5 := keptIte (kept_offer k4) k4
  clear_value v5
  extract_lets +onlyGivenNames v7
  have k8 : Kept o v7 := keptIte (kept_offer k6) k6
  clear_value v7
  exact kept_settle k8

theorem kept_oobRxWrite {v s} (h2 : Kept o s) :
    Kept o (oobRxWrite v s) := by
  unfold oobRxWrite
  exact keptIte (kept_clr h2) h2

theorem kept_oobTxWrite {v s} (h2 : Kept o s) :
    Kept o (oobTxWrite v s) := by
  unfold oobTxWrite
  refine keptIte ?_ ?_
  · exact h2
  · extract_lets +onlyGivenNames v0
    have k1 : Kept o v0 := kept_regWrite h2
    clear_value v0
    refine keptIte ?_ ?_
    · extract_lets +onlyGivenNames v2
      have k3 : Kept o v2 := kept_set k1
      clear_value v2
      exact kept_mk.mpr k3
    · exact k1

theorem kept_hostWrite {a v s} (h3 : Kept o s) :
    Kept o (hostWrite a v s) := by
  unfold hostWrite
  split
  · exact kept_pagesChanged h3 (kept_regWrite h3)
  · exact kept_hostPostWrite h3
  · exact kept_vwoutWrite h3
  · exact kept_oobRxWrite h3
  · exact kept_oobTxWrite h3
  · exact keptIte (kept_apertureWrite h3) (kept_regWrite h3)

theorem kept_mbxWrite {a v s} (h3 : Kept o s) :
    Kept o (mbxWrite a v s) := by
  unfold mbxWrite
  refine keptIte ?_ ?_
  · exact kept_directWrite h3
  · refine keptIte ?_ ?_
    · exact kept_postItem h3
    · split
      · exact kept_mbxCtrlWrite h3
      · exact kept_mbxTake h3
      · exact kept_mbxDone h3
      · exact kept_postItem h3
      · exact kept_postItem h3
      · exact kept_bulkWr h3
      · exact kept_bulkAck h3
      · exact kept_regWrite h3

/-! ### Machine/Fgd.lean -/

theorem kept_rsmUpdate {s} (h1 : Kept o s) :
    Kept o (rsmUpdate s) := by
  unfold rsmUpdate
  extract_lets +onlyGivenNames v0
  clear_value v0
  extract_lets +onlyGivenNames v1
  clear_value v1
  extract_lets +onlyGivenNames v2
  have k3 : Kept o v2 := kept_wrB h1
  clear_value v2
  exact keptIte (kept_offer (kept_mk.mpr k3)) k3

theorem kept_reqAnswer {r code data s} (h4 : Kept o s) :
    Kept o (reqAnswer r code data s) := by
  unfold reqAnswer
  refine keptIte ?_ ?_
  · exact keptIte h4 (kept_mk.mpr h4)
  · extract_lets +onlyGivenNames v0
    have k1 : Kept o v0 := kept_wr (kept_clr h4)
    clear_value v0
    exact keptIte (kept_setBytes k1) k1

theorem kept_reqDenied {r code s} (h3 : Kept o s) :
    Kept o (reqDenied r code s) := by
  unfold reqDenied
  exact kept_reqAnswer (kept_set (kept_count h3))

theorem kept_serveQueue {n s} (h : Kept o s) : Kept o (serveQueue n s) := by
  induction n generalizing s with
  | zero => exact h
  | succ n ih =>
    unfold serveQueue
    split
    · split
      · exact h
      · extract_lets f t c
        have ht : Kept o t := kept_mk.mpr h
        split
        · exact ih (kept_reqDenied ht)
        · exact kept_mk.mpr (kept_set ht)
    · exact h

theorem kept_discover {k d s} (h3 : Kept o s) :
    Kept o (discover k d s) := by
  unfold discover
  extract_lets +onlyGivenNames v0
  clear_value v0
  extract_lets +onlyGivenNames v1
  have k2 : Kept o v1 := kept_wrB (kept_wrB h3)
  clear_value v1
  extract_lets +onlyGivenNames v3
  have k4 : Kept o v3 := kept_wr k2
  clear_value v3
  extract_lets +onlyGivenNames v5
  have k6 : Kept o v5 := kept_wr k4
  clear_value v5
  exact kept_wr k6

theorem kept_discoverAll {s} (h1 : Kept o s) :
    Kept o (discoverAll s) := by
  unfold discoverAll
  extract_lets +onlyGivenNames v0
  clear_value v0
  extract_lets +onlyGivenNames v1
  clear_value v1
  extract_lets +onlyGivenNames v2
  have k3 : Kept o v2 := kept_discover (kept_discover h1)
  clear_value v2
  exact kept_wr k3

theorem kept_fgdStart {s} (h1 : Kept o s) :
    Kept o (fgdStart s) := by
  unfold fgdStart
  refine keptIte ?_ ?_
  · exact kept_set h1
  · extract_lets +onlyGivenNames v0
    have k1 : Kept o v0 := kept_wr (kept_wr h1)
    clear_value v0
    refine kept_discoverAll ?_
    extract_lets +onlyGivenNames v2
    have k3 : Kept o v2 := kept_wr k1
    clear_value v2
    exact kept_mk.mpr k3

theorem kept_fgdCtrlWrite {v s} (h2 : Kept o s) :
    Kept o (fgdCtrlWrite v s) := by
  unfold fgdCtrlWrite
  extract_lets +onlyGivenNames v0
  have k1 : Kept o v0 := kept_rsmUpdate (kept_regWrite h2)
  clear_value v0
  extract_lets +onlyGivenNames v2
  have k3 : Kept o v2 := kept_serveQueue k1
  clear_value v2
  exact keptIte (kept_fgdStart k3) k3

theorem kept_promoGo {s} (h1 : Kept o s) :
    Kept o (promoGo s) := by
  unfold promoGo
  extract_lets +onlyGivenNames v0
  clear_value v0
  refine keptIte ?_ ?_
  · exact kept_set h1
  · extract_lets +onlyGivenNames v1
    have k2 : Kept o v1 := kept_wr h1
    clear_value v1
    exact kept_mk.mpr k2

theorem kept_reqArrive {r s} (h2 : Kept o s) :
    Kept o (reqArrive r s) := by
  unfold reqArrive
  extract_lets +onlyGivenNames v0
  clear_value v0
  extract_lets +onlyGivenNames v1
  have k2 : Kept o v1 := kept_mk.mpr h2
  clear_value v1
  exact kept_serveQueue k2

theorem kept_freqWrite {v s} (h2 : Kept o s) :
    Kept o (freqWrite v s) := by
  unfold freqWrite
  extract_lets +onlyGivenNames v0
  clear_value v0
  extract_lets +onlyGivenNames v1
  clear_value v1
  extract_lets +onlyGivenNames v2
  clear_value v2
  exact keptIte h2 (keptIte (kept_wr h2) (keptIte (kept_wr h2) (kept_reqArrive (kept_set h2))))

theorem kept_fgdWrite {a v s} (h3 : Kept o s) :
    Kept o (fgdWrite a v s) := by
  unfold fgdWrite
  refine keptIte ?_ ?_
  · exact kept_fgdCtrlWrite h3
  · refine keptIte ?_ ?_
    · extract_lets +onlyGivenNames v0
      have k1 : Kept o v0 := kept_wr h3
      clear_value v0
      extract_lets +onlyGivenNames v2
      clear_value v2
      extract_lets +onlyGivenNames v3
      have k4 : Kept o v3 := keptIte (kept_mk.mpr k1) h3
      clear_value v3
      exact keptIte (kept_promoGo k4) k4
    · exact keptIte (kept_freqWrite h3) (kept_regWrite h3)

theorem kept_setFlash {a bs s} (h3 : Kept o s) :
    Kept o (setFlash a bs s) := by
  unfold setFlash
  exact kept_mk.mpr h3

theorem kept_regionView {s p} (h1 : Kept o s) :
    Kept o (regionView s p) := by
  unfold regionView
  split
  extract_lets +onlyGivenNames v3
  clear_value v3
  extract_lets +onlyGivenNames v4
  have k5 : Kept o v4 := kept_wr (kept_wr (kept_wr h1))
  clear_value v4
  extract_lets +onlyGivenNames v6
  have k7 : Kept o v6 := kept_wr (kept_set (kept_wrB k5))
  clear_value v6
  extract_lets +onlyGivenNames v8
  have k9 : Kept o v8 := kept_wr (kept_wr (kept_wr k7))
  clear_value v8
  exact kept_putBytes k9

theorem kept_regionClear {s i} (h1 : Kept o s) :
    Kept o (regionClear s i) := by
  unfold regionClear
  extract_lets +onlyGivenNames v0
  have k1 : Kept o v0 := kept_wr (kept_wr (kept_wr h1))
  clear_value v0
  extract_lets +onlyGivenNames v2
  have k3 : Kept o v2 := kept_wr (kept_clr (kept_clr k1))
  clear_value v2
  extract_lets +onlyGivenNames v4
  have k5 : Kept o v4 := kept_wr (kept_wr (kept_wr k3))
  clear_value v4
  exact kept_putBytes k5

theorem kept_fgdView {s} (h1 : Kept o s) :
    Kept o (fgdView s) := by
  unfold fgdView
  extract_lets +onlyGivenNames v0
  clear_value v0
  refine keptFold ?_ ?_
  · refine keptFold ?_ ?_
    · exact h1
    · intro y1 y2 y3
      exact kept_regionClear y3
  · intro y4 y5 y6
    exact kept_regionView y6

theorem kept_fgdCause {c s} (h2 : Kept o s) :
    Kept o (fgdCause c s) := by
  unfold fgdCause
  exact kept_wr h2

theorem kept_touched {s sec} (h1 : Kept o s) :
    Kept o (touched s sec) := by
  unfold touched
  extract_lets +onlyGivenNames v0
  clear_value v0
  extract_lets +onlyGivenNames v1
  clear_value v1
  extract_lets +onlyGivenNames v2
  have k3 : Kept o v2 := kept_mk.mpr h1
  clear_value v2
  extract_lets +onlyGivenNames v4
  clear_value v4
  extract_lets +onlyGivenNames v5
  have k6 : Kept o v5 := keptIte (kept_clr k3) k3
  clear_value v5
  extract_lets +onlyGivenNames v7
  clear_value v7
  extract_lets +onlyGivenNames v8
  clear_value v8
  exact keptIte (kept_set (kept_fgdCause (kept_wr k6))) k6

theorem kept_reqEffect {r s} (h2 : Kept o s) :
    Kept o (reqEffect r s) := by
  unfold reqEffect
  extract_lets +onlyGivenNames v0
  clear_value v0
  refine keptIte ?_ ?_
  · exact h2
  · extract_lets +onlyGivenNames v1
    have k2 : ∀ v1y1 v1y2, (Kept o v1y1) → Kept o (v1 v1y1 v1y2) := by
      intro y3 y4 y5
      unfold v1
      exact kept_setFlash y5
    clear_value v1
    extract_lets +onlyGivenNames v6
    have k7 : Kept o v6 := by
      unfold v6
      refine keptIte ?_ ?_
      · refine keptFold ?_ ?_
        · exact h2
        · intro y8 y9 y10
          exact k2 _ _ y10
      · exact kept_setFlash h2
    clear_value v6
    refine kept_fgdView ?_
    refine keptFold ?_ ?_
    · exact k7
    · intro y11 y12 y13
      exact kept_touched y13

theorem kept_fgdDomainReset {s} (h1 : Kept o s) :
    Kept o (fgdDomainReset s) := by
  unfold fgdDomainReset
  extract_lets +onlyGivenNames v0
  have k1 : Kept o v0 := by
    unfold v0
    split
    · exact kept_reqEffect h1
    · exact h1
  clear_value v0
  exact kept_mk.mpr k1

theorem kept_fgdActive {i act spare spareOk s} (h5 : Kept o s) :
    Kept o (fgdActive i act spare spareOk s) := by
  unfold fgdActive
  extract_lets +onlyGivenNames v0
  have k1 : Kept o v0 := kept_wrB (kept_wr h5)
  clear_value v0
  extract_lets +onlyGivenNames v2
  have k3 : Kept o v2 := kept_wr (kept_wr k1)
  clear_value v2
  extract_lets +onlyGivenNames v4
  clear_value v4
  exact kept_mk.mpr k3

theorem kept_promoTake {s} (h1 : Kept o s) :
    Kept o (promoTake s) := by
  unfold promoTake
  extract_lets +onlyGivenNames v0
  clear_value v0
  extract_lets +onlyGivenNames v1
  clear_value v1
  extract_lets +onlyGivenNames v2
  clear_value v2
  extract_lets +onlyGivenNames v3
  clear_value v3
  extract_lets +onlyGivenNames v4
  have k5 : Kept o v4 := kept_fgdActive (kept_wr h1)
  clear_value v4
  extract_lets +onlyGivenNames v6
  clear_value v6
  extract_lets +onlyGivenNames v7
  have k8 : Kept o v7 := kept_mk.mpr k5
  clear_value v7
  exact kept_hwLog (kept_fgdView (kept_set k8))

theorem kept_promoApply {s} (h1 : Kept o s) :
    Kept o (promoApply s) := by
  unfold promoApply
  exact keptIte h1 (keptIte (kept_mk.mpr h1) (kept_promoTake h1))

theorem kept_flashHostReset {s} (h1 : Kept o s) :
    Kept o (flashHostReset s) := by
  unfold flashHostReset
  extract_lets +onlyGivenNames v0
  have k1 : Kept o v0 := keptIte (kept_clr h1) h1
  clear_value v0
  exact kept_mk.mpr k1

theorem kept_fgdVerdict {v s} (h2 : Kept o s) :
    Kept o (fgdVerdict v s) := by
  unfold fgdVerdict
  extract_lets +onlyGivenNames v0
  have k1 : Kept o v0 := kept_set (kept_wr (kept_wr h2))
  clear_value v0
  extract_lets +onlyGivenNames v2
  have k3 : Kept o v2 := keptIte (kept_set k1) (keptIte (kept_set k1) k1)
  clear_value v2
  extract_lets +onlyGivenNames v4
  have k5 : Kept o v4 := keptIte k3 (kept_hwLog k3)
  clear_value v4
  exact kept_rsmUpdate (kept_fgdView k5)

theorem kept_fgdFails {s} (h1 : Kept o s) :
    Kept o (fgdFails s) := by
  unfold fgdFails
  extract_lets +onlyGivenNames v0
  have k1 : Kept o v0 := kept_wr (kept_wr (kept_clr h1))
  clear_value v0
  refine kept_fgdVerdict ?_
  extract_lets +onlyGivenNames v2
  have k3 : Kept o v2 := kept_wr k1
  clear_value v2
  exact kept_mk.mpr k3

theorem kept_logFailed {rs s} (h2 : Kept o s) :
    Kept o (logFailed rs s) := by
  unfold logFailed
  refine keptFold ?_ ?_
  · exact h2
  · intro y0 y1 y2
    exact keptIte (kept_hwLog y2) y2

theorem kept_fgdTry {i spareOk s} (h3 : Kept o s) :
    Kept o (fgdTry i spareOk s) := by
  unfold fgdTry
  extract_lets +onlyGivenNames v0
  clear_value v0
  extract_lets +onlyGivenNames v1
  clear_value v1
  extract_lets +onlyGivenNames v2
  clear_value v2
  extract_lets +onlyGivenNames v3
  have k4 : Kept o v3 := kept_logFailed h3
  clear_value v3
  extract_lets +onlyGivenNames v5
  have k6 : Kept o v5 := keptIte (kept_fgdCause k4) k4
  clear_value v5
  refine keptIte ?_ ?_
  · exact kept_fgdVerdict (kept_fgdActive (kept_logFailed k6))
  · refine keptIte ?_ ?_
    · exact kept_fgdFails k6
    · extract_lets +onlyGivenNames v7
      clear_value v7
      extract_lets +onlyGivenNames v8
      have k9 : Kept o v8 := kept_logFailed k6
      clear_value v8
      refine keptIte ?_ ?_
      · extract_lets +onlyGivenNames v10
        clear_value v10
        exact kept_fgdVerdict (kept_fgdActive (kept_logFailed k9))
      · exact kept_fgdFails k9

theorem kept_fgdVerify {s} (h1 : Kept o s) :
    Kept o (fgdVerify s) := by
  unfold fgdVerify
  refine keptIte ?_ ?_
  · exact h1
  · refine keptIte ?_ ?_
    · exact h1
    · refine keptIte ?_ ?_
      · exact kept_fgdFails (kept_fgdCause h1)
      · extract_lets +onlyGivenNames v0
        extract_lets +onlyGivenNames v1
        clear_value v1
        extract_lets +onlyGivenNames v2
        clear_value v2
        extract_lets +onlyGivenNames v3
        have k4 : Kept o v3 := keptIte h1 (kept_fgdCause h1)
        clear_value v3
        extract_lets +onlyGivenNames v5
        have k6 : Kept o v5 := keptIte (kept_fgdCause k4) k4
        clear_value v5
        exact keptIte (kept_fgdFails k6) (keptIte (kept_fgdTry k6) (keptIte (kept_fgdTry k6) (keptIte (kept_fgdTry
            k6) (kept_fgdTry k6))))

theorem kept_reqOver {s} (h1 : Kept o s) :
    Kept o (reqOver s) := by
  unfold reqOver
  extract_lets +onlyGivenNames v0
  have k1 : Kept o v0 := kept_clr h1
  clear_value v0
  extract_lets +onlyGivenNames v2
  clear_value v2
  extract_lets +onlyGivenNames v3
  have k4 : Kept o v3 := kept_mk.mpr k1
  clear_value v3
  extract_lets +onlyGivenNames v5
  have k6 : Kept o v5 := keptIte (kept_promoApply k4) k4
  clear_value v5
  exact kept_serveQueue k6

theorem kept_flashDone {s} (h1 : Kept o s) :
    Kept o (flashDone s) := by
  unfold flashDone
  split
  · exact h1
  · extract_lets +onlyGivenNames v5
    clear_value v5
    exact kept_reqOver (kept_reqAnswer (kept_reqEffect h1))

theorem kept_flashTimeout {s} (h1 : Kept o s) :
    Kept o (flashTimeout s) := by
  unfold flashTimeout
  split
  · exact h1
  · extract_lets +onlyGivenNames v5
    clear_value v5
    extract_lets +onlyGivenNames v6
    clear_value v6
    extract_lets +onlyGivenNames v7
    have k8 : Kept o v7 := by
      unfold v7
      refine keptFold ?_ ?_
      · exact kept_drawBytes h1
      · intro y9 y10 y11
        exact kept_setFlash y11
    clear_value v7
    extract_lets +onlyGivenNames v12
    have k13 : Kept o v12 := by
      unfold v12
      refine keptIte ?_ ?_
      · exact h1
      · refine kept_fgdView ?_
        refine keptFold ?_ ?_
        · exact k8
        · intro y14 y15 y16
          exact kept_touched y16
    clear_value v12
    extract_lets +onlyGivenNames v17
    have k18 : Kept o v17 := kept_fgdCause (kept_set (kept_count k13))
    clear_value v17
    exact kept_reqOver (kept_reqAnswer (kept_hwLog k18))

theorem kept_promoFails {cause s} (h2 : Kept o s) :
    Kept o (promoFails cause s) := by
  unfold promoFails
  exact kept_set (kept_fgdCause (kept_wr h2))

theorem kept_promoVerify {s} (h1 : Kept o s) :
    Kept o (promoVerify s) := by
  unfold promoVerify
  extract_lets +onlyGivenNames v0
  clear_value v0
  refine keptIte ?_ ?_
  · exact h1
  · refine keptIte ?_ ?_
    · exact h1
    · extract_lets +onlyGivenNames v1
      clear_value v1
      extract_lets +onlyGivenNames v2
      clear_value v2
      refine keptIte ?_ ?_
      · exact kept_promoFails h1
      · refine keptIte ?_ ?_
        · exact kept_promoFails h1
        · extract_lets +onlyGivenNames v3
          clear_value v3
          extract_lets +onlyGivenNames v4
          have k5 : Kept o v4 := kept_logFailed h1
          clear_value v4
          extract_lets +onlyGivenNames v6
          clear_value v6
          extract_lets +onlyGivenNames v7
          have k8 : Kept o v7 := kept_wr (kept_set k5)
          clear_value v7
          extract_lets +onlyGivenNames v9
          clear_value v9
          extract_lets +onlyGivenNames v10
          have k11 : Kept o v10 := kept_fgdView (kept_mk.mpr k8)
          clear_value v10
          exact keptIte (kept_set (kept_wr k11)) (kept_promoFails k11)

/-! ### Machine/Rail.lean -/

theorem kept_railRead {a s} (h2 : Kept o s) :
    Kept o (railRead a s).2 := by
  unfold railRead
  split
  · exact keptSnd h2
  · exact keptSnd (kept_clearRc h2)

theorem kept_setRailCh {n c s} (h3 : Kept o s) :
    Kept o (setRailCh n c s) := by
  unfold setRailCh
  exact kept_mk.mpr h3

theorem kept_setPair {f0 f1 n s} (h4 : Kept o s) :
    Kept o (setPair f0 f1 n s) := by
  unfold setPair
  exact keptIte (kept_setBit h4) (kept_setBit h4)

theorem kept_setTsel {v s} (h2 : Kept o s) :
    Kept o (setTsel v s) := by
  unfold setTsel
  exact keptIte h2 (kept_set (kept_wr h2))

theorem kept_railFault {n cause s} (h3 : Kept o s) :
    Kept o (railFault n cause s) := by
  unfold railFault
  extract_lets +onlyGivenNames v0
  clear_value v0
  extract_lets +onlyGivenNames v1
  have k2 : Kept o v1 := kept_wr (kept_wr h3)
  clear_value v1
  extract_lets +onlyGivenNames v3
  clear_value v3
  extract_lets +onlyGivenNames v4
  have k5 : Kept o v4 := kept_setRailCh k2
  clear_value v4
  extract_lets +onlyGivenNames v6
  have k7 : Kept o v6 := kept_set (kept_setPair k5)
  clear_value v6
  extract_lets +onlyGivenNames v8
  have k9 : Kept o v8 := kept_hwLog k7
  clear_value v8
  exact keptIte (kept_set (kept_setTsel k9)) k9

theorem kept_adoptOne {x1 s n} (h2 : Kept o s) :
    Kept o (adoptOne x1 s n) := by
  unfold adoptOne
  exact keptIte (keptIte (kept_railFault h2) (kept_wr h2)) (kept_wr h2)

theorem kept_adopt {s} (h1 : Kept o s) :
    Kept o (adopt s) := by
  unfold adopt
  extract_lets +onlyGivenNames v0
  clear_value v0
  refine keptFold ?_ ?_
  · exact kept_clr h1
  · intro y1 y2 y3
    exact kept_adoptOne y3

theorem kept_railStatWrite {v s} (h2 : Kept o s) :
    Kept o (railStatWrite v s) := by
  unfold railStatWrite
  extract_lets +onlyGivenNames v0
  clear_value v0
  extract_lets +onlyGivenNames v1
  have k2 : Kept o v1 := kept_regWrite h2
  clear_value v1
  exact keptIte (kept_setTsel k2) k2

theorem kept_railClr {base v s} (h3 : Kept o s) :
    Kept o (railClr base v s) := by
  unfold railClr
  extract_lets +onlyGivenNames v0
  clear_value v0
  exact kept_mk.mpr h3

theorem kept_railWrite {a v s} (h3 : Kept o s) :
    Kept o (railWrite a v s) := by
  unfold railWrite
  split
  · exact kept_railStatWrite h3
  · exact kept_railClr h3
  · exact kept_railClr h3
  · exact kept_regWrite h3

theorem kept_holdPins {s} (h1 : Kept o s) :
    Kept o (holdPins s) := by
  unfold holdPins
  exact keptIte h1 (kept_mk.mpr h1)

theorem kept_holdRails {s} (h1 : Kept o s) :
    Kept o (holdRails s) := by
  unfold holdRails
  extract_lets +onlyGivenNames v0
  clear_value v0
  exact kept_wr (kept_wr (kept_holdPins h1))

theorem kept_railDecode {s} (h1 : Kept o s) :
    Kept o (railDecode s) := by
  unfold railDecode
  refine keptIte ?_ ?_
  · exact h1
  · extract_lets +onlyGivenNames v0
    clear_value v0
    extract_lets +onlyGivenNames v1
    have k2 : Kept o v1 := kept_mk.mpr h1
    clear_value v1
    extract_lets +onlyGivenNames v3
    have k4 : Kept o v3 := kept_wr k2
    clear_value v3
    exact keptIte (kept_setTsel k4) k4

theorem kept_vmonSample {k code s} (h3 : Kept o s) :
    Kept o (vmonSample k code s) := by
  unfold vmonSample
  extract_lets +onlyGivenNames v0
  have k1 : Kept o v0 := kept_wr h3
  clear_value v0
  exact keptIte (kept_set (kept_clr k1)) (keptIte (kept_set (kept_clr k1)) (kept_set k1))

theorem kept_railGo {n st c s} (h4 : Kept o s) :
    Kept o (railGo n st c s) := by
  unfold railGo
  exact kept_setRailCh (kept_wr h4)

theorem kept_railMove {s0 n dem preds free s} (h1 : Kept o s0) (h6 : Kept o s) :
    Kept o (railMove s0 n dem preds free s) := by
  unfold railMove
  extract_lets +onlyGivenNames v0
  clear_value v0
  extract_lets +onlyGivenNames v1
  clear_value v1
  extract_lets +onlyGivenNames v2
  clear_value v2
  extract_lets +onlyGivenNames v3
  have k4 : ∀ v3y1, (Kept o v3y1) → Kept o (v3 v3y1) := by
    intro y5 y6
    unfold v3
    exact keptIte (kept_railGo y6) y6
  clear_value v3
  split
  · exact keptIte (kept_railGo h6) h6
  · refine keptIte ?_ ?_
    · exact kept_railGo h6
    · refine keptIte ?_ ?_
      · exact kept_railFault h6
      · refine keptIte ?_ ?_
        · extract_lets +onlyGivenNames v11
          clear_value v11
          exact keptIte (kept_railGo h6) (kept_setRailCh h6)
        · exact kept_setRailCh h6
  · extract_lets +onlyGivenNames v14
    exact keptIte (kept_railGo h6) (keptIte (kept_railGo h6) (keptIte (kept_railFault h6) (k4 _ h6)))
  · exact keptIte (keptIte (kept_set (kept_setPair h6)) (kept_railFault h6)) (k4 _ h6)
  · exact keptIte (kept_wr (kept_railGo h6)) (keptIte (kept_count (kept_railGo h6)) h6)
  · extract_lets +onlyGivenNames v21
    exact keptIte (kept_wr (kept_railGo h6)) (keptIte (kept_railFault h6) h6)
  · exact h6

theorem kept_railStep {s} (h1 : Kept o s) :
    Kept o (railStep s) := by
  unfold railStep
  refine keptIte ?_ ?_
  · exact h1
  · extract_lets +onlyGivenNames v0
    clear_value v0
    extract_lets +onlyGivenNames v1
    clear_value v1
    extract_lets +onlyGivenNames v2
    clear_value v2
    extract_lets +onlyGivenNames v3
    have k4 : Kept o v3 := h1
    clear_value v3
    extract_lets +onlyGivenNames v5
    have k6 : Kept o v5 := keptIte (kept_set k4) k4
    clear_value v5
    extract_lets +onlyGivenNames v7
    have k8 : Kept o v7 := keptIte (kept_set k6) k6
    clear_value v7
    extract_lets +onlyGivenNames v9
    have k10 : Kept o v9 := keptIte (kept_set k8) k8
    clear_value v9
    extract_lets +onlyGivenNames v11
    have k12 : Kept o v11 := by
      unfold v11
      refine keptFold ?_ ?_
      · exact k10
      · intro y13 y14 y15
        extract_lets +onlyGivenNames v16
        clear_value v16
        exact kept_wrB (kept_railMove h1 y15)
    clear_value v11
    extract_lets +onlyGivenNames v17
    clear_value v17
    extract_lets +onlyGivenNames v18
    have k19 : Kept o v18 := kept_mk.mpr k12
    clear_value v18
    extract_lets +onlyGivenNames v20
    clear_value v20
    extract_lets +onlyGivenNames v21
    have k22 : Kept o v21 := keptIte (kept_set k19) k19
    clear_value v21
    exact kept_wrB k22

theorem kept_pinMoves {n level s} (h3 : Kept o s) :
    Kept o (pinMoves n level s) := by
  unfold pinMoves
  exact keptIte h3 (kept_mk.mpr h3)

/-! ### Machine/Thm.lean -/

theorem kept_fanRegRead {a s} (h2 : Kept o s) : Kept o (fanRegRead a s).2 := by
  unfold fanRegRead
  (repeat' split) <;> first | exact keptSnd h2 | exact keptSnd (kept_clearRc h2)

theorem kept_clampTo {f lo x3 s} (h4 : Kept o s) :
    Kept o (clampTo f lo x3 s) := by
  unfold clampTo
  exact kept_wr h4

theorem kept_setFanCh {n x s} (h3 : Kept o s) :
    Kept o (setFanCh n x s) := by
  unfold setFanCh
  exact kept_mk.mpr h3

theorem kept_fanGo {n st s} (h3 : Kept o s) :
    Kept o (fanGo n st s) := by
  unfold fanGo
  exact kept_wr (kept_setFanCh h3)

theorem kept_fanForce {s} (h1 : Kept o s) :
    Kept o (fanForce s) := by
  unfold fanForce
  refine keptFold ?_ ?_
  · exact h1
  · intro y0 y1 y2
    exact keptIte (kept_fanGo y2) y2

theorem kept_fanStop {clear n s} (h3 : Kept o s) :
    Kept o (fanStop clear n s) := by
  unfold fanStop
  extract_lets +onlyGivenNames v0
  have k1 : Kept o v0 := kept_fanGo h3
  clear_value v0
  exact kept_fanForce (keptIte (kept_wr k1) k1)

theorem kept_fanCtrlWrite {n v s0} (h3 : Kept o s0) :
    Kept o (fanCtrlWrite n v s0) := by
  unfold fanCtrlWrite
  extract_lets +onlyGivenNames v0
  have k1 : Kept o v0 := kept_regWrite h3
  clear_value v0
  extract_lets +onlyGivenNames v2
  have k3 : Kept o v2 := keptIte k1 (kept_clr k1)
  clear_value v2
  extract_lets +onlyGivenNames v4
  clear_value v4
  exact keptIte (keptIte k3 (kept_fanStop k3)) (keptIte (kept_fanStop k3) (kept_fanForce k3))

theorem kept_fanRegWrite {a v s} (h3 : Kept o s) :
    Kept o (fanRegWrite a v s) := by
  unfold fanRegWrite
  refine keptIte ?_ ?_
  · extract_lets +onlyGivenNames v0
    clear_value v0
    split
    · exact kept_fanCtrlWrite h3
    · exact kept_clampTo (kept_regWrite h3)
    · extract_lets +onlyGivenNames v7
      have k8 : Kept o v7 := kept_clampTo (kept_regWrite h3)
      clear_value v7
      exact kept_clampTo k8
    · exact kept_clampTo (kept_clampTo (kept_regWrite h3))
    · exact kept_regWrite h3
  · exact kept_regWrite h3

theorem kept_thmSystem {n s} (h2 : Kept o s) :
    Kept o (thmSystem n s) := by
  unfold thmSystem
  extract_lets +onlyGivenNames v0
  clear_value v0
  extract_lets +onlyGivenNames v1
  clear_value v1
  extract_lets +onlyGivenNames v2
  clear_value v2
  extract_lets +onlyGivenNames v3
  have k4 : Kept o v3 := kept_wrB (kept_wr h2)
  clear_value v3
  extract_lets +onlyGivenNames v5
  have k6 : Kept o v5 := kept_wrB k4
  clear_value v5
  extract_lets +onlyGivenNames v7
  have k8 : Kept o v7 := kept_set k6
  clear_value v7
  extract_lets +onlyGivenNames v9
  have k10 : Kept o v9 := keptIte (kept_set (kept_setTsel k8)) k8
  clear_value v9
  extract_lets +onlyGivenNames v11
  have k12 : Kept o v11 := keptIte (keptIte (kept_hwLog k10) k10) (keptIte (kept_set k6) k6)
  clear_value v11
  exact kept_fanForce k12

theorem kept_setThermIn {n x s} (h3 : Kept o s) :
    Kept o (setThermIn n x s) := by
  unfold setThermIn
  exact kept_mk.mpr h3

theorem kept_thmWrite {a v s0} (h3 : Kept o s0) :
    Kept o (thmWrite a v s0) := by
  unfold thmWrite
  extract_lets +onlyGivenNames v0
  have k1 : Kept o v0 := keptIte (kept_set h3) h3
  clear_value v0
  extract_lets +onlyGivenNames v2
  have k3 : Kept o v2 := kept_regWrite k1
  clear_value v2
  refine keptIte ?_ ?_
  · extract_lets +onlyGivenNames v4
    clear_value v4
    exact keptIte (kept_thmSystem (kept_setThermIn (kept_wr k3))) (keptIte (kept_thmSystem (kept_setThermIn k3))
        (kept_thmSystem k3))
  · exact keptIte (kept_thmSystem k3) k3

theorem kept_thmDomainReset {s} (h1 : Kept o s) :
    Kept o (thmDomainReset s) := by
  unfold thmDomainReset
  exact kept_mk.mpr h1

theorem kept_thmFault {n kind s} (h3 : Kept o s) :
    Kept o (thmFault n kind s) := by
  unfold thmFault
  extract_lets +onlyGivenNames v0
  have k1 : Kept o v0 := keptIte (kept_set h3) h3
  clear_value v0
  extract_lets +onlyGivenNames v2
  clear_value v2
  extract_lets +onlyGivenNames v3
  have k4 : Kept o v3 := kept_setThermIn (kept_wr k1)
  clear_value v3
  exact keptIte (kept_dieStop k4) k4

theorem kept_stageDieBack {n t faulted s} (h4 : Kept o s) :
    Kept o (stageDieBack n t faulted s) := by
  unfold stageDieBack
  exact keptIte (kept_clr h4) h4

theorem kept_thmLevel {n s} (h2 : Kept o s) :
    Kept o (thmLevel n s) := by
  unfold thmLevel
  extract_lets +onlyGivenNames v0
  clear_value v0
  extract_lets +onlyGivenNames v1
  clear_value v1
  extract_lets +onlyGivenNames v2
  clear_value v2
  extract_lets +onlyGivenNames v3
  clear_value v3
  extract_lets +onlyGivenNames v4
  clear_value v4
  extract_lets +onlyGivenNames v5
  clear_value v5
  extract_lets +onlyGivenNames v6
  have k7 : Kept o v6 := kept_setThermIn h2
  clear_value v6
  extract_lets +onlyGivenNames v8
  clear_value v8
  exact keptIte (kept_wr k7) (keptIte (kept_wr k7) k7)

theorem kept_thmSample {n code s} (h3 : Kept o s) :
    Kept o (thmSample n code s) := by
  unfold thmSample
  extract_lets +onlyGivenNames v0
  clear_value v0
  extract_lets +onlyGivenNames v1
  have k2 : Kept o v1 := kept_setThermIn h3
  clear_value v1
  extract_lets +onlyGivenNames v3
  clear_value v3
  extract_lets +onlyGivenNames v4
  have k5 : Kept o v4 := kept_stageDieBack k2
  clear_value v4
  extract_lets +onlyGivenNames v6
  have k7 : Kept o v6 := kept_wr (kept_wr k5)
  clear_value v6
  extract_lets +onlyGivenNames v8
  have k9 : Kept o v8 := keptIte (kept_thmFault k2) (keptIte (kept_thmFault k2) (keptIte (kept_thmLevel k7) k7))
  clear_value v8
  exact kept_thmSystem k9

theorem kept_convert {i code s} (h3 : Kept o s) :
    Kept o (convert i code s) := by
  unfold convert
  extract_lets +onlyGivenNames v0
  have k1 : Kept o v0 := kept_set (kept_wr h3)
  clear_value v0
  exact keptIte (kept_thmSample k1) (keptIte (kept_vmonSample k1) (keptIte (kept_thmSample k1) k1))

theorem kept_adcSequence {j codes s} (h3 : Kept o s) :
    Kept o (adcSequence j codes s) := by
  unfold adcSequence
  refine keptFold ?_ ?_
  · exact h3
  · intro y0 y1 y2
    exact kept_convert y2

theorem kept_fanStep {n s} (h2 : Kept o s) :
    Kept o (fanStep n s) := by
  unfold fanStep
  extract_lets +onlyGivenNames v0
  clear_value v0
  extract_lets +onlyGivenNames v1
  clear_value v1
  extract_lets +onlyGivenNames v2
  clear_value v2
  extract_lets +onlyGivenNames v3
  have k4 : Kept o v3 := keptIte (kept_fanGo h2) h2
  clear_value v3
  refine keptIte ?_ ?_
  · exact k4
  · refine keptIte ?_ ?_
    · exact kept_fanStop k4
    · extract_lets +onlyGivenNames v5
      clear_value v5
      extract_lets +onlyGivenNames v6
      clear_value v6
      extract_lets +onlyGivenNames v7
      clear_value v7
      exact kept_setFanCh k4

theorem kept_fanRead {n r s} (h3 : Kept o s) :
    Kept o (fanRead n r s) := by
  unfold fanRead
  extract_lets +onlyGivenNames v0
  clear_value v0
  extract_lets +onlyGivenNames v1
  have k2 : Kept o v1 := kept_mk.mpr h3
  clear_value v1
  extract_lets +onlyGivenNames v3
  have k4 : Kept o v3 := kept_wr (kept_wr k2)
  clear_value v3
  exact kept_wr k4

theorem kept_thmStale {n s} (h2 : Kept o s) :
    Kept o (thmStale n s) := by
  unfold thmStale
  extract_lets +onlyGivenNames v0
  clear_value v0
  exact keptIte (kept_thmSystem (kept_thmFault h2)) h2

theorem kept_fanStarted {n edges s} (h3 : Kept o s) :
    Kept o (fanStarted n edges s) := by
  unfold fanStarted
  refine keptIte ?_ ?_
  · extract_lets +onlyGivenNames v0
    have k1 : Kept o v0 := keptIte (kept_clr (kept_fanGo h3)) (kept_fanGo h3)
    clear_value v0
    exact kept_setBit (kept_setFanCh k1)
  · exact h3

theorem kept_fanStall {n cause s} (h3 : Kept o s) :
    Kept o (fanStall n cause s) := by
  unfold fanStall
  extract_lets +onlyGivenNames v0
  have k1 : Kept o v0 := kept_wr (kept_fanGo h3)
  clear_value v0
  exact kept_fanForce (kept_hwLog (kept_setBit k1))

theorem kept_fanSpinFail {n s} (h2 : Kept o s) :
    Kept o (fanSpinFail n s) := by
  unfold fanSpinFail
  exact keptIte (keptIte (kept_count (kept_fanGo h2)) (kept_fanStall h2)) h2

theorem kept_fanNoload {n s} (h2 : Kept o s) :
    Kept o (fanNoload n s) := by
  unfold fanNoload
  exact kept_hwLog (kept_setBit (kept_fanGo h2))

theorem kept_fanvinSeen {mv s} (h2 : Kept o s) :
    Kept o (fanvinSeen mv s) := by
  unfold fanvinSeen
  extract_lets +onlyGivenNames v0
  clear_value v0
  extract_lets +onlyGivenNames v1
  have k2 : Kept o v1 := kept_mk.mpr h2
  clear_value v1
  refine keptIte ?_ ?_
  · exact keptIte (kept_set (kept_set k2)) k2
  · refine keptIte ?_ ?_
    · refine keptFold ?_ ?_
      · exact kept_clr k2
      · intro y3 y4 y5
        exact keptIte (kept_wr (kept_fanGo y5)) y5
    · exact k2

/-! ### Machine/Lux.lean -/

theorem kept_luxResetRegs {s} (h1 : Kept o s) :
    Kept o (luxResetRegs s) := by
  unfold luxResetRegs
  extract_lets +onlyGivenNames v0
  have k1 : Kept o v0 := kept_resetRanges h1
  clear_value v0
  exact kept_mk.mpr k1

theorem kept_scanStart {s} (h1 : Kept o s) :
    Kept o (scanStart s) := by
  unfold scanStart
  exact kept_mk.mpr h1

theorem kept_takeTiming {s} (h1 : Kept o s) :
    Kept o (takeTiming s) := by
  unfold takeTiming
  exact kept_mk.mpr h1

theorem kept_timingCheck {s} (h1 : Kept o s) :
    Kept o (timingCheck s) := by
  unfold timingCheck
  refine keptIte ?_ ?_
  · exact h1
  · refine keptIte ?_ ?_
    · extract_lets +onlyGivenNames v0
      clear_value v0
      extract_lets +onlyGivenNames v1
      have k2 : Kept o v1 := kept_wrB (kept_clr h1)
      clear_value v1
      refine keptIte ?_ ?_
      · exact k2
      · refine kept_scanStart ?_
        extract_lets +onlyGivenNames v3
        have k4 : Kept o v3 := kept_takeTiming k2
        clear_value v3
        exact kept_mk.mpr k4
    · extract_lets +onlyGivenNames v5
      clear_value v5
      extract_lets +onlyGivenNames v6
      have k7 : Kept o v6 := keptIte (kept_mk.mpr h1) h1
      clear_value v6
      exact kept_clr (kept_set (kept_set k7))

theorem kept_advanceFades {n s} (h2 : Kept o s) :
    Kept o (advanceFades n s) := by
  unfold advanceFades
  extract_lets +onlyGivenNames v0
  clear_value v0
  exact kept_mk.mpr h2

theorem kept_computeFrame {n s0} (h2 : Kept o s0) :
    Kept o (computeFrame n s0) := by
  unfold computeFrame
  extract_lets +onlyGivenNames v0
  have k1 : Kept o v0 := kept_advanceFades h2
  clear_value v0
  extract_lets +onlyGivenNames v2
  clear_value v2
  extract_lets +onlyGivenNames v3
  clear_value v3
  extract_lets +onlyGivenNames v4
  clear_value v4
  extract_lets +onlyGivenNames v5
  have k6 : Kept o v5 := kept_mk.mpr k1
  clear_value v5
  exact keptIte k6 (kept_set (kept_set (kept_count k6)))

theorem kept_takeFactor {s} (h1 : Kept o s) :
    Kept o (takeFactor s) := by
  unfold takeFactor
  extract_lets +onlyGivenNames v0
  clear_value v0
  exact kept_wr (kept_wr h1)

theorem kept_setVset {v s} (h2 : Kept o s) :
    Kept o (setVset v s) := by
  unfold setVset
  extract_lets +onlyGivenNames v0
  clear_value v0
  extract_lets +onlyGivenNames v1
  clear_value v1
  extract_lets +onlyGivenNames v2
  clear_value v2
  extract_lets +onlyGivenNames v3
  have k4 : Kept o v3 := kept_mk.mpr h2
  clear_value v3
  exact kept_wrB (kept_wr k4)

theorem kept_setDiag {n v s} (h3 : Kept o s) :
    Kept o (setDiag n v s) := by
  unfold setDiag
  extract_lets +onlyGivenNames v0
  clear_value v0
  exact kept_wr h3

theorem kept_diagClr {v s} (h2 : Kept o s) :
    Kept o (diagClr v s) := by
  unfold diagClr
  extract_lets +onlyGivenNames v0
  have k1 : ∀ v0y1 v0y2, (Kept o v0y1) → Kept o (v0 v0y1 v0y2) := by
    intro y2 y3 y4
    unfold v0
    exact keptIte (kept_setDiag y4) y4
  clear_value v0
  refine keptIte ?_ ?_
  · refine keptFold ?_ ?_
    · exact h2
    · intro y5 y6 y7
      exact k1 _ _ y7
  · exact keptIte (k1 _ _ h2) h2

theorem kept_applyVerdict {s0 s p} (h1 : Kept o s0) (h2 : Kept o s) :
    Kept o (applyVerdict s0 s p) := by
  unfold applyVerdict
  refine keptIte ?_ ?_
  · exact h2
  · split
    · exact kept_setDiag h2
    · exact keptIte (kept_set (kept_setDiag h2)) h2
    · exact keptIte (kept_set (kept_setDiag h2)) h2

theorem kept_evaluate {r s0} (h2 : Kept o s0) :
    Kept o (evaluate r s0) := by
  unfold evaluate
  extract_lets +onlyGivenNames v0
  have k1 : Kept o v0 := by
    unfold v0
    refine keptFold ?_ ?_
    · exact h2
    · intro y2 y3 y4
      exact kept_applyVerdict h2 y4
  clear_value v0
  extract_lets +onlyGivenNames v5
  extract_lets +onlyGivenNames v6
  clear_value v6
  extract_lets +onlyGivenNames v7
  clear_value v7
  exact kept_mk.mpr k1

theorem kept_onChipPass {s} (h1 : Kept o s) :
    Kept o (onChipPass s) := by
  unfold onChipPass
  extract_lets +onlyGivenNames v0
  clear_value v0
  extract_lets +onlyGivenNames v1
  have k2 : Kept o v1 := by
    unfold v1
    split
    · exact kept_evaluate (kept_mk.mpr h1)
    · exact h1
  clear_value v1
  exact kept_mk.mpr k2

theorem kept_diagPass {arg s} (h2 : Kept o s) :
    Kept o (diagPass arg s) := by
  unfold diagPass
  extract_lets +onlyGivenNames v0
  have k1 : Kept o v0 := keptIte h2 (kept_onChipPass h2)
  clear_value v0
  exact keptIte k1 (kept_mk.mpr k1)

theorem kept_regulate {l s} (h2 : Kept o s) :
    Kept o (regulate l s) := by
  unfold regulate
  extract_lets +onlyGivenNames v0
  clear_value v0
  extract_lets +onlyGivenNames v1
  clear_value v1
  extract_lets +onlyGivenNames v2
  clear_value v2
  extract_lets +onlyGivenNames v3
  clear_value v3
  refine keptIte ?_ ?_
  · exact kept_setVset h2
  · refine keptIte ?_ ?_
    · extract_lets +onlyGivenNames v4
      have k5 : Kept o v4 := kept_setVset h2
      clear_value v4
      exact kept_mk.mpr k5
    · exact keptIte (kept_setVset h2) h2

theorem kept_scanEnd {r s} (h2 : Kept o s) :
    Kept o (scanEnd r s) := by
  unfold scanEnd
  refine keptIte ?_ ?_
  · exact h2
  · extract_lets +onlyGivenNames v0
    have k1 : Kept o v0 := kept_wr h2
    clear_value v0
    extract_lets +onlyGivenNames v2
    clear_value v2
    extract_lets +onlyGivenNames v3
    have k4 : Kept o v3 := kept_regulate k1
    clear_value v3
    extract_lets +onlyGivenNames v5
    clear_value v5
    extract_lets +onlyGivenNames v6
    have k7 : Kept o v6 := kept_mk.mpr k4
    clear_value v6
    extract_lets +onlyGivenNames v8
    have k9 : Kept o v8 := kept_scanStart k7
    clear_value v8
    exact keptIte (kept_takeTiming k9) k9

end Sys2Proof.Machine
end

