-- ==== Sys2Proof/Laws/KeptUnits3.lean ====
section
/-! SUPPORT. What the operations keep (Laws/Kept.lean): the light chain, Floe, the keyboard, LPE, NVC, resets, the bus, exceptions and commands of the host link. -/

namespace Sys2Proof.Machine

variable {o : State}

/-! ### Machine/Chain.lean -/

theorem kept_luxStart {s} (h1 : Kept o s) :
    Kept o (luxStart s) := by
  unfold luxStart
  extract_lets +onlyGivenNames v0
  have k1 : Kept o v0 := kept_clr (kept_wr h1)
  clear_value v0
  extract_lets +onlyGivenNames v2
  clear_value v2
  extract_lets +onlyGivenNames v3
  have k4 : Kept o v3 := kept_mk.mpr k1
  clear_value v3
  exact kept_timingCheck k4

theorem kept_send {p s} (h2 : Kept o s) :
    Kept o (send p s) := by
  unfold send
  exact kept_mk.mpr h2

theorem kept_sendConfig {j s} (h2 : Kept o s) :
    Kept o (sendConfig j s) := by
  unfold sendConfig
  extract_lets +onlyGivenNames v0
  clear_value v0
  extract_lets +onlyGivenNames v1
  clear_value v1
  extract_lets +onlyGivenNames v2
  clear_value v2
  exact kept_send (kept_drawn h2)

theorem kept_sentOver {idle s} (h2 : Kept o s) :
    Kept o (sentOver idle s) := by
  unfold sentOver
  extract_lets +onlyGivenNames v0
  have k1 : Kept o v0 := kept_drawn h2
  clear_value v0
  exact kept_mk.mpr k1

theorem kept_sendWrites {j x2 x3 x4} (h4 : Kept o x4) :
    Kept o (sendWrites j x2 x3 x4) := by
  fun_induction sendWrites j x2 x3 x4
  · exact h4
  · exact h4
  · rename_i a13
    exact a13 (kept_send h4)

theorem kept_sendSync {s} (h1 : Kept o s) :
    Kept o (sendSync s) := by
  unfold sendSync
  exact kept_send h1

theorem kept_chainFrame {s} (h1 : Kept o s) :
    Kept o (chainFrame s) := by
  unfold chainFrame
  extract_lets +onlyGivenNames v0
  have k1 : Kept o v0 := by
    unfold v0
    refine keptFold ?_ ?_
    · exact kept_sentOver h1
    · intro y2 y3 y4
      exact kept_sendConfig y4
  clear_value v0
  extract_lets +onlyGivenNames v5
  clear_value v5
  extract_lets +onlyGivenNames v6
  have k7 : Kept o v6 := kept_mk.mpr k1
  clear_value v6
  extract_lets +onlyGivenNames v8
  have k9 : Kept o v8 := by
    unfold v8
    refine keptFold ?_ ?_
    · exact k7
    · intro y10 y11 y12
      exact kept_sendWrites y12
  clear_value v8
  extract_lets +onlyGivenNames v13
  have k14 : Kept o v13 := kept_sendSync k9
  clear_value v13
  exact kept_mk.mpr k14

theorem kept_cycleCut {s} (h1 : Kept o s) :
    Kept o (cycleCut s) := by
  unfold cycleCut
  refine keptIte ?_ ?_
  · exact h1
  · extract_lets +onlyGivenNames v0
    clear_value v0
    extract_lets +onlyGivenNames v1
    have k2 : Kept o v1 := kept_drawn h1
    clear_value v1
    extract_lets +onlyGivenNames v3
    clear_value v3
    extract_lets +onlyGivenNames v4
    have k5 : Kept o v4 := kept_computeFrame (kept_mk.mpr k2)
    clear_value v4
    refine keptIte ?_ ?_
    · exact k5
    · extract_lets +onlyGivenNames v6
      clear_value v6
      extract_lets +onlyGivenNames v7
      clear_value v7
      extract_lets +onlyGivenNames v8
      clear_value v8
      extract_lets +onlyGivenNames v9
      have k10 : Kept o v9 := kept_chainFrame (kept_drawn k5)
      clear_value v9
      exact kept_mk.mpr k10

theorem kept_sendStatus {j s} (h2 : Kept o s) :
    Kept o (sendStatus j s) := by
  unfold sendStatus
  exact kept_send h2

theorem kept_enumStart {idle s} (h2 : Kept o s) :
    Kept o (enumStart idle s) := by
  unfold enumStart
  extract_lets +onlyGivenNames v0
  have k1 : Kept o v0 := kept_sentOver (kept_wr h2)
  clear_value v0
  exact kept_sendStatus (kept_mk.mpr k1)

theorem kept_cycleEnd {s} (h1 : Kept o s) :
    Kept o (cycleEnd s) := by
  unfold cycleEnd
  refine keptIte ?_ ?_
  · extract_lets +onlyGivenNames v0
    have k1 : Kept o v0 := kept_clr h1
    clear_value v0
    exact keptIte (kept_enumStart k1) k1
  · exact h1

theorem kept_luxStop {s} (h1 : Kept o s) :
    Kept o (luxStop s) := by
  unfold luxStop
  extract_lets +onlyGivenNames v0
  have k1 : Kept o v0 := kept_cycleCut h1
  clear_value v0
  extract_lets +onlyGivenNames v2
  have k3 : Kept o v2 := kept_clr (kept_clr k1)
  clear_value v2
  extract_lets +onlyGivenNames v4
  clear_value v4
  extract_lets +onlyGivenNames v5
  clear_value v5
  extract_lets +onlyGivenNames v6
  have k7 : Kept o v6 := kept_mk.mpr k3
  clear_value v6
  exact kept_cycleEnd k7

theorem kept_swapFrames {s} (h1 : Kept o s) :
    Kept o (swapFrames s) := by
  unfold swapFrames
  extract_lets +onlyGivenNames v0
  have k1 : Kept o v0 := keptIte (kept_set (kept_wr (kept_clr h1))) (kept_set (kept_count h1))
  clear_value v0
  exact keptIte (kept_wr (kept_clr k1)) k1

theorem kept_epochUp {s} (h1 : Kept o s) :
    Kept o (epochUp s) := by
  unfold epochUp
  extract_lets +onlyGivenNames v0
  clear_value v0
  exact kept_wr h1

theorem kept_commitDue {s} (h1 : Kept o s) :
    Kept o (commitDue s) := by
  unfold commitDue
  refine keptIte ?_ ?_
  · extract_lets +onlyGivenNames v0
    have k1 : Kept o v0 := kept_epochUp h1
    clear_value v0
    exact kept_mk.mpr k1
  · exact h1

theorem kept_queuesDue {s} (h1 : Kept o s) :
    Kept o (queuesDue s) := by
  unfold queuesDue
  exact kept_mk.mpr h1

theorem kept_frameCycle {s} (h1 : Kept o s) :
    Kept o (frameCycle s) := by
  unfold frameCycle
  extract_lets +onlyGivenNames v0
  have k1 : Kept o v0 := kept_wr h1
  clear_value v0
  extract_lets +onlyGivenNames v2
  clear_value v2
  extract_lets +onlyGivenNames v3
  clear_value v3
  extract_lets +onlyGivenNames v4
  have k5 : Kept o v4 := kept_mk.mpr k1
  clear_value v4
  extract_lets +onlyGivenNames v6
  have k7 : Kept o v6 := kept_takeFactor (kept_swapFrames (kept_set k5))
  clear_value v6
  exact keptIte (kept_commitDue (kept_queuesDue k7)) k7

theorem kept_sync {s} (h1 : Kept o s) :
    Kept o (sync s) := by
  unfold sync
  extract_lets +onlyGivenNames v0
  clear_value v0
  exact keptIte (kept_set (kept_count h1)) (kept_frameCycle h1)

theorem kept_luxCtrlWrite {v s0} (h2 : Kept o s0) :
    Kept o (luxCtrlWrite v s0) := by
  unfold luxCtrlWrite
  extract_lets +onlyGivenNames v0
  clear_value v0
  extract_lets +onlyGivenNames v1
  have k2 : Kept o v1 := kept_regWrite h2
  clear_value v1
  extract_lets +onlyGivenNames v3
  clear_value v3
  extract_lets +onlyGivenNames v4
  have k5 : Kept o v4 := keptIte (kept_luxStart k2) (keptIte (kept_luxStop k2) k2)
  clear_value v4
  extract_lets +onlyGivenNames v6
  have k7 : Kept o v6 := keptIte (kept_set k5) k5
  clear_value v6
  extract_lets +onlyGivenNames v8
  have k9 : Kept o v8 := keptIte (kept_set k7) k7
  clear_value v8
  exact keptIte (kept_sync k9) k9

theorem kept_luxSyncWrite {v s0} (h2 : Kept o s0) :
    Kept o (luxSyncWrite v s0) := by
  unfold luxSyncWrite
  extract_lets +onlyGivenNames v0
  have k1 : Kept o v0 := kept_regWrite h2
  clear_value v0
  refine keptIte ?_ ?_
  · exact k1
  · extract_lets +onlyGivenNames v2
    have k3 : Kept o v2 := kept_clr k1
    clear_value v2
    exact kept_mk.mpr k3

theorem kept_luxWrite {a v s} (h3 : Kept o s) :
    Kept o (luxWrite a v s) := by
  unfold luxWrite
  split
  · exact kept_luxCtrlWrite h3
  · exact kept_luxSyncWrite h3
  · exact kept_timingCheck (kept_regWrite h3)
  · exact kept_timingCheck (kept_regWrite h3)
  · extract_lets +onlyGivenNames v5
    have k6 : Kept o v5 := kept_clampTo (kept_regWrite h3)
    clear_value v5
    extract_lets +onlyGivenNames v7
    have k8 : Kept o v7 := kept_clampTo k6
    clear_value v7
    exact kept_setVset k8
  · exact kept_diagClr h3
  · exact kept_regWrite h3

theorem kept_toEnum {s} (h1 : Kept o s) :
    Kept o (toEnum s) := by
  unfold toEnum
  extract_lets +onlyGivenNames v0
  clear_value v0
  extract_lets +onlyGivenNames v1
  have k2 : Kept o v1 := kept_mk.mpr h1
  clear_value v1
  exact keptIte k2 (kept_cycleEnd (kept_mk.mpr k2))

theorem kept_chnCtrlWrite {v s0} (h2 : Kept o s0) :
    Kept o (chnCtrlWrite v s0) := by
  unfold chnCtrlWrite
  extract_lets +onlyGivenNames v0
  clear_value v0
  extract_lets +onlyGivenNames v1
  have k2 : Kept o v1 := kept_regWrite h2
  clear_value v1
  extract_lets +onlyGivenNames v3
  clear_value v3
  refine keptIte ?_ ?_
  · exact kept_enumStart k2
  · refine keptIte ?_ ?_
    · extract_lets +onlyGivenNames v4
      clear_value v4
      extract_lets +onlyGivenNames v5
      have k6 : Kept o v5 := kept_send (kept_sentOver (kept_drawn k2))
      clear_value v5
      extract_lets +onlyGivenNames v7
      have k8 : Kept o v7 := kept_wr k6
      clear_value v7
      extract_lets +onlyGivenNames v9
      have k10 : Kept o v9 := kept_mk.mpr k8
      clear_value v9
      exact keptIte (kept_cycleEnd (kept_mk.mpr k10)) k10
    · refine keptIte ?_ ?_
      · extract_lets +onlyGivenNames v11
        clear_value v11
        extract_lets +onlyGivenNames v12
        have k13 : Kept o v12 := keptIte (kept_mk.mpr k2) k2
        clear_value v12
        exact keptIte (kept_toEnum k13) k13
      · exact k2

theorem kept_diagReqWrite {v s} (h2 : Kept o s) :
    Kept o (diagReqWrite v s) := by
  unfold diagReqWrite
  refine keptIte ?_ ?_
  · exact h2
  · extract_lets +onlyGivenNames v0
    clear_value v0
    refine keptIte ?_ ?_
    · exact kept_set h2
    · extract_lets +onlyGivenNames v1
      clear_value v1
      exact kept_mk.mpr h2

theorem kept_chnWrite {a v s} (h3 : Kept o s) :
    Kept o (chnWrite a v s) := by
  unfold chnWrite
  exact keptIte (kept_chnCtrlWrite h3) (keptIte (kept_diagReqWrite h3) (kept_regWrite h3))

theorem kept_moverByte {s} (h1 : Kept o s) :
    Kept o (moverByte s) := by
  unfold moverByte
  split
  · exact keptIte h1 (keptIte (kept_bulkParity (kept_mk.mpr h1)) (keptIte (kept_setByte (kept_mk.mpr h1)) (kept_set
      (kept_mk.mpr h1))))
  · exact h1

theorem kept_moverRun {x1 x2} (h2 : Kept o x2) :
    Kept o (moverRun x1 x2) := by
  fun_induction moverRun x1 x2
  · exact h2
  · rename_i a3
    exact a3 (kept_moverByte h2)

theorem kept_bulkMove {n s} (h2 : Kept o s) :
    Kept o (bulkMove n s) := by
  unfold bulkMove
  exact keptIte (kept_creditHalf (kept_moverRun h2)) h2

theorem kept_unitClosed {s} (h1 : Kept o s) :
    Kept o (unitClosed s) := by
  unfold unitClosed
  split
  · refine keptIte ?_ ?_
    · exact h1
    · extract_lets +onlyGivenNames v4
      clear_value v4
      extract_lets +onlyGivenNames v5
      clear_value v5
      extract_lets +onlyGivenNames v6
      clear_value v6
      extract_lets +onlyGivenNames v7
      have k8 : Kept o v7 := kept_wrB (kept_set (kept_mk.mpr h1))
      clear_value v7
      exact keptIte k8 (keptIte (kept_set k8) (kept_set k8))
  · exact h1

theorem kept_timerSync {s} (h1 : Kept o s) :
    Kept o (timerSync s) := by
  unfold timerSync
  exact keptIte (kept_sync (kept_mk.mpr h1)) h1

theorem kept_edgeSync {s} (h1 : Kept o s) :
    Kept o (edgeSync s) := by
  unfold edgeSync
  exact keptIte (kept_sync (kept_clr (kept_mk.mpr h1))) h1

theorem kept_syncFallback {s} (h1 : Kept o s) :
    Kept o (syncFallback s) := by
  unfold syncFallback
  refine keptIte ?_ ?_
  · extract_lets +onlyGivenNames v0
    clear_value v0
    extract_lets +onlyGivenNames v1
    clear_value v1
    exact kept_set (kept_set (kept_mk.mpr h1))
  · exact h1

theorem kept_cycleRun {s} (h1 : Kept o s) :
    Kept o (cycleRun s) := by
  unfold cycleRun
  refine keptIte ?_ ?_
  · exact h1
  · extract_lets +onlyGivenNames v0
    clear_value v0
    extract_lets +onlyGivenNames v1
    have k2 : Kept o v1 := kept_computeFrame (kept_mk.mpr h1)
    clear_value v1
    exact keptIte k2 (kept_chainFrame k2)

theorem kept_present {s} (h1 : Kept o s) :
    Kept o (present s) := by
  unfold present
  refine keptIte ?_ ?_
  · extract_lets +onlyGivenNames v0
    have k1 : Kept o v0 := kept_cycleRun h1
    clear_value v0
    extract_lets +onlyGivenNames v2
    clear_value v2
    exact kept_cycleEnd (kept_set (kept_mk.mpr k1))
  · exact h1

theorem kept_vledOver {mv s} (h2 : Kept o s) :
    Kept o (vledOver mv s) := by
  unfold vledOver
  refine keptIte ?_ ?_
  · extract_lets +onlyGivenNames v0
    clear_value v0
    extract_lets +onlyGivenNames v1
    have k2 : Kept o v1 := kept_mk.mpr h2
    clear_value v1
    exact kept_clr (kept_set (kept_set k2))
  · exact h2

theorem kept_enumFound {n s} (h2 : Kept o s) :
    Kept o (enumFound n s) := by
  unfold enumFound
  extract_lets +onlyGivenNames v0
  have k1 : Kept o v0 := kept_wr h2
  clear_value v0
  refine keptFold ?_ ?_
  · exact kept_mk.mpr k1
  · intro y2 y3 y4
    exact kept_sendStatus y4

theorem kept_includeOne {cv s j} (h2 : Kept o s) :
    Kept o (includeOne cv s j) := by
  unfold includeOne
  extract_lets +onlyGivenNames v0
  clear_value v0
  extract_lets +onlyGivenNames v1
  have k2 : Kept o v1 := kept_wr (kept_wrB h2)
  clear_value v1
  exact keptIte (kept_mk.mpr k2) (kept_set (kept_setBit k2))

theorem kept_configState {s} (h1 : Kept o s) :
    Kept o (configState s) := by
  unfold configState
  extract_lets +onlyGivenNames v0
  clear_value v0
  extract_lets +onlyGivenNames v1
  have k2 : Kept o v1 := keptIte h1 (kept_set h1)
  clear_value v1
  extract_lets +onlyGivenNames v3
  have k4 : Kept o v3 := by
    unfold v3
    refine keptFold ?_ ?_
    · exact k2
    · intro y5 y6 y7
      exact keptIte (kept_set y7) (kept_wr (kept_clr (kept_clr y7)))
  clear_value v3
  extract_lets +onlyGivenNames v8
  clear_value v8
  extract_lets +onlyGivenNames v9
  have k10 : Kept o v9 := kept_wr (kept_wr (kept_wr k4))
  clear_value v9
  extract_lets +onlyGivenNames v11
  clear_value v11
  extract_lets +onlyGivenNames v12
  have k13 : Kept o v12 := by
    unfold v12
    refine keptFold ?_ ?_
    · exact kept_mk.mpr k10
    · intro y14 y15 y16
      exact kept_includeOne y16
  clear_value v12
  extract_lets +onlyGivenNames v17
  have k18 : Kept o v17 := kept_wr (kept_epochUp k13)
  clear_value v17
  extract_lets +onlyGivenNames v19
  have k20 : Kept o v19 := kept_set k18
  clear_value v19
  exact kept_mk.mpr k20

theorem kept_infoFill {r s} (h2 : Kept o s) :
    Kept o (infoFill r s) := by
  unfold infoFill
  extract_lets +onlyGivenNames v0
  clear_value v0
  extract_lets +onlyGivenNames v1
  have k2 : Kept o v1 := kept_wr (kept_wr h2)
  clear_value v1
  exact kept_wr (kept_wr k2)

theorem kept_statusFill {r s} (h2 : Kept o s) :
    Kept o (statusFill r s) := by
  unfold statusFill
  extract_lets +onlyGivenNames v0
  clear_value v0
  extract_lets +onlyGivenNames v1
  have k2 : Kept o v1 := kept_wr (kept_wr h2)
  clear_value v1
  extract_lets +onlyGivenNames v3
  have k4 : Kept o v3 := kept_wr (kept_wr k2)
  clear_value v3
  exact kept_wr k4

theorem kept_statusResponse {r s} (h2 : Kept o s) :
    Kept o (statusResponse r s) := by
  unfold statusResponse
  extract_lets +onlyGivenNames v0
  clear_value v0
  refine keptIte ?_ ?_
  · refine keptIte ?_ ?_
    · exact keptIte (kept_enumFound h2) h2
    · refine keptIte ?_ ?_
      · extract_lets +onlyGivenNames v1
        clear_value v1
        extract_lets +onlyGivenNames v2
        clear_value v2
        extract_lets +onlyGivenNames v3
        have k4 : Kept o v3 := kept_infoFill (kept_statusFill (kept_mk.mpr h2))
        clear_value v3
        exact keptIte (kept_configState k4) k4
      · exact h2
  · refine keptIte ?_ ?_
    · extract_lets +onlyGivenNames v5
      clear_value v5
      extract_lets +onlyGivenNames v6
      clear_value v6
      extract_lets +onlyGivenNames v7
      have k8 : Kept o v7 := kept_statusFill (kept_mk.mpr h2)
      clear_value v7
      exact keptIte (kept_set k8) k8
    · exact h2

theorem kept_enumRetry {s} (h1 : Kept o s) :
    Kept o (enumRetry s) := by
  unfold enumRetry
  split
  · refine keptIte ?_ ?_
    · extract_lets +onlyGivenNames v3
      have k4 : Kept o v3 := kept_sentOver h1
      clear_value v3
      exact kept_sendStatus (kept_mk.mpr k4)
    · exact h1
  · exact h1

theorem kept_stepSix {s} (h1 : Kept o s) :
    Kept o (stepSix s) := by
  unfold stepSix
  extract_lets +onlyGivenNames v0
  have k1 : Kept o v0 := by
    unfold v0
    refine keptFold ?_ ?_
    · exact h1
    · intro y2 y3 y4
      exact kept_sendStatus y4
  clear_value v0
  extract_lets +onlyGivenNames v5
  clear_value v5
  extract_lets +onlyGivenNames v6
  have k7 : Kept o v6 := kept_mk.mpr k1
  clear_value v6
  extract_lets +onlyGivenNames v8
  have k9 : Kept o v8 := by
    unfold v8
    split
    · extract_lets +onlyGivenNames v15
      have k16 : Kept o v15 := kept_send k7
      clear_value v15
      exact kept_mk.mpr k16
    · exact k7
  clear_value v8
  exact kept_cycleEnd (kept_mk.mpr k9)

theorem kept_resend {l s} (h2 : Kept o s) :
    Kept o (resend l s) := by
  unfold resend
  refine keptFold ?_ ?_
  · exact h2
  · intro y0 y1 y2
    exact kept_count (kept_sendConfig y2)

theorem kept_returnedSync {mmap dmap ok s} (h4 : Kept o s) :
    Kept o (returnedSync mmap dmap ok s) := by
  unfold returnedSync
  extract_lets +onlyGivenNames v0
  have k1 : Kept o v0 := kept_cycleRun h4
  clear_value v0
  refine keptIte ?_ ?_
  · exact k1
  · extract_lets +onlyGivenNames v2
    clear_value v2
    extract_lets +onlyGivenNames v3
    have k4 : Kept o v3 := kept_mk.mpr k1
    clear_value v3
    refine keptIte ?_ ?_
    · extract_lets +onlyGivenNames v5
      clear_value v5
      extract_lets +onlyGivenNames v6
      have k7 : Kept o v6 := kept_mk.mpr k4
      clear_value v6
      extract_lets +onlyGivenNames v8
      have k9 : Kept o v8 := kept_wr (kept_wr k7)
      clear_value v8
      extract_lets +onlyGivenNames v10
      have k11 : Kept o v10 := kept_wr (kept_wr k9)
      clear_value v10
      extract_lets +onlyGivenNames v12
      have k13 : Kept o v12 := by
        unfold v12
        refine keptFold ?_ ?_
        · exact k11
        · intro y14 y15 y16
          extract_lets +onlyGivenNames v17
          have k18 : Kept o v17 := keptIte (kept_count y16) y16
          clear_value v17
          exact keptIte (kept_count k18) k18
      clear_value v12
      extract_lets +onlyGivenNames v19
      have k20 : Kept o v19 := keptIte k13 (kept_set k13)
      clear_value v19
      extract_lets +onlyGivenNames v21
      have k22 : Kept o v21 := keptIte k20 (kept_set k20)
      clear_value v21
      exact kept_stepSix (kept_resend k22)
    · exact kept_stepSix (kept_resend (kept_set (kept_count k4)))

theorem kept_chainBreak {s} (h1 : Kept o s) :
    Kept o (chainBreak s) := by
  unfold chainBreak
  extract_lets +onlyGivenNames v0
  have k1 : Kept o v0 := kept_cycleRun h1
  clear_value v0
  extract_lets +onlyGivenNames v2
  have k3 : Kept o v2 := kept_set (kept_count k1)
  clear_value v2
  refine keptIte ?_ ?_
  · exact keptIte (kept_mk.mpr k3) k1
  · refine keptIte ?_ ?_
    · extract_lets +onlyGivenNames v4
      clear_value v4
      extract_lets +onlyGivenNames v5
      clear_value v5
      extract_lets +onlyGivenNames v6
      clear_value v6
      extract_lets +onlyGivenNames v7
      have k8 : Kept o v7 := kept_mk.mpr k3
      clear_value v7
      extract_lets +onlyGivenNames v9
      have k10 : Kept o v9 := keptIte k8 (kept_set k8)
      clear_value v9
      extract_lets +onlyGivenNames v11
      clear_value v11
      extract_lets +onlyGivenNames v12
      have k13 : Kept o v12 := keptIte (kept_stepSix k8) (kept_mk.mpr k10)
      clear_value v12
      exact keptIte (kept_toEnum k13) k13
    · exact k1

theorem kept_diagResponse {first n states s} (h4 : Kept o s) :
    Kept o (diagResponse first n states s) := by
  unfold diagResponse
  split
  · refine keptIte ?_ ?_
    · extract_lets +onlyGivenNames v5
      have k6 : Kept o v5 := by
        unfold v5
        refine keptFold ?_ ?_
        · exact h4
        · intro y7 y8 y9
          exact kept_wr y9
      clear_value v5
      exact kept_set (kept_mk.mpr k6)
    · exact h4
  · exact h4

/-! ### Machine/Floe.lean -/

theorem kept_floeRead {s a} (h1 : Kept o s) :
    Kept o (floeRead s a).2 := by
  unfold floeRead
  extract_lets +onlyGivenNames v0
  clear_value v0
  extract_lets +onlyGivenNames v1
  clear_value v1
  split
  · split
    · exact keptSnd h1
    · split
      · exact keptSnd h1
      · exact keptSnd (kept_clearRc h1)
  · exact keptSnd (kept_clearRc h1)

theorem kept_setFloe {p x s} (h3 : Kept o s) :
    Kept o (setFloe p x s) := by
  unfold setFloe
  exact keptIte (kept_mk.mpr h3) (kept_mk.mpr h3)

theorem kept_floeView {p s} (h2 : Kept o s) :
    Kept o (floeView p s) := by
  unfold floeView
  extract_lets +onlyGivenNames v0
  clear_value v0
  extract_lets +onlyGivenNames v1
  clear_value v1
  extract_lets +onlyGivenNames v2
  have k3 : Kept o v2 := kept_wrB h2
  clear_value v2
  extract_lets +onlyGivenNames v4
  have k5 : Kept o v4 := kept_wr k3
  clear_value v4
  extract_lets +onlyGivenNames v6
  have k7 : Kept o v6 := kept_wr (kept_wr k5)
  clear_value v6
  extract_lets +onlyGivenNames v8
  clear_value v8
  refine keptIte ?_ ?_
  · exact kept_clr (kept_wr (kept_wr k7))
  · extract_lets +onlyGivenNames v9
    have k10 : Kept o v9 := kept_wrB (kept_wr k7)
    clear_value v9
    exact kept_wr k10

theorem kept_pcfgWrite {p v s0} (h3 : Kept o s0) :
    Kept o (pcfgWrite p v s0) := by
  unfold pcfgWrite
  extract_lets +onlyGivenNames v0
  have k1 : Kept o v0 := kept_regWrite h3
  clear_value v0
  extract_lets +onlyGivenNames v2
  clear_value v2
  extract_lets +onlyGivenNames v3
  clear_value v3
  extract_lets +onlyGivenNames v4
  clear_value v4
  extract_lets +onlyGivenNames v5
  have k6 : Kept o v5 := kept_setFloe k1
  clear_value v5
  extract_lets +onlyGivenNames v7
  clear_value v7
  extract_lets +onlyGivenNames v8
  have k9 : Kept o v8 := kept_mk.mpr k6
  clear_value v8
  extract_lets +onlyGivenNames v10
  have k11 : Kept o v10 := keptIte (kept_setFloe k9) k6
  clear_value v10
  exact kept_floeView k11

theorem kept_goRefused {p s} (h2 : Kept o s) :
    Kept o (goRefused p s) := by
  unfold goRefused
  exact kept_set (kept_set (kept_set h2))

theorem kept_goSend {p f s} (h3 : Kept o s) :
    Kept o (goSend p f s) := by
  unfold goSend
  extract_lets +onlyGivenNames v0
  clear_value v0
  extract_lets +onlyGivenNames v1
  have k2 : Kept o v1 := kept_clr (kept_clr h3)
  clear_value v1
  extract_lets +onlyGivenNames v3
  have k4 : Kept o v3 := kept_wr (kept_set k2)
  clear_value v3
  exact kept_setFloe k4

theorem kept_txGo {p s} (h2 : Kept o s) :
    Kept o (txGo p s) := by
  unfold txGo
  extract_lets +onlyGivenNames v0
  clear_value v0
  refine keptIte ?_ ?_
  · exact h2
  · refine keptIte ?_ ?_
    · exact kept_goRefused h2
    · refine keptIte ?_ ?_
      · split
        · exact kept_goRefused h2
        · extract_lets +onlyGivenNames v6
          clear_value v6
          refine keptIte ?_ ?_
          · exact kept_set (kept_goRefused h2)
          · extract_lets +onlyGivenNames v7
            clear_value v7
            extract_lets +onlyGivenNames v8
            clear_value v8
            exact kept_goSend (kept_wr h2)
      · exact kept_goSend h2

theorem kept_rxPop {p s} (h2 : Kept o s) :
    Kept o (rxPop p s) := by
  unfold rxPop
  extract_lets +onlyGivenNames v0
  clear_value v0
  exact kept_setFloe h2

theorem kept_kcfgWrite {e v s} (h3 : Kept o s) :
    Kept o (kcfgWrite e v s) := by
  unfold kcfgWrite
  extract_lets +onlyGivenNames v0
  clear_value v0
  exact keptIte (keptIte (kept_wr (kept_wr (kept_set (kept_wr h3)))) (kept_clr h3)) (kept_clr (kept_wr h3))

theorem kept_floeWrite {a v s} (h3 : Kept o s) :
    Kept o (floeWrite a v s) := by
  unfold floeWrite
  extract_lets +onlyGivenNames v0
  clear_value v0
  extract_lets +onlyGivenNames v1
  clear_value v1
  refine keptIte ?_ ?_
  · exact keptIte (kept_pcfgWrite h3) (keptIte (keptIte h3 (kept_regWrite h3)) (keptIte (keptIte (kept_txGo h3) h3)
      (keptIte (keptIte (kept_rxPop h3) h3) (kept_regWrite h3))))
  · refine keptIte ?_ ?_
    · extract_lets +onlyGivenNames v2
      clear_value v2
      extract_lets +onlyGivenNames v3
      clear_value v3
      exact keptIte (kept_kcfgWrite h3) (keptIte (kept_wr h3) h3)
    · exact kept_regWrite h3

theorem kept_floeDomainReset {s} (h1 : Kept o s) :
    Kept o (floeDomainReset s) := by
  unfold floeDomainReset
  exact kept_mk.mpr h1

theorem kept_frameEnded {whole p s} (h3 : Kept o s) :
    Kept o (frameEnded whole p s) := by
  unfold frameEnded
  exact kept_setFloe h3

theorem kept_learnRise {p s d} (h2 : Kept o s) :
    Kept o (learnRise p s d) := by
  unfold learnRise
  extract_lets +onlyGivenNames v0
  clear_value v0
  exact kept_setFloe h2

theorem kept_learnBit {p s v} (h2 : Kept o s) :
    Kept o (learnBit p s v) := by
  unfold learnBit
  extract_lets +onlyGivenNames v0
  clear_value v0
  exact keptIte (kept_setFloe h2) (kept_setFloe h2)

theorem kept_learn {p x s} (h3 : Kept o s) :
    Kept o (learn p x s) := by
  unfold learn
  refine keptIte ?_ ?_
  · refine kept_floeView ?_
    refine keptFold ?_ ?_
    · refine keptFold ?_ ?_
      · exact h3
      · intro y0 y1 y2
        exact kept_learnBit y2
    · intro y3 y4 y5
      exact kept_learnRise y5
  · exact h3

theorem kept_floeCount {p cnt evt s} (h4 : Kept o s) :
    Kept o (floeCount p cnt evt s) := by
  unfold floeCount
  exact kept_set (kept_count h4)

theorem kept_enqueue {p f s} (h3 : Kept o s) :
    Kept o (enqueue p f s) := by
  unfold enqueue
  extract_lets +onlyGivenNames v0
  clear_value v0
  extract_lets +onlyGivenNames v1
  have k2 : Kept o v1 := kept_setFloe h3
  clear_value v1
  exact keptIte (kept_set k2) k2

theorem kept_securedCheck {p f s} (h3 : Kept o s) :
    Kept o (securedCheck p f s) := by
  unfold securedCheck
  split
  · exact kept_floeCount h3
  · extract_lets +onlyGivenNames v5
    clear_value v5
    extract_lets +onlyGivenNames v6
    extract_lets +onlyGivenNames v7
    have k8 : Kept o v7 := keptIte h3 (kept_floeCount h3)
    clear_value v7
    extract_lets +onlyGivenNames v9
    have k10 : Kept o v9 := keptIte k8 (kept_floeCount k8)
    clear_value v9
    exact keptIte (kept_enqueue (kept_wr k10)) k10

theorem kept_driveAck {p s} (h2 : Kept o s) :
    Kept o (driveAck p s) := by
  unfold driveAck
  exact kept_setFloe h2

theorem kept_filterFrame {p f s} (h3 : Kept o s) :
    Kept o (filterFrame p f s) := by
  unfold filterFrame
  extract_lets +onlyGivenNames v0
  clear_value v0
  exact keptIte h3 (keptIte (kept_floeCount h3) (keptIte (kept_count h3) (keptIte (kept_floeCount h3) (keptIte
      (kept_count h3) (keptIte (kept_count h3) (keptIte (kept_securedCheck (kept_driveAck h3)) (kept_enqueue
      (kept_driveAck h3))))))))

theorem kept_recvFrame {p f x s} (h4 : Kept o s) :
    Kept o (recvFrame p f x s) := by
  unfold recvFrame
  refine keptIte ?_ ?_
  · exact h4
  · extract_lets +onlyGivenNames v0
    have k1 : Kept o v0 := kept_frameEnded (kept_learn h4)
    clear_value v0
    extract_lets +onlyGivenNames v2
    clear_value v2
    extract_lets +onlyGivenNames v3
    have k4 : Kept o v3 := kept_setFloe k1
    clear_value v3
    exact keptIte (kept_count k4) (keptIte (kept_count k4) (keptIte (kept_count k4) (kept_filterFrame k4)))

theorem kept_txOver {p s} (h2 : Kept o s) :
    Kept o (txOver p s) := by
  unfold txOver
  exact kept_setFloe (kept_clr h2)

theorem kept_txTried {p s} (h2 : Kept o s) :
    Kept o (txTried p s) := by
  unfold txTried
  extract_lets +onlyGivenNames v0
  clear_value v0
  exact kept_setFloe (kept_wr h2)

theorem kept_txAbandon {p s} (h2 : Kept o s) :
    Kept o (txAbandon p s) := by
  unfold txAbandon
  exact kept_set (kept_count (kept_txOver (kept_set h2)))

theorem kept_txFailed {p s} (h2 : Kept o s) :
    Kept o (txFailed p s) := by
  unfold txFailed
  extract_lets +onlyGivenNames v0
  have k1 : Kept o v0 := kept_txTried h2
  clear_value v0
  refine keptIte ?_ ?_
  · exact kept_txAbandon k1
  · extract_lets +onlyGivenNames v2
    clear_value v2
    exact kept_setFloe (kept_drawn k1)

theorem kept_attemptEnd {p x2 x s} (h4 : Kept o s) :
    Kept o (attemptEnd p x2 x s) := by
  unfold attemptEnd
  refine keptIte ?_ ?_
  · exact h4
  · extract_lets +onlyGivenNames v0
    have k1 : Kept o v0 := kept_frameEnded (kept_learn h4)
    clear_value v0
    split
    · exact kept_set (kept_txOver (kept_txTried k1))
    · exact kept_txFailed (kept_count k1)
    · exact kept_txFailed (kept_count k1)
    · exact kept_count k1

theorem kept_backoffEnd {p s} (h2 : Kept o s) :
    Kept o (backoffEnd p s) := by
  unfold backoffEnd
  split
  · exact keptIte (keptIte (kept_txAbandon h2) (kept_setFloe h2)) h2
  · exact h2

/-! ### Machine/Wake.lean -/

theorem kept_wakeFire {stat en s} (h3 : Kept o s) :
    Kept o (wakeFire stat en s) := by
  unfold wakeFire
  refine keptIte ?_ ?_
  · exact h3
  · extract_lets +onlyGivenNames v0
    have k1 : Kept o v0 := kept_set h3
    clear_value v0
    refine keptIte ?_ ?_
    · extract_lets +onlyGivenNames v2
      have k3 : Kept o v2 := kept_wr (kept_wr (kept_set k1))
      clear_value v2
      exact kept_mk.mpr k3
    · exact k1

/-! ### Machine/Keys.lean -/

theorem kept_kscRead {a s} (h2 : Kept o s) :
    Kept o (kscRead a s).2 := by
  unfold kscRead
  extract_lets +onlyGivenNames v0
  clear_value v0
  split
  · exact keptSnd (kept_mk.mpr h2)
  · split
    · exact keptSnd h2
    · split
      · exact keptSnd h2
      · split
        · exact keptSnd h2
        · split
          · exact keptSnd h2
          · split
            · exact keptSnd h2
            · split
              · exact keptSnd h2
              · exact keptSnd (kept_clearRc h2)

theorem kept_handover {was s} (h2 : Kept o s) :
    Kept o (handover was s) := by
  unfold handover
  exact keptIte (kept_mk.mpr h2) (keptIte (kept_mk.mpr h2) h2)

theorem kept_setMatcher {m s} (h2 : Kept o s) :
    Kept o (setMatcher m s) := by
  unfold setMatcher
  exact kept_mk.mpr h2

theorem kept_kbdUnlock {s} (h1 : Kept o s) :
    Kept o (kbdUnlock s) := by
  unfold kbdUnlock
  extract_lets +onlyGivenNames v0
  clear_value v0
  extract_lets +onlyGivenNames v1
  have k2 : Kept o v1 := kept_setMatcher (kept_wr (kept_clr h1))
  clear_value v1
  exact kept_mk.mpr k2

theorem kept_matcherUnlock {s} (h1 : Kept o s) :
    Kept o (matcherUnlock s) := by
  unfold matcherUnlock
  exact kept_wakeFire (kept_set (kept_kbdUnlock h1))

theorem kept_matcherFail {s} (h1 : Kept o s) :
    Kept o (matcherFail s) := by
  unfold matcherFail
  extract_lets +onlyGivenNames v0
  have k1 : Kept o v0 := kept_setMatcher (kept_set (kept_count h1))
  clear_value v0
  exact kept_mk.mpr k1

theorem kept_matcherMove {s} (h1 : Kept o s) :
    Kept o (matcherMove s) := by
  unfold matcherMove
  extract_lets +onlyGivenNames v0
  clear_value v0
  refine keptIte ?_ ?_
  · exact h1
  · split
    · exact keptIte h1 (kept_setMatcher h1)
    · exact keptIte (keptIte (kept_matcherUnlock h1) (kept_setMatcher h1)) (keptIte (kept_matcherFail h1) h1)
    · exact keptIte (kept_setMatcher h1) (keptIte (kept_matcherFail h1) h1)
    · exact keptIte (kept_setMatcher h1) h1
    · exact keptIte (kept_setMatcher h1) h1

theorem kept_matcherRun {s} (h1 : Kept o s) :
    Kept o (matcherRun s) := by
  unfold matcherRun
  exact kept_matcherMove (kept_matcherMove (kept_matcherMove h1))

theorem kept_lockCtlWrite {v s0} (h2 : Kept o s0) :
    Kept o (lockCtlWrite v s0) := by
  unfold lockCtlWrite
  extract_lets +onlyGivenNames v0
  have k1 : Kept o v0 := keptIte h2 (kept_wr h2)
  clear_value v0
  extract_lets +onlyGivenNames v2
  have k3 : Kept o v2 := keptIte (kept_setMatcher (kept_set k1)) k1
  clear_value v2
  extract_lets +onlyGivenNames v4
  have k5 : Kept o v4 := keptIte (kept_kbdUnlock k3) k3
  clear_value v4
  exact kept_matcherRun k5

theorem kept_seqWrite {a v s} (h3 : Kept o s) :
    Kept o (seqWrite a v s) := by
  unfold seqWrite
  refine keptIte ?_ ?_
  · exact kept_set h3
  · extract_lets +onlyGivenNames v0
    clear_value v0
    extract_lets +onlyGivenNames v1
    have k2 : Kept o v1 := keptIte (kept_wr (kept_wr (kept_wr h3))) (kept_wr (kept_wr h3))
    clear_value v1
    exact keptIte k2 (kept_set k2)

theorem kept_kscWrite {a v s} (h3 : Kept o s) :
    Kept o (kscWrite a v s) := by
  unfold kscWrite
  refine keptIte ?_ ?_
  · extract_lets +onlyGivenNames v0
    have k1 : Kept o v0 := kept_regWrite h3
    clear_value v0
    extract_lets +onlyGivenNames v2
    clear_value v2
    exact kept_handover (kept_wr k1)
  · exact keptIte (kept_lockCtlWrite h3) (keptIte (kept_seqWrite h3) (kept_regWrite h3))

theorem kept_kbdCoreLost {was keep s} (h3 : Kept o s) :
    Kept o (kbdCoreLost was keep s) := by
  unfold kbdCoreLost
  extract_lets +onlyGivenNames v0
  clear_value v0
  extract_lets +onlyGivenNames v1
  clear_value v1
  exact kept_mk.mpr h3

theorem kept_keyWake {fresh s} (h2 : Kept o s) :
    Kept o (keyWake fresh s) := by
  unfold keyWake
  split
  · exact keptIte (kept_wakeFire (kept_set (kept_wr h2))) h2
  · exact h2

theorem kept_keySource {s} (h1 : Kept o s) :
    Kept o (keySource s) := by
  unfold keySource
  exact keptIte h1 (kept_keyWake h1)

theorem kept_frameBegins {keys s} (h2 : Kept o s) :
    Kept o (frameBegins keys s) := by
  unfold frameBegins
  exact kept_mk.mpr h2

theorem kept_debounce {reading s} (h2 : Kept o s) :
    Kept o (debounce reading s) := by
  unfold debounce
  extract_lets +onlyGivenNames v0
  clear_value v0
  extract_lets +onlyGivenNames v1
  clear_value v1
  extract_lets +onlyGivenNames v2
  clear_value v2
  exact kept_mk.mpr h2

theorem kept_closures {reading s} (h2 : Kept o s) :
    Kept o (closures reading s) := by
  unfold closures
  extract_lets +onlyGivenNames v0
  clear_value v0
  extract_lets +onlyGivenNames v1
  clear_value v1
  exact kept_mk.mpr h2

theorem kept_unmask {closed s} (h2 : Kept o s) :
    Kept o (unmask closed s) := by
  unfold unmask
  extract_lets +onlyGivenNames v0
  clear_value v0
  refine keptIte ?_ ?_
  · exact h2
  · extract_lets +onlyGivenNames v1
    have k2 : Kept o v1 := kept_set h2
    clear_value v1
    exact kept_mk.mpr k2

theorem kept_kpfLatch {v s} (h2 : Kept o s) :
    Kept o (kpfLatch v s) := by
  unfold kpfLatch
  exact keptIte h2 (kept_mk.mpr h2)

theorem kept_deliver {s} (h1 : Kept o s) :
    Kept o (deliver s) := by
  unfold deliver
  extract_lets +onlyGivenNames v0
  clear_value v0
  extract_lets +onlyGivenNames v1
  clear_value v1
  extract_lets +onlyGivenNames v2
  have k3 : Kept o v2 := keptIte h1 (kept_set h1)
  clear_value v2
  extract_lets +onlyGivenNames v4
  clear_value v4
  extract_lets +onlyGivenNames v5
  have k6 : Kept o v5 := kept_kpfLatch k3
  clear_value v5
  exact kept_mk.mpr k6

theorem kept_ghostFilter {s} (h1 : Kept o s) :
    Kept o (ghostFilter s) := by
  unfold ghostFilter
  extract_lets +onlyGivenNames v0
  clear_value v0
  extract_lets +onlyGivenNames v1
  clear_value v1
  extract_lets +onlyGivenNames v2
  clear_value v2
  extract_lets +onlyGivenNames v3
  have k4 : Kept o v3 := keptIte (kept_set h1) h1
  clear_value v3
  exact kept_mk.mpr k4

theorem kept_keyFrame {reading s} (h2 : Kept o s) :
    Kept o (keyFrame reading s) := by
  unfold keyFrame
  extract_lets +onlyGivenNames v0
  have k1 : Kept o v0 := kept_debounce h2
  clear_value v0
  extract_lets +onlyGivenNames v2
  have k3 : Kept o v2 := kept_closures (kept_unmask k1)
  clear_value v2
  exact kept_matcherRun (kept_deliver (kept_ghostFilter k3))

theorem kept_frameEnds {s} (h1 : Kept o s) :
    Kept o (frameEnds s) := by
  unfold frameEnds
  split
  · exact kept_keyFrame (kept_mk.mpr h1)
  · exact h1

theorem kept_stuckMask {s} (h1 : Kept o s) :
    Kept o (stuckMask s) := by
  unfold stuckMask
  extract_lets +onlyGivenNames v0
  clear_value v0
  extract_lets +onlyGivenNames v1
  clear_value v1
  refine keptIte ?_ ?_
  · exact h1
  · extract_lets +onlyGivenNames v2
    have k3 : Kept o v2 := kept_set h1
    clear_value v2
    exact kept_mk.mpr k3

theorem kept_sleepScan {keys s} (h2 : Kept o s) :
    Kept o (sleepScan keys s) := by
  unfold sleepScan
  refine keptIte ?_ ?_
  · exact h2
  · extract_lets +onlyGivenNames v0
    clear_value v0
    extract_lets +onlyGivenNames v1
    clear_value v1
    extract_lets +onlyGivenNames v2
    clear_value v2
    extract_lets +onlyGivenNames v3
    clear_value v3
    extract_lets +onlyGivenNames v4
    clear_value v4
    extract_lets +onlyGivenNames v5
    clear_value v5
    extract_lets +onlyGivenNames v6
    clear_value v6
    extract_lets +onlyGivenNames v7
    clear_value v7
    extract_lets +onlyGivenNames v8
    clear_value v8
    extract_lets +onlyGivenNames v9
    have k10 : Kept o v9 := kept_mk.mpr h2
    clear_value v9
    extract_lets +onlyGivenNames v11
    clear_value v11
    extract_lets +onlyGivenNames v12
    clear_value v12
    extract_lets +onlyGivenNames v13
    have k14 : Kept o v13 := keptIte (kept_unmask (kept_mk.mpr k10)) k10
    clear_value v13
    extract_lets +onlyGivenNames v15
    have k16 : Kept o v15 := kept_closures k14
    clear_value v15
    extract_lets +onlyGivenNames v17
    clear_value v17
    extract_lets +onlyGivenNames v18
    have k19 : Kept o v18 := kept_mk.mpr k16
    clear_value v18
    exact kept_matcherRun (kept_keyWake k19)

theorem kept_stepTimedOut {s} (h1 : Kept o s) :
    Kept o (stepTimedOut s) := by
  unfold stepTimedOut
  split
  · exact keptIte (kept_matcherRun (kept_matcherFail h1)) h1
  · exact h1

theorem kept_kbdLifeCycle {s} (h1 : Kept o s) :
    Kept o (kbdLifeCycle s) := by
  unfold kbdLifeCycle
  extract_lets +onlyGivenNames v0
  have k1 : Kept o v0 := kept_wr (kept_wr (kept_clr h1))
  clear_value v0
  extract_lets +onlyGivenNames v2
  have k3 : Kept o v2 := by
    unfold v2
    refine keptFold ?_ ?_
    · exact k1
    · intro y4 y5 y6
      exact kept_wr (kept_wr (kept_wr (kept_wr (kept_wr y6))))
  clear_value v2
  extract_lets +onlyGivenNames v7
  have k8 : Kept o v7 := kept_setMatcher k3
  clear_value v7
  exact kept_mk.mpr k8

/-! ### Machine/Lpe.lean -/

theorem kept_nowLoRead {s} (h1 : Kept o s) :
    Kept o (nowLoRead s).2 := by
  unfold nowLoRead
  exact keptSnd (kept_wr h1)

theorem kept_lpeRead {a s} (h2 : Kept o s) :
    Kept o (lpeRead a s).2 := by
  unfold lpeRead
  split
  · exact keptSnd h2
  · exact kept_nowLoRead h2
  · exact keptSnd (kept_clearRc h2)

theorem kept_setSlot {n x s} (h3 : Kept o s) :
    Kept o (setSlot n x s) := by
  unfold setSlot
  exact kept_mk.mpr h3

theorem kept_firstRelease {n s} (h2 : Kept o s) :
    Kept o (firstRelease n s) := by
  unfold firstRelease
  extract_lets +onlyGivenNames v0
  clear_value v0
  exact kept_setSlot h2

theorem kept_lpeCtrlWrite {v s0} (h2 : Kept o s0) :
    Kept o (lpeCtrlWrite v s0) := by
  unfold lpeCtrlWrite
  extract_lets +onlyGivenNames v0
  have k1 : Kept o v0 := keptIte (kept_set h2) h2
  clear_value v0
  extract_lets +onlyGivenNames v2
  have k3 : Kept o v2 := kept_regWrite k1
  clear_value v2
  refine keptIte ?_ ?_
  · extract_lets +onlyGivenNames v4
    clear_value v4
    extract_lets +onlyGivenNames v5
    have k6 : Kept o v5 := kept_mk.mpr k3
    clear_value v5
    refine keptFold ?_ ?_
    · exact k6
    · intro y7 y8 y9
      exact keptIte (kept_firstRelease y9) y9
  · exact k3

theorem kept_lockedField {locked f v s} (h4 : Kept o s) :
    Kept o (lockedField locked f v s) := by
  unfold lockedField
  exact keptIte (keptIte h4 (kept_set h4)) (kept_wr h4)

theorem kept_slotEnable {n s} (h2 : Kept o s) :
    Kept o (slotEnable n s) := by
  unfold slotEnable
  extract_lets +onlyGivenNames v0
  clear_value v0
  extract_lets +onlyGivenNames v1
  have k2 : Kept o v1 := kept_setSlot h2
  clear_value v1
  refine keptIte ?_ ?_
  · extract_lets +onlyGivenNames v3
    have k4 : Kept o v3 := kept_wr k2
    clear_value v3
    exact keptIte (kept_firstRelease k4) k4
  · exact k2

theorem kept_slotDisable {n s} (h2 : Kept o s) :
    Kept o (slotDisable n s) := by
  unfold slotDisable
  extract_lets +onlyGivenNames v0
  clear_value v0
  split
  · exact keptIte (kept_setSlot h2) (kept_wr (kept_clr (kept_setSlot h2)))
  · exact kept_wr (kept_setSlot h2)

theorem kept_scfgWrite {n v s0} (h3 : Kept o s0) :
    Kept o (scfgWrite n v s0) := by
  unfold scfgWrite
  extract_lets +onlyGivenNames v0
  clear_value v0
  extract_lets +onlyGivenNames v1
  clear_value v1
  extract_lets +onlyGivenNames v2
  have k3 : Kept o v2 := kept_lockedField h3
  clear_value v2
  extract_lets +onlyGivenNames v4
  have k5 : Kept o v4 := kept_lockedField k3
  clear_value v4
  extract_lets +onlyGivenNames v6
  have k7 : Kept o v6 := kept_lockedField k5
  clear_value v6
  extract_lets +onlyGivenNames v8
  have k9 : Kept o v8 := keptIte (keptIte k7 (kept_set k7)) (kept_lockedField k7)
  clear_value v8
  extract_lets +onlyGivenNames v10
  have k11 : Kept o v10 := kept_lockedField k9
  clear_value v10
  extract_lets +onlyGivenNames v12
  clear_value v12
  exact keptIte (keptIte (kept_set (kept_clr k11)) (kept_slotEnable k11)) (keptIte (kept_slotDisable k11) k11)

theorem kept_slotWrite {n f fixed v s} (h5 : Kept o s) :
    Kept o (slotWrite n f fixed v s) := by
  unfold slotWrite
  exact keptIte (kept_lockedField h5) (keptIte (kept_set h5) (kept_wr h5))

theorem kept_lpeWrite {a v s} (h3 : Kept o s) :
    Kept o (lpeWrite a v s) := by
  unfold lpeWrite
  refine keptIte ?_ ?_
  · exact kept_lpeCtrlWrite h3
  · refine keptIte ?_ ?_
    · exact kept_regWrite h3
    · extract_lets +onlyGivenNames v0
      clear_value v0
      split
      · exact kept_scfgWrite h3
      · exact kept_slotWrite h3
      · exact kept_slotWrite h3
      · exact kept_slotWrite h3
      · exact kept_slotWrite h3
      · exact kept_slotWrite h3
      · exact h3

theorem kept_release {n r s} (h3 : Kept o s) :
    Kept o (release n r s) := by
  unfold release
  extract_lets +onlyGivenNames v0
  clear_value v0
  extract_lets +onlyGivenNames v1
  clear_value v1
  extract_lets +onlyGivenNames v2
  clear_value v2
  extract_lets +onlyGivenNames v3
  clear_value v3
  exact kept_set (kept_wr (kept_setSlot h3))

theorem kept_slotRelease {n s} (h2 : Kept o s) :
    Kept o (slotRelease n s) := by
  unfold slotRelease
  split
  · exact keptIte (kept_release h2) h2
  · exact h2

theorem kept_setHalf {f n s} (h3 : Kept o s) :
    Kept o (setHalf f n s) := by
  unfold setHalf
  exact kept_setBit h3

theorem kept_overrun {n f lag stood s} (h5 : Kept o s) :
    Kept o (overrun n f lag stood s) := by
  unfold overrun
  extract_lets +onlyGivenNames v0
  clear_value v0
  extract_lets +onlyGivenNames v1
  have k2 : Kept o v1 := kept_count (kept_setHalf h5)
  clear_value v1
  extract_lets +onlyGivenNames v3
  have k4 : Kept o v3 := kept_count k2
  clear_value v3
  exact kept_wr (kept_hwLog k4)

theorem kept_reschedule {n f next maxlag s} (h5 : Kept o s) :
    Kept o (reschedule n f next maxlag s) := by
  unfold reschedule
  refine keptIte ?_ ?_
  · exact h5
  · extract_lets +onlyGivenNames v0
    clear_value v0
    extract_lets +onlyGivenNames v1
    clear_value v1
    refine keptIte ?_ ?_
    · extract_lets +onlyGivenNames v2
      have k3 : Kept o v2 := kept_overrun h5
      clear_value v2
      exact kept_setSlot k3
    · exact kept_setSlot (kept_wr h5)

theorem kept_finishSlot {n a noblk s} (h4 : Kept o s) :
    Kept o (finishSlot n a noblk s) := by
  unfold finishSlot
  extract_lets +onlyGivenNames v0
  clear_value v0
  extract_lets +onlyGivenNames v1
  have k2 : Kept o v1 := kept_wrB (kept_clr h4)
  clear_value v1
  extract_lets +onlyGivenNames v3
  have k4 : Kept o v3 := keptIte (kept_count k2) k2
  clear_value v3
  extract_lets +onlyGivenNames v5
  have k6 : Kept o v5 := keptIte (kept_setHalf k4) k4
  clear_value v5
  extract_lets +onlyGivenNames v7
  clear_value v7
  extract_lets +onlyGivenNames v8
  have k9 : Kept o v8 := kept_setSlot k6
  clear_value v8
  refine keptIte ?_ ?_
  · extract_lets +onlyGivenNames v10
    have k11 : Kept o v10 := kept_wr k9
    clear_value v10
    exact keptIte (kept_firstRelease k11) k11
  · split
    · exact kept_reschedule k9
    · exact k9

theorem kept_markStarted {n a dur s} (h4 : Kept o s) :
    Kept o (markStarted n a dur s) := by
  unfold markStarted
  exact kept_setSlot h4

/-! ### Machine/Nvc.lean -/

theorem kept_kpfScan {off n s} (h3 : Kept o s) :
    Kept o (kpfScan off n s) := by
  unfold kpfScan
  extract_lets +onlyGivenNames v0
  have k1 : Kept o v0 := kept_firnScan h3
  clear_value v0
  split
  · exact k1
  · exact kept_nvcError k1

theorem kept_programWords {x1 x2 x3 x4} (h4 : Kept o x4) :
    Kept o (programWords x1 x2 x3 x4) := by
  fun_induction programWords x1 x2 x3 x4
  · exact h4
  · rename_i a7 _ a9
    refine a9 ?_
    unfold a7
    exact kept_programWord h4
  · rename_i a14 _
    unfold a14
    exact kept_programWord h4

theorem kept_programFirn {off bs s} (h3 : Kept o s) :
    Kept o (programFirn off bs s) := by
  unfold programFirn
  exact kept_programWords h3

theorem kept_nvcRegRead {s a} (h1 : Kept o s) :
    Kept o (nvcRegRead s a).2 := by
  unfold nvcRegRead
  split
  · exact keptSnd h1
  · exact keptSnd (kept_clearRc h1)

theorem kept_logRead {s a} (h1 : Kept o s) :
    Kept o (logRead s a).2 := by
  unfold logRead
  split
  · exact keptSnd h1
  · exact keptSnd (kept_clearRc h1)

theorem kept_nvcEnds {result addr s} (h3 : Kept o s) :
    Kept o (nvcEnds result addr s) := by
  unfold nvcEnds
  extract_lets +onlyGivenNames v0
  have k1 : Kept o v0 := kept_set (kept_wr (kept_clr h3))
  clear_value v0
  extract_lets +onlyGivenNames v2
  clear_value v2
  extract_lets +onlyGivenNames v3
  have k4 : Kept o v3 := kept_mk.mpr k1
  clear_value v3
  exact keptIte k4 (kept_wr (kept_set k4))

theorem kept_nvcWords {bad addr buf i x5 x6} (h6 : Kept o x6) :
    Kept o (nvcWords bad addr buf i x5 x6) := by
  fun_induction nvcWords bad addr buf i x5 x6
  · exact kept_nvcEnds h6
  · exact kept_nvcEnds h6
  · exact kept_nvcEnds (kept_drawn (kept_setFirnWord h6))
  · rename_i a19
    exact a19 (kept_setFirnWord h6)

theorem kept_nvcRead {c s} (h2 : Kept o s) :
    Kept o (nvcRead c s) := by
  unfold nvcRead
  extract_lets +onlyGivenNames v0
  clear_value v0
  extract_lets +onlyGivenNames v1
  have k2 : Kept o v1 := by
    unfold v1
    refine keptFold ?_ ?_
    · exact h2
    · intro y3 y4 y5
      exact kept_storeNat (kept_firnChecked y5)
  clear_value v1
  split
  · exact kept_nvcEnds k2
  · exact kept_nvcEnds k2

theorem kept_nvcDone {bad s} (h2 : Kept o s) :
    Kept o (nvcDone bad s) := by
  unfold nvcDone
  split
  · exact h2
  · exact keptIte (kept_nvcWords h2) (keptIte (kept_nvcEnds (kept_eraseFirn h2)) (kept_nvcRead h2))

theorem kept_firnReady {s} (h1 : Kept o s) :
    Kept o (firnReady s) := by
  unfold firnReady
  split
  · exact keptIte (kept_nvcDone h1) h1
  · exact h1

theorem kept_nvcGo {cmd s} (h2 : Kept o s) :
    Kept o (nvcGo cmd s) := by
  unfold nvcGo
  extract_lets +onlyGivenNames v0
  clear_value v0
  extract_lets +onlyGivenNames v1
  clear_value v1
  refine keptIte ?_ ?_
  · exact h2
  · refine keptIte ?_ ?_
    · exact kept_nvcEnds h2
    · refine keptIte ?_ ?_
      · exact kept_nvcEnds h2
      · extract_lets +onlyGivenNames v2
        have k3 : Kept o v2 := kept_set h2
        clear_value v2
        exact kept_mk.mpr k3

theorem kept_nvcCtrlWrite {v s} (h2 : Kept o s) :
    Kept o (nvcCtrlWrite v s) := by
  unfold nvcCtrlWrite
  exact keptIte (kept_nvcGo h2) h2

theorem kept_confArm {s} (h1 : Kept o s) :
    Kept o (confArm s) := by
  unfold confArm
  extract_lets +onlyGivenNames v0
  have k1 : Kept o v0 := kept_set h1
  clear_value v0
  exact kept_mk.mpr k1

theorem kept_confWrite {v s} (h2 : Kept o s) :
    Kept o (confWrite v s) := by
  unfold confWrite
  extract_lets +onlyGivenNames v0
  have k1 : Kept o v0 := keptIte (kept_clr h2) h2
  clear_value v0
  extract_lets +onlyGivenNames v2
  have k3 : Kept o v2 := keptIte (kept_clr k1) k1
  clear_value v2
  exact keptIte (kept_confArm k3) k3

theorem kept_nvcWrite {a v s} (h3 : Kept o s) :
    Kept o (nvcWrite a v s) := by
  unfold nvcWrite
  exact keptIte (kept_nvcCtrlWrite h3) (keptIte (kept_confWrite h3) (kept_regWrite h3))

theorem kept_commitRecord {source sev code data s} (h5 : Kept o s) :
    Kept o (commitRecord source sev code data s).2 := by
  unfold commitRecord
  split
  · exact keptSnd (kept_set (kept_set (kept_count h5)))
  · exact keptSnd (kept_logEnter (kept_clr h5))

theorem kept_logCommit {s} (h1 : Kept o s) :
    Kept o (logCommit s) := by
  unfold logCommit
  extract_lets +onlyGivenNames v0
  clear_value v0
  exact kept_commitRecord h1

theorem kept_logRegWrite {a v s} (h3 : Kept o s) :
    Kept o (logRegWrite a v s) := by
  unfold logRegWrite
  exact keptIte (keptIte (kept_set h3) h3) (keptIte (keptIte (kept_logCommit h3) h3) (kept_regWrite h3))

theorem kept_nvcCut {addr buf i k x5 x6} (h6 : Kept o x6) :
    Kept o (nvcCut addr buf i k x5 x6) := by
  fun_induction nvcCut addr buf i k x5 x6
  · exact h6
  · exact h6
  · exact kept_drawn (kept_setFirnWord h6)
  · rename_i a14
    exact a14 (kept_setFirnWord h6)

theorem kept_nvcInterrupted {s} (h1 : Kept o s) :
    Kept o (nvcInterrupted s) := by
  unfold nvcInterrupted
  split
  · exact h1
  · extract_lets +onlyGivenNames v5
    clear_value v5
    extract_lets +onlyGivenNames v6
    have k7 : Kept o v6 := kept_mk.mpr h1
    clear_value v6
    refine keptIte ?_ ?_
    · exact kept_nvcCut (kept_drawn k7)
    · refine keptIte ?_ ?_
      · refine keptFold ?_ ?_
        · exact k7
        · intro y8 y9 y10
          exact kept_drawn (kept_setFirnWord y10)
      · exact k7

theorem kept_logDomainReset {s} (h1 : Kept o s) :
    Kept o (logDomainReset s) := by
  unfold logDomainReset
  exact kept_nvcInterrupted h1

theorem kept_logWrite {r s} (h2 : Kept o s) :
    Kept o (logWrite r s) := by
  unfold logWrite
  extract_lets +onlyGivenNames v0
  clear_value v0
  extract_lets +onlyGivenNames v1
  clear_value v1
  extract_lets +onlyGivenNames v2
  have k3 : Kept o v2 := keptIte (kept_eraseFirn h2) h2
  clear_value v2
  exact kept_wr (kept_programFirn k3)

theorem kept_logReady {s} (h1 : Kept o s) :
    Kept o (logReady s) := by
  unfold logReady
  exact keptIte h1 (kept_set (kept_wr (kept_kpfScan h1)))

theorem kept_recordWritten {s} (h1 : Kept o s) :
    Kept o (recordWritten s) := by
  unfold recordWritten
  split
  · exact h1
  · extract_lets +onlyGivenNames v6
    clear_value v6
    extract_lets +onlyGivenNames v7
    have k8 : Kept o v7 := kept_logWrite (kept_logReady (kept_mk.mpr h1))
    clear_value v7
    extract_lets +onlyGivenNames v9
    have k10 : Kept o v9 := kept_set k8
    clear_value v9
    exact keptIte (kept_clr k10) k10

theorem kept_logRelease {s} (h1 : Kept o s) :
    Kept o (logRelease s) := by
  unfold logRelease
  extract_lets +onlyGivenNames v0
  clear_value v0
  extract_lets +onlyGivenNames v1
  clear_value v1
  extract_lets +onlyGivenNames v2
  clear_value v2
  extract_lets +onlyGivenNames v3
  have k4 : Kept o v3 := kept_mk.mpr h1
  clear_value v3
  refine kept_count ?_
  refine keptFold ?_ ?_
  · exact k4
  · intro y5 y6 y7
    exact kept_logEnter y7

theorem kept_flushLog {x1 x2} (h2 : Kept o x2) :
    Kept o (flushLog x1 x2) := by
  fun_induction flushLog x1 x2
  · exact h2
  · exact h2
  · rename_i a7
    exact a7 (kept_recordWritten h2)

/-! ### Machine/Reset.lean -/

theorem kept_fwReadyLost {s} (h1 : Kept o s) :
    Kept o (fwReadyLost s) := by
  unfold fwReadyLost
  extract_lets +onlyGivenNames v0
  have k1 : Kept o v0 := kept_clr h1
  clear_value v0
  exact kept_settle (keptIte (kept_fwReadyDown k1) k1)

theorem kept_coreReset {cause s} (h2 : Kept o s) :
    Kept o (coreReset cause s) := by
  unfold coreReset
  extract_lets +onlyGivenNames v0
  have k1 : Kept o v0 := kept_secCoreReset (kept_fwReadyLost (kept_resetRanges h2))
  clear_value v0
  extract_lets +onlyGivenNames v2
  have k3 : Kept o v2 := keptIte (kept_debugOpens k1) k1
  clear_value v2
  extract_lets +onlyGivenNames v4
  have k5 : Kept o v4 := kept_clr k3
  clear_value v4
  extract_lets +onlyGivenNames v6
  clear_value v6
  extract_lets +onlyGivenNames v7
  have k8 : Kept o v7 := kept_set k5
  clear_value v7
  exact kept_mk.mpr ⟨k8.1, k8.2.1, k8.2.2.1, k8.2.2.2.1, k5.2.2.2.2⟩

/-! ### Machine/Tmr.lean -/

theorem kept_ucNext {s} (h1 : Kept o s) :
    Kept o (ucNext s) := by
  unfold ucNext
  exact keptIte (kept_wr h1) h1

theorem kept_ucLoWrite {v s} (h2 : Kept o s) :
    Kept o (ucLoWrite v s) := by
  unfold ucLoWrite
  refine keptIte ?_ ?_
  · exact kept_set h2
  · extract_lets +onlyGivenNames v0
    have k1 : Kept o v0 := kept_wr h2
    clear_value v0
    extract_lets +onlyGivenNames v2
    clear_value v2
    exact keptIte (kept_ucNext (kept_mk.mpr k1)) k1

theorem kept_ucHiWrite {v s} (h2 : Kept o s) :
    Kept o (ucHiWrite v s) := by
  unfold ucHiWrite
  refine keptIte ?_ ?_
  · exact kept_set h2
  · extract_lets +onlyGivenNames v0
    have k1 : Kept o v0 := kept_wr h2
    clear_value v0
    extract_lets +onlyGivenNames v2
    clear_value v2
    exact keptIte k1 (kept_ucNext (kept_mk.mpr k1))

theorem kept_wdRestart {stage s} (h2 : Kept o s) :
    Kept o (wdRestart stage s) := by
  unfold wdRestart
  extract_lets +onlyGivenNames v0
  have k1 : Kept o v0 := kept_wrB h2
  clear_value v0
  exact kept_mk.mpr k1

theorem kept_wdExpire2 {s} (h1 : Kept o s) :
    Kept o (wdExpire2 s) := by
  unfold wdExpire2
  exact kept_coreReset h1

theorem kept_wdExpire1 {s} (h1 : Kept o s) :
    Kept o (wdExpire1 s) := by
  unfold wdExpire1
  extract_lets +onlyGivenNames v0
  clear_value v0
  extract_lets +onlyGivenNames v1
  have k2 : Kept o v1 := kept_wdRestart (kept_mk.mpr h1)
  clear_value v1
  exact kept_mk.mpr k2

theorem kept_wdKick {v s} (h2 : Kept o s) :
    Kept o (wdKick v s) := by
  unfold wdKick
  refine keptIte ?_ ?_
  · exact keptIte (kept_wdRestart h2) h2
  · extract_lets +onlyGivenNames v0
    have k1 : Kept o v0 := kept_set h2
    clear_value v0
    exact keptIte (keptIte (kept_wdExpire2 k1) (kept_wdExpire1 k1)) k1

theorem kept_tmrWrite {a v s} (h3 : Kept o s) :
    Kept o (tmrWrite a v s) := by
  unfold tmrWrite
  refine keptIte ?_ ?_
  · exact kept_wdKick h3
  · extract_lets +onlyGivenNames v0
    have k1 : Kept o v0 := kept_regWrite h3
    clear_value v0
    exact keptIte (kept_wdRestart k1) k1

/-! ### Machine/Sys.lean -/

theorem kept_sysRead {s a} (h1 : Kept o s) :
    Kept o (sysRead s a).2 := by
  unfold sysRead
  split
  · exact keptSnd h1
  · exact keptSnd (kept_clearRc h1)

theorem kept_luxCounted {s} (h1 : Kept o s) :
    Kept o (luxCounted s) := by
  unfold luxCounted
  exact kept_mk.mpr h1

theorem kept_luxSwitch {on s} (h2 : Kept o s) :
    Kept o (luxSwitch on s) := by
  unfold luxSwitch
  refine keptIte ?_ ?_
  · exact h2
  · extract_lets +onlyGivenNames v0
    have k1 : Kept o v0 := keptIte h2 (kept_luxCounted h2)
    clear_value v0
    exact kept_wrB (kept_clr (kept_luxResetRegs k1))

theorem kept_domctrlWrite {v s0} (h2 : Kept o s0) :
    Kept o (domctrlWrite v s0) := by
  unfold domctrlWrite
  extract_lets +onlyGivenNames v0
  have k1 : Kept o v0 := keptIte (kept_clr h2) h2
  clear_value v0
  extract_lets +onlyGivenNames v2
  have k3 : Kept o v2 := kept_luxSwitch k1
  clear_value v2
  extract_lets +onlyGivenNames v4
  clear_value v4
  extract_lets +onlyGivenNames v5
  clear_value v5
  exact keptIte k3 (keptIte (kept_set k3) (kept_mk.mpr k3))

theorem kept_recordCauses {m s} (h2 : Kept o s) :
    Kept o (recordCauses m s) := by
  unfold recordCauses
  refine keptFold ?_ ?_
  · exact h2
  · intro y0 y1 y2
    exact keptIte (kept_wr y2) y2

theorem kept_rstreqWrite {v s} (h2 : Kept o s) :
    Kept o (rstreqWrite v s) := by
  unfold rstreqWrite
  extract_lets +onlyGivenNames v0
  clear_value v0
  extract_lets +onlyGivenNames v1
  have k2 : ∀ v1y1, Kept o (v1 v1y1) := by
    intro y3
    unfold v1
    exact kept_mk.mpr h2
  clear_value v1
  refine keptIte ?_ ?_
  · exact h2
  · refine keptIte ?_ ?_
    · refine k2 _
    · split
      · refine k2 _
      · refine keptIte ?_ ?_
        · refine k2 _
        · extract_lets +onlyGivenNames v9
          have k10 : Kept o v9 := kept_recordCauses (kept_coreReset h2)
          clear_value v9
          exact kept_mk.mpr k10

theorem kept_holdClear {v s} (h2 : Kept o s) :
    Kept o (holdClear v s) := by
  unfold holdClear
  exact keptIte (kept_adopt h2) h2

theorem kept_coreselWrite {v s} (h2 : Kept o s) :
    Kept o (coreselWrite v s) := by
  unfold coreselWrite
  extract_lets +onlyGivenNames v0
  clear_value v0
  extract_lets +onlyGivenNames v1
  clear_value v1
  refine keptIte ?_ ?_
  · exact h2
  · extract_lets +onlyGivenNames v2
    have k3 : Kept o v2 := kept_set (kept_wr h2)
    clear_value v2
    exact kept_mk.mpr k3

theorem kept_alarmCheck {s} (h1 : Kept o s) :
    Kept o (alarmCheck s) := by
  unfold alarmCheck
  exact keptIte (kept_wakeFire (kept_mk.mpr h1)) h1

theorem kept_alarmWrite {v s} (h2 : Kept o s) :
    Kept o (alarmWrite v s) := by
  unfold alarmWrite
  extract_lets +onlyGivenNames v0
  have k1 : Kept o v0 := kept_wr h2
  clear_value v0
  extract_lets +onlyGivenNames v2
  clear_value v2
  exact kept_alarmCheck (kept_mk.mpr k1)

theorem kept_sysWrite {a v s} (h3 : Kept o s) :
    Kept o (sysWrite a v s) := by
  unfold sysWrite
  split
  · exact kept_domctrlWrite h3
  · exact kept_rstreqWrite h3
  · exact kept_holdClear h3
  · exact kept_coreselWrite h3
  · exact kept_alarmWrite h3
  · exact kept_ucLoWrite h3
  · exact kept_ucHiWrite h3
  · exact kept_regWrite h3

theorem kept_luxReady {s} (h1 : Kept o s) :
    Kept o (luxReady s) := by
  unfold luxReady
  exact keptIte (kept_set (kept_wipe h1)) h1

theorem kept_clockSettled {s} (h1 : Kept o s) :
    Kept o (clockSettled s) := by
  unfold clockSettled
  refine keptIte ?_ ?_
  · extract_lets +onlyGivenNames v0
    have k1 : Kept o v0 := keptIte (kept_clr h1) h1
    clear_value v0
    extract_lets +onlyGivenNames v2
    clear_value v2
    extract_lets +onlyGivenNames v3
    have k4 : Kept o v3 := kept_clr k1
    clear_value v3
    exact kept_mk.mpr k4
  · exact h1

theorem kept_pllLost {s} (h1 : Kept o s) :
    Kept o (pllLost s) := by
  unfold pllLost
  extract_lets +onlyGivenNames v0
  have k1 : Kept o v0 := kept_set (kept_clr (kept_set h1))
  clear_value v0
  exact kept_mk.mpr k1

/-! ### Machine/Bus.lean -/

theorem kept_busRead {s a} (h1 : Kept o s) :
    Kept o (busRead s a).2 := by
  unfold busRead
  split
  · exact kept_sysRead h1
  · exact kept_lpeRead h1
  · exact kept_railRead h1
  · exact kept_pwrRead h1
  · exact kept_kscRead h1
  · exact kept_fanRegRead h1
  · exact kept_floeRead h1
  · exact kept_hostRead h1
  · exact kept_mbxRead h1
  · exact kept_secRead h1
  · exact kept_nvcRegRead h1
  · exact kept_logRead h1
  · exact keptSnd (kept_clearRc h1)
  · exact keptSnd (kept_clearRc h1)

theorem kept_busWrite {s a v} (h1 : Kept o s) :
    Kept o (busWrite s a v) := by
  unfold busWrite
  split
  · exact kept_sysWrite h1
  · exact kept_lpeWrite h1
  · exact kept_railWrite h1
  · exact kept_pwrBlockWrite h1
  · exact kept_chgWrite h1
  · exact kept_pdWrite h1
  · exact kept_kscWrite h1
  · exact kept_luxWrite h1
  · exact kept_chnWrite h1
  · exact kept_fanRegWrite h1
  · exact kept_thmWrite h1
  · exact kept_floeWrite h1
  · exact kept_hostWrite h1
  · exact kept_mbxWrite h1
  · exact kept_secWrite h1
  · exact kept_fgdWrite h1
  · exact kept_nvcWrite h1
  · exact kept_logRegWrite h1
  · exact kept_tmrWrite h1
  · exact kept_regWrite h1

/-! ### Machine/Access.lean -/

theorem kept_mpuMarks {s k cause first} (h1 : Kept o s) :
    Kept o (mpuMarks s k cause first) := by
  unfold mpuMarks
  exact kept_wr (kept_wr (kept_wr h1))

theorem kept_parityMarks {s a} (h1 : Kept o s) :
    Kept o (parityMarks s a) := by
  unfold parityMarks
  extract_lets +onlyGivenNames v0
  have k1 : Kept o v0 := kept_wr h1
  clear_value v0
  split
  · exact kept_set k1
  · exact kept_set k1
  · exact kept_set k1
  · exact kept_set k1
  · exact kept_count (kept_set k1)
  · exact kept_count (kept_set k1)
  · exact k1

theorem kept_applyMark {s x2} (h1 : Kept o s) :
    Kept o (applyMark s x2) := by
  unfold applyMark
  split
  · exact h1
  · exact kept_mpuMarks h1
  · exact kept_parityMarks h1
  · exact kept_drawn (kept_set (kept_wr h1))

theorem kept_readValue {s a n} (h1 : Kept o s) :
    Kept o (readValue s a n).2 := by
  unfold readValue
  split
  · exact keptSnd (kept_busRead h1)
  · extract_lets +onlyGivenNames v4
    have k5 : Kept o v4 := kept_firnReady h1
    clear_value v4
    exact keptSnd (kept_firnChecked k5)
  · extract_lets +onlyGivenNames v8
    have k9 : Kept o v8 := kept_firnReady h1
    clear_value v8
    exact keptSnd (kept_firnChecked k9)
  · exact keptSnd h1

theorem kept_dataLoad {s micro a n} (h1 : Kept o s) :
    KeptE2 o (dataLoad s micro a n) := by
  unfold dataLoad
  split
  · trivial
  · split
    · trivial
    · exact keptE2_ok (kept_readValue h1)

theorem kept_writeValue {s a n v} (h1 : Kept o s) :
    Kept o (writeValue s a n v) := by
  unfold writeValue
  split
  · exact kept_busWrite h1
  · exact kept_storeNat h1

theorem kept_dataStore {s micro a n v} (h1 : Kept o s) :
    KeptE1 o (dataStore s micro a n v) := by
  unfold dataStore
  split
  · trivial
  · split
    · trivial
    · exact keptE1_ok (kept_writeValue h1)

/-! ### Machine/ActionCmd.lean -/

theorem kept_actionEffect {a d s} (h3 : Kept o s) :
    Kept o (actionEffect a d s) := by
  unfold actionEffect
  split
  · exact kept_adcSequence h3
  · exact kept_fanStep (kept_fanRead h3)
  · exact kept_railStep h3
  · exact kept_frameBegins h3
  · exact kept_diagPass h3
  · exact keptIte (kept_chgStep h3) (kept_trackerStep h3)
  · exact h3

theorem kept_actionStart {n d s} (h3 : Kept o s) :
    Kept o (actionStart n d s) := by
  unfold actionStart
  split
  · exact h3
  · exact keptIte (kept_finishSlot h3) (keptIte (kept_finishSlot h3) (keptIte h3 (kept_actionEffect
      (kept_markStarted h3))))

theorem kept_execActionStart {n t data s} (h4 : Kept o s) :
    KeptNext o (execActionStart n t data s) := by
  unfold execActionStart
  exact keptNext (kept_actionStart (kept_seen h4))

theorem kept_actionEnd {a s} (h2 : Kept o s) :
    Kept o (actionEnd a s) := by
  unfold actionEnd
  split
  · exact kept_frameEnds h2
  · exact keptIte (kept_set h2) h2
  · exact h2

theorem kept_actionFinish {n s} (h2 : Kept o s) :
    Kept o (actionFinish n s) := by
  unfold actionFinish
  split
  · exact keptIte (kept_finishSlot (kept_actionEnd h2)) h2
  · exact h2

theorem kept_execActionFinish {n t s} (h3 : Kept o s) :
    KeptNext o (execActionFinish n t s) := by
  unfold execActionFinish
  exact keptNext (kept_actionFinish (kept_seen h3))

/-! ### Machine/Exception.lean -/

theorem kept_fatal {first second addr vecFail s} (h5 : Kept o s) :
    Kept o (fatal first second addr vecFail s) := by
  unfold fatal
  extract_lets +onlyGivenNames v0
  have k1 : Kept o v0 := kept_wr (kept_wr h5)
  clear_value v0
  extract_lets +onlyGivenNames v2
  have k3 : Kept o v2 := kept_wr (kept_wrB k1)
  clear_value v2
  extract_lets +onlyGivenNames v4
  have k5 : Kept o v4 := kept_count k3
  clear_value v4
  extract_lets +onlyGivenNames v6
  have k7 : Kept o v6 := kept_hwLog k5
  clear_value v6
  exact kept_coreReset k7

theorem kept_takeExc {e epc s} (h3 : Kept o s) :
    Kept o (takeExc e epc s) := by
  unfold takeExc
  extract_lets +onlyGivenNames v0
  have k1 : Kept o v0 := kept_applyMark h3
  clear_value v0
  extract_lets +onlyGivenNames v2
  clear_value v2
  refine keptIte ?_ ?_
  · exact kept_fatal k1
  · extract_lets +onlyGivenNames v3
    have k4 : Kept o v3 := kept_mk.mpr k1
    clear_value v3
    split
    · exact kept_fatal (kept_applyMark k4)
    · rename_i a11
      refine keptViaE2ok (o := o) a11 ?_ (fun k12 => ?_)
      · exact kept_dataLoad k4
      clear a11
      exact keptIte (kept_fatal k12) (kept_mk.mpr k12)

theorem kept_faultAtPc {e s} (h2 : Kept o s) :
    Kept o (faultAtPc e s) := by
  unfold faultAtPc
  extract_lets +onlyGivenNames v0
  clear_value v0
  exact kept_takeExc (kept_mk.mpr h2)

theorem kept_coreStore {a effect s} (h2 : ∀ effecty1, (Kept o effecty1) → Kept o (effect effecty1)) (h3 : Kept o s) :
    Kept o (coreStore a effect s) := by
  unfold coreStore
  refine keptIte ?_ ?_
  · exact h3
  · split
    · exact kept_faultAtPc h3
    · exact h2 _ h3

theorem kept_coreLoad {a s} (h2 : Kept o s) :
    Kept o (coreLoad a s) := by
  unfold coreLoad
  refine keptIte ?_ ?_
  · exact h2
  · split
    · exact kept_faultAtPc h2
    · extract_lets +onlyGivenNames v5
      have k6 : Kept o v5 := kept_busRead h2
      clear_value v5
      exact kept_mk.mpr k6

/-! ### Machine/LinkCmd.lean -/

theorem kept_setWire {b v s} (h3 : Kept o s) :
    Kept o (setWire b v s) := by
  unfold setWire
  split
  · exact kept_wrB h3
  · exact kept_wrB h3
  · exact kept_wrB h3
  · exact kept_wrB h3
  · exact kept_wrB h3
  · exact kept_wrB h3
  · exact kept_wrB h3
  · exact kept_wrB h3
  · exact kept_wrB h3
  · exact kept_wrB h3
  · exact kept_wrB h3
  · exact kept_wrB h3
  · exact h3

theorem kept_wiresAtReset {s} (h1 : Kept o s) :
    Kept o (wiresAtReset s) := by
  unfold wiresAtReset
  refine keptFold ?_ ?_
  · exact h1
  · intro y0 y1 y2
    exact kept_setWire y2

theorem kept_hostStarts {s0} (h1 : Kept o s0) :
    Kept o (hostStarts s0) := by
  unfold hostStarts
  extract_lets +onlyGivenNames v0
  have k1 : Kept o v0 := kept_set (kept_hostPowerState h1)
  clear_value v0
  extract_lets +onlyGivenNames v2
  have k3 : Kept o v2 := kept_wr k1
  clear_value v2
  extract_lets +onlyGivenNames v4
  have k5 : Kept o v4 := kept_wrB k3
  clear_value v4
  extract_lets +onlyGivenNames v6
  have k7 : Kept o v6 := keptIte (kept_hostUnseal (kept_wiresAtReset k5)) k5
  clear_value v6
  extract_lets +onlyGivenNames v8
  clear_value v8
  exact kept_settle (kept_mk.mpr k7)

theorem kept_answer {s r} (h1 : Kept o s) :
    Kept o (State.answer s r) := by
  unfold State.answer
  exact kept_mk.mpr h1

theorem kept_espiTxn {x serve s} (h2 : ∀ servey1, (Kept o servey1) → KeptS o (serve servey1)) (h3 : Kept o s) :
    Kept o (espiTxn x serve s) := by
  unfold espiTxn
  refine keptIte ?_ ?_
  · exact h3
  · extract_lets +onlyGivenNames v0
    have k1 : Kept o v0 := kept_snapshotEdge (kept_seen h3)
    clear_value v0
    refine keptIte ?_ ?_
    · exact kept_count (kept_answer k1)
    · extract_lets +onlyGivenNames v2
      have k3 : KeptS o v2 := h2 _ k1
      clear_value v2
      extract_lets +onlyGivenNames v4
      have k5 : Kept o v4 := kept_answer k1
      clear_value v4
      extract_lets +onlyGivenNames v6
      have k7 : Kept o v6 := keptIte (kept_count k5) k5
      clear_value v6
      exact keptIte (kept_Served_commit k3 (kept_set k7)) k7

theorem kept_refusedAs {c} : KeptS o (refusedAs c) := keptServed fun _ => id

theorem kept_readCommit {fixed off n s} (h4 : Kept o s) :
    Kept o (readCommit fixed off n s) := by
  unfold readCommit
  extract_lets +onlyGivenNames v0
  clear_value v0
  extract_lets +onlyGivenNames v1
  have k2 : Kept o v1 := kept_readParity h4
  clear_value v1
  exact kept_settle (keptIte k2 (kept_bulkReadCommit k2))

theorem kept_serveMemRead {addr len s} (h3 : Kept o s) :
    KeptS o (serveMemRead addr len s) := by
  unfold serveMemRead
  split
  · refine kept_refusedAs
  · split
    · refine kept_refusedAs
    · split
      · refine kept_refusedAs
      · split
        · refine kept_refusedAs
        · refine keptServed ?_
          intro y11 y12
          exact kept_readCommit (kept_drawn y12)

theorem kept_execMemoryRead {x addr len s} (h4 : Kept o s) :
    KeptNext o (execMemoryRead x addr len s) := by
  unfold execMemoryRead
  refine keptNext ?_
  refine kept_espiTxn ?_ ?_
  · intro y0 y1
    exact kept_serveMemRead y1
  · exact h4

theorem kept_serveMemWrite {addr data s} (h3 : Kept o s) :
    KeptS o (serveMemWrite addr data s) := by
  unfold serveMemWrite
  split
  · refine kept_refusedAs
  · split
    · refine kept_refusedAs
    · split
      · refine kept_refusedAs
      · split
        · refine kept_refusedAs
        · refine keptServed ?_
          intro y11 y12
          exact kept_commitWrites y12

theorem kept_execMemoryWrite {x addr data s} (h4 : Kept o s) :
    KeptNext o (execMemoryWrite x addr data s) := by
  unfold execMemoryWrite
  refine keptNext ?_
  refine kept_espiTxn ?_ ?_
  · intro y0 y1
    exact kept_serveMemWrite y1
  · exact h4

theorem kept_serveIoRead {port s} (h2 : Kept o s) :
    KeptS o (serveIoRead port s) := by
  unfold serveIoRead
  extract_lets +onlyGivenNames v0
  split
  · refine kept_refusedAs
  · split
    · refine keptServed ?_
      intro y5 y6
      exact kept_settle (kept_clr (kept_drawn y6))
    · refine keptServed ?_
      intro y9 y10
      exact kept_drawn y10
    · refine keptServed ?_
      intro y13 y14
      exact kept_drawn y14
    · refine keptServed ?_
      intro y17 y18
      exact kept_drawn y18
    · refine kept_refusedAs

theorem kept_execIoRead {x port s} (h3 : Kept o s) :
    KeptNext o (execIoRead x port s) := by
  unfold execIoRead
  refine keptNext ?_
  refine kept_espiTxn ?_ ?_
  · intro y0 y1
    exact kept_serveIoRead y1
  · exact h3

theorem kept_irqselWrite {v s} (h2 : Kept o s) :
    Kept o (irqselWrite v s) := by
  unfold irqselWrite
  extract_lets +onlyGivenNames v0
  clear_value v0
  extract_lets +onlyGivenNames v1
  have k2 : Kept o v1 := kept_wr h2
  clear_value v1
  exact keptIte (kept_mk.mpr k2) k2

theorem kept_cfgWrite {i v s} (h3 : Kept o s) :
    Kept o (cfgWrite i v s) := by
  unfold cfgWrite
  refine keptIte ?_ ?_
  · exact keptIte (kept_set h3) h3
  · refine keptIte ?_ ?_
    · exact h3
    · split
      · exact kept_wr (kept_wr h3)
      · exact kept_wr h3
      · exact kept_wr h3
      · exact kept_wr h3
      · exact kept_wr h3
      · exact kept_wr h3
      · exact kept_wr h3
      · exact kept_irqselWrite h3
      · exact h3

theorem kept_serveIoWrite {port b s} (h3 : Kept o s) :
    KeptS o (serveIoWrite port b s) := by
  unfold serveIoWrite
  split
  · refine kept_refusedAs
  · split
    · refine keptServed ?_
      intro y4 y5
      exact kept_ecPortWrite y5
    · refine keptServed ?_
      intro y8 y9
      exact kept_ecPortWrite y9
    · refine keptServed ?_
      intro y12 y13
      exact kept_mk.mpr y13
    · refine keptServed ?_
      intro y16 y17
      exact kept_cfgWrite y17
    · refine kept_refusedAs

theorem kept_execIoWrite {x port data s} (h4 : Kept o s) :
    KeptNext o (execIoWrite x port data s) := by
  unfold execIoWrite
  refine keptNext ?_
  refine kept_espiTxn ?_ ?_
  · intro y0 y1
    exact kept_serveIoWrite y1
  · exact h4

theorem kept_pltrstAsserted {s} (h1 : Kept o s) :
    Kept o (pltrstAsserted s) := by
  unfold pltrstAsserted
  extract_lets +onlyGivenNames v0
  have k1 : Kept o v0 := kept_clr (kept_resetConfigPair h1)
  clear_value v0
  exact kept_hostUnseal (kept_promoApply (kept_mk.mpr k1))

theorem kept_wiresMoved {before s} (h2 : Kept o s) :
    Kept o (wiresMoved before s) := by
  unfold wiresMoved
  refine keptIte ?_ ?_
  · exact h2
  · extract_lets +onlyGivenNames v0
    have k1 : Kept o v0 := kept_set h2
    clear_value v0
    extract_lets +onlyGivenNames v2
    have k3 : Kept o v2 := keptIte (kept_pltrstAsserted k1) k1
    clear_value v2
    exact kept_settle (kept_railDecode k3)

theorem kept_acknowledge {before s} (h2 : Kept o s) :
    Kept o (acknowledge before s) := by
  unfold acknowledge
  extract_lets +onlyGivenNames v0
  have k1 : Kept o v0 := keptIte (kept_oobDiscard h2) h2
  clear_value v0
  extract_lets +onlyGivenNames v2
  clear_value v2
  extract_lets +onlyGivenNames v3
  clear_value v3
  extract_lets +onlyGivenNames v4
  clear_value v4
  extract_lets +onlyGivenNames v5
  clear_value v5
  exact kept_mk.mpr k1

theorem kept_applyGroup {s p} (h1 : Kept o s) :
    Kept o (applyGroup s p) := by
  unfold applyGroup
  refine keptFold ?_ ?_
  · exact h1
  · intro y0 y1 y2
    split
    · exact keptIte (kept_setWire y2) y2
    · exact y2

theorem kept_putWires {groups s} (h2 : Kept o s) :
    Kept o (putWires groups s) := by
  unfold putWires
  extract_lets +onlyGivenNames v0
  clear_value v0
  extract_lets +onlyGivenNames v1
  clear_value v1
  extract_lets +onlyGivenNames v2
  have k3 : Kept o v2 := kept_mk.mpr h2
  clear_value v2
  refine kept_settle ?_
  refine kept_railDecode ?_
  refine kept_wiresMoved ?_
  refine kept_acknowledge ?_
  refine keptFold ?_ ?_
  · exact k3
  · intro y4 y5 y6
    exact kept_applyGroup y6

theorem kept_execPutVw {x groups s} (h3 : Kept o s) :
    KeptNext o (execPutVw x groups s) := by
  unfold execPutVw
  refine keptNext ?_
  refine kept_espiTxn ?_ ?_
  · intro y0 y1
    split
    · refine kept_refusedAs
    · refine keptServed ?_
      intro y4 y5
      exact kept_putWires y5
  · exact h3

theorem kept_getNothing : KeptS o getNothing := by
  unfold getNothing
  refine keptServed ?_
  intro y0 y1
  exact keptId y1

theorem kept_wiresTaken {out s} (h2 : Kept o s) :
    Kept o (wiresTaken out s) := by
  unfold wiresTaken
  extract_lets +onlyGivenNames v0
  clear_value v0
  exact kept_mk.mpr h2

theorem kept_execGetVw {x s} (h2 : Kept o s) :
    KeptNext o (execGetVw x s) := by
  unfold execGetVw
  refine keptNext ?_
  refine kept_espiTxn ?_ ?_
  · intro y0 y1
    split
    · refine kept_refusedAs
    · extract_lets +onlyGivenNames v4
      clear_value v4
      split
      · refine kept_getNothing
      · refine keptServed ?_
        intro y7 y8
        exact kept_wiresTaken y8
  · exact h2

theorem kept_putWords {f x2 x3 x4} (h4 : Kept o x4) :
    Kept o (putWords f x2 x3 x4) := by
  unfold putWords
  split
  · exact h4
  · refine keptFold ?_ ?_
    · exact h4
    · intro y7 y8 y9
      exact kept_wr y9

theorem kept_execPutOob {x msg s} (h3 : Kept o s) :
    KeptNext o (execPutOob x msg s) := by
  unfold execPutOob
  refine keptNext ?_
  refine kept_espiTxn ?_ ?_
  · intro y0 y1
    split
    · refine kept_refusedAs
    · split
      · refine kept_refusedAs
      · split
        · refine keptServed ?_
          intro y7 y8
          exact keptId y8
        · refine keptServed ?_
          intro y10 y11
          exact kept_set (kept_set (kept_wr (kept_putWords y11)))
  · exact h3

theorem kept_execGetOob {x s} (h2 : Kept o s) :
    KeptNext o (execGetOob x s) := by
  unfold execGetOob
  refine keptNext ?_
  refine kept_espiTxn ?_ ?_
  · intro y0 y1
    split
    · refine kept_refusedAs
    · split
      · refine keptServed ?_
        intro y5 y6
        exact kept_clr y6
      · refine kept_getNothing
  · exact h2

theorem kept_execGetStatus {x s} (h2 : Kept o s) :
    KeptNext o (execGetStatus x s) := by
  unfold execGetStatus
  refine keptNext ?_
  refine kept_espiTxn ?_ ?_
  · intro y0 y1
    refine keptServed ?_
    intro y2 y3
    exact keptId y3
  · exact h2

theorem kept_execGetConfiguration {x addr s} (h3 : Kept o s) :
    KeptNext o (execGetConfiguration x addr s) := by
  unfold execGetConfiguration
  refine keptNext ?_
  refine kept_espiTxn ?_ ?_
  · intro y0 y1
    refine keptServed ?_
    intro y2 y3
    exact keptId y3
  · exact h3

theorem kept_wireEnabled {s} (h1 : Kept o s) :
    Kept o (wireEnabled s) := by
  unfold wireEnabled
  extract_lets +onlyGivenNames v0
  clear_value v0
  extract_lets +onlyGivenNames v1
  have k2 : Kept o v1 := keptIte (kept_offer (kept_mk.mpr h1)) h1
  clear_value v1
  refine keptIte ?_ ?_
  · exact k2
  · extract_lets +onlyGivenNames v3
    clear_value v3
    extract_lets +onlyGivenNames v4
    clear_value v4
    exact kept_railDecode (kept_mk.mpr k2)

theorem kept_setConfig {addr v s} (h3 : Kept o s) :
    Kept o (setConfig addr v s) := by
  unfold setConfig
  extract_lets +onlyGivenNames v0
  clear_value v0
  split
  · extract_lets +onlyGivenNames v2
    clear_value v2
    exact kept_wr (kept_wr (kept_mk.mpr h3))
  · exact kept_mk.mpr h3
  · extract_lets +onlyGivenNames v5
    clear_value v5
    extract_lets +onlyGivenNames v6
    have k7 : Kept o v6 := kept_mk.mpr h3
    clear_value v6
    exact keptIte (kept_wireEnabled k7) k7
  · exact kept_mk.mpr h3
  · exact kept_mk.mpr h3
  · exact h3

theorem kept_execSetConfiguration {x addr v s} (h4 : Kept o s) :
    KeptNext o (execSetConfiguration x addr v s) := by
  unfold execSetConfiguration
  refine keptNext ?_
  refine kept_espiTxn ?_ ?_
  · intro y0 y1
    refine keptServed ?_
    intro y2 y3
    exact kept_setConfig y3
  · exact h4

theorem kept_execResetCommand {x s} (h2 : Kept o s) :
    KeptNext o (execResetCommand x s) := by
  unfold execResetCommand
  refine keptNext ?_
  refine kept_espiTxn ?_ ?_
  · intro y0 y1
    refine keptServed ?_
    intro y2 y3
    exact kept_resetEspi y3
  · exact h2

theorem kept_execUnsupportedCommand {x kind s} (h3 : Kept o s) :
    KeptNext o (execUnsupportedCommand x kind s) := by
  unfold execUnsupportedCommand
  refine keptNext ?_
  refine kept_espiTxn ?_ ?_
  · intro y0 y1
    split
    · refine kept_refusedAs
    · refine kept_refusedAs
    · refine kept_refusedAs
    · refine kept_refusedAs
    · refine kept_refusedAs
    · refine kept_refusedAs
    · refine kept_refusedAs
  · exact h3

theorem kept_execHoldExpiry {t s} (h2 : Kept o s) :
    KeptNext o (execHoldExpiry t s) := by
  unfold execHoldExpiry
  extract_lets +onlyGivenNames v0
  have k1 : Kept o v0 := kept_seen h2
  clear_value v0
  exact keptNext (keptIte (kept_mk.mpr k1) k1)

theorem kept_spiFrame {x quad addr len data s} (h6 : Kept o s) :
    Kept o (spiFrame x quad addr len data s) := by
  unfold spiFrame
  refine keptIte ?_ ?_
  · exact h6
  · extract_lets +onlyGivenNames v0
    have k1 : Kept o v0 := kept_snapshotEdge (kept_seen h6)
    clear_value v0
    extract_lets +onlyGivenNames v2
    clear_value v2
    refine keptIte ?_ ?_
    · exact kept_count (kept_answer k1)
    · extract_lets +onlyGivenNames v3
      have k4 : Kept o v3 := kept_set k1
      clear_value v3
      extract_lets +onlyGivenNames v5
      extract_lets +onlyGivenNames v6
      have k7 : Kept o v6 := keptIte (kept_count k4) k4
      clear_value v6
      extract_lets +onlyGivenNames v8
      have k9 : Kept o v8 := keptIte k7 (kept_count k7)
      clear_value v8
      extract_lets +onlyGivenNames v10
      clear_value v10
      extract_lets +onlyGivenNames v11
      clear_value v11
      split
      · extract_lets +onlyGivenNames v14
        have k15 : Kept o v14 := kept_answer k9
        clear_value v14
        exact keptIte (kept_commitWrites k15) k15
      · refine keptIte ?_ ?_
        · extract_lets +onlyGivenNames v17
          clear_value v17
          extract_lets +onlyGivenNames v18
          clear_value v18
          exact kept_readCommit (kept_answer k9)
        · exact kept_answer k9

theorem kept_execSingleReadFrame {x addr len s} (h4 : Kept o s) :
    KeptNext o (execSingleReadFrame x addr len s) := by
  unfold execSingleReadFrame
  exact keptNext (kept_spiFrame h4)

theorem kept_execSingleWriteFrame {x addr data s} (h4 : Kept o s) :
    KeptNext o (execSingleWriteFrame x addr data s) := by
  unfold execSingleWriteFrame
  exact keptNext (kept_spiFrame h4)

theorem kept_execQuadReadFrame {x addr len s} (h4 : Kept o s) :
    KeptNext o (execQuadReadFrame x addr len s) := by
  unfold execQuadReadFrame
  exact keptNext (kept_spiFrame h4)

theorem kept_execQuadWriteFrame {x addr data s} (h4 : Kept o s) :
    KeptNext o (execQuadWriteFrame x addr data s) := by
  unfold execQuadWriteFrame
  exact keptNext (kept_spiFrame h4)

theorem kept_execUnknownOpcode {x s} (h2 : Kept o s) :
    KeptNext o (execUnknownOpcode x s) := by
  unfold execUnknownOpcode
  exact keptNext (keptIte h2 (kept_count (kept_answer (kept_snapshotEdge (kept_seen h2)))))

theorem kept_execHostReset {t s} (h2 : Kept o s) :
    KeptNext o (execHostReset t s) := by
  unfold execHostReset
  extract_lets +onlyGivenNames v0
  have k1 : Kept o v0 := kept_seen h2
  clear_value v0
  refine keptNext ?_
  refine keptIte ?_ ?_
  · exact k1
  · extract_lets +onlyGivenNames v2
    have k3 : Kept o v2 := kept_flashHostReset (kept_oobDiscard (kept_resetConfigPair (kept_resetEspi (kept_settle
        k1))))
    clear_value v2
    extract_lets +onlyGivenNames v4
    have k5 : Kept o v4 := kept_clr (kept_clr k3)
    clear_value v4
    extract_lets +onlyGivenNames v6
    have k7 : Kept o v6 := kept_wr (kept_clr k5)
    clear_value v6
    extract_lets +onlyGivenNames v8
    have k9 : Kept o v8 := by
      unfold v8
      split
      · exact kept_set (kept_postAbort k7)
      · exact k7
    clear_value v8
    extract_lets +onlyGivenNames v15
    have k16 : Kept o v15 := kept_bulkClearErr (kept_bulkFlush k9)
    clear_value v15
    extract_lets +onlyGivenNames v17
    have k18 : Kept o v17 := kept_clr (kept_clr (kept_clr k16))
    clear_value v17
    extract_lets +onlyGivenNames v19
    have k20 : Kept o v19 := kept_clr k18
    clear_value v19
    extract_lets +onlyGivenNames v21
    clear_value v21
    extract_lets +onlyGivenNames v22
    clear_value v22
    extract_lets +onlyGivenNames v23
    have k24 : Kept o v23 := kept_mk.mpr k20
    clear_value v23
    extract_lets +onlyGivenNames v25
    clear_value v25
    extract_lets +onlyGivenNames v26
    have k27 : Kept o v26 := keptIte (kept_wiresAtReset k24) k24
    clear_value v26
    extract_lets +onlyGivenNames v28
    have k29 : Kept o v28 := keptIte k27 (kept_set k27)
    clear_value v28
    extract_lets +onlyGivenNames v30
    have k31 : Kept o v30 := keptIte (kept_hostUnseal k29) k29
    clear_value v30
    exact kept_settle (kept_set k31)

theorem kept_execHostPowerUp {t s} (h2 : Kept o s) :
    KeptNext o (execHostPowerUp t s) := by
  unfold execHostPowerUp
  extract_lets +onlyGivenNames v0
  have k1 : Kept o v0 := kept_seen h2
  clear_value v0
  refine keptNext ?_
  refine keptIte ?_ ?_
  · exact k1
  · extract_lets +onlyGivenNames v2
    clear_value v2
    extract_lets +onlyGivenNames v3
    have k4 : Kept o v3 := kept_mk.mpr k1
    clear_value v3
    refine keptIte ?_ ?_
    · exact k4
    · extract_lets +onlyGivenNames v5
      have k6 : Kept o v5 := kept_hostStarts k4
      clear_value v5
      extract_lets +onlyGivenNames v7
      clear_value v7
      extract_lets +onlyGivenNames v8
      have k9 : Kept o v8 := keptIte (kept_set k6) (kept_mk.mpr k6)
      clear_value v8
      exact kept_wakeFire k9

theorem kept_hostStops {s} (h1 : Kept o s) :
    Kept o (hostStops s) := by
  unfold hostStops
  extract_lets +onlyGivenNames v0
  clear_value v0
  extract_lets +onlyGivenNames v1
  have k2 : Kept o v1 := kept_flashHostReset h1
  clear_value v1
  extract_lets +onlyGivenNames v3
  have k4 : Kept o v3 := kept_hostPowerState (kept_clr (kept_clr k2))
  clear_value v3
  extract_lets +onlyGivenNames v5
  have k6 : Kept o v5 := kept_wr (kept_wr (kept_clr k4))
  clear_value v5
  extract_lets +onlyGivenNames v7
  have k8 : Kept o v7 := kept_clr (kept_clr k6)
  clear_value v7
  extract_lets +onlyGivenNames v9
  have k10 : Kept o v9 := keptIte (kept_set k8) k8
  clear_value v9
  extract_lets +onlyGivenNames v11
  have k12 : Kept o v11 := keptIte (kept_hostUnseal (kept_wiresAtReset k10)) k10
  clear_value v11
  exact kept_set k12

theorem kept_execHostPowerLoss {t s} (h2 : Kept o s) :
    KeptNext o (execHostPowerLoss t s) := by
  unfold execHostPowerLoss
  extract_lets +onlyGivenNames v0
  have k1 : Kept o v0 := kept_seen h2
  clear_value v0
  extract_lets +onlyGivenNames v2
  clear_value v2
  extract_lets +onlyGivenNames v3
  have k4 : Kept o v3 := kept_mk.mpr k1
  clear_value v3
  exact keptNext (keptIte (kept_hostStops k4) k4)

theorem kept_execPostOpen {v s} (h2 : Kept o s) :
    KeptNext o (execPostOpen v s) := by
  unfold execPostOpen
  refine keptNext ?_
  refine kept_coreStore ?_ ?_
  · intro y0 y1
    exact kept_hostPostWrite y1
  · exact h2

theorem kept_execPostClose {v s} (h2 : Kept o s) :
    KeptNext o (execPostClose v s) := by
  unfold execPostClose
  refine keptNext ?_
  refine kept_coreStore ?_ ?_
  · intro y0 y1
    exact kept_hostPostWrite y1
  · exact h2

theorem kept_execPostAbort {v s} (h2 : Kept o s) :
    KeptNext o (execPostAbort v s) := by
  unfold execPostAbort
  refine keptNext ?_
  refine kept_coreStore ?_ ?_
  · intro y0 y1
    exact kept_hostPostWrite y1
  · exact h2

theorem kept_execApertureWrite {off v s} (h3 : Kept o s) :
    KeptNext o (execApertureWrite off v s) := by
  unfold execApertureWrite
  refine keptNext ?_
  refine kept_coreStore ?_ ?_
  · intro y0 y1
    exact kept_apertureWrite y1
  · exact h3

theorem kept_execHostWinen {v s} (h2 : Kept o s) :
    KeptNext o (execHostWinen v s) := by
  unfold execHostWinen
  refine keptNext ?_
  refine kept_coreStore ?_ ?_
  · intro y0 y1
    exact kept_hostWrite y1
  · exact h2

theorem kept_execOobRel {v s} (h2 : Kept o s) :
    KeptNext o (execOobRel v s) := by
  unfold execOobRel
  refine keptNext ?_
  refine kept_coreStore ?_ ?_
  · intro y0 y1
    exact kept_oobRxWrite y1
  · exact h2

theorem kept_execOobGo {v s} (h2 : Kept o s) :
    KeptNext o (execOobGo v s) := by
  unfold execOobGo
  refine keptNext ?_
  refine kept_coreStore ?_ ?_
  · intro y0 y1
    exact kept_oobTxWrite y1
  · exact h2

theorem kept_execHostVwout {v s} (h2 : Kept o s) :
    KeptNext o (execHostVwout v s) := by
  unfold execHostVwout
  refine keptNext ?_
  refine kept_coreStore ?_ ?_
  · intro y0 y1
    exact kept_vwoutWrite y1
  · exact h2

theorem kept_execHostErrcntRead {s} (h1 : Kept o s) :
    KeptNext o (execHostErrcntRead s) := by
  unfold execHostErrcntRead
  exact keptNext (kept_coreLoad h1)

theorem kept_execMbxTake {v s} (h2 : Kept o s) :
    KeptNext o (execMbxTake v s) := by
  unfold execMbxTake
  refine keptNext ?_
  refine kept_coreStore ?_ ?_
  · intro y0 y1
    exact kept_mbxTake y1
  · exact h2

theorem kept_execFwready {v s} (h2 : Kept o s) :
    KeptNext o (execFwready v s) := by
  unfold execFwready
  refine keptNext ?_
  refine kept_coreStore ?_ ?_
  · intro y0 y1
    exact kept_mbxCtrlWrite y1
  · exact h2

theorem kept_execMbxDone {v s} (h2 : Kept o s) :
    KeptNext o (execMbxDone v s) := by
  unfold execMbxDone
  refine keptNext ?_
  refine kept_coreStore ?_ ?_
  · intro y0 y1
    exact kept_mbxWrite y1
  · exact h2

theorem kept_execDirectWindowWrite {off v s} (h3 : Kept o s) :
    KeptNext o (execDirectWindowWrite off v s) := by
  unfold execDirectWindowWrite
  refine keptNext ?_
  refine kept_coreStore ?_ ?_
  · intro y0 y1
    exact kept_directWrite y1
  · exact h3

theorem kept_ecSequence {x cmd data s} (h4 : Kept o s) :
    Kept o (ecSequence x cmd data s) := by
  unfold ecSequence
  extract_lets +onlyGivenNames v0
  have k1 : Kept o v0 := by
    unfold v0
    refine kept_espiTxn ?_ ?_
    · intro y2 y3
      exact kept_serveIoWrite y3
    · exact h4
  clear_value v0
  refine keptFold ?_ ?_
  · exact k1
  · intro y4 y5 y6
    refine kept_espiTxn ?_ ?_
    · intro y7 y8
      exact kept_serveIoWrite y8
    · exact y6

theorem kept_execRdEc {x addr s} (h3 : Kept o s) :
    KeptNext o (execRdEc x addr s) := by
  unfold execRdEc
  exact keptNext (kept_ecSequence h3)

theorem kept_execWrEc {x addr data s} (h4 : Kept o s) :
    KeptNext o (execWrEc x addr data s) := by
  unfold execWrEc
  exact keptNext (kept_ecSequence h4)

theorem kept_execBeEc {x s} (h2 : Kept o s) :
    KeptNext o (execBeEc x s) := by
  unfold execBeEc
  exact keptNext (kept_ecSequence h2)

theorem kept_execBdEc {x s} (h2 : Kept o s) :
    KeptNext o (execBdEc x s) := by
  unfold execBdEc
  exact keptNext (kept_ecSequence h2)

theorem kept_execQrEc {x s} (h2 : Kept o s) :
    KeptNext o (execQrEc x s) := by
  unfold execQrEc
  exact keptNext (kept_ecSequence h2)

theorem kept_execEcForwardedCommand {x cmd data s} (h4 : Kept o s) :
    KeptNext o (execEcForwardedCommand x cmd data s) := by
  unfold execEcForwardedCommand
  exact keptNext (keptIte h4 (kept_ecSequence h4))

theorem kept_execMbxEcout {v s} (h2 : Kept o s) :
    KeptNext o (execMbxEcout v s) := by
  unfold execMbxEcout
  refine keptNext ?_
  refine kept_coreStore ?_ ?_
  · intro y0 y1
    exact kept_mbxWrite y1
  · exact h2

theorem kept_execMbxEcqpush {v s} (h2 : Kept o s) :
    KeptNext o (execMbxEcqpush v s) := by
  unfold execMbxEcqpush
  refine keptNext ?_
  refine kept_coreStore ?_ ?_
  · intro y0 y1
    exact kept_mbxWrite y1
  · exact h2

theorem kept_execEcImageWrite {off v s} (h3 : Kept o s) :
    KeptNext o (execEcImageWrite off v s) := by
  unfold execEcImageWrite
  refine keptNext ?_
  refine kept_coreStore ?_ ?_
  · intro y0 y1
    exact kept_mbxWrite y1
  · exact h3

theorem kept_execMbxEcinRead {s} (h1 : Kept o s) :
    KeptNext o (execMbxEcinRead s) := by
  unfold execMbxEcinRead
  exact keptNext (kept_coreLoad h1)

theorem kept_execMbxEcwqRead {s} (h1 : Kept o s) :
    KeptNext o (execMbxEcwqRead s) := by
  unfold execMbxEcwqRead
  exact keptNext (kept_coreLoad h1)

theorem kept_execMbxCntRead {s} (h1 : Kept o s) :
    KeptNext o (execMbxCntRead s) := by
  unfold execMbxCntRead
  exact keptNext (kept_coreLoad h1)

theorem kept_execMbxBulkrd {s} (h1 : Kept o s) :
    KeptNext o (execMbxBulkrd s) := by
  unfold execMbxBulkrd
  exact keptNext (kept_coreLoad h1)

theorem kept_execMbxBulkwr {v s} (h2 : Kept o s) :
    KeptNext o (execMbxBulkwr v s) := by
  unfold execMbxBulkwr
  refine keptNext ?_
  refine kept_coreStore ?_ ?_
  · intro y0 y1
    exact kept_bulkWr y1
  · exact h2

theorem kept_execMbxBulkack {v s} (h2 : Kept o s) :
    KeptNext o (execMbxBulkack v s) := by
  unfold execMbxBulkack
  refine keptNext ?_
  refine kept_coreStore ?_ ?_
  · intro y0 y1
    exact kept_mbxWrite y1
  · exact h2

theorem kept_execHostSignalGpio {t wire asserted s} (h4 : Kept o s) :
    KeptNext o (execHostSignalGpio t wire asserted s) := by
  unfold execHostSignalGpio
  extract_lets +onlyGivenNames v0
  have k1 : Kept o v0 := kept_seen h4
  clear_value v0
  refine keptNext ?_
  refine keptIte ?_ ?_
  · exact k1
  · extract_lets +onlyGivenNames v2
    clear_value v2
    exact kept_wiresMoved (kept_setWire (kept_mk.mpr k1))

/-! ### Machine/SysReset.lean -/

theorem kept_resetOutside {rs s} (h2 : Kept o s) : Kept o (resetOutside rs s) := kept_fieldsMerge h2 wf_resetCells

theorem kept_coreLost {keep s} (h2 : Kept o s) :
    Kept o (coreLost keep s) := by
  unfold coreLost
  extract_lets +onlyGivenNames v0
  clear_value v0
  extract_lets +onlyGivenNames v1
  clear_value v1
  extract_lets +onlyGivenNames v2
  have k3 : Kept o v2 := kept_reverseStop h2
  clear_value v2
  extract_lets +onlyGivenNames v4
  clear_value v4
  extract_lets +onlyGivenNames v5
  clear_value v5
  extract_lets +onlyGivenNames v6
  have k7 : Kept o v6 := kept_fgdDomainReset (kept_logDomainReset k3)
  clear_value v6
  extract_lets +onlyGivenNames v8
  have k9 : Kept o v8 := kept_fwReadyLost (kept_vwoutWrite (kept_postAbort k7))
  clear_value v8
  extract_lets +onlyGivenNames v10
  have k11 : Kept o v10 := kept_pdDomainReset (kept_pwrDomainReset (kept_holdTerms k9))
  clear_value v10
  extract_lets +onlyGivenNames v12
  have k13 : Kept o v12 := kept_clr (kept_resetOutside k11)
  clear_value v12
  extract_lets +onlyGivenNames v14
  have k15 : Kept o v14 := keptIte (kept_set (kept_wr k13)) k13
  clear_value v14
  extract_lets +onlyGivenNames v16
  have k17 : Kept o v16 := kept_senseFuses (kept_secDomainReset k15)
  clear_value v16
  extract_lets +onlyGivenNames v18
  have k19 : Kept o v18 := kept_kbdCoreLost (kept_floeDomainReset (kept_thmDomainReset (kept_chgDomainReset k17)))
  clear_value v18
  exact kept_settle (kept_mk.mpr k19)

theorem kept_showClocks {s} (h1 : Kept o s) :
    Kept o (showClocks s) := by
  unfold showClocks
  exact kept_wrB (kept_wrB h1)

theorem kept_coldState {s} (h2 : Kept o s) : Kept o (coldState s) := by
  have h1 := kept_fgdDomainReset (kept_nvcInterrupted h2)
  exact ⟨fun _ => wf_resetCells, fun _ => rfl, h1.2.2.1, h1.2.2.2.1, h1.2.2.2.2⟩

theorem kept_offCarriedOut {s} (h1 : Kept o s) :
    Kept o (offCarriedOut s) := by
  unfold offCarriedOut
  split
  · exact h1
  · extract_lets +onlyGivenNames v4
    have k5 : Kept o v4 := kept_coreLost (kept_holdRails h1)
    clear_value v4
    exact kept_showClocks (kept_mk.mpr k5)
  · extract_lets +onlyGivenNames v8
    have k9 : Kept o v8 := kept_coldState (keptIte h1 (kept_recordWritten h1))
    clear_value v8
    exact kept_mk.mpr k9

theorem kept_seeInputs {old s} (h2 : Kept o s) :
    Kept o (seeInputs old s) := by
  unfold seeInputs
  refine keptFold ?_ ?_
  · exact h2
  · intro y0 y1 y2
    exact kept_inputSeen y2

theorem kept_hostRestarts {s} (h1 : Kept o s) :
    Kept o (hostRestarts s) := by
  unfold hostRestarts
  exact keptIte (kept_hostStarts h1) h1

theorem kept_sampleStraps {s} (h1 : Kept o s) :
    Kept o (sampleStraps s) := by
  unfold sampleStraps
  extract_lets +onlyGivenNames v0
  clear_value v0
  extract_lets +onlyGivenNames v1
  clear_value v1
  exact kept_wrB (kept_wr (kept_wr h1))

theorem kept_coldReset {causes start s} (h3 : Kept o s) : Kept o (coldReset causes start s) :=
  kept_showClocks (kept_seeInputs (kept_hostRestarts (kept_senseFuses (kept_sampleStraps (kept_mk.mpr
      (kept_coldState h3))))))

theorem kept_domainReset {causes s} (h2 : Kept o s) :
    Kept o (domainReset causes s) := by
  unfold domainReset
  extract_lets +onlyGivenNames v0
  clear_value v0
  extract_lets +onlyGivenNames v1
  have k2 : Kept o v1 := kept_coreLost (kept_set (kept_holdRails h2))
  clear_value v1
  exact kept_showClocks (kept_mk.mpr k2)

theorem kept_requestedReset {r s} (h2 : Kept o s) :
    Kept o (requestedReset r s) := by
  unfold requestedReset
  refine keptIte ?_ ?_
  · split
    · exact kept_domainReset h2
    · exact kept_coldReset (kept_drawn h2)
  · exact h2

theorem kept_brownedOut {s} (h1 : Kept o s) :
    Kept o (brownedOut s) := by
  unfold brownedOut
  extract_lets +onlyGivenNames v0
  clear_value v0
  extract_lets +onlyGivenNames v1
  have k2 : Kept o v1 := kept_coldState h1
  clear_value v1
  exact kept_hostRestarts (kept_wr (kept_mk.mpr k2))

theorem kept_coreFresh {s} (h1 : Kept o s) :
    Kept o (coreFresh s) := by
  unfold coreFresh
  extract_lets +onlyGivenNames v0
  clear_value v0
  extract_lets +onlyGivenNames v1
  extract_lets +onlyGivenNames v2
  have k3 : Kept o v2 := kept_mk.mpr h1
  clear_value v2
  extract_lets +onlyGivenNames v4
  have k5 : Kept o v4 := kept_senseFuses (kept_secDomainReset (kept_clr (kept_resetOutside k3)))
  clear_value v4
  extract_lets +onlyGivenNames v6
  have k7 : Kept o v6 := kept_pdDomainReset (kept_chgDomainReset k5)
  clear_value v6
  exact keptIte (kept_set (kept_wr k7)) k7

theorem kept_v18Good {s} (h1 : Kept o s) :
    Kept o (v18Good s) := by
  unfold v18Good
  refine keptIte ?_ ?_
  · extract_lets +onlyGivenNames v0
    have k1 : Kept o v0 := kept_coreFresh h1
    clear_value v0
    exact kept_showClocks (kept_mk.mpr k1)
  · exact h1

theorem kept_v18Timeout {s} (h1 : Kept o s) :
    Kept o (v18Timeout s) := by
  unfold v18Timeout
  refine keptIte ?_ ?_
  · exact h1
  · extract_lets +onlyGivenNames v0
    clear_value v0
    extract_lets +onlyGivenNames v1
    have k2 : Kept o v1 := kept_wr (kept_wr (kept_clr h1))
    clear_value v1
    extract_lets +onlyGivenNames v3
    clear_value v3
    extract_lets +onlyGivenNames v4
    have k5 : Kept o v4 := keptIte (kept_mk.mpr k2) h1
    clear_value v4
    extract_lets +onlyGivenNames v6
    have k7 : Kept o v6 := keptIte k5 (kept_set k5)
    clear_value v6
    exact kept_mk.mpr k7

theorem kept_v18Retry {s} (h1 : Kept o s) :
    Kept o (v18Retry s) := by
  unfold v18Retry
  exact keptIte (kept_mk.mpr h1) h1

theorem kept_wipeComplete {s} (h1 : Kept o s) :
    Kept o (wipeComplete s) := by
  unfold wipeComplete
  refine keptIte ?_ ?_
  · exact h1
  · extract_lets +onlyGivenNames v0
    have k1 : Kept o v0 := kept_wipe (kept_wipe (kept_wipe h1))
    clear_value v0
    extract_lets +onlyGivenNames v2
    have k3 : Kept o v2 := kept_logRelease (kept_recordCauses k1)
    clear_value v2
    extract_lets +onlyGivenNames v4
    have k5 : Kept o v4 := keptIte (kept_set k3) k3
    clear_value v4
    exact kept_mk.mpr k5

theorem kept_retainedZeroed {s} (h1 : Kept o s) :
    Kept o (retainedZeroed s) := by
  unfold retainedZeroed
  extract_lets +onlyGivenNames v0
  have k1 : Kept o v0 := kept_wipe h1
  clear_value v0
  exact kept_mk.mpr k1

end Sys2Proof.Machine
end

