-- ==== Sys2Proof/Laws/KeptKpf1.lean ====
section
/-! SUPPORT. What the operations keep (Laws/Kept.lean): KPF: its store, mail, updates, Floe, charging and system commands. -/

namespace Sys2Proof.Machine

variable {o : State}

/-! ### Machine/Store.lean -/

theorem kept_sessionNew {kind id digest plen s} (h5 : Kept o s) :
    Kept o (sessionNew kind id digest plen s) := by
  unfold sessionNew
  extract_lets +onlyGivenNames v0
  have k1 : Kept o v0 := kept_eraseFirn h5
  clear_value v0
  extract_lets +onlyGivenNames v2
  clear_value v2
  exact kept_programFirn k1

theorem kept_mark {m s} (h2 : Kept o s) :
    Kept o (mark m s) := by
  unfold mark
  exact kept_programWord h2

theorem kept_packageWrite {recovery s} (h2 : Kept o s) :
    Kept o (packageWrite recovery s).2 := by
  unfold packageWrite
  extract_lets +onlyGivenNames v0
  clear_value v0
  extract_lets +onlyGivenNames v1
  clear_value v1
  extract_lets +onlyGivenNames v2
  have k3 : Kept o v2 := keptIte h2 (kept_kpfScan h2)
  clear_value v2
  extract_lets +onlyGivenNames v4
  clear_value v4
  extract_lets +onlyGivenNames v5
  clear_value v5
  extract_lets +onlyGivenNames v6
  clear_value v6
  extract_lets +onlyGivenNames v7
  have k8 : Kept o v7 := kept_programFirn (kept_eraseFirn k3)
  clear_value v7
  exact keptSnd k8

theorem kept_openSector {gen s} (h2 : Kept o s) :
    Kept o (openSector gen s).2 := by
  unfold openSector
  split
  · exact keptSnd h2
  · extract_lets +onlyGivenNames v5
    clear_value v5
    exact keptSnd (kept_programFirn h2)

theorem kept_putRecord {r s} (h2 : Kept o s) :
    Kept o (putRecord r s).2 := by
  unfold putRecord
  extract_lets +onlyGivenNames v0
  clear_value v0
  extract_lets +onlyGivenNames v1
  have k2 : ∀ v1y1, Kept o (v1 v1y1).2 := by
    intro y3
    unfold v1
    split
    · rename_i a7
      refine keptVia_2 (o := o) a7 ?_ (fun k8 => ?_)
      · exact kept_openSector h2
      clear a7
      exact keptSnd (kept_programFirn k8)
    · rename_i a11
      refine keptVia_2 (o := o) a11 ?_ (fun k12 => ?_)
      · exact kept_openSector h2
      clear a11
      exact keptSnd k12
  clear_value v1
  split
  · refine k2 _
  · split
    · exact keptSnd (kept_programFirn h2)
    · refine k2 _

theorem kept_compact {x1 x2} (h2 : Kept o x2) :
    Kept o (compact x1 x2) := by
  fun_induction compact x1 x2
  · exact h2
  · exact h2
  · exact h2
  · rename_i a14 _ a16
    refine a16 ?_
    refine kept_eraseFirn ?_
    unfold a14
    refine keptFoldSnd ?_ ?_
    · exact keptSnd h2
    · intro y17 y18 y19
      split
      · exact kept_putRecord y19
      · exact y19
  · rename_i a28 _
    unfold a28
    refine keptFoldSnd ?_ ?_
    · exact keptSnd h2
    · intro y30 y31 y32
      split
      · exact kept_putRecord y32
      · exact y32

theorem kept_storeRecord {r s} (h2 : Kept o s) :
    Kept o (storeRecord r s).2 := by
  unfold storeRecord
  extract_lets +onlyGivenNames v0
  have k1 : Kept o v0.2 := kept_putRecord (kept_compact h2)
  clear_value v0
  exact keptSnd (kept_compact k1)

theorem kept_prepareSettings {s} (h1 : Kept o s) :
    Kept o (prepareSettings s).2 := by
  unfold prepareSettings
  refine keptFoldSnd ?_ ?_
  · exact keptSnd (kept_kpfScan h1)
  · intro y0 y1 y2
    split
    · split
      · exact y2
      · exact kept_storeRecord y2
    · exact y2

theorem kept_putBoot {rec sec w s} (h4 : Kept o s) :
    Kept o (putBoot rec sec w s) := by
  unfold putBoot
  split
  · exact kept_programWord h4
  · exact kept_programWord (kept_eraseFirn h4)

theorem kept_appendBoot {slot prev state s} (h4 : Kept o s) :
    Kept o (appendBoot slot prev state s) := by
  unfold appendBoot
  split
  · exact kept_putBoot h4
  · exact kept_putBoot (kept_drawn h4)

theorem kept_readAtStart {s} (h1 : Kept o s) :
    Kept o (readAtStart s) := by
  unfold readAtStart
  extract_lets +onlyGivenNames v0
  have k1 : Kept o v0 := kept_kpfScan h1
  clear_value v0
  extract_lets +onlyGivenNames v2
  clear_value v2
  exact kept_mk.mpr k1

theorem kept_writeSetting {key value deleted s} (h4 : Kept o s) :
    Kept o (writeSetting key value deleted s).2 := by
  unfold writeSetting
  extract_lets +onlyGivenNames v0
  have k1 : Kept o v0 := kept_kpfScan h4
  clear_value v0
  extract_lets +onlyGivenNames v2
  have k3 : Kept o v2.2 := kept_storeRecord k1
  clear_value v2
  split
  · split
    · exact kept_storeRecord k3
    · exact k3
  · exact k3

/-! ### Machine/Kpf.lean -/

theorem kept_kNo {result s} (h2 : Kept o s) :
    Kept o (kNo result s).2 := by
  unfold kNo
  exact keptSnd h2

theorem kept_withKpf {f s} (h2 : Kept o s) :
    Kept o (withKpf f s) := by
  unfold withKpf
  exact kept_mk.mpr h2

theorem kept_kPost {q s} (h2 : Kept o s) :
    Kept o (kPost q s) := by
  unfold kPost
  refine keptIte ?_ ?_
  · exact kept_withKpf h2
  · extract_lets +onlyGivenNames v0
    clear_value v0
    extract_lets +onlyGivenNames v1
    clear_value v1
    exact kept_withKpf (kept_postClose (kept_postItem (kept_postOpen h2)))

theorem kept_kPage {s} (h1 : Kept o s) :
    Kept o (kPage s) := by
  unfold kPage
  exact keptIte h1 (kept_kPost h1)

theorem kept_kEvent {e bit s} (h3 : Kept o s) :
    Kept o (kEvent e bit s) := by
  unfold kEvent
  refine keptIte ?_ ?_
  · exact h3
  · refine keptIte ?_ ?_
    · exact kept_kPage (kept_withKpf h3)
    · extract_lets +onlyGivenNames v0
      clear_value v0
      extract_lets +onlyGivenNames v1
      clear_value v1
      exact kept_kPost (kept_withKpf h3)

theorem kept_kOk {resp s} (h2 : Kept o s) :
    Kept o (kOk resp s).2 := by
  unfold kOk
  exact keptSnd h2

theorem kept_kQuery {c s} (h2 : Kept o s) :
    Kept o (kQuery c s) := by
  unfold kQuery
  exact kept_withKpf h2

theorem kept_kAnswer {t result resp nostore s} (h5 : Kept o s) :
    Kept o (kAnswer t result resp nostore s) := by
  unfold kAnswer
  extract_lets +onlyGivenNames v0
  clear_value v0
  extract_lets +onlyGivenNames v1
  have k2 : Kept o v1 := kept_mk.mpr h5
  clear_value v1
  refine keptIte ?_ ?_
  · exact k2
  · extract_lets +onlyGivenNames v3
    have k4 : Kept o v3 := kept_storeNat (kept_setByte k2)
    clear_value v3
    extract_lets +onlyGivenNames v5
    have k6 : Kept o v5 := kept_setBytes k4
    clear_value v5
    extract_lets +onlyGivenNames v7
    have k8 : Kept o v7 := kept_withKpf k6
    clear_value v7
    exact kept_kPost k8

theorem kept_kWaited {result resp s} (h3 : Kept o s) :
    Kept o (kWaited result resp s) := by
  unfold kWaited
  split
  · exact kept_kAnswer (kept_withKpf h3)
  · exact h3

theorem kept_kResend {t s} (h2 : Kept o s) :
    Kept o (kResend t s) := by
  unfold kResend
  split
  · exact kept_kAnswer h2
  · exact kept_kAnswer h2

theorem kept_answerTaken {s} (h1 : Kept o s) :
    Kept o (answerTaken s) := by
  unfold answerTaken
  refine keptFold ?_ ?_
  · exact h1
  · intro y0 y1 y2
    exact keptIte (kept_kResend y2) (kept_kAnswer y2)

theorem kept_handBlock {toSlot s} (h2 : Kept o s) :
    Kept o (handBlock toSlot s) := by
  unfold handBlock
  extract_lets +onlyGivenNames v0
  clear_value v0
  extract_lets +onlyGivenNames v1
  clear_value v1
  exact kept_setBytes h2

theorem kept_kWrite {a fs s} (h3 : Kept o s) :
    Kept o (kWrite a fs s) := by
  unfold kWrite
  exact kept_busWrite h3

theorem kept_kField {f v s} (h3 : Kept o s) :
    Kept o (kField f v s) := by
  unfold kField
  exact kept_kWrite h3

theorem kept_handOverNow {s} (h1 : Kept o s) :
    Kept o (handOverNow s) := by
  unfold handOverNow
  exact kept_busWrite (kept_answerTaken (kept_kField h1))

theorem kept_handOverTo {toSlot between s} (h2 : ∀ betweeny1, (Kept o betweeny1) → Kept o (between betweeny1)) (h3 :
    Kept o s) :
    Kept o (handOverTo toSlot between s).2 := by
  unfold handOverTo
  split
  · rename_i a2
    refine keptVia_2 (o := o) a2 ?_ (fun k3 => ?_)
    · exact kept_prepareSettings (kept_handBlock h3)
    clear a2
    exact keptSnd (kept_handOverNow (h2 _ k3))
  · rename_i a6
    refine keptVia_2 (o := o) a6 ?_ (fun k7 => ?_)
    · exact kept_prepareSettings (kept_handBlock h3)
    clear a6
    exact keptSnd (kept_setBytes k7)

theorem kept_kComplete {code result data s} (h4 : Kept o s) :
    Kept o (kComplete code result data s) := by
  unfold kComplete
  split
  · exact h4
  · exact kept_kEvent (kept_withKpf h4)

theorem kept_kRecord {what s} (h2 : Kept o s) :
    Kept o (kRecord what s) := by
  unfold kRecord
  exact kept_commitRecord (kept_drawn h2)

theorem kept_kSet {f v s} (h3 : Kept o s) :
    Kept o (kSet f v s) := by
  unfold kSet
  exact keptIte h3 (kept_kField h3)

theorem kept_kTake {s} (h1 : Kept o s) :
    Kept o (kTake s) := by
  unfold kTake
  exact kept_mbxTake (kept_mk.mpr h1)

theorem kept_kReached {t serve s} (h2 : ∀ servey1, (Kept o servey1) → Kept o (serve servey1)) (h3 : Kept o s) :
    Kept o (kReached t serve s) := by
  unfold kReached
  exact keptIte (kept_kResend h3) (keptIte (kept_kAnswer (kept_set (kept_set h3))) (h2 _ h3))

theorem kept_kServe {r act after t s} (h2 : ∀ acty1 acty2, (Kept o acty2) → Kept o (act acty1 acty2).2) (h3 : ∀
    aftery1 aftery2, (Kept o aftery2) → Kept o (after aftery1 aftery2)) (h5 : Kept o s) :
    Kept o (kServe r act after t s) := by
  unfold kServe
  refine kept_kReached ?_ ?_
  · intro y0 y1
    extract_lets +onlyGivenNames v2
    clear_value v2
    split
    · exact kept_kAnswer y1
    · split
      · rename_i a12
        refine keptVia_2 (o := o) a12 ?_ (fun k13 => ?_)
        · exact h2 _ _ y1
        clear a12
        exact h3 _ _ (kept_kAnswer k13)
      · rename_i a16
        refine keptVia_2 (o := o) a16 ?_ (fun k17 => ?_)
        · exact h2 _ _ y1
        clear a16
        exact k17
  · exact h5

theorem kept_kCommand {code act after tag s0} (h2 : ∀ acty1 acty2, (Kept o acty2) → Kept o (act acty1 acty2).2) (h3
    : ∀ aftery1 aftery2, (Kept o aftery2) → Kept o (after aftery1 aftery2)) (h5 : Kept o s0) :
    Kept o (kCommand code act after tag s0) := by
  unfold kCommand
  refine keptIte ?_ ?_
  · exact h5
  · extract_lets +onlyGivenNames v0
    have k1 : Kept o v0 := kept_kTake h5
    clear_value v0
    split
    · refine keptIte ?_ ?_
      · refine kept_kServe ?_ ?_ ?_
        · intro y10 y11 y12
          exact h2 _ _ y12
        · intro y13 y14 y15
          exact h3 _ _ y15
        · exact k1
      · exact k1
    · exact k1

theorem kept_noMore {x1 s} (h2 : Kept o s) :
    Kept o (noMore x1 s) := by
  unfold noMore
  exact h2

theorem kept_restartRunning {s} (h1 : Kept o s) :
    Kept o (restartRunning s) := by
  unfold restartRunning
  refine kept_handOverTo ?_ ?_
  · intro y0 y1
    exact keptId y1
  · exact h1

theorem kept_kJob {code q due arg data s} (h6 : Kept o s) :
    Kept o (kJob code q due arg data s).2 := by
  unfold kJob
  exact keptSnd (kept_withKpf h6)

theorem kept_kCollect {fs s} (h2 : Kept o s) :
    Kept o (kCollect fs s) := by
  unfold kCollect
  split
  · exact h2
  · extract_lets +onlyGivenNames v4
    clear_value v4
    extract_lets +onlyGivenNames v5
    have k6 : Kept o v5 := kept_busRead h2
    clear_value v5
    exact kept_withKpf k6

theorem kept_kWait {w s} (h2 : Kept o s) :
    Kept o (kWait w s).2 := by
  unfold kWait
  exact keptSnd (kept_withKpf h2)

theorem kept_kRepeat {s} (h1 : Kept o s) :
    Kept o (kRepeat s) := by
  unfold kRepeat
  extract_lets +onlyGivenNames v0
  clear_value v0
  refine keptFold ?_ ?_
  · exact h1
  · intro y1 y2 y3
    exact keptIte (kept_kPost y3) y3

theorem kept_kUnknown {s} (h1 : Kept o s) :
    Kept o (kUnknown s) := by
  unfold kUnknown
  split
  · refine keptIte ?_ ?_
    · exact h1
    · refine kept_kReached ?_ ?_
      · intro y5 y6
        exact kept_kAnswer y6
      · exact h1
  · exact h1

theorem kept_kPush {s} (h1 : Kept o s) :
    Kept o (kPush s) := by
  unfold kPush
  extract_lets +onlyGivenNames v0
  clear_value v0
  extract_lets +onlyGivenNames v1
  clear_value v1
  extract_lets +onlyGivenNames v2
  clear_value v2
  extract_lets +onlyGivenNames v3
  have k4 : Kept o v3 := kept_withKpf h1
  clear_value v3
  exact keptIte k4 (kept_kPost k4)

/-! ### Machine/KpfUpdate.lean -/

theorem kept_sessionEvent {s} (h1 : Kept o s) :
    Kept o (sessionEvent s) := by
  unfold sessionEvent
  exact kept_kEvent h1

theorem kept_sessionStart {src digest plen s} (h4 : Kept o s) :
    Kept o (sessionStart src digest plen s) := by
  unfold sessionStart
  exact kept_sessionEvent (kept_withKpf (kept_sessionNew h4))

theorem kept_sessionRequest {src digest plen s} (h4 : Kept o s) :
    Kept o (sessionRequest src digest plen s).2 := by
  unfold sessionRequest
  extract_lets +onlyGivenNames v0
  have k1 : Kept o v0 := kept_kpfScan h4
  clear_value v0
  split
  · exact keptSnd k1
  · split
    · exact keptSnd (kept_sessionStart k1)
    · split
      · exact keptSnd (kept_withKpf k1)
      · split
        · exact keptSnd (kept_sessionStart (kept_sessionEvent (kept_mark k1)))
        · exact keptSnd k1

theorem kept_storePiece {src i data crc s} (h5 : Kept o s) :
    Kept o (storePiece src i data crc s).2 := by
  unfold storePiece
  split
  · exact keptSnd h5
  · split
    · exact keptSnd h5
    · split
      · exact keptSnd h5
      · extract_lets +onlyGivenNames v6
        have k7 : Kept o v6 := kept_programFirn (kept_eraseFirn h5)
        clear_value v6
        extract_lets +onlyGivenNames v8
        have k9 : Kept o v8 := kept_kpfScan k7
        clear_value v8
        split
        · exact keptSnd k9
        · extract_lets +onlyGivenNames v12
          have k13 : Kept o v12 := kept_programWord k9
          clear_value v12
          split
          · exact keptSnd (kept_withKpf k13)
          · exact keptSnd k13

theorem kept_activate {s} (h1 : Kept o s) :
    Kept o (activate s) := by
  unfold activate
  extract_lets +onlyGivenNames v0
  clear_value v0
  extract_lets +onlyGivenNames v1
  have k2 : Kept o v1 := kept_kpfScan (kept_kpfScan h1)
  clear_value v1
  extract_lets +onlyGivenNames v3
  have k4 : Kept o v3 := kept_withKpf k2
  clear_value v3
  split
  · rename_i a7
    refine keptVia_2 (o := o) a7 ?_ (fun k8 => ?_)
    · refine kept_handOverTo ?_ ?_
      · intro y9 y10
        exact kept_appendBoot y10
      · exact k4
    clear a7
    exact k8
  · rename_i a13
    refine keptVia_2 (o := o) a13 ?_ (fun k14 => ?_)
    · refine kept_handOverTo ?_ ?_
      · intro y15 y16
        exact kept_appendBoot y16
      · exact k4
    clear a13
    exact kept_kComplete k14

theorem kept_applyPackage {s} (h1 : Kept o s) :
    Kept o (applyPackage s) := by
  unfold applyPackage
  extract_lets +onlyGivenNames v0
  clear_value v0
  extract_lets +onlyGivenNames v1
  clear_value v1
  extract_lets +onlyGivenNames v2
  have k3 : Kept o v2 := kept_kpfScan (kept_kpfScan h1)
  clear_value v2
  extract_lets +onlyGivenNames v4
  have k5 : Kept o v4.2 := by
    unfold v4
    split
    · exact kept_packageWrite k3
    · exact keptSnd k3
  clear_value v4
  extract_lets +onlyGivenNames v8
  have k9 : Kept o v8 := k5
  clear_value v8
  refine keptIte ?_ ?_
  · extract_lets +onlyGivenNames v10
    have k11 : Kept o v10 := kept_sessionEvent (kept_mark k9)
    clear_value v10
    exact keptIte (kept_busWrite k11) (keptIte (kept_activate k11) k11)
  · extract_lets +onlyGivenNames v12
    have k13 : Kept o v12 := kept_mark k9
    clear_value v12
    exact keptIte k13 (kept_sessionEvent (kept_kRecord k13))

theorem kept_completePackage {s} (h1 : Kept o s) :
    Kept o (completePackage s) := by
  unfold completePackage
  exact keptIte (kept_applyPackage (kept_sessionEvent (kept_mark h1))) h1

theorem kept_takeUnit {s} (h1 : Kept o s) :
    Kept o (takeUnit s) := by
  unfold takeUnit
  extract_lets +onlyGivenNames v0
  clear_value v0
  extract_lets +onlyGivenNames v1
  have k2 : Kept o v1.2 := kept_bulkTake h1
  clear_value v1
  exact kept_withKpf (kept_creditHalf k2)

theorem kept_unitDelivered {s} (h1 : Kept o s) :
    Kept o (unitDelivered s) := by
  unfold unitDelivered
  refine keptIte ?_ ?_
  · exact h1
  · extract_lets +onlyGivenNames v0
    have k1 : Kept o v0 := kept_takeUnit h1
    clear_value v0
    refine keptIte ?_ ?_
    · exact k1
    · extract_lets +onlyGivenNames v2
      clear_value v2
      extract_lets +onlyGivenNames v3
      clear_value v3
      extract_lets +onlyGivenNames v4
      clear_value v4
      extract_lets +onlyGivenNames v5
      have k6 : Kept o v5.2 := by
        unfold v5
        split
        · exact kept_storePiece k1
        · exact keptSnd k1
      clear_value v5
      extract_lets +onlyGivenNames v9
      clear_value v9
      exact kept_completePackage (kept_withKpf (kept_bulkAck k6))

theorem kept_sessionIdle {s} (h1 : Kept o s) :
    Kept o (sessionIdle s) := by
  unfold sessionIdle
  exact keptIte (kept_sessionEvent (kept_mark h1)) h1

theorem kept_readSlots {s} (h1 : Kept o s) :
    Kept o (readSlots s) := by
  unfold readSlots
  extract_lets +onlyGivenNames v0
  have k1 : Kept o v0 := kept_kpfScan (kept_kpfScan h1)
  clear_value v0
  exact kept_kpfScan (kept_kpfScan k1)

theorem kept_confirmSlot {s} (h1 : Kept o s) :
    Kept o (confirmSlot s) := by
  unfold confirmSlot
  extract_lets +onlyGivenNames v0
  clear_value v0
  extract_lets +onlyGivenNames v1
  have k2 : Kept o v1 := kept_appendBoot h1
  clear_value v1
  extract_lets +onlyGivenNames v3
  have k4 : Kept o v3 := kept_readSlots (kept_busWrite k2)
  clear_value v3
  exact kept_withKpf (kept_kWrite k4)

theorem kept_autoConfirm {s} (h1 : Kept o s) :
    Kept o (autoConfirm s) := by
  unfold autoConfirm
  refine keptIte ?_ ?_
  · extract_lets +onlyGivenNames v0
    have k1 : Kept o v0 := kept_kpfScan h1
    clear_value v0
    exact keptIte k1 (kept_confirmSlot k1)
  · exact h1

/-! ### Machine/KpfFloe.lean -/

theorem kept_modEvent {m s} (h2 : Kept o s) :
    Kept o (modEvent m s) := by
  unfold modEvent
  exact kept_kQuery (kept_kEvent h2)

theorem kept_dropMod {m s} (h2 : Kept o s) :
    Kept o (dropMod m s) := by
  unfold dropMod
  extract_lets +onlyGivenNames v0
  have k1 : Kept o v0 := keptIte (kept_busWrite h2) h2
  clear_value v0
  extract_lets +onlyGivenNames v2
  have k3 : Kept o v2 := kept_withKpf k1
  clear_value v2
  exact keptIte k3 (kept_modEvent k3)

theorem kept_putMod {old new s} (h3 : Kept o s) :
    Kept o (putMod old new s) := by
  unfold putMod
  exact kept_withKpf h3

theorem kept_kFrame {p dst type sec payload s} (h6 : Kept o s) :
    Kept o (kFrame p dst type sec payload s) := by
  unfold kFrame
  extract_lets +onlyGivenNames v0
  clear_value v0
  extract_lets +onlyGivenNames v1
  have k2 : Kept o v1 := kept_busWrite h6
  clear_value v1
  extract_lets +onlyGivenNames v3
  have k4 : Kept o v3 := by
    unfold v3
    refine keptFold ?_ ?_
    · exact k2
    · intro y5 y6 y7
      exact kept_busWrite y7
  clear_value v3
  exact kept_busWrite k4

theorem kept_discoverPort {p restart s} (h3 : Kept o s) :
    Kept o (discoverPort p restart s) := by
  unfold discoverPort
  extract_lets +onlyGivenNames v0
  have k1 : Kept o v0 := by
    unfold v0
    refine keptIte ?_ ?_
    · refine keptFold ?_ ?_
      · exact h3
      · intro y2 y3 y4
        exact kept_dropMod y4
    · refine keptFold ?_ ?_
      · exact h3
      · intro y5 y6 y7
        exact keptIte (kept_dropMod y7) (kept_putMod y7)
  clear_value v0
  extract_lets +onlyGivenNames v8
  have k9 : Kept o v8 := kept_withKpf k1
  clear_value v8
  exact kept_kFrame k9

theorem kept_discoverDue {p s} (h2 : Kept o s) :
    Kept o (discoverDue p s) := by
  unfold discoverDue
  exact keptIte h2 (keptIte (kept_discoverPort h2) (keptIte (kept_discoverPort h2) h2))

theorem kept_presence {p src b s} (h4 : Kept o s) :
    Kept o (presence p src b s) := by
  unfold presence
  refine keptIte ?_ ?_
  · exact h4
  · extract_lets +onlyGivenNames v0
    clear_value v0
    extract_lets +onlyGivenNames v1
    clear_value v1
    refine keptIte ?_ ?_
    · extract_lets +onlyGivenNames v2
      have k3 : Kept o v2 := by
        unfold v2
        refine keptFold ?_ ?_
        · exact h4
        · intro y4 y5 y6
          exact kept_dropMod y6
      clear_value v2
      exact kept_withKpf k3
    · split
      · exact kept_putMod h4
      · exact kept_modEvent (kept_withKpf h4)

theorem kept_certIn {m off data s} (h4 : Kept o s) :
    Kept o (certIn m off data s) := by
  unfold certIn
  refine keptIte ?_ ?_
  · exact h4
  · split
    · exact kept_putMod h4
    · extract_lets +onlyGivenNames v7
      clear_value v7
      exact kept_putMod h4

theorem kept_responseIn {m off data s} (h4 : Kept o s) :
    Kept o (responseIn m off data s) := by
  unfold responseIn
  refine keptIte ?_ ?_
  · exact h4
  · split
    · exact kept_putMod h4
    · extract_lets +onlyGivenNames v7
      clear_value v7
      extract_lets +onlyGivenNames v8
      clear_value v8
      extract_lets +onlyGivenNames v9
      clear_value v9
      refine keptIte ?_ ?_
      · exact kept_putMod h4
      · refine keptIte ?_ ?_
        · exact kept_putMod h4
        · refine keptIte ?_ ?_
          · exact kept_putMod h4
          · split
            · exact kept_putMod h4
            · exact kept_putMod h4

theorem kept_dongleValue {m obj v s} (h4 : Kept o s) :
    Kept o (dongleValue m obj v s) := by
  unfold dongleValue
  extract_lets +onlyGivenNames v0
  clear_value v0
  refine keptIte ?_ ?_
  · exact h4
  · extract_lets +onlyGivenNames v1
    have k2 : Kept o v1 := kept_withKpf h4
    clear_value v1
    split
    · exact keptIte (kept_sessionRequest k2) k2
    · exact kept_withKpf k2
    · extract_lets +onlyGivenNames v6
      have k7 : Kept o v6.2 := kept_storePiece k2
      clear_value v6
      exact kept_completePackage (kept_withKpf k7)
    · exact k2

theorem kept_readResp {m obj v s} (h4 : Kept o s) :
    Kept o (readResp m obj v s) := by
  unfold readResp
  extract_lets +onlyGivenNames v0
  clear_value v0
  extract_lets +onlyGivenNames v1
  have k2 : Kept o v1 := kept_putMod h4
  clear_value v1
  extract_lets +onlyGivenNames v3
  have k4 : Kept o v3 := keptIte (kept_kWaited k2) k2
  clear_value v3
  exact keptIte (kept_dongleValue k4) k4

theorem kept_writeAck {m obj v s} (h4 : Kept o s) :
    Kept o (writeAck m obj v s) := by
  unfold writeAck
  extract_lets +onlyGivenNames v0
  have k1 : Kept o v0 := keptIte (kept_kWaited h4) h4
  clear_value v0
  refine keptIte ?_ ?_
  · extract_lets +onlyGivenNames v2
    clear_value v2
    exact kept_modEvent (kept_putMod k1)
  · exact keptIte (kept_withKpf k1) k1

theorem kept_pong {m s} (h2 : Kept o s) :
    Kept o (pong m s) := by
  unfold pong
  refine keptIte ?_ ?_
  · extract_lets +onlyGivenNames v0
    clear_value v0
    extract_lets +onlyGivenNames v1
    have k2 : Kept o v1 := kept_putMod h2
    clear_value v1
    extract_lets +onlyGivenNames v3
    have k4 : Kept o v3 := kept_withKpf k2
    clear_value v3
    exact kept_modEvent (kept_kRecord k4)
  · exact kept_putMod h2

theorem kept_moduleError {m obj s} (h3 : Kept o s) :
    Kept o (moduleError m obj s) := by
  unfold moduleError
  exact keptIte (kept_kWaited h3) (keptIte (kept_putMod (kept_withKpf h3)) h3)

theorem kept_frameIn {p f s} (h3 : Kept o s) :
    Kept o (frameIn p f s) := by
  unfold frameIn
  extract_lets +onlyGivenNames v0
  clear_value v0
  extract_lets +onlyGivenNames v1
  clear_value v1
  extract_lets +onlyGivenNames v2
  clear_value v2
  refine keptIte ?_ ?_
  · exact kept_presence h3
  · split
    · exact h3
    · refine keptIte ?_ ?_
      · split
        · exact kept_certIn h3
        · exact kept_responseIn h3
        · exact h3
      · refine keptIte ?_ ?_
        · exact h3
        · split
          · exact kept_readResp h3
          · exact kept_writeAck h3
          · exact kept_pong h3
          · exact kept_putMod h3
          · exact kept_moduleError h3
          · exact h3

theorem kept_drainFrames {p x2 x3} (h3 : Kept o x3) :
    Kept o (drainFrames p x2 x3) := by
  fun_induction drainFrames p x2 x3
  · exact h3
  · exact h3
  · rename_i a9
    exact a9 (kept_frameIn (kept_rxPop h3))

theorem kept_moduleFrame {kind p f x s} (h5 : Kept o s) :
    Kept o (moduleFrame kind p f x s) := by
  unfold moduleFrame
  refine keptIte ?_ ?_
  · exact h5
  · extract_lets +onlyGivenNames v0
    have k1 : Kept o v0 := kept_recvFrame h5
    clear_value v0
    exact keptIte (kept_drainFrames k1) k1

theorem kept_quarantine {p uid s} (h3 : Kept o s) :
    Kept o (quarantine p uid s) := by
  unfold quarantine
  split
  · refine keptIte ?_ ?_
    · exact h3
    · extract_lets +onlyGivenNames v6
      clear_value v6
      exact kept_modEvent (kept_putMod (kept_kFrame h3))
  · exact h3

theorem kept_kAuth {m msg off data s} (h5 : Kept o s) :
    Kept o (kAuth m msg off data s) := by
  unfold kAuth
  exact kept_kFrame h5

theorem kept_certRequest {p id s} (h3 : Kept o s) :
    Kept o (certRequest p id s) := by
  unfold certRequest
  split
  · exact keptIte (kept_putMod (kept_kAuth h3)) h3
  · exact h3

theorem kept_challenge {p id s} (h3 : Kept o s) :
    Kept o (challenge p id s) := by
  unfold challenge
  split
  · exact h3
  · refine keptIte ?_ ?_
    · exact h3
    · refine keptIte ?_ ?_
      · extract_lets +onlyGivenNames v5
        have k6 : Kept o v5.2 := kept_drawBytes h3
        clear_value v5
        extract_lets +onlyGivenNames v7
        clear_value v7
        extract_lets +onlyGivenNames v8
        clear_value v8
        exact kept_putMod (kept_kAuth k6)
      · exact kept_putMod (kept_kAuth h3)

theorem kept_admitModule {p id s} (h3 : Kept o s) :
    Kept o (admitModule p id s) := by
  unfold admitModule
  split
  · exact h3
  · refine keptIte ?_ ?_
    · exact h3
    · extract_lets +onlyGivenNames v5
      clear_value v5
      extract_lets +onlyGivenNames v6
      have k7 : Kept o v6 := by
        unfold v6
        refine keptFold ?_ ?_
        · exact h3
        · intro y8 y9 y10
          exact kept_busWrite y10
      clear_value v6
      extract_lets +onlyGivenNames v11
      have k12 : Kept o v11 := kept_busWrite k7
      clear_value v11
      extract_lets +onlyGivenNames v13
      clear_value v13
      extract_lets +onlyGivenNames v14
      have k15 : Kept o v14 := kept_kAuth k12
      clear_value v14
      exact kept_putMod k15

theorem kept_reject {p id s} (h3 : Kept o s) :
    Kept o (reject p id s) := by
  unfold reject
  split
  · exact h3
  · split
    · exact h3
    · refine keptIte ?_ ?_
      · exact h3
      · extract_lets +onlyGivenNames v10
        have k11 : Kept o v10 := kept_kAuth h3
        clear_value v10
        extract_lets +onlyGivenNames v12
        clear_value v12
        exact kept_modEvent (kept_kRecord (kept_putMod k11))

theorem kept_kData {m op obj value s} (h5 : Kept o s) :
    Kept o (kData m op obj value s) := by
  unfold kData
  exact kept_kFrame h5

theorem kept_dongleSend {m r s} (h3 : Kept o s) :
    Kept o (dongleSend m r s) := by
  unfold dongleSend
  extract_lets +onlyGivenNames v0
  clear_value v0
  exact kept_withKpf (kept_kData h3)

theorem kept_readObj {p id obj s} (h4 : Kept o s) :
    Kept o (readObj p id obj s) := by
  unfold readObj
  split
  · exact keptIte h4 (keptIte (keptIte (kept_dongleSend h4) h4) (kept_kData h4))
  · exact h4

theorem kept_cursorMoved {m obj s} (h3 : Kept o s) :
    Kept o (cursorMoved m obj s) := by
  unfold cursorMoved
  exact keptIte (kept_withKpf h3) h3

theorem kept_writeObj {p id obj value s} (h5 : Kept o s) :
    Kept o (writeObj p id obj value s) := by
  unfold writeObj
  split
  · refine keptIte ?_ ?_
    · refine keptIte ?_ ?_
      · exact kept_dongleSend h5
      · extract_lets +onlyGivenNames v3
        have k4 : Kept o v3 := kept_cursorMoved (kept_kData h5)
        clear_value v3
        refine keptIte ?_ ?_
        · extract_lets +onlyGivenNames v5
          clear_value v5
          exact keptIte k4 (kept_modEvent (kept_putMod k4))
        · exact k4
    · exact h5
  · exact h5

theorem kept_ping {p id s} (h3 : Kept o s) :
    Kept o (ping p id s) := by
  unfold ping
  split
  · exact h3
  · exact keptIte h3 (keptIte h3 (keptIte (kept_dropMod h3) (kept_putMod (kept_kData h3))))

theorem kept_dongleStep {s} (h1 : Kept o s) :
    Kept o (dongleStep s) := by
  unfold dongleStep
  split
  · exact keptIte h1 (kept_withKpf h1)
  · split
    · refine keptElim ?_ ?_
      · exact h1
      · intro y8
        exact kept_dongleSend h1
    · exact h1

/-! ### Machine/KpfCharge.lean -/

theorem kept_chargeApply {s} (h1 : Kept o s) :
    Kept o (chargeApply s) := by
  unfold chargeApply
  extract_lets +onlyGivenNames v0
  clear_value v0
  extract_lets +onlyGivenNames v1
  have k2 : Kept o v1 := kept_kSet h1
  clear_value v1
  extract_lets +onlyGivenNames v3
  clear_value v3
  extract_lets +onlyGivenNames v4
  have k5 : Kept o v4 := keptIte k2 (kept_kField k2)
  clear_value v4
  extract_lets +onlyGivenNames v6
  have k7 : Kept o v6 := kept_kSet k5
  clear_value v6
  exact kept_kSet k7

theorem kept_limitCheck {s} (h1 : Kept o s) :
    Kept o (limitCheck s) := by
  unfold limitCheck
  extract_lets +onlyGivenNames v0
  clear_value v0
  refine keptIte ?_ ?_
  · exact kept_withKpf h1
  · split
    · exact keptIte (kept_withKpf h1) (keptIte (kept_withKpf h1) h1)
    · exact h1

theorem kept_packPoll {r s} (h2 : Kept o s) :
    Kept o (packPoll r s) := by
  unfold packPoll
  refine keptIte ?_ ?_
  · exact h2
  · extract_lets +onlyGivenNames v0
    clear_value v0
    extract_lets +onlyGivenNames v1
    clear_value v1
    extract_lets +onlyGivenNames v2
    have k3 : Kept o v2 := by
      unfold v2
      split
      · exact kept_withKpf h2
      · extract_lets +onlyGivenNames v7
        clear_value v7
        exact kept_withKpf h2
    clear_value v2
    exact kept_chargeApply (kept_limitCheck k3)

theorem kept_gaugeCheck {s} (h1 : Kept o s) :
    Kept o (gaugeCheck s) := by
  unfold gaugeCheck
  extract_lets +onlyGivenNames v0
  clear_value v0
  split
  · exact h1
  · refine keptIte ?_ ?_
    · exact h1
    · extract_lets +onlyGivenNames v7
      clear_value v7
      extract_lets +onlyGivenNames v8
      clear_value v8
      extract_lets +onlyGivenNames v9
      clear_value v9
      extract_lets +onlyGivenNames v10
      clear_value v10
      extract_lets +onlyGivenNames v11
      have k12 : Kept o v11 := kept_withKpf h1
      clear_value v11
      exact keptIte (kept_kRecord k12) k12

theorem kept_loadCurve {profile n s} (h3 : Kept o s) :
    Kept o (loadCurve profile n s) := by
  unfold loadCurve
  refine keptFold ?_ ?_
  · exact h3
  · intro y0 y1 y2
    exact kept_busWrite y2

theorem kept_loadCurves {l s} (h2 : Kept o s) :
    Kept o (loadCurves l s) := by
  unfold loadCurves
  refine keptFold ?_ ?_
  · exact kept_kpfScan h2
  · intro y0 y1 y2
    exact kept_loadCurve y2

theorem kept_setPolicy {v s} (h2 : Kept o s) :
    Kept o (setPolicy v s) := by
  unfold setPolicy
  exact keptIte h2 (kept_kQuery (kept_kEvent (kept_withKpf h2)))

theorem kept_policyRestore {s} (h1 : Kept o s) :
    Kept o (policyRestore s) := by
  unfold policyRestore
  refine keptIte ?_ ?_
  · exact h1
  · extract_lets +onlyGivenNames v0
    have k1 : Kept o v0 := by
      unfold v0
      refine keptFold ?_ ?_
      · exact h1
      · intro y2 y3 y4
        exact kept_kSet y4
    clear_value v0
    exact kept_chargeApply (kept_loadCurves (kept_setPolicy k1))

theorem kept_policyCheck {s} (h1 : Kept o s) :
    Kept o (policyCheck s) := by
  unfold policyCheck
  refine keptIte ?_ ?_
  · extract_lets +onlyGivenNames v0
    have k1 : Kept o v0 := kept_withKpf h1
    clear_value v0
    extract_lets +onlyGivenNames v2
    have k3 : Kept o v2 := by
      unfold v2
      refine keptFold ?_ ?_
      · exact k1
      · intro y4 y5 y6
        exact kept_kSet y6
    clear_value v2
    exact keptIte k3 (kept_chargeApply (kept_loadCurves (kept_setPolicy k3)))
  · exact keptIte h1 (kept_setPolicy h1)

theorem kept_setProfile {p s} (h2 : Kept o s) :
    Kept o (setProfile p s) := by
  unfold setProfile
  extract_lets +onlyGivenNames v0
  have k1 : Kept o v0 := kept_withKpf h2
  clear_value v0
  extract_lets +onlyGivenNames v2
  clear_value v2
  exact kept_policyCheck (kept_loadCurves k1)

theorem kept_fullCharge {s} (h1 : Kept o s) :
    Kept o (fullCharge s) := by
  unfold fullCharge
  extract_lets +onlyGivenNames v0
  clear_value v0
  split
  · exact kept_withKpf h1
  · exact h1

theorem kept_packRemoved {s} (h1 : Kept o s) :
    Kept o (packRemoved s) := by
  unfold packRemoved
  exact keptIte h1 (kept_withKpf h1)

/-! ### Machine/KpfSystem.lean -/

theorem kept_actGetIdentity {x1 x2} (h2 : Kept o x2) :
    Kept o (actGetIdentity x1 x2).2 := by
  unfold actGetIdentity
  exact kept_kOk h2

theorem kept_execGetIdentity {tag s} (h2 : Kept o s) :
    KeptNext o (execGetIdentity tag s) := by
  unfold execGetIdentity
  refine keptNext ?_
  refine kept_kCommand ?_ ?_ ?_
  · intro y0 y1 y2
    exact kept_actGetIdentity y2
  · intro y3 y4 y5
    exact kept_noMore y5
  · exact h2

theorem kept_actGetCaps {x1 x2} (h2 : Kept o x2) :
    Kept o (actGetCaps x1 x2).2 := by
  unfold actGetCaps
  exact kept_kOk h2

theorem kept_execGetCaps {tag s} (h2 : Kept o s) :
    KeptNext o (execGetCaps tag s) := by
  unfold execGetCaps
  refine keptNext ?_
  refine kept_kCommand ?_ ?_ ?_
  · intro y0 y1 y2
    exact kept_actGetCaps y2
  · intro y3 y4 y5
    exact kept_noMore y5
  · exact h2

theorem kept_actGetEvents {x1 x2} (h2 : Kept o x2) :
    Kept o (actGetEvents x1 x2).2 := by
  unfold actGetEvents
  extract_lets +onlyGivenNames v0
  clear_value v0
  split
  · exact kept_kNo h2
  · extract_lets +onlyGivenNames v3
    clear_value v3
    extract_lets +onlyGivenNames v4
    clear_value v4
    extract_lets +onlyGivenNames v5
    clear_value v5
    extract_lets +onlyGivenNames v6
    have k7 : Kept o v6 := kept_withKpf h2
    clear_value v6
    extract_lets +onlyGivenNames v8
    have k9 : Kept o v8 := keptIte (kept_kEvent k7) k7
    clear_value v8
    exact kept_kOk k9

theorem kept_execGetEvents {tag s} (h2 : Kept o s) :
    KeptNext o (execGetEvents tag s) := by
  unfold execGetEvents
  refine keptNext ?_
  refine kept_kCommand ?_ ?_ ?_
  · intro y0 y1 y2
    exact kept_actGetEvents y2
  · intro y3 y4 y5
    exact kept_noMore y5
  · exact h2

theorem kept_actSeal {x1 x2} (h2 : Kept o x2) :
    Kept o (actSeal x1 x2).2 := by
  unfold actSeal
  exact kept_kOk (kept_withKpf h2)

theorem kept_execSealHost {tag s} (h2 : Kept o s) :
    KeptNext o (execSealHost tag s) := by
  unfold execSealHost
  refine keptNext ?_
  refine kept_kCommand ?_ ?_ ?_
  · intro y0 y1 y2
    exact kept_actSeal y2
  · intro y3 y4 y5
    exact kept_noMore y5
  · exact h2

theorem kept_actGetTime {x1 x2} (h2 : Kept o x2) :
    Kept o (actGetTime x1 x2).2 := by
  unfold actGetTime
  exact kept_kOk h2

theorem kept_execGetTime {tag s} (h2 : Kept o s) :
    KeptNext o (execGetTime tag s) := by
  unfold execGetTime
  refine keptNext ?_
  refine kept_kCommand ?_ ?_ ?_
  · intro y0 y1 y2
    exact kept_actGetTime y2
  · intro y3 y4 y5
    exact kept_noMore y5
  · exact h2

theorem kept_actRestartFw {x1 x2} (h2 : Kept o x2) :
    Kept o (actRestartFw x1 x2).2 := by
  unfold actRestartFw
  exact kept_kOk h2

theorem kept_execRestartFw {tag s} (h2 : Kept o s) :
    KeptNext o (execRestartFw tag s) := by
  unfold execRestartFw
  refine keptNext ?_
  refine kept_kCommand ?_ ?_ ?_
  · intro y0 y1 y2
    exact kept_actRestartFw y2
  · intro y3 y4 y5
    exact kept_restartRunning y5
  · exact h2

theorem kept_actGetPowerState {x1 x2} (h2 : Kept o x2) :
    Kept o (actGetPowerState x1 x2).2 := by
  unfold actGetPowerState
  exact kept_kOk h2

theorem kept_execGetPowerState {tag s} (h2 : Kept o s) :
    KeptNext o (execGetPowerState tag s) := by
  unfold execGetPowerState
  refine keptNext ?_
  refine kept_kCommand ?_ ?_ ?_
  · intro y0 y1 y2
    exact kept_actGetPowerState y2
  · intro y3 y4 y5
    exact kept_noMore y5
  · exact h2

theorem kept_actGetRail {x1 x2} (h2 : Kept o x2) :
    Kept o (actGetRail x1 x2).2 := by
  unfold actGetRail
  extract_lets +onlyGivenNames v0
  clear_value v0
  split
  · exact kept_kNo h2
  · extract_lets +onlyGivenNames v3
    exact kept_kOk h2

theorem kept_execGetRail {tag s} (h2 : Kept o s) :
    KeptNext o (execGetRail tag s) := by
  unfold execGetRail
  refine keptNext ?_
  refine kept_kCommand ?_ ?_ ?_
  · intro y0 y1 y2
    exact kept_actGetRail y2
  · intro y3 y4 y5
    exact kept_noMore y5
  · exact h2

theorem kept_actClearRailFault {x1 x2} (h2 : Kept o x2) :
    Kept o (actClearRailFault x1 x2).2 := by
  unfold actClearRailFault
  extract_lets +onlyGivenNames v0
  clear_value v0
  split
  · exact kept_kOk (kept_busWrite (kept_busWrite h2))
  · split
    · exact kept_kNo h2
    · split
      · exact kept_kOk (kept_busWrite h2)
      · exact kept_kOk (kept_busWrite h2)

theorem kept_execClearRailFault {tag s} (h2 : Kept o s) :
    KeptNext o (execClearRailFault tag s) := by
  unfold execClearRailFault
  refine keptNext ?_
  refine kept_kCommand ?_ ?_ ?_
  · intro y0 y1 y2
    exact kept_actClearRailFault y2
  · intro y3 y4 y5
    exact kept_noMore y5
  · exact h2

theorem kept_actResumeDecoder {x1 x2} (h2 : Kept o x2) :
    Kept o (actResumeDecoder x1 x2).2 := by
  unfold actResumeDecoder
  extract_lets +onlyGivenNames v0
  clear_value v0
  split
  · exact kept_kNo h2
  · exact kept_kOk (kept_kField h2)

theorem kept_execResumeDecoder {tag s} (h2 : Kept o s) :
    KeptNext o (execResumeDecoder tag s) := by
  unfold execResumeDecoder
  refine keptNext ?_
  refine kept_kCommand ?_ ?_ ?_
  · intro y0 y1 y2
    exact kept_actResumeDecoder y2
  · intro y3 y4 y5
    exact kept_noMore y5
  · exact h2

theorem kept_actSetWake {x1 x2} (h2 : Kept o x2) :
    Kept o (actSetWake x1 x2).2 := by
  unfold actSetWake
  split
  · exact kept_kNo h2
  · extract_lets +onlyGivenNames v2
    clear_value v2
    extract_lets +onlyGivenNames v3
    have k4 : Kept o v3 := kept_busWrite h2
    clear_value v3
    extract_lets +onlyGivenNames v5
    have k6 : Kept o v5 := kept_busWrite k4
    clear_value v5
    exact kept_kOk (kept_busWrite k6)

theorem kept_execSetWake {tag s} (h2 : Kept o s) :
    KeptNext o (execSetWake tag s) := by
  unfold execSetWake
  refine keptNext ?_
  refine kept_kCommand ?_ ?_ ?_
  · intro y0 y1 y2
    exact kept_actSetWake y2
  · intro y3 y4 y5
    exact kept_noMore y5
  · exact h2

theorem kept_actEnterShip {x1 x2} (h2 : Kept o x2) :
    Kept o (actEnterShip x1 x2).2 := by
  unfold actEnterShip
  split
  · exact kept_kNo h2
  · exact kept_kJob h2

theorem kept_execEnterShip {tag s} (h2 : Kept o s) :
    KeptNext o (execEnterShip tag s) := by
  unfold execEnterShip
  refine keptNext ?_
  refine kept_kCommand ?_ ?_ ?_
  · intro y0 y1 y2
    exact kept_actEnterShip y2
  · intro y3 y4 y5
    exact kept_noMore y5
  · exact h2

theorem kept_actGetBattery {x1 x2} (h2 : Kept o x2) :
    Kept o (actGetBattery x1 x2).2 := by
  unfold actGetBattery
  split
  · exact kept_kNo h2
  · exact kept_kOk (kept_drawn h2)

theorem kept_execGetBattery {tag s} (h2 : Kept o s) :
    KeptNext o (execGetBattery tag s) := by
  unfold execGetBattery
  refine keptNext ?_
  refine kept_kCommand ?_ ?_ ?_
  · intro y0 y1 y2
    exact kept_actGetBattery y2
  · intro y3 y4 y5
    exact kept_noMore y5
  · exact h2

theorem kept_actGetCharger {x1 x2} (h2 : Kept o x2) :
    Kept o (actGetCharger x1 x2).2 := by
  unfold actGetCharger
  exact kept_kOk h2

theorem kept_execGetCharger {tag s} (h2 : Kept o s) :
    KeptNext o (execGetCharger tag s) := by
  unfold execGetCharger
  refine keptNext ?_
  refine kept_kCommand ?_ ?_ ?_
  · intro y0 y1 y2
    exact kept_actGetCharger y2
  · intro y3 y4 y5
    exact kept_noMore y5
  · exact h2

theorem kept_actGetPacks {x1 x2} (h2 : Kept o x2) :
    Kept o (actGetPacks x1 x2).2 := by
  unfold actGetPacks
  extract_lets +onlyGivenNames v0
  clear_value v0
  exact kept_kOk h2

theorem kept_execGetPacks {tag s} (h2 : Kept o s) :
    KeptNext o (execGetPacks tag s) := by
  unfold execGetPacks
  refine keptNext ?_
  refine kept_kCommand ?_ ?_ ?_
  · intro y0 y1 y2
    exact kept_actGetPacks y2
  · intro y3 y4 y5
    exact kept_noMore y5
  · exact h2

theorem kept_actClearChargeFault {x1 x2} (h2 : Kept o x2) :
    Kept o (actClearChargeFault x1 x2).2 := by
  unfold actClearChargeFault
  extract_lets +onlyGivenNames v0
  have k1 : Kept o v0 := kept_kField h2
  clear_value v0
  split
  · exact kept_kNo k1
  · exact kept_kOk k1

theorem kept_execClearChargeFault {tag s} (h2 : Kept o s) :
    KeptNext o (execClearChargeFault tag s) := by
  unfold execClearChargeFault
  refine keptNext ?_
  refine kept_kCommand ?_ ?_ ?_
  · intro y0 y1 y2
    exact kept_actClearChargeFault y2
  · intro y3 y4 y5
    exact kept_noMore y5
  · exact h2

theorem kept_storeLimits {s} (h1 : Kept o s) :
    Kept o (storeLimits s).2 := by
  unfold storeLimits
  exact kept_writeSetting h1

theorem kept_actSetChargeLimits {x1 x2} (h2 : Kept o x2) :
    Kept o (actSetChargeLimits x1 x2).2 := by
  unfold actSetChargeLimits
  split
  · exact kept_kNo h2
  · extract_lets +onlyGivenNames v2
    extract_lets +onlyGivenNames v3
    have k4 : Kept o v3 := kept_withKpf h2
    clear_value v3
    extract_lets +onlyGivenNames v5
    have k6 : Kept o v5.2 := by
      unfold v5
      split
      · exact kept_storeLimits k4
      · exact keptSnd k4
    clear_value v5
    extract_lets +onlyGivenNames v9
    have k10 : Kept o v9 := kept_chargeApply k6
    clear_value v9
    split
    · exact kept_kOk k10
    · exact kept_kNo k10

theorem kept_execSetChargeLimits {tag s} (h2 : Kept o s) :
    KeptNext o (execSetChargeLimits tag s) := by
  unfold execSetChargeLimits
  refine keptNext ?_
  refine kept_kCommand ?_ ?_ ?_
  · intro y0 y1 y2
    exact kept_actSetChargeLimits y2
  · intro y3 y4 y5
    exact kept_noMore y5
  · exact h2

end Sys2Proof.Machine
end

