-- ==== Sys2Proof/Laws/KeptKpf2.lean ====
section
/-! SUPPORT. What the operations keep (Laws/Kept.lean): KPF: power, light, security, settings, what it does at a tick and at its start. -/

namespace Sys2Proof.Machine

variable {o : State}

/-! ### Machine/KpfPower.lean -/

theorem kept_actGetPort {x1 x2} (h2 : Kept o x2) :
    Kept o (actGetPort x1 x2).2 := by
  unfold actGetPort
  split
  · exact kept_kNo h2
  · extract_lets +onlyGivenNames v5
    clear_value v5
    extract_lets +onlyGivenNames v6
    extract_lets +onlyGivenNames v7
    exact kept_kOk h2

theorem kept_execGetPort {tag s} (h2 : Kept o s) :
    KeptNext o (execGetPort tag s) := by
  unfold execGetPort
  refine keptNext ?_
  refine kept_kCommand ?_ ?_ ?_
  · intro y0 y1 y2
    exact kept_actGetPort y2
  · intro y3 y4 y5
    exact kept_noMore y5
  · exact h2

theorem kept_actGetSourceCaps {x1 x2} (h2 : Kept o x2) :
    Kept o (actGetSourceCaps x1 x2).2 := by
  unfold actGetSourceCaps
  split
  · exact kept_kNo h2
  · extract_lets +onlyGivenNames v5
    clear_value v5
    extract_lets +onlyGivenNames v6
    clear_value v6
    exact kept_kOk h2

theorem kept_execGetSourceCaps {tag s} (h2 : Kept o s) :
    KeptNext o (execGetSourceCaps tag s) := by
  unfold execGetSourceCaps
  refine keptNext ?_
  refine kept_kCommand ?_ ?_ ?_
  · intro y0 y1 y2
    exact kept_actGetSourceCaps y2
  · intro y3 y4 y5
    exact kept_noMore y5
  · exact h2

theorem kept_actRequestPdo {x1 x2} (h2 : Kept o x2) :
    Kept o (actRequestPdo x1 x2).2 := by
  unfold actRequestPdo
  split
  · exact kept_kNo h2
  · extract_lets +onlyGivenNames v5
    clear_value v5
    extract_lets +onlyGivenNames v6
    clear_value v6
    split
    · exact kept_kNo h2
    · extract_lets +onlyGivenNames v9
      have k10 : Kept o v9 := kept_kField (kept_kField h2)
      clear_value v9
      extract_lets +onlyGivenNames v11
      have k12 : Kept o v11 := keptIte (kept_kField k10) (kept_kWrite k10)
      clear_value v11
      exact kept_kJob k12

theorem kept_execRequestPdo {tag s} (h2 : Kept o s) :
    KeptNext o (execRequestPdo tag s) := by
  unfold execRequestPdo
  refine keptNext ?_
  refine kept_kCommand ?_ ?_ ?_
  · intro y0 y1 y2
    exact kept_actRequestPdo y2
  · intro y3 y4 y5
    exact kept_noMore y5
  · exact h2

theorem kept_actSendVdm {acked x2 x3} (h3 : Kept o x3) :
    Kept o (actSendVdm acked x2 x3).2 := by
  unfold actSendVdm
  split
  · exact kept_kNo h3
  · extract_lets +onlyGivenNames v5
    clear_value v5
    extract_lets +onlyGivenNames v6
    clear_value v6
    split
    · exact kept_kNo h3
    · split
      · exact kept_kNo h3
      · extract_lets +onlyGivenNames v11
        have k12 : Kept o v11 := by
          unfold v11
          refine keptFold ?_ ?_
          · exact h3
          · intro y13 y14 y15
            exact kept_busWrite y15
        clear_value v11
        extract_lets +onlyGivenNames v16
        have k17 : Kept o v16 := kept_kField (kept_kField k12)
        clear_value v16
        extract_lets +onlyGivenNames v18
        clear_value v18
        exact kept_kJob (kept_vdmCtlWrite k17)

theorem kept_execSendVdm {tag acked s} (h3 : Kept o s) :
    KeptNext o (execSendVdm tag acked s) := by
  unfold execSendVdm
  refine keptNext ?_
  refine kept_kCommand ?_ ?_ ?_
  · intro y0 y1 y2
    exact kept_actSendVdm y2
  · intro y3 y4 y5
    exact kept_noMore y5
  · exact h3

theorem kept_takeVdm {p s} (h2 : Kept o s) :
    Kept o (takeVdm p s) := by
  unfold takeVdm
  refine keptIte ?_ ?_
  · extract_lets +onlyGivenNames v0
    clear_value v0
    extract_lets +onlyGivenNames v1
    clear_value v1
    extract_lets +onlyGivenNames v2
    have k3 : Kept o v2 := kept_kField (kept_kField h2)
    clear_value v2
    exact kept_kEvent (kept_withKpf k3)
  · exact h2

theorem kept_actGetVdm {x1 x2} (h2 : Kept o x2) :
    Kept o (actGetVdm x1 x2).2 := by
  unfold actGetVdm
  split
  · exact kept_kNo h2
  · extract_lets +onlyGivenNames v5
    clear_value v5
    extract_lets +onlyGivenNames v6
    have k7 : Kept o v6 := kept_takeVdm h2
    clear_value v6
    split
    · exact kept_kNo k7
    · exact kept_kOk (kept_withKpf k7)

theorem kept_execGetVdm {tag s} (h2 : Kept o s) :
    KeptNext o (execGetVdm tag s) := by
  unfold execGetVdm
  refine keptNext ?_
  refine kept_kCommand ?_ ?_ ?_
  · intro y0 y1 y2
    exact kept_actGetVdm y2
  · intro y3 y4 y5
    exact kept_noMore y5
  · exact h2

theorem kept_actSetPortPolicy {x1 x2} (h2 : Kept o x2) :
    Kept o (actSetPortPolicy x1 x2).2 := by
  unfold actSetPortPolicy
  split
  · exact kept_kNo h2
  · extract_lets +onlyGivenNames v5
    clear_value v5
    extract_lets +onlyGivenNames v6
    clear_value v6
    split
    · exact kept_kNo h2
    · extract_lets +onlyGivenNames v9
      have k10 : Kept o v9 := kept_kWrite h2
      clear_value v9
      extract_lets +onlyGivenNames v11
      have k12 : Kept o v11 := kept_kWrite k10
      clear_value v11
      exact kept_kOk (kept_kWrite k12)

theorem kept_execSetPortPolicy {tag s} (h2 : Kept o s) :
    KeptNext o (execSetPortPolicy tag s) := by
  unfold execSetPortPolicy
  refine keptNext ?_
  refine kept_kCommand ?_ ?_ ?_
  · intro y0 y1 y2
    exact kept_actSetPortPolicy y2
  · intro y3 y4 y5
    exact kept_noMore y5
  · exact h2

theorem kept_actSetReverse {x1 x2} (h2 : Kept o x2) :
    Kept o (actSetReverse x1 x2).2 := by
  unfold actSetReverse
  split
  · exact kept_kNo h2
  · extract_lets +onlyGivenNames v2
    have k3 : Kept o v2 := kept_kWrite h2
    clear_value v2
    exact kept_kOk k3

theorem kept_execSetReverse {tag s} (h2 : Kept o s) :
    KeptNext o (execSetReverse tag s) := by
  unfold execSetReverse
  refine keptNext ?_
  refine kept_kCommand ?_ ?_ ?_
  · intro y0 y1 y2
    exact kept_actSetReverse y2
  · intro y3 y4 y5
    exact kept_noMore y5
  · exact h2

theorem kept_actGetThermal {x1 x2} (h2 : Kept o x2) :
    Kept o (actGetThermal x1 x2).2 := by
  unfold actGetThermal
  exact kept_kOk h2

theorem kept_execGetThermal {tag s} (h2 : Kept o s) :
    KeptNext o (execGetThermal tag s) := by
  unfold execGetThermal
  refine keptNext ?_
  refine kept_kCommand ?_ ?_ ?_
  · intro y0 y1 y2
    exact kept_actGetThermal y2
  · intro y3 y4 y5
    exact kept_noMore y5
  · exact h2

theorem kept_actGetFans {x1 x2} (h2 : Kept o x2) :
    Kept o (actGetFans x1 x2).2 := by
  unfold actGetFans
  extract_lets +onlyGivenNames v0
  exact kept_kOk h2

theorem kept_execGetFans {tag s} (h2 : Kept o s) :
    KeptNext o (execGetFans tag s) := by
  unfold execGetFans
  refine keptNext ?_
  refine kept_kCommand ?_ ?_ ?_
  · intro y0 y1 y2
    exact kept_actGetFans y2
  · intro y3 y4 y5
    exact kept_noMore y5
  · exact h2

theorem kept_actSetFan {x1 x2} (h2 : Kept o x2) :
    Kept o (actSetFan x1 x2).2 := by
  unfold actSetFan
  extract_lets +onlyGivenNames v0
  clear_value v0
  extract_lets +onlyGivenNames v1
  clear_value v1
  split
  · exact kept_kNo h2
  · extract_lets +onlyGivenNames v4
    have k5 : Kept o v4 := keptIte (kept_kField h2) (keptIte (kept_kField h2) (keptIte (kept_loadCurves h2) h2))
    clear_value v4
    exact kept_kOk (kept_kField k5)

theorem kept_execSetFan {tag s} (h2 : Kept o s) :
    KeptNext o (execSetFan tag s) := by
  unfold execSetFan
  refine keptNext ?_
  refine kept_kCommand ?_ ?_ ?_
  · intro y0 y1 y2
    exact kept_actSetFan y2
  · intro y3 y4 y5
    exact kept_noMore y5
  · exact h2

theorem kept_actClearStall {x1 x2} (h2 : Kept o x2) :
    Kept o (actClearStall x1 x2).2 := by
  unfold actClearStall
  split
  · exact kept_kNo h2
  · exact kept_kOk (kept_kField h2)

theorem kept_execClearStall {tag s} (h2 : Kept o s) :
    KeptNext o (execClearStall tag s) := by
  unfold execClearStall
  refine keptNext ?_
  refine kept_kCommand ?_ ?_ ?_
  · intro y0 y1 y2
    exact kept_actClearStall y2
  · intro y3 y4 y5
    exact kept_noMore y5
  · exact h2

theorem kept_actSetProfile {x1 x2} (h2 : Kept o x2) :
    Kept o (actSetProfile x1 x2).2 := by
  unfold actSetProfile
  split
  · exact kept_kNo h2
  · exact kept_kOk (kept_setProfile h2)

theorem kept_execSetProfile {tag s} (h2 : Kept o s) :
    KeptNext o (execSetProfile tag s) := by
  unfold execSetProfile
  refine keptNext ?_
  refine kept_kCommand ?_ ?_ ?_
  · intro y0 y1 y2
    exact kept_actSetProfile y2
  · intro y3 y4 y5
    exact kept_noMore y5
  · exact h2

/-! ### Machine/KpfLight.lean -/

theorem kept_loadStuck {b s} (h2 : Kept o s) :
    Kept o (loadStuck b s) := by
  unfold loadStuck
  refine keptFold ?_ ?_
  · exact kept_kField h2
  · intro y0 y1 y2
    exact kept_busWrite y2

theorem kept_loadSequence {b s} (h2 : Kept o s) :
    Kept o (loadSequence b s) := by
  unfold loadSequence
  extract_lets +onlyGivenNames v0
  have k1 : Kept o v0 := by
    unfold v0
    refine keptFold ?_ ?_
    · exact h2
    · intro y2 y3 y4
      extract_lets +onlyGivenNames v5
      clear_value v5
      extract_lets +onlyGivenNames v6
      have k7 : Kept o v6 := kept_busWrite y4
      clear_value v6
      exact kept_busWrite k7
  clear_value v0
  exact kept_kField k1

theorem kept_actGetKbdConfig {x1 x2} (h2 : Kept o x2) :
    Kept o (actGetKbdConfig x1 x2).2 := by
  unfold actGetKbdConfig
  exact kept_kOk h2

theorem kept_execGetKbdConfig {tag s} (h2 : Kept o s) :
    KeptNext o (execGetKbdConfig tag s) := by
  unfold execGetKbdConfig
  refine keptNext ?_
  refine kept_kCommand ?_ ?_ ?_
  · intro y0 y1 y2
    exact kept_actGetKbdConfig y2
  · intro y3 y4 y5
    exact kept_noMore y5
  · exact h2

theorem kept_kStore {key value s} (h3 : Kept o s) :
    Kept o (kStore key value s).2 := by
  unfold kStore
  extract_lets +onlyGivenNames v0
  have k1 : Kept o v0.2 := kept_writeSetting h3
  clear_value v0
  split
  · exact kept_kOk k1
  · exact kept_kNo k1

theorem kept_actSetStuck {x1 x2} (h2 : Kept o x2) :
    Kept o (actSetStuck x1 x2).2 := by
  unfold actSetStuck
  exact kept_kStore (kept_loadStuck h2)

theorem kept_execSetStuck {tag s} (h2 : Kept o s) :
    KeptNext o (execSetStuck tag s) := by
  unfold execSetStuck
  refine keptNext ?_
  refine kept_kCommand ?_ ?_ ?_
  · intro y0 y1 y2
    exact kept_actSetStuck y2
  · intro y3 y4 y5
    exact kept_noMore y5
  · exact h2

theorem kept_actLock {x1 x2} (h2 : Kept o x2) :
    Kept o (actLock x1 x2).2 := by
  unfold actLock
  exact kept_kOk (kept_kField h2)

theorem kept_execLock {tag s} (h2 : Kept o s) :
    KeptNext o (execLock tag s) := by
  unfold execLock
  refine keptNext ?_
  refine kept_kCommand ?_ ?_ ?_
  · intro y0 y1 y2
    exact kept_actLock y2
  · intro y3 y4 y5
    exact kept_noMore y5
  · exact h2

theorem kept_checkToken {tok s} (h2 : Kept o s) :
    Kept o (checkToken tok s) := by
  unfold checkToken
  exact keptIte (kept_tokSubmit h2) (kept_tokDone (kept_tokSubmit h2))

theorem kept_actUnlockSigned {x1 x2} (h2 : Kept o x2) :
    Kept o (actUnlockSigned x1 x2).2 := by
  unfold actUnlockSigned
  extract_lets +onlyGivenNames v0
  clear_value v0
  split
  · exact kept_kNo h2
  · extract_lets +onlyGivenNames v3
    have k4 : Kept o v3 := kept_checkToken h2
    clear_value v3
    split
    · exact kept_kOk (kept_kField (kept_kField k4))
    · exact keptSnd k4

theorem kept_execUnlockSigned {tag s} (h2 : Kept o s) :
    KeptNext o (execUnlockSigned tag s) := by
  unfold execUnlockSigned
  refine keptNext ?_
  refine kept_kCommand ?_ ?_ ?_
  · intro y0 y1 y2
    exact kept_actUnlockSigned y2
  · intro y3 y4 y5
    exact kept_noMore y5
  · exact h2

theorem kept_actSetUnlockSeq {x1 x2} (h2 : Kept o x2) :
    Kept o (actSetUnlockSeq x1 x2).2 := by
  unfold actSetUnlockSeq
  split
  · exact kept_kNo h2
  · split
    · exact kept_kNo h2
    · exact kept_kStore (kept_loadSequence h2)

theorem kept_execSetUnlockSeq {tag s} (h2 : Kept o s) :
    KeptNext o (execSetUnlockSeq tag s) := by
  unfold execSetUnlockSeq
  refine keptNext ?_
  refine kept_kCommand ?_ ?_ ?_
  · intro y0 y1 y2
    exact kept_actSetUnlockSeq y2
  · intro y3 y4 y5
    exact kept_noMore y5
  · exact h2

theorem kept_actGetLighting {x1 x2} (h2 : Kept o x2) :
    Kept o (actGetLighting x1 x2).2 := by
  unfold actGetLighting
  extract_lets +onlyGivenNames v0
  have k1 : Kept o v0 := keptIte (kept_kCollect h2) h2
  clear_value v0
  extract_lets +onlyGivenNames v2
  extract_lets +onlyGivenNames v3
  exact kept_kOk k1

theorem kept_execGetLighting {tag s} (h2 : Kept o s) :
    KeptNext o (execGetLighting tag s) := by
  unfold execGetLighting
  refine keptNext ?_
  refine kept_kCommand ?_ ?_ ?_
  · intro y0 y1 y2
    exact kept_actGetLighting y2
  · intro y3 y4 y5
    exact kept_noMore y5
  · exact h2

theorem kept_setLighting {b s} (h2 : Kept o s) :
    Kept o (setLighting b s) := by
  unfold setLighting
  extract_lets +onlyGivenNames v0
  clear_value v0
  extract_lets +onlyGivenNames v1
  have k2 : Kept o v1 := kept_kField h2
  clear_value v1
  extract_lets +onlyGivenNames v3
  have k4 : Kept o v3 := kept_kField k2
  clear_value v3
  extract_lets +onlyGivenNames v5
  have k6 : Kept o v5 := kept_kField k4
  clear_value v5
  exact kept_kWrite k6

theorem kept_luxUp {s} (h1 : Kept o s) :
    Kept o (luxUp s) := by
  unfold luxUp
  exact kept_busWrite h1

theorem kept_actSetLighting {x1 x2} (h2 : Kept o x2) :
    Kept o (actSetLighting x1 x2).2 := by
  unfold actSetLighting
  split
  · exact kept_kNo h2
  · split
    · exact kept_kOk (kept_withKpf (kept_setLighting h2))
    · split
      · exact kept_kWait (kept_withKpf (kept_luxUp h2))
      · exact kept_kOk h2

theorem kept_execSetLighting {tag s} (h2 : Kept o s) :
    KeptNext o (execSetLighting tag s) := by
  unfold execSetLighting
  refine keptNext ?_
  refine kept_kCommand ?_ ?_ ?_
  · intro y0 y1 y2
    exact kept_actSetLighting y2
  · intro y3 y4 y5
    exact kept_noMore y5
  · exact h2

theorem kept_onLux {s act} (h1 : Kept o s) (h2 : Kept o act.2) :
    Kept o (onLux s act).2 := by
  unfold onLux
  split
  · exact h2
  · exact kept_kNo h1

theorem kept_actSetLampRegion {x1 x2} (h2 : Kept o x2) :
    Kept o (actSetLampRegion x1 x2).2 := by
  unfold actSetLampRegion
  extract_lets +onlyGivenNames v0
  clear_value v0
  split
  · exact kept_kNo h2
  · exact kept_onLux h2 (kept_kOk (kept_kWrite (kept_kWrite h2)))

theorem kept_execSetLampRegion {tag s} (h2 : Kept o s) :
    KeptNext o (execSetLampRegion tag s) := by
  unfold execSetLampRegion
  refine keptNext ?_
  refine kept_kCommand ?_ ?_ ?_
  · intro y0 y1 y2
    exact kept_actSetLampRegion y2
  · intro y3 y4 y5
    exact kept_noMore y5
  · exact h2

theorem kept_actSetCcm {x1 x2} (h2 : Kept o x2) :
    Kept o (actSetCcm x1 x2).2 := by
  unfold actSetCcm
  extract_lets +onlyGivenNames v0
  clear_value v0
  split
  · exact kept_kNo h2
  · refine kept_onLux ?_ ?_
    · exact h2
    · refine kept_kOk ?_
      refine keptFold ?_ ?_
      · exact h2
      · intro y3 y4 y5
        exact kept_kField y5

theorem kept_execSetCcm {tag s} (h2 : Kept o s) :
    KeptNext o (execSetCcm tag s) := by
  unfold execSetCcm
  refine keptNext ?_
  refine kept_kCommand ?_ ?_ ?_
  · intro y0 y1 y2
    exact kept_actSetCcm y2
  · intro y3 y4 y5
    exact kept_noMore y5
  · exact h2

theorem kept_actSetChainDriver {x1 x2} (h2 : Kept o x2) :
    Kept o (actSetChainDriver x1 x2).2 := by
  unfold actSetChainDriver
  extract_lets +onlyGivenNames v0
  clear_value v0
  split
  · exact kept_kNo h2
  · extract_lets +onlyGivenNames v3
    have k4 : Kept o v3 := kept_kWrite h2
    clear_value v3
    refine kept_onLux ?_ ?_
    · exact h2
    · refine kept_kOk ?_
      refine keptFold ?_ ?_
      · exact k4
      · intro y5 y6 y7
        exact kept_kField y7

theorem kept_execSetChainDriver {tag s} (h2 : Kept o s) :
    KeptNext o (execSetChainDriver tag s) := by
  unfold execSetChainDriver
  refine keptNext ?_
  refine kept_kCommand ?_ ?_ ?_
  · intro y0 y1 y2
    exact kept_actSetChainDriver y2
  · intro y3 y4 y5
    exact kept_noMore y5
  · exact h2

theorem kept_actChainCommit {x1 x2} (h2 : Kept o x2) :
    Kept o (actChainCommit x1 x2).2 := by
  unfold actChainCommit
  split
  · exact kept_kNo h2
  · exact kept_kJob (kept_kField h2)

theorem kept_execChainCommit {tag s} (h2 : Kept o s) :
    KeptNext o (execChainCommit tag s) := by
  unfold execChainCommit
  refine keptNext ?_
  refine kept_kCommand ?_ ?_ ?_
  · intro y0 y1 y2
    exact kept_actChainCommit y2
  · intro y3 y4 y5
    exact kept_noMore y5
  · exact h2

theorem kept_chainEntry {r j} (h1 : Kept o r.2) :
    Kept o (chainEntry r j).2 := by
  unfold chainEntry
  extract_lets +onlyGivenNames v0
  have k1 : Kept o v0 := h1
  clear_value v0
  exact keptSnd (kept_busRead k1)

theorem kept_actGetChain {x1 x2} (h2 : Kept o x2) :
    Kept o (actGetChain x1 x2).2 := by
  unfold actGetChain
  split
  · exact kept_kNo h2
  · extract_lets +onlyGivenNames v2
    clear_value v2
    extract_lets +onlyGivenNames v3
    have k4 : Kept o v3.2 := by
      unfold v3
      refine keptFoldSnd ?_ ?_
      · exact keptSnd h2
      · intro y5 y6 y7
        exact kept_chainEntry y7
    clear_value v3
    exact kept_kOk k4

theorem kept_execGetChain {tag s} (h2 : Kept o s) :
    KeptNext o (execGetChain tag s) := by
  unfold execGetChain
  refine keptNext ?_
  refine kept_kCommand ?_ ?_ ?_
  · intro y0 y1 y2
    exact kept_actGetChain y2
  · intro y3 y4 y5
    exact kept_noMore y5
  · exact h2

theorem kept_actGetDiag {x1 x2} (h2 : Kept o x2) :
    Kept o (actGetDiag x1 x2).2 := by
  unfold actGetDiag
  extract_lets +onlyGivenNames v0
  clear_value v0
  extract_lets +onlyGivenNames v1
  clear_value v1
  split
  · exact kept_kNo h2
  · exact kept_onLux h2 (kept_kOk h2)

theorem kept_execGetDiag {tag s} (h2 : Kept o s) :
    KeptNext o (execGetDiag tag s) := by
  unfold execGetDiag
  refine keptNext ?_
  refine kept_kCommand ?_ ?_ ?_
  · intro y0 y1 y2
    exact kept_actGetDiag y2
  · intro y3 y4 y5
    exact kept_noMore y5
  · exact h2

theorem kept_actClearDiag {x1 x2} (h2 : Kept o x2) :
    Kept o (actClearDiag x1 x2).2 := by
  unfold actClearDiag
  extract_lets +onlyGivenNames v0
  clear_value v0
  split
  · exact kept_onLux h2 (kept_kOk (kept_kField h2))
  · split
    · exact kept_kNo h2
    · exact kept_onLux h2 (kept_kOk (kept_kField h2))

theorem kept_execClearDiag {tag s} (h2 : Kept o s) :
    KeptNext o (execClearDiag tag s) := by
  unfold execClearDiag
  refine keptNext ?_
  refine kept_kCommand ?_ ?_ ?_
  · intro y0 y1 y2
    exact kept_actClearDiag y2
  · intro y3 y4 y5
    exact kept_noMore y5
  · exact h2

/-! ### Machine/KpfSecure.lean -/

theorem kept_actGetModules {x1 x2} (h2 : Kept o x2) :
    Kept o (actGetModules x1 x2).2 := by
  unfold actGetModules
  extract_lets +onlyGivenNames v0
  clear_value v0
  extract_lets +onlyGivenNames v1
  clear_value v1
  exact kept_kOk h2

theorem kept_execGetModules {tag s} (h2 : Kept o s) :
    KeptNext o (execGetModules tag s) := by
  unfold execGetModules
  refine keptNext ?_
  refine kept_kCommand ?_ ?_ ?_
  · intro y0 y1 y2
    exact kept_actGetModules y2
  · intro y3 y4 y5
    exact kept_noMore y5
  · exact h2

theorem kept_tryModule {s} (h1 : Kept o s) :
    Kept o (tryModule s) := by
  unfold tryModule
  split
  · split
    · exact keptIte (kept_cursorMoved (kept_kData (kept_withKpf h1))) h1
    · exact h1
  · exact h1

theorem kept_moduleAct {code refuse data q s} (h5 : Kept o s) :
    Kept o (moduleAct code refuse data q s).2 := by
  unfold moduleAct
  split
  · exact kept_kNo h5
  · exact kept_kNo h5
  · split
    · exact kept_kNo h5
    · extract_lets +onlyGivenNames v18
      clear_value v18
      exact keptSnd (kept_tryModule (kept_withKpf h5))

theorem kept_actModuleRead {x1 x2} (h2 : Kept o x2) :
    Kept o (actModuleRead x1 x2).2 := by
  unfold actModuleRead
  exact kept_moduleAct h2

theorem kept_execModuleRead {tag s} (h2 : Kept o s) :
    KeptNext o (execModuleRead tag s) := by
  unfold execModuleRead
  refine keptNext ?_
  refine kept_kCommand ?_ ?_ ?_
  · intro y0 y1 y2
    exact kept_actModuleRead y2
  · intro y3 y4 y5
    exact kept_noMore y5
  · exact h2

theorem kept_actModuleWrite {x1 x2} (h2 : Kept o x2) :
    Kept o (actModuleWrite x1 x2).2 := by
  unfold actModuleWrite
  extract_lets +onlyGivenNames v0
  clear_value v0
  split
  · exact kept_kNo h2
  · exact kept_moduleAct h2

theorem kept_execModuleWrite {tag s} (h2 : Kept o s) :
    KeptNext o (execModuleWrite tag s) := by
  unfold execModuleWrite
  refine keptNext ?_
  refine kept_kCommand ?_ ?_ ?_
  · intro y0 y1 y2
    exact kept_actModuleWrite y2
  · intro y3 y4 y5
    exact kept_noMore y5
  · exact h2

theorem kept_actRediscover {x1 x2} (h2 : Kept o x2) :
    Kept o (actRediscover x1 x2).2 := by
  unfold actRediscover
  split
  · exact kept_kNo h2
  · extract_lets +onlyGivenNames v5
    clear_value v5
    split
    · exact kept_kOk (kept_discoverPort h2)
    · exact kept_kOk (kept_withKpf h2)

theorem kept_execRediscover {tag s} (h2 : Kept o s) :
    KeptNext o (execRediscover tag s) := by
  unfold execRediscover
  refine keptNext ?_
  refine kept_kCommand ?_ ?_ ?_
  · intro y0 y1 y2
    exact kept_actRediscover y2
  · intro y3 y4 y5
    exact kept_noMore y5
  · exact h2

theorem kept_actGetNonce {x1 x2} (h2 : Kept o x2) :
    Kept o (actGetNonce x1 x2).2 := by
  unfold actGetNonce
  extract_lets +onlyGivenNames v0
  have k1 : Kept o v0 := kept_kField h2
  clear_value v0
  exact kept_kOk k1

theorem kept_execGetNonce {tag s} (h2 : Kept o s) :
    KeptNext o (execGetNonce tag s) := by
  unfold execGetNonce
  refine keptNext ?_
  refine kept_kCommand ?_ ?_ ?_
  · intro y0 y1 y2
    exact kept_actGetNonce y2
  · intro y3 y4 y5
    exact kept_noMore y5
  · exact h2

theorem kept_actSubmitToken {x1 x2} (h2 : Kept o x2) :
    Kept o (actSubmitToken x1 x2).2 := by
  unfold actSubmitToken
  extract_lets +onlyGivenNames v0
  clear_value v0
  extract_lets +onlyGivenNames v1
  clear_value v1
  split
  · exact kept_kNo h2
  · split
    · exact kept_kJob h2
    · extract_lets +onlyGivenNames v6
      have k7 : Kept o v6 := kept_checkToken (kept_kField h2)
      clear_value v6
      split
      · exact kept_kOk k7
      · exact keptSnd k7

theorem kept_afterSubmit {result s} (h2 : Kept o s) :
    Kept o (afterSubmit result s) := by
  unfold afterSubmit
  split
  · refine keptIte ?_ ?_
    · exact h2
    · refine keptIte ?_ ?_
      · extract_lets +onlyGivenNames v3
        have k4 : Kept o v3 := kept_tokSubmit h2
        clear_value v3
        exact kept_kComplete k4
      · exact kept_tokSubmit h2
  · exact h2

theorem kept_execSubmitToken {tag s} (h2 : Kept o s) :
    KeptNext o (execSubmitToken tag s) := by
  unfold execSubmitToken
  refine keptNext ?_
  refine kept_kCommand ?_ ?_ ?_
  · intro y0 y1 y2
    exact kept_actSubmitToken y2
  · intro y3 y4 y5
    exact kept_afterSubmit y5
  · exact h2

theorem kept_actAttest {x1 x2} (h2 : Kept o x2) :
    Kept o (actAttest x1 x2).2 := by
  unfold actAttest
  exact kept_kJob (kept_withKpf h2)

theorem kept_makeReport {nonce s} (h2 : Kept o s) :
    Kept o (makeReport nonce s).2 := by
  unfold makeReport
  split
  · exact keptSnd h2
  · split
    · exact keptSnd h2
    · extract_lets +onlyGivenNames v7
      clear_value v7
      extract_lets +onlyGivenNames v8
      have k9 : Kept o v8.2 := kept_drawBytes h2
      clear_value v8
      exact k9

theorem kept_attestEnds {s} (h1 : Kept o s) :
    Kept o (attestEnds s) := by
  unfold attestEnds
  split
  · exact h1
  · refine keptIte ?_ ?_
    · exact h1
    · split
      · rename_i a8
        refine keptVia_2 (o := o) a8 ?_ (fun k9 => ?_)
        · exact kept_makeReport h1
        clear a8
        exact kept_kComplete (kept_withKpf k9)
      · rename_i a12
        refine keptVia_2 (o := o) a12 ?_ (fun k13 => ?_)
        · exact kept_makeReport h1
        clear a12
        exact kept_kComplete k13

theorem kept_execAttest {tag s} (h2 : Kept o s) :
    KeptNext o (execAttest tag s) := by
  unfold execAttest
  refine keptNext ?_
  refine kept_kCommand ?_ ?_ ?_
  · intro y0 y1 y2
    exact kept_actAttest y2
  · intro y3 y4 y5
    exact kept_attestEnds y5
  · exact h2

theorem kept_actGetReport {x1 x2} (h2 : Kept o x2) :
    Kept o (actGetReport x1 x2).2 := by
  unfold actGetReport
  split
  · exact kept_kNo h2
  · extract_lets +onlyGivenNames v5
    clear_value v5
    split
    · exact kept_kNo h2
    · extract_lets +onlyGivenNames v8
      clear_value v8
      exact kept_kOk h2

theorem kept_execGetReport {tag s} (h2 : Kept o s) :
    KeptNext o (execGetReport tag s) := by
  unfold execGetReport
  refine keptNext ?_
  refine kept_kCommand ?_ ?_ ?_
  · intro y0 y1 y2
    exact kept_actGetReport y2
  · intro y3 y4 y5
    exact kept_noMore y5
  · exact h2

theorem kept_actGetIdentityKey {x1 x2} (h2 : Kept o x2) :
    Kept o (actGetIdentityKey x1 x2).2 := by
  unfold actGetIdentityKey
  split
  · exact kept_kNo h2
  · exact kept_kOk h2

theorem kept_execGetIdentityKey {tag s} (h2 : Kept o s) :
    KeptNext o (execGetIdentityKey tag s) := by
  unfold execGetIdentityKey
  refine keptNext ?_
  refine kept_kCommand ?_ ?_ ?_
  · intro y0 y1 y2
    exact kept_actGetIdentityKey y2
  · intro y3 y4 y5
    exact kept_noMore y5
  · exact h2

theorem kept_actGetLifeCycle {x1 x2} (h2 : Kept o x2) :
    Kept o (actGetLifeCycle x1 x2).2 := by
  unfold actGetLifeCycle
  exact kept_kOk h2

theorem kept_execGetLifeCycle {tag s} (h2 : Kept o s) :
    KeptNext o (execGetLifeCycle tag s) := by
  unfold execGetLifeCycle
  refine keptNext ?_
  refine kept_kCommand ?_ ?_ ?_
  · intro y0 y1 y2
    exact kept_actGetLifeCycle y2
  · intro y3 y4 y5
    exact kept_noMore y5
  · exact h2

theorem kept_actGetFlashStatus {x1 x2} (h2 : Kept o x2) :
    Kept o (actGetFlashStatus x1 x2).2 := by
  unfold actGetFlashStatus
  extract_lets +onlyGivenNames v0
  clear_value v0
  exact kept_kOk h2

theorem kept_execGetFlashStatus {tag s} (h2 : Kept o s) :
    KeptNext o (execGetFlashStatus tag s) := by
  unfold execGetFlashStatus
  refine keptNext ?_
  refine kept_kCommand ?_ ?_ ?_
  · intro y0 y1 y2
    exact kept_actGetFlashStatus y2
  · intro y3 y4 y5
    exact kept_noMore y5
  · exact h2

theorem kept_actPromote {x1 x2} (h2 : Kept o x2) :
    Kept o (actPromote x1 x2).2 := by
  unfold actPromote
  extract_lets +onlyGivenNames v0
  clear_value v0
  split
  · exact kept_kNo h2
  · split
    · exact kept_kNo h2
    · exact kept_kJob (kept_kField (kept_kField h2))

theorem kept_execPromote {tag s} (h2 : Kept o s) :
    KeptNext o (execPromote tag s) := by
  unfold execPromote
  refine keptNext ?_
  refine kept_kCommand ?_ ?_ ?_
  · intro y0 y1 y2
    exact kept_actPromote y2
  · intro y3 y4 y5
    exact kept_noMore y5
  · exact h2

theorem kept_actCancelPromote {x1 x2} (h2 : Kept o x2) :
    Kept o (actCancelPromote x1 x2).2 := by
  unfold actCancelPromote
  exact kept_kOk (kept_kField h2)

theorem kept_execCancelPromote {tag s} (h2 : Kept o s) :
    KeptNext o (execCancelPromote tag s) := by
  unfold execCancelPromote
  refine keptNext ?_
  refine kept_kCommand ?_ ?_ ?_
  · intro y0 y1 y2
    exact kept_actCancelPromote y2
  · intro y3 y4 y5
    exact kept_noMore y5
  · exact h2

theorem kept_actConfirmBoot {x1 x2} (h2 : Kept o x2) :
    Kept o (actConfirmBoot x1 x2).2 := by
  unfold actConfirmBoot
  extract_lets +onlyGivenNames v0
  clear_value v0
  extract_lets +onlyGivenNames v1
  clear_value v1
  extract_lets +onlyGivenNames v2
  have k3 : Kept o v2 := keptIte h2 (kept_kWrite h2)
  clear_value v2
  split
  · exact kept_kNo k3
  · exact kept_kOk k3

theorem kept_execConfirmBoot {tag s} (h2 : Kept o s) :
    KeptNext o (execConfirmBoot tag s) := by
  unfold execConfirmBoot
  refine keptNext ?_
  refine kept_kCommand ?_ ?_ ?_
  · intro y0 y1 y2
    exact kept_actConfirmBoot y2
  · intro y3 y4 y5
    exact kept_noMore y5
  · exact h2

theorem kept_actGetDigest {x1 x2} (h2 : Kept o x2) :
    Kept o (actGetDigest x1 x2).2 := by
  unfold actGetDigest
  split
  · exact kept_kOk h2
  · exact kept_kNo h2

theorem kept_execGetDigest {tag s} (h2 : Kept o s) :
    KeptNext o (execGetDigest tag s) := by
  unfold execGetDigest
  refine keptNext ?_
  refine kept_kCommand ?_ ?_ ?_
  · intro y0 y1 y2
    exact kept_actGetDigest y2
  · intro y3 y4 y5
    exact kept_noMore y5
  · exact h2

/-! ### Machine/KpfStore.lean -/

theorem kept_actOpen {x1 x2} (h2 : Kept o x2) :
    Kept o (actOpen x1 x2).2 := by
  unfold actOpen
  split
  · exact kept_kNo h2
  · extract_lets +onlyGivenNames v2
    clear_value v2
    extract_lets +onlyGivenNames v3
    have k4 : Kept o v3.2 := kept_sessionRequest h2
    clear_value v3
    split
    · extract_lets +onlyGivenNames v6
      have k7 : Kept o v6 := kept_withKpf k4
      clear_value v6
      exact kept_kOk k7
    · exact kept_kNo k4

theorem kept_takeLimits {s} (h1 : Kept o s) :
    Kept o (takeLimits s) := by
  unfold takeLimits
  extract_lets +onlyGivenNames v0
  clear_value v0
  exact kept_withKpf h1

theorem kept_execSessionOpen {tag s} (h2 : Kept o s) :
    KeptNext o (execSessionOpen tag s) := by
  unfold execSessionOpen
  refine keptNext ?_
  refine kept_kCommand ?_ ?_ ?_
  · intro y0 y1 y2
    exact kept_actOpen y2
  · intro y3 y4 y5
    exact kept_noMore y5
  · exact h2

theorem kept_pieceAnswer {outcome s} (h2 : Kept o s) :
    Kept o (pieceAnswer outcome s).2 := by
  unfold pieceAnswer
  exact kept_kOk h2

theorem kept_pieceOf {i crc s} (h3 : Kept o s) :
    Kept o (pieceOf i crc s) := by
  unfold pieceOf
  exact keptIte h3 (kept_withKpf h3)

theorem kept_addChunk {i crc off data s} (h5 : Kept o s) :
    Kept o (addChunk i crc off data s) := by
  unfold addChunk
  exact kept_withKpf (kept_pieceOf h5)

theorem kept_actPiece {x1 x2} (h2 : Kept o x2) :
    Kept o (actPiece x1 x2).2 := by
  unfold actPiece
  extract_lets +onlyGivenNames v0
  have k1 : Kept o v0 := kept_kpfScan h2
  clear_value v0
  extract_lets +onlyGivenNames v2
  clear_value v2
  extract_lets +onlyGivenNames v3
  clear_value v3
  extract_lets +onlyGivenNames v4
  clear_value v4
  extract_lets +onlyGivenNames v5
  clear_value v5
  split
  · exact kept_kNo k1
  · split
    · exact kept_kNo k1
    · split
      · exact kept_kNo k1
      · split
        · exact kept_kNo k1
        · split
          · exact kept_pieceAnswer (kept_pieceOf k1)
          · extract_lets +onlyGivenNames v16
            have k17 : Kept o v16 := kept_addChunk k1
            clear_value v16
            split
            · exact kept_pieceAnswer k17
            · extract_lets +onlyGivenNames v20
              have k21 : Kept o v20.2 := kept_storePiece k17
              clear_value v20
              extract_lets +onlyGivenNames v22
              have k23 : Kept o v22 := kept_withKpf k21
              clear_value v22
              split
              · exact kept_pieceAnswer k23
              · exact kept_pieceAnswer k23
              · exact kept_kNo k23
              · exact kept_kNo k23

theorem kept_execPiece {tag s} (h2 : Kept o s) :
    KeptNext o (execPiece tag s) := by
  unfold execPiece
  refine keptNext ?_
  refine kept_kCommand ?_ ?_ ?_
  · intro y0 y1 y2
    exact kept_actPiece y2
  · intro y3 y4 y5
    exact kept_completePackage y5
  · exact h2

theorem kept_actStatus {x1 x2} (h2 : Kept o x2) :
    Kept o (actStatus x1 x2).2 := by
  unfold actStatus
  extract_lets +onlyGivenNames v0
  have k1 : Kept o v0 := kept_kpfScan h2
  clear_value v0
  extract_lets +onlyGivenNames v2
  clear_value v2
  extract_lets +onlyGivenNames v3
  clear_value v3
  exact kept_kOk k1

theorem kept_execStatus {tag s} (h2 : Kept o s) :
    KeptNext o (execStatus tag s) := by
  unfold execStatus
  refine keptNext ?_
  refine kept_kCommand ?_ ?_ ?_
  · intro y0 y1 y2
    exact kept_actStatus y2
  · intro y3 y4 y5
    exact kept_noMore y5
  · exact h2

theorem kept_actActivate {x1 x2} (h2 : Kept o x2) :
    Kept o (actActivate x1 x2).2 := by
  unfold actActivate
  extract_lets +onlyGivenNames v0
  have k1 : Kept o v0 := kept_kpfScan h2
  clear_value v0
  split
  · exact kept_kNo k1
  · split
    · exact kept_kNo k1
    · exact kept_kJob k1

theorem kept_execActivate {tag s} (h2 : Kept o s) :
    KeptNext o (execActivate tag s) := by
  unfold execActivate
  refine keptNext ?_
  refine kept_kCommand ?_ ?_ ?_
  · intro y0 y1 y2
    exact kept_actActivate y2
  · intro y3 y4 y5
    exact keptIte (kept_activate y5) y5
  · exact h2

theorem kept_actCancel {x1 x2} (h2 : Kept o x2) :
    Kept o (actCancel x1 x2).2 := by
  unfold actCancel
  extract_lets +onlyGivenNames v0
  have k1 : Kept o v0 := kept_kpfScan h2
  clear_value v0
  split
  · exact kept_kNo k1
  · extract_lets +onlyGivenNames v4
    have k5 : Kept o v4 := kept_mark k1
    clear_value v4
    split
    · exact kept_kOk (kept_sessionEvent k5)
    · exact kept_kNo k5

theorem kept_execCancel {tag s} (h2 : Kept o s) :
    KeptNext o (execCancel tag s) := by
  unfold execCancel
  refine keptNext ?_
  refine kept_kCommand ?_ ?_ ?_
  · intro y0 y1 y2
    exact kept_actCancel y2
  · intro y3 y4 y5
    exact kept_noMore y5
  · exact h2

theorem kept_actConfirm {x1 x2} (h2 : Kept o x2) :
    Kept o (actConfirm x1 x2).2 := by
  unfold actConfirm
  split
  · exact kept_kOk (kept_confirmSlot h2)
  · exact kept_kNo h2

theorem kept_execConfirm {tag s} (h2 : Kept o s) :
    KeptNext o (execConfirm tag s) := by
  unfold execConfirm
  refine keptNext ?_
  refine kept_kCommand ?_ ?_ ?_
  · intro y0 y1 y2
    exact kept_actConfirm y2
  · intro y3 y4 y5
    exact kept_noMore y5
  · exact h2

theorem kept_actGetLogInfo {x1 x2} (h2 : Kept o x2) :
    Kept o (actGetLogInfo x1 x2).2 := by
  unfold actGetLogInfo
  extract_lets +onlyGivenNames v0
  have k1 : Kept o v0 := kept_kCollect h2
  clear_value v0
  exact kept_kOk k1

theorem kept_execGetLogInfo {tag s} (h2 : Kept o s) :
    KeptNext o (execGetLogInfo tag s) := by
  unfold execGetLogInfo
  refine keptNext ?_
  refine kept_kCommand ?_ ?_ ?_
  · intro y0 y1 y2
    exact kept_actGetLogInfo y2
  · intro y3 y4 y5
    exact kept_noMore y5
  · exact h2

theorem kept_actReadLog {x1 x2} (h2 : Kept o x2) :
    Kept o (actReadLog x1 x2).2 := by
  unfold actReadLog
  extract_lets +onlyGivenNames v0
  clear_value v0
  split
  · exact kept_kNo h2
  · extract_lets +onlyGivenNames v3
    have k4 : Kept o v3 := kept_flushLog h2
    clear_value v3
    extract_lets +onlyGivenNames v5
    clear_value v5
    extract_lets +onlyGivenNames v6
    have k7 : Kept o v6 := by
      unfold v6
      refine keptFold ?_ ?_
      · exact k4
      · intro y8 y9 y10
        exact kept_kpfScan y10
    clear_value v6
    exact kept_kOk k7

theorem kept_execReadLog {tag s} (h2 : Kept o s) :
    KeptNext o (execReadLog tag s) := by
  unfold execReadLog
  refine keptNext ?_
  refine kept_kCommand ?_ ?_ ?_
  · intro y0 y1 y2
    exact kept_actReadLog y2
  · intro y3 y4 y5
    exact kept_noMore y5
  · exact h2

theorem kept_actWriteLog {x1 x2} (h2 : Kept o x2) :
    Kept o (actWriteLog x1 x2).2 := by
  unfold actWriteLog
  split
  · exact kept_kNo h2
  · extract_lets +onlyGivenNames v2
    have k3 : Kept o v2.2 := kept_commitRecord h2
    clear_value v2
    split
    · exact kept_kOk k3
    · exact kept_kNo k3

theorem kept_execWriteLog {tag s} (h2 : Kept o s) :
    KeptNext o (execWriteLog tag s) := by
  unfold execWriteLog
  refine keptNext ?_
  refine kept_kCommand ?_ ?_ ?_
  · intro y0 y1 y2
    exact kept_actWriteLog y2
  · intro y3 y4 y5
    exact kept_noMore y5
  · exact h2

theorem kept_actGetSetting {x1 x2} (h2 : Kept o x2) :
    Kept o (actGetSetting x1 x2).2 := by
  unfold actGetSetting
  extract_lets +onlyGivenNames v0
  clear_value v0
  split
  · exact kept_kNo h2
  · extract_lets +onlyGivenNames v3
    have k4 : Kept o v3 := kept_kpfScan h2
    clear_value v3
    extract_lets +onlyGivenNames v5
    clear_value v5
    extract_lets +onlyGivenNames v6
    clear_value v6
    exact kept_kOk k4

theorem kept_execGetSetting {tag s} (h2 : Kept o s) :
    KeptNext o (execGetSetting tag s) := by
  unfold execGetSetting
  refine keptNext ?_
  refine kept_kCommand ?_ ?_ ?_
  · intro y0 y1 y2
    exact kept_actGetSetting y2
  · intro y3 y4 y5
    exact kept_noMore y5
  · exact h2

theorem kept_keyWritten {key r} (h2 : Kept o r.2) :
    Kept o (keyWritten key r).2 := by
  unfold keyWritten
  split
  · exact kept_kNo h2
  · exact kept_kOk (keptIte (kept_chargeApply (kept_takeLimits h2)) h2)

theorem kept_actSetSetting {x1 x2} (h2 : Kept o x2) :
    Kept o (actSetSetting x1 x2).2 := by
  unfold actSetSetting
  extract_lets +onlyGivenNames v0
  clear_value v0
  extract_lets +onlyGivenNames v1
  clear_value v1
  split
  · exact kept_kNo h2
  · split
    · exact kept_kNo h2
    · exact kept_keyWritten (kept_writeSetting h2)

theorem kept_execSetSetting {tag s} (h2 : Kept o s) :
    KeptNext o (execSetSetting tag s) := by
  unfold execSetSetting
  refine keptNext ?_
  refine kept_kCommand ?_ ?_ ?_
  · intro y0 y1 y2
    exact kept_actSetSetting y2
  · intro y3 y4 y5
    exact kept_noMore y5
  · exact h2

theorem kept_actDeleteSetting {x1 x2} (h2 : Kept o x2) :
    Kept o (actDeleteSetting x1 x2).2 := by
  unfold actDeleteSetting
  extract_lets +onlyGivenNames v0
  clear_value v0
  split
  · exact kept_kNo h2
  · extract_lets +onlyGivenNames v6
    have k7 : Kept o v6 := kept_kpfScan h2
    clear_value v6
    split
    · exact kept_kNo k7
    · exact kept_keyWritten (kept_writeSetting k7)

theorem kept_execDeleteSetting {tag s} (h2 : Kept o s) :
    KeptNext o (execDeleteSetting tag s) := by
  unfold execDeleteSetting
  refine keptNext ?_
  refine kept_kCommand ?_ ?_ ?_
  · intro y0 y1 y2
    exact kept_actDeleteSetting y2
  · intro y3 y4 y5
    exact kept_noMore y5
  · exact h2

/-! ### Machine/KpfTick.lean -/

theorem kept_report {code data bit s} (h4 : Kept o s) :
    Kept o (report code data bit s) := by
  unfold report
  exact kept_kEvent h4

theorem kept_watchInput {n}  :
    KeptW o (watchInput n) := by
  unfold watchInput
  refine keptWatch ?_
  intro y0 y1 y2 y3
  extract_lets +onlyGivenNames v4
  have k5 : Kept o v4 := keptIte (kept_report y3) y3
  clear_value v4
  exact kept_kQuery k5

theorem kept_watchBattery : KeptW o watchBattery := by
  unfold watchBattery
  refine keptWatch ?_
  intro y0 y1 y2 y3
  extract_lets +onlyGivenNames v4
  have k5 : Kept o v4 := kept_report y3
  clear_value v4
  exact keptIte k5 (kept_kQuery k5)

theorem kept_watchCharger : KeptW o watchCharger := by
  unfold watchCharger
  refine keptWatch ?_
  intro y0 y1 y2 y3
  exact kept_kQuery (kept_report y3)

theorem kept_watchRsoc : KeptW o watchRsoc := by
  unfold watchRsoc
  refine keptWatch ?_
  intro y0 y1 y2 y3
  exact kept_kQuery y3

theorem kept_watchFault : KeptW o watchFault := by
  unfold watchFault
  refine keptWatch ?_
  intro y0 y1 y2 y3
  exact keptIte y3 (kept_report y3)

theorem kept_watchContract {p}  :
    KeptW o (watchContract p) := by
  unfold watchContract
  refine keptWatch ?_
  intro y0 y1 y2 y3
  refine keptIte ?_ ?_
  · exact y3
  · extract_lets +onlyGivenNames v4
    clear_value v4
    extract_lets +onlyGivenNames v5
    clear_value v5
    exact kept_report y3

theorem kept_watchLevel : KeptW o watchLevel := by
  unfold watchLevel
  refine keptWatch ?_
  intro y0 y1 y2 y3
  exact kept_kQuery (kept_report y3)

theorem kept_watchFan {n}  :
    KeptW o (watchFan n) := by
  unfold watchFan
  refine keptWatch ?_
  intro y0 y1 y2 y3
  extract_lets +onlyGivenNames v4
  have k5 : Kept o v4 := keptIte (kept_report y3) y3
  clear_value v4
  exact keptIte (kept_kQuery k5) k5

theorem kept_watchStuck : KeptW o watchStuck := by
  unfold watchStuck
  refine keptWatch ?_
  intro y0 y1 y2 y3
  exact kept_report y3

theorem kept_watchLock : KeptW o watchLock := by
  unfold watchLock
  refine keptWatch ?_
  intro y0 y1 y2 y3
  extract_lets +onlyGivenNames v4
  have k5 : Kept o v4 := kept_writeSetting y3
  clear_value v4
  exact kept_kQuery (kept_report k5)

theorem kept_watchLamps {i}  :
    KeptW o (watchLamps i) := by
  unfold watchLamps
  refine keptWatch ?_
  intro y0 y1 y2 y3
  refine keptFold ?_ ?_
  · exact y3
  · intro y4 y5 y6
    extract_lets +onlyGivenNames v7
    clear_value v7
    exact keptIte (kept_report y6) y6

theorem kept_watchExcluded : KeptW o watchExcluded := by
  unfold watchExcluded
  refine keptWatch ?_
  intro y0 y1 y2 y3
  refine keptFold ?_ ?_
  · exact y3
  · intro y4 y5 y6
    exact keptIte (kept_report y6) y6

theorem kept_watchVerdict : KeptW o watchVerdict := by
  unfold watchVerdict
  refine keptWatch ?_
  intro y0 y1 y2 y3
  exact keptIte y3 (kept_report y3)

theorem kept_watchRails : KeptW o watchRails := by
  unfold watchRails
  refine keptWatch ?_
  intro y0 y1 y2 y3
  refine keptFold ?_ ?_
  · exact y3
  · intro y4 y5 y6
    exact keptIte (kept_report y6) y6

theorem kept_watchLid : KeptW o watchLid := by
  unfold watchLid
  refine keptWatch ?_
  intro y0 y1 y2 y3
  exact kept_kQuery y3

theorem kept_watchSnapshot {s} (h1 : Kept o s) :
    Kept o (watchSnapshot s) := by
  unfold watchSnapshot
  exact kept_withKpf h1

theorem kept_mailStep {s} (h1 : Kept o s) :
    Kept o (mailStep s) := by
  unfold mailStep
  exact kept_kPage (kept_kRepeat (kept_kUnknown (kept_kTake h1)))

theorem kept_offAsk {s} (h1 : Kept o s) :
    Kept o (offAsk s) := by
  unfold offAsk
  extract_lets +onlyGivenNames v0
  clear_value v0
  extract_lets +onlyGivenNames v1
  have k2 : Kept o v1 := kept_busWrite (kept_withKpf h1)
  clear_value v1
  exact keptIte (kept_kRecord k2) k2

theorem kept_offBegin {s} (h1 : Kept o s) :
    Kept o (offBegin s) := by
  unfold offBegin
  extract_lets +onlyGivenNames v0
  clear_value v0
  extract_lets +onlyGivenNames v1
  clear_value v1
  extract_lets +onlyGivenNames v2
  have k3 : Kept o v2 := by
    unfold v2
    refine keptFold ?_ ?_
    · exact kept_busWrite h1
    · intro y4 y5 y6
      exact kept_kRecord y6
  clear_value v2
  extract_lets +onlyGivenNames v7
  have k8 : Kept o v7 := kept_busWrite (kept_busWrite k3)
  clear_value v7
  exact kept_withKpf k8

theorem kept_powerDown {s} (h1 : Kept o s) :
    Kept o (powerDown s) := by
  unfold powerDown
  refine keptIte ?_ ?_
  · exact kept_withKpf h1
  · refine keptIte ?_ ?_
    · exact h1
    · split
      · exact keptIte (kept_offAsk h1) h1
      · extract_lets +onlyGivenNames v5
        clear_value v5
        exact keptIte (kept_offBegin h1) h1

theorem kept_tokenEnds {s} (h1 : Kept o s) :
    Kept o (tokenEnds s) := by
  unfold tokenEnds
  exact keptIte (kept_kComplete h1) h1

theorem kept_chainEnds {s} (h1 : Kept o s) :
    Kept o (chainEnds s) := by
  unfold chainEnds
  split
  · exact h1
  · extract_lets +onlyGivenNames v5
    clear_value v5
    extract_lets +onlyGivenNames v6
    clear_value v6
    extract_lets +onlyGivenNames v7
    clear_value v7
    exact keptIte (kept_kComplete h1) (keptIte (kept_kComplete h1) h1)

theorem kept_flagStep {s} (h1 : Kept o s) :
    Kept o (flagStep s) := by
  unfold flagStep
  extract_lets +onlyGivenNames v0
  have k1 : ∀ v0y1 v0y2 v0y3, (∀ v0y2y1, (Kept o v0y2y1) → Kept o (v0y2 v0y2y1)) → (Kept o v0y3) → Kept o (v0 v0y1
      v0y2 v0y3) := by
    intro y2 y3 y4 y5 y6
    unfold v0
    exact keptIte (y5 _ (kept_kField y6)) y6
  clear_value v0
  extract_lets +onlyGivenNames v7
  have k8 : Kept o v7 := by
    unfold v7
    refine k1 _ _ _ ?_ ?_
    · intro y9 y10
      exact kept_report y10
    · exact h1
  clear_value v7
  extract_lets +onlyGivenNames v11
  have k12 : Kept o v11 := by
    unfold v11
    refine k1 _ _ _ ?_ ?_
    · intro y13 y14
      exact kept_report y14
    · exact k8
  clear_value v11
  extract_lets +onlyGivenNames v15
  have k16 : Kept o v15 := by
    unfold v15
    refine k1 _ _ _ ?_ ?_
    · intro y17 y18
      exact kept_kQuery y18
    · exact k12
  clear_value v15
  extract_lets +onlyGivenNames v19
  have k20 : Kept o v19 := by
    unfold v19
    refine k1 _ _ _ ?_ ?_
    · intro y21 y22
      exact keptId y22
    · exact k16
  clear_value v19
  refine k1 _ _ _ ?_ ?_
  · intro y23 y24
    exact kept_kPost y24
  · exact k20

theorem kept_rsmStep {s} (h1 : Kept o s) :
    Kept o (rsmStep s) := by
  unfold rsmStep
  exact keptIte (kept_kSet h1) h1

theorem kept_keyPostView {f s} (h2 : Kept o s) :
    Kept o (keyPostView f s) := by
  unfold keyPostView
  extract_lets +onlyGivenNames v0
  clear_value v0
  exact keptIte h2 (kept_kPost (kept_withKpf h2))

theorem kept_keyPosts {x1 x2} (h2 : Kept o x2) :
    Kept o (keyPosts x1 x2) := by
  fun_induction keyPosts x1 x2
  · exact kept_keyPostView h2
  · exact h2
  · rename_i a8
    exact a8 (kept_keyPostView (kept_withKpf h2))
  · exact h2

theorem kept_keyPost {s} (h1 : Kept o s) :
    Kept o (keyPost s) := by
  unfold keyPost
  exact keptIte (kept_withKpf h1) (keptIte h1 (kept_keyPosts (keptIte h1 (kept_kField h1))))

theorem kept_ecPost {s} (h1 : Kept o s) :
    Kept o (ecPost s) := by
  unfold ecPost
  refine keptIte ?_ ?_
  · exact h1
  · extract_lets +onlyGivenNames v0
    clear_value v0
    exact keptIte h1 (kept_kPost (kept_withKpf h1))

theorem kept_writeBright {v s} (h2 : Kept o s) :
    Kept o (writeBright v s) := by
  unfold writeBright
  exact kept_kField h2

theorem kept_ecPair {p s} (h2 : Kept o s) :
    Kept o (ecPair p s) := by
  unfold ecPair
  extract_lets +onlyGivenNames v0
  clear_value v0
  split
  · exact keptIte (kept_chargeApply (kept_limitCheck (kept_withKpf h2))) h2
  · exact keptIte (kept_withKpf (keptIte (kept_writeBright h2) h2)) h2
  · exact keptIte (kept_setProfile h2) h2
  · exact keptIte (kept_kField h2) h2
  · exact h2

theorem kept_drainPairs {x1 x2} (h2 : Kept o x2) :
    Kept o (drainPairs x1 x2) := by
  fun_induction drainPairs x1 x2
  · exact h2
  · exact h2
  · rename_i a9
    exact a9 (kept_ecPair (kept_ecWqRead h2))

theorem kept_drainForwarded {x1 x2} (h2 : Kept o x2) :
    Kept o (drainForwarded x1 x2) := by
  fun_induction drainForwarded x1 x2
  · exact h2
  · exact h2
  · rename_i a7
    exact a7 (kept_ecInRead h2)

theorem kept_ecStep {s} (h1 : Kept o s) :
    Kept o (ecStep s) := by
  unfold ecStep
  exact keptIte (kept_withKpf h1) (kept_kPush (kept_ecPost (kept_drainPairs (kept_drainForwarded h1))))

theorem kept_Watch_act {w : Watch} {x2 x3 x4} (h1 : KeptW o w) (h4 : Kept o x4) : Kept o (w.act x2 x3 x4) :=
  h1 _ _ _ h4

theorem kept_stagingStep {s} (h1 : Kept o s) :
    Kept o (stagingStep s) := by
  unfold stagingStep
  exact keptIte (kept_takeUnit h1) h1

theorem kept_lightStep {s} (h1 : Kept o s) :
    Kept o (lightStep s) := by
  unfold lightStep
  refine keptIte ?_ ?_
  · exact h1
  · extract_lets +onlyGivenNames v0
    have k1 : Kept o v0 := keptIte (kept_writeBright h1) h1
    clear_value v0
    exact kept_withKpf k1

theorem kept_tunnelAnswer {tag status data s} (h4 : Kept o s) :
    Kept o (tunnelAnswer tag status data s) := by
  unfold tunnelAnswer
  extract_lets +onlyGivenNames v0
  clear_value v0
  extract_lets +onlyGivenNames v1
  have k2 : Kept o v1 := by
    unfold v1
    refine keptFold ?_ ?_
    · exact h4
    · intro y3 y4 y5
      exact kept_bulkWr y5
  clear_value v1
  exact kept_withKpf k2

theorem kept_promoteEnds {s} (h1 : Kept o s) :
    Kept o (promoteEnds s) := by
  unfold promoteEnds
  exact keptIte h1 (keptIte (kept_kComplete h1) (kept_kComplete h1))

theorem kept_vdmEnds {s} (h1 : Kept o s) :
    Kept o (vdmEnds s) := by
  unfold vdmEnds
  split
  · exact h1
  · exact keptIte (kept_kComplete h1) (keptIte h1 (kept_kComplete h1))

theorem kept_pdoEnds {s} (h1 : Kept o s) :
    Kept o (pdoEnds s) := by
  unfold pdoEnds
  split
  · exact h1
  · exact keptIte (kept_kComplete h1) (keptIte (kept_kComplete h1) (keptIte (kept_kComplete h1) h1))

theorem kept_shipEnds {s} (h1 : Kept o s) :
    Kept o (shipEnds s) := by
  unfold shipEnds
  split
  · exact h1
  · refine keptIte ?_ ?_
    · exact h1
    · extract_lets +onlyGivenNames v5
      have k6 : Kept o v5 := kept_busWrite h1
      clear_value v5
      exact keptIte (kept_kComplete k6) (kept_withKpf k6)

theorem kept_jobsEnd {s} (h1 : Kept o s) :
    Kept o (jobsEnd s) := by
  unfold jobsEnd
  exact kept_attestEnds (kept_promoteEnds (kept_tokenEnds (kept_chainEnds (kept_vdmEnds (kept_pdoEnds (kept_shipEnds
      h1))))))

theorem kept_chargeStep {s} (h1 : Kept o s) :
    Kept o (chargeStep s) := by
  unfold chargeStep
  extract_lets +onlyGivenNames v0
  have k1 : Kept o v0 := kept_limitCheck (kept_fullCharge (kept_packRemoved h1))
  clear_value v0
  exact keptIte (kept_chargeApply k1) k1

theorem kept_sendRecord {k s} (h2 : Kept o s) :
    Kept o (sendRecord k s) := by
  unfold sendRecord
  extract_lets +onlyGivenNames v0
  have k1 : Kept o v0 := kept_kpfScan h2
  clear_value v0
  refine keptFold ?_ ?_
  · exact k1
  · intro y2 y3 y4
    exact kept_bulkWr y4

theorem kept_sendLog {x1 x2} (h2 : Kept o x2) :
    Kept o (sendLog x1 x2) := by
  fun_induction sendLog x1 x2
  · exact h2
  · exact h2
  · exact h2
  · rename_i a14
    exact a14 (kept_withKpf (kept_sendRecord h2))

theorem kept_framesStep {s} (h1 : Kept o s) :
    Kept o (framesStep s) := by
  unfold framesStep
  refine keptFold ?_ ?_
  · exact h1
  · intro y0 y1 y2
    exact keptIte (kept_drainFrames y2) y2

theorem kept_waitStep {s} (h1 : Kept o s) :
    Kept o (waitStep s) := by
  unfold waitStep
  split
  · exact h1
  · exact keptIte (keptIte (kept_kWaited (kept_setLighting h1)) h1) (keptIte (kept_kWaited h1) (keptIte
      (kept_kWaited h1) (kept_tryModule h1)))

theorem keptW_watches : ∀ w ∈ watches, KeptW o w := by
  intro w hw
  simp only [watches, List.map_cons, List.map_nil, List.mem_append, List.mem_cons, List.mem_map, List.not_mem_nil,
    or_false] at hw
  rcases hw with (((h | h | h) | (h | h | h | h | h | h | h | h | h | h | h | h | h)) | ⟨i, -, h⟩) | (h | h | h | h)
  · rw [h]; exact kept_watchInput
  · rw [h]; exact kept_watchInput
  · rw [h]; exact kept_watchInput
  · rw [h]; exact kept_watchBattery
  · rw [h]; exact kept_watchCharger
  · rw [h]; exact kept_watchRsoc
  · rw [h]; exact kept_watchFault
  · rw [h]; exact kept_watchContract
  · rw [h]; exact kept_watchContract
  · rw [h]; exact kept_watchLevel
  · rw [h]; exact kept_watchFan
  · rw [h]; exact kept_watchFan
  · rw [h]; exact kept_watchFan
  · rw [h]; exact kept_watchFan
  · rw [h]; exact kept_watchStuck
  · rw [h]; exact kept_watchLock
  · rw [← h]; exact kept_watchLamps
  · rw [h]; exact kept_watchExcluded
  · rw [h]; exact kept_watchVerdict
  · rw [h]; exact kept_watchRails
  · rw [h]; exact kept_watchLid
theorem kept_watchStep {s} (h : Kept o s) : Kept o (watchStep s) := by
  unfold watchStep
  refine keptFoldMem h fun s w hw hs => ?_
  extract_lets old new
  split
  · exact hs
  · exact keptW_watches w hw _ _ _ (kept_withKpf hs)

theorem kept_tunnelStart {s} (h1 : Kept o s) :
    Kept o (tunnelStart s) := by
  unfold tunnelStart
  extract_lets +onlyGivenNames v0
  clear_value v0
  extract_lets +onlyGivenNames v1
  clear_value v1
  extract_lets +onlyGivenNames v2
  clear_value v2
  extract_lets +onlyGivenNames v3
  have k4 : Kept o v3 := kept_bulkAck h1
  clear_value v3
  extract_lets +onlyGivenNames v5
  refine keptIte ?_ ?_
  · exact kept_tunnelAnswer k4
  · extract_lets +onlyGivenNames v6
    have k7 : Kept o v6 := keptIte (kept_setBytes k4) k4
    clear_value v6
    extract_lets +onlyGivenNames v8
    have k9 : Kept o v8 := kept_busWrite k7
    clear_value v8
    extract_lets +onlyGivenNames v10
    have k11 : Kept o v10 := kept_kField k9
    clear_value v10
    extract_lets +onlyGivenNames v12
    have k13 : Kept o v12 := kept_kField k11
    clear_value v12
    exact kept_withKpf (kept_busWrite k13)

theorem kept_tunnelStep {s} (h1 : Kept o s) :
    Kept o (tunnelStep s) := by
  unfold tunnelStep
  split
  · refine keptIte ?_ ?_
    · exact h1
    · extract_lets +onlyGivenNames v4
      clear_value v4
      exact kept_tunnelAnswer h1
  · refine keptIte ?_ ?_
    · exact h1
    · extract_lets +onlyGivenNames v7
      have k8 : Kept o v7 := kept_takeUnit h1
      clear_value v7
      exact keptIte (kept_tunnelStart k8) k8

theorem kept_logReadout {s} (h1 : Kept o s) :
    Kept o (logReadout s) := by
  unfold logReadout
  refine keptIte ?_ ?_
  · exact h1
  · extract_lets +onlyGivenNames v0
    clear_value v0
    extract_lets +onlyGivenNames v1
    have k2 : Kept o v1 := keptIte (kept_withKpf (kept_flushLog h1)) h1
    clear_value v1
    exact kept_sendLog k2

theorem kept_readyStep {s} (h1 : Kept o s) :
    Kept o (readyStep s) := by
  unfold readyStep
  exact keptIte h1 (kept_withKpf h1)

theorem kept_kpfTick {s} (h1 : Kept o s) :
    Kept o (kpfTick s) := by
  unfold kpfTick
  refine keptIte ?_ ?_
  · exact h1
  · refine keptIte ?_ ?_
    · exact kept_mailStep h1
    · extract_lets +onlyGivenNames v0
      have k1 : Kept o v0 := kept_dongleStep (kept_framesStep (kept_waitStep (kept_mailStep h1)))
      clear_value v0
      extract_lets +onlyGivenNames v2
      have k3 : Kept o v2 := kept_takeVdm (kept_takeVdm (kept_policyCheck (kept_chargeStep k1)))
      clear_value v2
      extract_lets +onlyGivenNames v4
      have k5 : Kept o v4 := kept_watchStep (kept_flagStep (kept_jobsEnd k3))
      clear_value v4
      extract_lets +onlyGivenNames v6
      have k7 : Kept o v6 := kept_tunnelStep (kept_logReadout (kept_stagingStep k5))
      clear_value v6
      exact kept_powerDown (kept_ecStep (kept_lightStep (kept_keyPost (kept_readyStep (kept_rsmStep k7)))))

/-! ### Machine/KpfStart.lean -/

theorem kept_kpfMemory {x1 slot s} (h3 : Kept o s) :
    Kept o (kpfMemory x1 slot s) := by
  unfold kpfMemory
  exact kept_withKpf h3

theorem kept_startFloe {s} (h1 : Kept o s) :
    Kept o (startFloe s) := by
  unfold startFloe
  refine keptFold ?_ ?_
  · exact h1
  · intro y0 y1 y2
    exact keptIte (kept_busWrite y2) y2

theorem kept_startSerac {s} (h1 : Kept o s) :
    Kept o (startSerac s) := by
  unfold startSerac
  exact keptIte (kept_busWrite h1) h1

theorem kept_startPorts {s} (h1 : Kept o s) :
    Kept o (startPorts s) := by
  unfold startPorts
  exact keptIte h1 (kept_kSet (kept_kSet h1))

theorem kept_startKeyboard {s} (h1 : Kept o s) :
    Kept o (startKeyboard s) := by
  unfold startKeyboard
  extract_lets +onlyGivenNames v0
  have k1 : Kept o v0 := by
    unfold v0
    refine keptElim ?_ ?_
    · exact h1
    · intro y2
      exact kept_loadStuck h1
  clear_value v0
  extract_lets +onlyGivenNames v3
  have k4 : Kept o v3 := by
    unfold v3
    refine keptElim ?_ ?_
    · exact k1
    · intro y5
      exact kept_loadSequence k1
  clear_value v3
  split
  · refine keptIte ?_ ?_
    · extract_lets +onlyGivenNames v9
      have k10 : Kept o v9 := kept_kField k4
      clear_value v9
      exact keptIte k10 (kept_kField k10)
    · exact k4
  · exact k4

theorem kept_startSequence {j is s} (h3 : Kept o s) :
    Kept o (startSequence j is s) := by
  unfold startSequence
  exact kept_busWrite (kept_busWrite h3)

theorem kept_startThermal {s} (h1 : Kept o s) :
    Kept o (startThermal s) := by
  unfold startThermal
  refine keptIte ?_ ?_
  · exact h1
  · extract_lets +onlyGivenNames v0
    have k1 : Kept o v0 := kept_startSequence (kept_startSequence h1)
    clear_value v0
    extract_lets +onlyGivenNames v2
    have k3 : Kept o v2 := by
      unfold v2
      split
      · refine keptFold ?_ ?_
        · exact k1
        · intro y7 y8 y9
          exact kept_busWrite y9
      · exact k1
    clear_value v2
    exact kept_kField k3

theorem kept_startSlot {s r} (h1 : Kept o s) :
    Kept o (startSlot s r) := by
  unfold startSlot
  extract_lets +onlyGivenNames v0
  clear_value v0
  extract_lets +onlyGivenNames v1
  have k2 : Kept o v1 := kept_busWrite (kept_busWrite h1)
  clear_value v1
  extract_lets +onlyGivenNames v3
  clear_value v3
  exact kept_busWrite k2

theorem kept_startIcefall {s} (h1 : Kept o s) :
    Kept o (startIcefall s) := by
  unfold startIcefall
  refine keptIte ?_ ?_
  · exact h1
  · refine kept_kField ?_
    refine kept_kField ?_
    refine keptFold ?_ ?_
    · exact h1
    · intro y0 y1 y2
      exact kept_startSlot y2

theorem kept_startCounts {s} (h1 : Kept o s) :
    Kept o (startCounts s) := by
  unfold startCounts
  extract_lets +onlyGivenNames v0
  have k1 : Kept o v0 := keptIte (kept_busRead h1) h1
  clear_value v0
  exact kept_busRead k1

theorem kept_activated {s} (h1 : Kept o s) :
    Kept o (activated s) := by
  unfold activated
  exact kept_kComplete h1

theorem kept_answerOwned {s} (h1 : Kept o s) :
    Kept o (answerOwned s) := by
  unfold answerOwned
  refine keptFold ?_ ?_
  · exact h1
  · intro y0 y1 y2
    exact keptIte (kept_kAnswer y2) y2

theorem kept_kpfStart {x1 fell slot s} (h4 : Kept o s) :
    Kept o (kpfStart x1 fell slot s) := by
  unfold kpfStart
  extract_lets +onlyGivenNames v0
  have k1 : Kept o v0 := kept_readAtStart (kept_kpfMemory (kept_kpfScan h4))
  clear_value v0
  extract_lets +onlyGivenNames v2
  have k3 : Kept o v2 := keptIte (kept_setBytes k1) k1
  clear_value v2
  extract_lets +onlyGivenNames v4
  have k5 : Kept o v4 := kept_startFloe (kept_startSerac (kept_startPorts (kept_startKeyboard (kept_startThermal
      (kept_startIcefall k3)))))
  clear_value v4
  extract_lets +onlyGivenNames v6
  have k7 : Kept o v6 := kept_startCounts (kept_busRead k5)
  clear_value v6
  extract_lets +onlyGivenNames v8
  have k9 : Kept o v8 := kept_takeLimits (kept_withKpf k7)
  clear_value v8
  extract_lets +onlyGivenNames v10
  have k11 : Kept o v10 := keptIte (kept_activated k9) (kept_answerOwned k9)
  clear_value v10
  extract_lets +onlyGivenNames v12
  have k13 : Kept o v12 := keptIte (kept_applyPackage k11) k11
  clear_value v12
  extract_lets +onlyGivenNames v14
  have k15 : Kept o v14 := keptIte (kept_report k13) k13
  clear_value v14
  extract_lets +onlyGivenNames v16
  clear_value v16
  extract_lets +onlyGivenNames v17
  clear_value v17
  extract_lets +onlyGivenNames v18
  have k19 : Kept o v18 := kept_report (kept_watchSnapshot k15)
  clear_value v18
  exact kept_kPage (kept_kField k19)

/-! ### Machine/Boot.lean -/

theorem kept_readBlock {s} (h1 : Kept o s) :
    Kept o (readBlock s) := by
  unfold readBlock
  exact keptIte (kept_set h1) h1

theorem kept_retireLog {s} (h1 : Kept o s) :
    Kept o (retireLog s) := by
  unfold retireLog
  extract_lets +onlyGivenNames v0
  have k1 : Kept o v0 := kept_wr (kept_eraseFirn h1)
  clear_value v0
  exact kept_logWrite k1

theorem kept_bootWipes {s} (h1 : Kept o s) :
    Kept o (bootWipes s) := by
  unfold bootWipes
  refine keptIte ?_ ?_
  · exact h1
  · extract_lets +onlyGivenNames v0
    have k1 : Kept o v0 := by
      unfold v0
      refine keptFold ?_ ?_
      · exact h1
      · intro y2 y3 y4
        exact kept_firnScan y4
    clear_value v0
    extract_lets +onlyGivenNames v5
    have k6 : Kept o v5 := keptIte (kept_eraseFirn k1) k1
    clear_value v5
    extract_lets +onlyGivenNames v7
    have k8 : Kept o v7 := kept_logReady k6
    clear_value v7
    extract_lets +onlyGivenNames v9
    have k10 : Kept o v9 := by
      unfold v9
      refine keptElim ?_ ?_
      · exact k8
      · intro y11
        exact kept_firnScan k8
    clear_value v9
    exact keptIte (kept_retireLog k10) k10

theorem kept_discardPost {s} (h1 : Kept o s) :
    Kept o (discardPost s) := by
  unfold discardPost
  exact keptIte h1 (kept_postAbort (kept_withKpf h1))

theorem kept_bootLog {sev code data s} (h4 : Kept o s) :
    Kept o (bootLog sev code data s) := by
  unfold bootLog
  exact kept_commitRecord h4

theorem kept_tryBoot {b s} (h2 : Kept o s) :
    Kept o (tryBoot b s).2 := by
  unfold tryBoot
  extract_lets +onlyGivenNames v0
  clear_value v0
  extract_lets +onlyGivenNames v1
  have k2 : Kept o v1 := kept_firnScan h2
  clear_value v1
  split
  · exact keptSnd k2
  · exact keptSnd (kept_bootLog k2)

theorem kept_appendPlan {a s} (h2 : Kept o s) :
    Kept o (appendPlan a s) := by
  unfold appendPlan
  split
  · exact kept_appendBoot h2
  · exact h2

theorem kept_enterSlot {plan slot x3 s} (h4 : Kept o s) :
    Kept o (enterSlot plan slot x3 s) := by
  unfold enterSlot
  extract_lets +onlyGivenNames v0
  have k1 : Kept o v0 := kept_putBytes h4
  clear_value v0
  extract_lets +onlyGivenNames v2
  have k3 : Kept o v2 := kept_wrB (kept_wrB k1)
  clear_value v2
  extract_lets +onlyGivenNames v4
  have k5 : Kept o v4 := kept_wr (kept_wrB k3)
  clear_value v4
  extract_lets +onlyGivenNames v6
  have k7 : Kept o v6 := kept_wr k5
  clear_value v6
  extract_lets +onlyGivenNames v8
  have k9 : Kept o v8 := kept_wrB (kept_wrB k7)
  clear_value v8
  extract_lets +onlyGivenNames v10
  have k11 : Kept o v10 := kept_wr (kept_clr k9)
  clear_value v10
  extract_lets +onlyGivenNames v12
  have k13 : Kept o v12 := keptIte (kept_set k11) k11
  clear_value v12
  extract_lets +onlyGivenNames v14
  clear_value v14
  extract_lets +onlyGivenNames v15
  have k16 : Kept o v15 := kept_set k13
  clear_value v15
  exact kept_mk.mpr ⟨k16.1, k16.2.1, k16.2.2.1, k16.2.2.2.1, k13.2.2.2.2⟩

theorem kept_startSlotFw {plan slot s} (h3 : Kept o s) :
    Kept o (startSlotFw plan slot s) := by
  unfold startSlotFw
  extract_lets +onlyGivenNames v0
  clear_value v0
  extract_lets +onlyGivenNames v1
  clear_value v1
  extract_lets +onlyGivenNames v2
  clear_value v2
  extract_lets +onlyGivenNames v3
  have k4 : Kept o v3 := kept_appendPlan h3
  clear_value v3
  extract_lets +onlyGivenNames v5
  have k6 : Kept o v5 := keptIte (kept_confArm k4) k4
  clear_value v5
  extract_lets +onlyGivenNames v7
  have k8 : Kept o v7 := keptIte (kept_bootLog k6) k6
  clear_value v7
  extract_lets +onlyGivenNames v9
  clear_value v9
  extract_lets +onlyGivenNames v10
  have k11 : Kept o v10 := keptIte k8 (kept_setBytes k8)
  clear_value v10
  exact kept_kpfStart (kept_enterSlot k11)

theorem kept_romRecovery {s} (h1 : Kept o s) :
    Kept o (romRecovery s) := by
  unfold romRecovery
  extract_lets +onlyGivenNames v0
  have k1 : Kept o v0 := kept_bootLog (kept_setBytes h1)
  clear_value v0
  extract_lets +onlyGivenNames v2
  have k3 : Kept o v2 := kept_set (kept_wr (kept_wr (kept_set k1)))
  clear_value v2
  extract_lets +onlyGivenNames v4
  have k5 : Kept o v4 := kept_clr (kept_clr k3)
  clear_value v4
  extract_lets +onlyGivenNames v6
  have k7 : Kept o v6 := kept_wr k5
  clear_value v6
  extract_lets +onlyGivenNames v8
  extract_lets +onlyGivenNames v9
  have k10 : Kept o v9 := kept_mk.mpr k7
  clear_value v9
  extract_lets +onlyGivenNames v11
  have k12 : Kept o v11 := kept_withKpf k10
  clear_value v11
  extract_lets +onlyGivenNames v13
  have k14 : Kept o v13 := kept_kPage (kept_kField k12)
  clear_value v13
  exact keptIte (kept_applyPackage k14) k14

theorem kept_bootRom {s} (h1 : Kept o s) :
    Kept o (bootRom s) := by
  unfold bootRom
  extract_lets +onlyGivenNames v0
  have k1 : Kept o v0 := kept_readBlock (kept_bootWipes (kept_discardPost (kept_clearSlots h1)))
  clear_value v0
  extract_lets +onlyGivenNames v2
  have k3 : Kept o v2 := kept_firnScan k1
  clear_value v2
  extract_lets +onlyGivenNames v4
  clear_value v4
  split
  · rename_i a7
    refine keptVia_2 (o := o) a7 ?_ (fun k8 => ?_)
    · exact kept_tryBoot k3
    clear a7
    exact kept_startSlotFw k8
  · rename_i a11
    refine keptVia_2 (o := o) a11 ?_ (fun k12 => ?_)
    · exact kept_tryBoot k3
    clear a11
    split
    · rename_i a15
      refine keptVia_2 (o := o) a15 ?_ (fun k16 => ?_)
      · exact kept_tryBoot k12
      clear a15
      exact kept_startSlotFw k16
    · rename_i a19
      refine keptVia_2 (o := o) a19 ?_ (fun k20 => ?_)
      · exact kept_tryBoot k12
      clear a19
      exact kept_romRecovery k20

theorem kept_execBootSlotStart {t s} (h2 : Kept o s) :
    KeptNext o (execBootSlotStart t s) := by
  unfold execBootSlotStart
  extract_lets +onlyGivenNames v0
  have k1 : Kept o v0 := kept_seen h2
  clear_value v0
  exact keptNext (keptIte (kept_bootRom k1) k1)

end Sys2Proof.Machine
end

