-- ==== Sys2Proof/Laws/KeptCommands1.lean ====
section
/-! SUPPORT. What the operations keep (Laws/Kept.lean): commands of power and charging, and the core. -/

namespace Sys2Proof.Machine

variable {o : State}

/-! ### Machine/PowerCmd.lean -/

theorem kept_execOvp {n vin t s} (h4 : Kept o s) :
    KeptNext o (execOvp n vin t s) := by
  unfold execOvp
  extract_lets +onlyGivenNames v0
  have k1 : Kept o v0 := kept_seen h4
  clear_value v0
  exact keptNext (keptIte (kept_overVoltage k1) k1)

theorem kept_execInputValid {n vin t s} (h4 : Kept o s) :
    KeptNext o (execInputValid n vin t s) := by
  unfold execInputValid
  exact keptNext (kept_inputSeen (kept_seen h4))

theorem kept_execQualified {n t s} (h3 : Kept o s) :
    KeptNext o (execQualified n t s) := by
  unfold execQualified
  exact keptNext (kept_inputTimed (kept_seen h3))

theorem kept_execDeadTimeEnd {t s} (h2 : Kept o s) :
    KeptNext o (execDeadTimeEnd t s) := by
  unfold execDeadTimeEnd
  extract_lets +onlyGivenNames v0
  have k1 : Kept o v0 := kept_seen h2
  clear_value v0
  refine keptNext ?_
  split
  · exact keptIte (kept_reselect (kept_mk.mpr k1)) k1
  · exact k1

theorem kept_execUnplug {n t s} (h3 : Kept o s) :
    KeptNext o (execUnplug n t s) := by
  unfold execUnplug
  exact keptNext (kept_unplug (kept_seen h3))

theorem kept_execInputLoss {n vin t s} (h4 : Kept o s) :
    KeptNext o (execInputLoss n vin t s) := by
  unfold execInputLoss
  exact keptNext (kept_inputLoss (kept_seen h4))

theorem kept_execTake {v s} (h2 : Kept o s) :
    KeptNext o (execTake v s) := by
  unfold execTake
  refine keptNext ?_
  refine kept_coreStore ?_ ?_
  · intro y0 y1
    exact kept_pwrBlockWrite y1
  · exact h2

theorem kept_execReprobe {n t s} (h3 : Kept o s) :
    KeptNext o (execReprobe n t s) := by
  unfold execReprobe
  extract_lets +onlyGivenNames v0
  have k1 : Kept o v0 := kept_seen h3
  clear_value v0
  extract_lets +onlyGivenNames v2
  clear_value v2
  exact keptNext (keptIte (kept_startVoc k1) k1)

theorem kept_execFloorLoop {n t s} (h3 : Kept o s) :
    KeptNext o (execFloorLoop n t s) := by
  unfold execFloorLoop
  extract_lets +onlyGivenNames v0
  have k1 : Kept o v0 := kept_seen h3
  clear_value v0
  exact keptNext (keptIte (kept_setPin k1) k1)

theorem kept_execBatteryRemoval {cond t s} (h3 : Kept o s) :
    KeptNext o (execBatteryRemoval cond t s) := by
  unfold execBatteryRemoval
  exact keptNext (kept_removalLatch (kept_seen h3))

theorem kept_execRemovalClear {t s} (h2 : Kept o s) :
    KeptNext o (execRemovalClear t s) := by
  unfold execRemovalClear
  exact keptNext (kept_removalClear (kept_seen h2))

theorem kept_execOcp {n t s} (h3 : Kept o s) :
    KeptNext o (execOcp n t s) := by
  unfold execOcp
  extract_lets +onlyGivenNames v0
  have k1 : Kept o v0 := kept_seen h3
  clear_value v0
  exact keptNext (kept_protectOff (kept_set (kept_setPin k1)))

theorem kept_execReverseCurrent {n t s} (h3 : Kept o s) :
    KeptNext o (execReverseCurrent n t s) := by
  unfold execReverseCurrent
  extract_lets +onlyGivenNames v0
  have k1 : Kept o v0 := kept_seen h3
  clear_value v0
  exact keptNext (kept_protectOff (kept_set (kept_setPin k1)))

theorem kept_execVsysOvervoltage {vsys t s} (h3 : Kept o s) :
    KeptNext o (execVsysOvervoltage vsys t s) := by
  unfold execVsysOvervoltage
  extract_lets +onlyGivenNames v0
  have k1 : Kept o v0 := kept_seen h3
  clear_value v0
  exact keptNext (keptIte (kept_mk.mpr k1) k1)

theorem kept_execVsysUndervoltage {vsys t s} (h3 : Kept o s) :
    KeptNext o (execVsysUndervoltage vsys t s) := by
  unfold execVsysUndervoltage
  extract_lets +onlyGivenNames v0
  have k1 : Kept o v0 := kept_seen h3
  clear_value v0
  exact keptNext (keptIte (kept_hwLog (kept_set k1)) k1)

theorem kept_execTypecAttach {p source flipped rp t s} (h6 : Kept o s) :
    KeptNext o (execTypecAttach p source flipped rp t s) := by
  unfold execTypecAttach
  exact keptNext (kept_attach (kept_seen h6))

theorem kept_execTypecDetach {p t s} (h3 : Kept o s) :
    KeptNext o (execTypecDetach p t s) := by
  unfold execTypecDetach
  exact keptNext (kept_detach (kept_seen h3))

theorem kept_execSourceCapabilities {p pdos eprOk t s} (h5 : Kept o s) :
    KeptNext o (execSourceCapabilities p pdos eprOk t s) := by
  unfold execSourceCapabilities
  exact keptNext (kept_sourceCaps (kept_seen h5))

theorem kept_execKeepAlive {p t s} (h3 : Kept o s) :
    KeptNext o (execKeepAlive p t s) := by
  unfold execKeepAlive
  extract_lets +onlyGivenNames v0
  have k1 : Kept o v0 := kept_seen h3
  clear_value v0
  exact keptNext (keptIte (kept_pdSend (kept_setPort k1)) k1)

theorem kept_execPdReq {p v s} (h3 : Kept o s) :
    KeptNext o (execPdReq p v s) := by
  unfold execPdReq
  refine keptNext ?_
  refine kept_coreStore ?_ ?_
  · intro y0 y1
    exact kept_pdReqWrite y1
  · exact h3

theorem kept_execRequestReply {p accepted obj curr t s} (h6 : Kept o s) :
    KeptNext o (execRequestReply p accepted obj curr t s) := by
  unfold execRequestReply
  exact keptNext (kept_requestReply (kept_seen h6))

theorem kept_execVdmReceived {p sop words t s} (h5 : Kept o s) :
    KeptNext o (execVdmReceived p sop words t s) := by
  unfold execVdmReceived
  exact keptNext (kept_vdmReceive (kept_seen h5))

theorem kept_execRxrel {p v s} (h3 : Kept o s) :
    KeptNext o (execRxrel p v s) := by
  unfold execRxrel
  refine keptNext ?_
  refine kept_coreStore ?_ ?_
  · intro y0 y1
    exact kept_pdWrite y1
  · exact h3

theorem kept_execTxgo {p v acked s} (h4 : Kept o s) :
    KeptNext o (execTxgo p v acked s) := by
  unfold execTxgo
  refine keptNext ?_
  refine kept_coreStore ?_ ?_
  · intro y0 y1
    exact kept_vdmCtlWrite y1
  · exact h4

theorem kept_execVdmTimeout {p t s} (h3 : Kept o s) :
    KeptNext o (execVdmTimeout p t s) := by
  unfold execVdmTimeout
  exact keptNext (kept_vdmTimeout (kept_seen h3))

theorem kept_execHardReset {p t s} (h3 : Kept o s) :
    KeptNext o (execHardReset p t s) := by
  unfold execHardReset
  exact keptNext (kept_hardReset (kept_seen h3))

theorem kept_execPrSwap {p toSource t s} (h4 : Kept o s) :
    KeptNext o (execPrSwap p toSource t s) := by
  unfold execPrSwap
  exact keptNext (kept_prSwap (kept_seen h4))

theorem kept_execDrSwap {p toDfp t s} (h4 : Kept o s) :
    KeptNext o (execDrSwap p toDfp t s) := by
  unfold execDrSwap
  exact keptNext (kept_drSwap (kept_seen h4))

theorem kept_execVconnSwap {p t s} (h3 : Kept o s) :
    KeptNext o (execVconnSwap p t s) := by
  unfold execVconnSwap
  exact keptNext (kept_vconnSwap (kept_seen h3))

theorem kept_execAlertReceived {p t s} (h3 : Kept o s) :
    KeptNext o (execAlertReceived p t s) := by
  unfold execAlertReceived
  extract_lets +onlyGivenNames v0
  have k1 : Kept o v0 := kept_seen h3
  clear_value v0
  exact keptNext (keptIte (kept_set k1) k1)

theorem kept_execNotSupportedMessage {p t s} (h3 : Kept o s) :
    KeptNext o (execNotSupportedMessage p t s) := by
  unfold execNotSupportedMessage
  extract_lets +onlyGivenNames v0
  have k1 : Kept o v0 := kept_seen h3
  clear_value v0
  exact keptNext (keptIte (kept_pdReply k1) k1)

/-! ### Machine/ChargeCmd.lean -/

theorem kept_execBandChange {code t s} (h3 : Kept o s) :
    KeptNext o (execBandChange code t s) := by
  unfold execBandChange
  extract_lets +onlyGivenNames v0
  have k1 : Kept o v0 := kept_wr (kept_seen h3)
  clear_value v0
  extract_lets +onlyGivenNames v2
  clear_value v2
  extract_lets +onlyGivenNames v3
  clear_value v3
  exact keptNext (keptIte k1 (kept_set (kept_wr k1)))

theorem kept_execThshort {code t s} (h3 : Kept o s) :
    KeptNext o (execThshort code t s) := by
  unfold execThshort
  extract_lets +onlyGivenNames v0
  have k1 : Kept o v0 := kept_wr (kept_seen h3)
  clear_value v0
  exact keptNext (keptIte (kept_latchFault k1) k1)

theorem kept_execBatov {vbat t s} (h3 : Kept o s) :
    KeptNext o (execBatov vbat t s) := by
  unfold execBatov
  extract_lets +onlyGivenNames v0
  have k1 : Kept o v0 := kept_vbatSeen (kept_seen h3)
  clear_value v0
  exact keptNext (keptIte (kept_batovEvent k1) k1)

theorem kept_execChgocp {ibat t s} (h3 : Kept o s) :
    KeptNext o (execChgocp ibat t s) := by
  unfold execChgocp
  extract_lets +onlyGivenNames v0
  have k1 : Kept o v0 := kept_wr (kept_seen h3)
  clear_value v0
  exact keptNext (keptIte (kept_latchFault k1) k1)

theorem kept_execDieStop {t s} (h2 : Kept o s) :
    KeptNext o (execDieStop t s) := by
  unfold execDieStop
  exact keptNext (kept_dieStop (kept_seen h2))

theorem kept_execDieResume {t s} (h2 : Kept o s) :
    KeptNext o (execDieResume t s) := by
  unfold execDieResume
  extract_lets +onlyGivenNames v0
  have k1 : Kept o v0 := kept_seen h2
  clear_value v0
  exact keptNext (keptIte k1 (kept_clr k1))

theorem kept_execSafetyTimerTick {t s} (h2 : Kept o s) :
    KeptNext o (execSafetyTimerTick t s) := by
  unfold execSafetyTimerTick
  exact keptNext (kept_timerTick (kept_seen h2))

theorem kept_execTimerFault {t s} (h2 : Kept o s) :
    KeptNext o (execTimerFault t s) := by
  unfold execTimerFault
  exact keptNext (kept_timerCheck (kept_seen h2))

theorem kept_execCycleTimeout {t s} (h2 : Kept o s) :
    KeptNext o (execCycleTimeout t s) := by
  unfold execCycleTimeout
  extract_lets +onlyGivenNames v0
  have k1 : Kept o v0 := kept_seen h2
  clear_value v0
  exact keptNext (keptIte (kept_endCycle k1) k1)

theorem kept_execFltclr {v s} (h2 : Kept o s) :
    KeptNext o (execFltclr v s) := by
  unfold execFltclr
  refine keptNext ?_
  refine kept_coreStore ?_ ?_
  · intro y0 y1
    exact kept_chgWrite y1
  · exact h2

theorem kept_execQclr {v s} (h2 : Kept o s) :
    KeptNext o (execQclr v s) := by
  unfold execQclr
  refine keptNext ?_
  refine kept_coreStore ?_ ?_
  · intro y0 y1
    exact kept_chgWrite y1
  · exact h2

theorem kept_execChgLock {v s} (h2 : Kept o s) :
    KeptNext o (execChgLock v s) := by
  unfold execChgLock
  refine keptNext ?_
  refine kept_coreStore ?_ ?_
  · intro y0 y1
    exact kept_chgWrite y1
  · exact h2

theorem kept_execQaccWrap {charge t s} (h3 : Kept o s) :
    KeptNext o (execQaccWrap charge t s) := by
  unfold execQaccWrap
  exact keptNext (kept_qaccAdd (kept_seen h3))

theorem kept_execReverseStop {t s} (h2 : Kept o s) :
    KeptNext o (execReverseStop t s) := by
  unfold execReverseStop
  extract_lets +onlyGivenNames v0
  have k1 : Kept o v0 := kept_seen h2
  clear_value v0
  refine keptNext ?_
  split
  · exact kept_reverseStop k1
  · exact k1

theorem kept_execReverseOcp {x s} (h2 : Kept o s) :
    KeptNext o (execReverseOcp x s) := by
  unfold execReverseOcp
  extract_lets +onlyGivenNames v0
  have k1 : Kept o v0 := kept_seen h2
  clear_value v0
  exact keptNext (keptIte (kept_reverseOcp k1) k1)

theorem kept_execReverseVbatLow {vbat t s} (h3 : Kept o s) :
    KeptNext o (execReverseVbatLow vbat t s) := by
  unfold execReverseVbatLow
  extract_lets +onlyGivenNames v0
  have k1 : Kept o v0 := kept_vbatSeen (kept_seen h3)
  clear_value v0
  exact keptNext (keptIte (kept_reverseStop k1) k1)

/-! ### Machine/CoreOps.lean -/

theorem kept_issued {s} (h1 : Kept o s) :
    Kept o (issued s) := by
  unfold issued
  exact kept_mk.mpr h1

theorem kept_fetchMarks {s} (h1 : Kept o s) :
    Kept o (fetchMarks s) := by
  unfold fetchMarks
  extract_lets +onlyGivenNames v0
  have k1 : Kept o v0 := keptIte (kept_set h1) h1
  clear_value v0
  split
  · exact kept_firnChecked (kept_firnReady k1)
  · exact k1

theorem kept_done {s c} (h1 : Kept o s) :
    KeptE3 o (State.done s c) := by
  unfold State.done
  exact keptE3_ok (keptDone (kept_mk.mpr h1))

theorem kept_loadOp {s micro f t a disp} (h1 : Kept o s) :
    KeptE3 o (loadOp s micro f t a disp) := by
  unfold loadOp
  extract_lets +onlyGivenNames v0
  clear_value v0
  split
  · exact keptE3_error (keptSnd h1)
  · rename_i a7
    refine keptViaE2ok (o := o) a7 ?_ (fun k8 => ?_)
    · exact kept_dataLoad h1
    clear a7
    extract_lets +onlyGivenNames v9
    clear_value v9
    exact keptE3_ok (keptDone (kept_mk.mpr k8))

theorem kept_storeOp {s micro f t a disp} (h1 : Kept o s) :
    KeptE3 o (storeOp s micro f t a disp) := by
  unfold storeOp
  extract_lets +onlyGivenNames v0
  clear_value v0
  split
  · exact keptE3_error (keptSnd h1)
  · rename_i a6
    refine keptViaE1ok (o := o) a6 ?_ (fun k7 => ?_)
    · exact kept_dataStore h1
    clear a6
    extract_lets +onlyGivenNames v8
    clear_value v8
    exact keptE3_ok (keptDone (kept_mk.mpr k7))

theorem kept_directOp {s micro st t bank byte off} (h1 : Kept o s) :
    KeptE3 o (directOp s micro st t bank byte off) := by
  unfold directOp
  extract_lets +onlyGivenNames v0
  clear_value v0
  extract_lets +onlyGivenNames v1
  clear_value v1
  split
  · split
    · exact keptE3_error (keptSnd h1)
    · rename_i a8
      refine keptViaE1ok (o := o) a8 ?_ (fun k9 => ?_)
      · exact kept_dataStore h1
      clear a8
      exact keptE3_ok (keptDone k9)
  · split
    · exact keptE3_error (keptSnd h1)
    · rename_i a17
      refine keptViaE2ok (o := o) a17 ?_ (fun k18 => ?_)
      · exact kept_dataLoad h1
      clear a17
      exact keptE3_ok (keptDone k18)

theorem kept_stackOp {s micro pop t isA} (h1 : Kept o s) :
    KeptE3 o (stackOp s micro pop t isA) := by
  unfold stackOp
  extract_lets +onlyGivenNames v0
  clear_value v0
  split
  · split
    · exact keptE3_error (keptSnd h1)
    · rename_i a8
      refine keptViaE2ok (o := o) a8 ?_ (fun k9 => ?_)
      · exact kept_dataLoad h1
      clear a8
      exact keptE3_ok (keptDone (kept_mk.mpr k9))
  · split
    · exact keptE3_error (keptSnd h1)
    · rename_i a16
      refine keptViaE1ok (o := o) a16 ?_ (fun k17 => ?_)
      · exact kept_dataStore h1
      clear a16
      exact keptE3_ok (keptDone (kept_mk.mpr k17))

theorem kept_pushReturn {s v} (h1 : Kept o s) :
    Kept o (pushReturn s v) := by
  unfold pushReturn
  extract_lets +onlyGivenNames v0
  have k1 : Kept o v0 := kept_storeNat h1
  clear_value v0
  exact kept_mk.mpr k1

theorem kept_callTo {s target aligned} (h1 : Kept o s) :
    KeptE3 o (callTo s target aligned) := by
  unfold callTo
  split
  · exact keptE3_error (keptSnd h1)
  · split
    · exact keptE3_error (keptSnd h1)
    · exact keptE3_ok (keptDone (kept_pushReturn h1))

theorem kept_retOp {s} (h1 : Kept o s) :
    KeptE3 o (retOp s) := by
  unfold retOp
  split
  · exact keptE3_error (keptSnd h1)
  · extract_lets +onlyGivenNames v2
    clear_value v2
    split
    · exact keptE3_error (keptSnd h1)
    · exact keptE3_ok (keptDone (kept_mk.mpr h1))

theorem kept_saveEntries {s a off n} (h : Kept o s) : KeptE1 o (saveEntries s a off n) := by
  induction n generalizing s a off with
  | zero => exact keptE1_ok h
  | succ k ih =>
    unfold saveEntries
    split
    · trivial
    · split
      · trivial
      · rename_i t e
        exact ih (keptViaE1ok e (kept_dataStore h) id)

theorem kept_rssvOp {s a} (h1 : Kept o s) :
    KeptE3 o (rssvOp s a) := by
  unfold rssvOp
  extract_lets +onlyGivenNames v0
  clear_value v0
  extract_lets +onlyGivenNames v1
  clear_value v1
  split
  · exact keptE3_error (keptSnd h1)
  · rename_i a7
    refine keptViaE1ok (o := o) a7 ?_ (fun k8 => ?_)
    · exact kept_dataStore h1
    clear a7
    split
    · exact keptE3_error (keptSnd h1)
    · rename_i a14
      refine keptViaE1ok (o := o) a14 ?_ (fun k15 => ?_)
      · exact kept_saveEntries k8
      clear a14
      exact kept_done k15

theorem kept_loadEntries {s a off n} (h : Kept o s) : KeptE1 o (loadEntries s a off n) := by
  induction n generalizing s a off with
  | zero => exact keptE1_ok h
  | succ k ih =>
    unfold loadEntries
    split
    · trivial
    · rename_i v t e
      exact ih (kept_storeNat (keptViaE2ok e (kept_dataLoad h) id))

theorem kept_rsrsOp {s a} (h1 : Kept o s) :
    KeptE3 o (rsrsOp s a) := by
  unfold rsrsOp
  extract_lets +onlyGivenNames v0
  clear_value v0
  split
  · exact keptE3_error (keptSnd h1)
  · rename_i a7
    refine keptViaE2ok (o := o) a7 ?_ (fun k8 => ?_)
    · exact kept_dataLoad h1
    clear a7
    split
    · exact keptE3_error (keptSnd h1)
    · split
      · exact keptE3_error (keptSnd h1)
      · rename_i a16
        refine keptViaE1ok (o := o) a16 ?_ (fun k17 => ?_)
        · exact kept_loadEntries k8
        clear a16
        exact kept_done k17

theorem kept_sysOp {s f imm} (h1 : Kept o s) :
    KeptE3 o (sysOp s f imm) := by
  unfold sysOp
  extract_lets +onlyGivenNames v0
  clear_value v0
  split
  · exact kept_done h1
  · exact keptE3_error (keptSnd h1)
  · exact keptE3_ok (keptDone (kept_mk.mpr h1))
  · exact kept_done h1
  · exact kept_done h1
  · exact kept_done h1
  · exact kept_done h1
  · split
    · exact keptE3_ok (keptDone (kept_wdHold (kept_mk.mpr h1)))
    · exact keptE3_error (keptSnd h1)
  · exact kept_rssvOp h1
  · exact kept_rsrsOp h1

theorem kept_blockElem {f a d c v n s} (h7 : Kept o s) :
    KeptE5 o (blockElem f a d c v n s) := by
  unfold blockElem
  extract_lets +onlyGivenNames v0
  have k1 : ∀ v0y1 v0y2, (Kept o v0y1) → KeptE5 o (v0 v0y1 v0y2) := by
    intro y2 y3 y4
    unfold v0
    exact keptE5_next (kept_mk.mpr y4)
  clear_value v0
  extract_lets +onlyGivenNames v5
  split
  · split
    · trivial
    · rename_i a13
      refine keptViaE2ok (o := o) a13 ?_ (fun k14 => ?_)
      · exact kept_dataLoad h7
      clear a13
      split
      · trivial
      · rename_i a20
        refine keptViaE1ok (o := o) a20 ?_ (fun k21 => ?_)
        · exact kept_dataStore k14
        clear a20
        exact k1 _ _ k21
  · split
    · trivial
    · rename_i a28
      refine keptViaE1ok (o := o) a28 ?_ (fun k29 => ?_)
      · exact kept_dataStore h7
      clear a28
      exact k1 _ _ k29
  · split
    · trivial
    · rename_i a37
      refine keptViaE2ok (o := o) a37 ?_ (fun k38 => ?_)
      · exact kept_dataLoad h7
      clear a37
      split
      · trivial
      · rename_i a45
        refine keptViaE2ok (o := o) a45 ?_ (fun k46 => ?_)
        · exact kept_dataLoad k38
        clear a45
        split
        · exact keptE5_stop k46
        · exact k1 _ _ k46
  · split
    · trivial
    · rename_i a56
      refine keptViaE2ok (o := o) a56 ?_ (fun k57 => ?_)
      · exact kept_dataLoad h7
      clear a56
      split
      · exact keptE5_stop k57
      · exact k1 _ _ k57

theorem kept_blockRun {f a d c v n s fuel} (h : Kept o s) : KeptE3 o (blockRun f a d c v n s fuel) := by
  induction fuel generalizing s with
  | zero => exact keptE3_ok h
  | succ k ih =>
    unfold blockRun
    split
    · exact keptE3_ok h
    · split
      · exact keptE3_error h
      · rename_i t e
        exact keptE3_ok (keptViaE5stop e (kept_blockElem h) id)
      · rename_i t e
        have ht : Kept o t := keptViaE5next e (kept_blockElem h) id
        split
        · exact keptE3_ok ht
        · split
          · exact keptE3_ok ht
          · exact ih ht

theorem kept_blockOp {s f a d c v sz} (h1 : Kept o s) :
    KeptE3 o (blockOp s f a d c v sz) := by
  unfold blockOp
  exact kept_blockRun h1

theorem kept_opExec {micro s op} (h2 : Kept o s) :
    KeptE3 o (opExec micro s op) := by
  unfold opExec
  extract_lets +onlyGivenNames v0
  clear_value v0
  split
  · exact keptE3_ok (keptDone (kept_mk.mpr h2))
  · exact kept_done h2
  · exact kept_done h2
  · exact kept_done h2
  · exact kept_done h2
  · exact kept_done h2
  · exact kept_done h2
  · exact kept_loadOp h2
  · exact kept_storeOp h2
  · exact kept_directOp h2
  · exact kept_stackOp h2
  · exact kept_done h2
  · exact kept_done h2
  · exact kept_done h2
  · exact kept_done h2
  · exact kept_done h2
  · exact keptE3_ok (keptDone h2)
  · exact kept_callTo h2
  · exact kept_callTo h2
  · split
    · exact keptE3_error (keptSnd h2)
    · exact keptE3_ok (keptDone h2)
  · exact kept_retOp h2
  · extract_lets +onlyGivenNames v94
    clear_value v94
    exact keptE3_ok (keptDone (kept_mk.mpr h2))
  · extract_lets +onlyGivenNames v98
    clear_value v98
    exact kept_done h2
  · exact kept_done h2
  · exact kept_sysOp h2
  · exact kept_blockOp h2
  · exact kept_done h2

theorem kept_Done_s {self} (h1 : Kept o self.s) :
    Kept o (Done.s self) := by
  unfold Done.s
  exact h1

theorem kept_microRun {s dz l} (h : Kept o s) : KeptE4 o (microRun s dz l) := by
  induction l generalizing s dz with
  | nil => exact keptE4_ok h
  | cons m rest ih =>
    obtain ⟨p, op, seq⟩ := m
    unfold microRun
    split
    · split
      · trivial
      · rename_i d e
        have hd : Kept o d.s := keptViaE3ok e (kept_opExec h) id
        dsimp only
        split
        · exact keptE4_ok (kept_mk.mpr hd)
        · exact ih (kept_mk.mpr hd)
    · dsimp only
      split
      · exact keptE4_ok (kept_mk.mpr h)
      · exact ih (kept_mk.mpr h)

theorem kept_customOp {s major idx d a t imm} (h1 : Kept o s) :
    KeptE3 o (customOp s major idx d a t imm) := by
  unfold customOp
  extract_lets +onlyGivenNames v0
  clear_value v0
  split
  · exact kept_done h1
  · split
    · exact keptE3_error (keptSnd h1)
    · rename_i a12
      refine keptViaE4ok (o := o) a12 ?_ (fun k13 => ?_)
      · exact kept_microRun (kept_mk.mpr h1)
      clear a12
      exact keptE3_ok (keptDone (kept_mk.mpr k13))

theorem kept_runOp {s op} (h1 : Kept o s) :
    KeptE3 o (runOp s op) := by
  unfold runOp
  split
  · exact kept_customOp h1
  · exact kept_opExec h1

theorem kept_trapDz {dz s} (h2 : Kept o s) :
    Kept o (trapDz dz s) := by
  unfold trapDz
  exact keptIte (kept_takeExc (kept_mk.mpr h2)) h2

theorem kept_finish {d} (h1 : Kept o d.s) :
    Kept o (finish d) := by
  unfold finish
  extract_lets +onlyGivenNames v0
  have k1 : Kept o v0 := kept_drawn h1
  clear_value v0
  exact kept_mk.mpr k1

theorem kept_runCore {p op s} (h3 : Kept o s) :
    Kept o (runCore p op s) := by
  unfold runCore
  refine keptIte ?_ ?_
  · exact h3
  · extract_lets +onlyGivenNames v0
    have k1 : Kept o v0 := kept_issued h3
    clear_value v0
    split
    · exact kept_faultAtPc k1
    · extract_lets +onlyGivenNames v7
      have k8 : Kept o v7 := kept_fetchMarks k1
      clear_value v7
      split
      · exact kept_faultAtPc k8
      · refine keptIte ?_ ?_
        · split
          · rename_i a17
            refine keptViaE3error (o := o) a17 ?_ (fun k18 => ?_)
            · exact kept_runOp k8
            clear a17
            exact kept_faultAtPc k18
          · rename_i a21
            refine keptViaE3ok (o := o) a21 ?_ (fun k22 => ?_)
            · exact kept_runOp k8
            clear a21
            exact kept_trapDz (kept_finish k22)
        · exact kept_finish (keptDone k8)

/-! ### Machine/CoreAcc.lean -/

theorem kept_execMacs {p q s t st} (h5 : Kept o st) :
    KeptNext o (execMacs p q s t st) := by
  unfold execMacs
  exact keptNext (kept_runCore h5)

theorem kept_execMacu {p q s t st} (h5 : Kept o st) :
    KeptNext o (execMacu p q s t st) := by
  unfold execMacu
  exact keptNext (kept_runCore h5)

theorem kept_execMsbs {p q s t st} (h5 : Kept o st) :
    KeptNext o (execMsbs p q s t st) := by
  unfold execMsbs
  exact keptNext (kept_runCore h5)

theorem kept_execMulq {p q s t st} (h5 : Kept o st) :
    KeptNext o (execMulq p q s t st) := by
  unfold execMulq
  exact keptNext (kept_runCore h5)

theorem kept_execMacsat {p q s t st} (h5 : Kept o st) :
    KeptNext o (execMacsat p q s t st) := by
  unfold execMacsat
  exact keptNext (kept_runCore h5)

theorem kept_execClrq {p q st} (h3 : Kept o st) :
    KeptNext o (execClrq p q st) := by
  unfold execClrq
  exact keptNext (kept_runCore h3)

theorem kept_execRdql {p q d st} (h4 : Kept o st) :
    KeptNext o (execRdql p q d st) := by
  unfold execRdql
  exact keptNext (kept_runCore h4)

theorem kept_execRdqh {p q d st} (h4 : Kept o st) :
    KeptNext o (execRdqh p q d st) := by
  unfold execRdqh
  exact keptNext (kept_runCore h4)

theorem kept_execRdqs {p q d sh st} (h5 : Kept o st) :
    KeptNext o (execRdqs p q d sh st) := by
  unfold execRdqs
  exact keptNext (kept_runCore h5)

theorem kept_execWrql {p q s st} (h4 : Kept o st) :
    KeptNext o (execWrql p q s st) := by
  unfold execWrql
  exact keptNext (kept_runCore h4)

theorem kept_execWrqh {p q s st} (h4 : Kept o st) :
    KeptNext o (execWrqh p q s st) := by
  unfold execWrqh
  exact keptNext (kept_runCore h4)

theorem kept_execShq {p q sh st} (h4 : Kept o st) :
    KeptNext o (execShq p q sh st) := by
  unfold execShq
  exact keptNext (kept_runCore h4)

theorem kept_execCmp {p d cond s t st} (h6 : Kept o st) :
    KeptNext o (execCmp p d cond s t st) := by
  unfold execCmp
  exact keptNext (kept_runCore h6)

theorem kept_execCmpi {p d cond s imm st} (h6 : Kept o st) :
    KeptNext o (execCmpi p d cond s imm st) := by
  unfold execCmpi
  exact keptNext (kept_runCore h6)

theorem kept_execCmpa {p d cond s t st} (h6 : Kept o st) :
    KeptNext o (execCmpa p d cond s t st) := by
  unfold execCmpa
  exact keptNext (kept_runCore h6)

theorem kept_execPand {p d a b st} (h5 : Kept o st) :
    KeptNext o (execPand p d a b st) := by
  unfold execPand
  exact keptNext (kept_runCore h5)

theorem kept_execPor {p d a b st} (h5 : Kept o st) :
    KeptNext o (execPor p d a b st) := by
  unfold execPor
  exact keptNext (kept_runCore h5)

theorem kept_execPxor {p d a b st} (h5 : Kept o st) :
    KeptNext o (execPxor p d a b st) := by
  unfold execPxor
  exact keptNext (kept_runCore h5)

theorem kept_execPandn {p d a b st} (h5 : Kept o st) :
    KeptNext o (execPandn p d a b st) := by
  unfold execPandn
  exact keptNext (kept_runCore h5)

theorem kept_execPmov {p d a st} (h4 : Kept o st) :
    KeptNext o (execPmov p d a st) := by
  unfold execPmov
  exact keptNext (kept_runCore h4)

theorem kept_execPnot {p d a st} (h4 : Kept o st) :
    KeptNext o (execPnot p d a st) := by
  unfold execPnot
  exact keptNext (kept_runCore h4)

theorem kept_execPset {p d st} (h3 : Kept o st) :
    KeptNext o (execPset p d st) := by
  unfold execPset
  exact keptNext (kept_runCore h3)

theorem kept_execPclr {p d st} (h3 : Kept o st) :
    KeptNext o (execPclr p d st) := by
  unfold execPclr
  exact keptNext (kept_runCore h3)

/-! ### Machine/CoreAlu.lean -/

theorem kept_execAdd {p d s t st} (h5 : Kept o st) :
    KeptNext o (execAdd p d s t st) := by
  unfold execAdd
  exact keptNext (kept_runCore h5)

theorem kept_execSub {p d s t st} (h5 : Kept o st) :
    KeptNext o (execSub p d s t st) := by
  unfold execSub
  exact keptNext (kept_runCore h5)

theorem kept_execAnd {p d s t st} (h5 : Kept o st) :
    KeptNext o (execAnd p d s t st) := by
  unfold execAnd
  exact keptNext (kept_runCore h5)

theorem kept_execOr {p d s t st} (h5 : Kept o st) :
    KeptNext o (execOr p d s t st) := by
  unfold execOr
  exact keptNext (kept_runCore h5)

theorem kept_execXor {p d s t st} (h5 : Kept o st) :
    KeptNext o (execXor p d s t st) := by
  unfold execXor
  exact keptNext (kept_runCore h5)

theorem kept_execAndn {p d s t st} (h5 : Kept o st) :
    KeptNext o (execAndn p d s t st) := by
  unfold execAndn
  exact keptNext (kept_runCore h5)

theorem kept_execShl {p d s t st} (h5 : Kept o st) :
    KeptNext o (execShl p d s t st) := by
  unfold execShl
  exact keptNext (kept_runCore h5)

theorem kept_execShr {p d s t st} (h5 : Kept o st) :
    KeptNext o (execShr p d s t st) := by
  unfold execShr
  exact keptNext (kept_runCore h5)

theorem kept_execSar {p d s t st} (h5 : Kept o st) :
    KeptNext o (execSar p d s t st) := by
  unfold execSar
  exact keptNext (kept_runCore h5)

theorem kept_execRol {p d s t st} (h5 : Kept o st) :
    KeptNext o (execRol p d s t st) := by
  unfold execRol
  exact keptNext (kept_runCore h5)

theorem kept_execRor {p d s t st} (h5 : Kept o st) :
    KeptNext o (execRor p d s t st) := by
  unfold execRor
  exact keptNext (kept_runCore h5)

theorem kept_execMul {p d s t st} (h5 : Kept o st) :
    KeptNext o (execMul p d s t st) := by
  unfold execMul
  exact keptNext (kept_runCore h5)

theorem kept_execMulhs {p d s t st} (h5 : Kept o st) :
    KeptNext o (execMulhs p d s t st) := by
  unfold execMulhs
  exact keptNext (kept_runCore h5)

theorem kept_execMulhu {p d s t st} (h5 : Kept o st) :
    KeptNext o (execMulhu p d s t st) := by
  unfold execMulhu
  exact keptNext (kept_runCore h5)

theorem kept_execDivs {p d s t st} (h5 : Kept o st) :
    KeptNext o (execDivs p d s t st) := by
  unfold execDivs
  exact keptNext (kept_runCore h5)

theorem kept_execDivu {p d s t st} (h5 : Kept o st) :
    KeptNext o (execDivu p d s t st) := by
  unfold execDivu
  exact keptNext (kept_runCore h5)

theorem kept_execRems {p d s t st} (h5 : Kept o st) :
    KeptNext o (execRems p d s t st) := by
  unfold execRems
  exact keptNext (kept_runCore h5)

theorem kept_execRemu {p d s t st} (h5 : Kept o st) :
    KeptNext o (execRemu p d s t st) := by
  unfold execRemu
  exact keptNext (kept_runCore h5)

theorem kept_execMin {p d s t st} (h5 : Kept o st) :
    KeptNext o (execMin p d s t st) := by
  unfold execMin
  exact keptNext (kept_runCore h5)

theorem kept_execMax {p d s t st} (h5 : Kept o st) :
    KeptNext o (execMax p d s t st) := by
  unfold execMax
  exact keptNext (kept_runCore h5)

theorem kept_execMinu {p d s t st} (h5 : Kept o st) :
    KeptNext o (execMinu p d s t st) := by
  unfold execMinu
  exact keptNext (kept_runCore h5)

theorem kept_execMaxu {p d s t st} (h5 : Kept o st) :
    KeptNext o (execMaxu p d s t st) := by
  unfold execMaxu
  exact keptNext (kept_runCore h5)

theorem kept_execAddc {p d s t c st} (h6 : Kept o st) :
    KeptNext o (execAddc p d s t c st) := by
  unfold execAddc
  exact keptNext (kept_runCore h6)

theorem kept_execAddx {p d s t c st} (h6 : Kept o st) :
    KeptNext o (execAddx p d s t c st) := by
  unfold execAddx
  exact keptNext (kept_runCore h6)

theorem kept_execSubc {p d s t c st} (h6 : Kept o st) :
    KeptNext o (execSubc p d s t c st) := by
  unfold execSubc
  exact keptNext (kept_runCore h6)

theorem kept_execSubx {p d s t c st} (h6 : Kept o st) :
    KeptNext o (execSubx p d s t c st) := by
  unfold execSubx
  exact keptNext (kept_runCore h6)

theorem kept_execNeg {p d s st} (h4 : Kept o st) :
    KeptNext o (execNeg p d s st) := by
  unfold execNeg
  exact keptNext (kept_runCore h4)

theorem kept_execNot {p d s st} (h4 : Kept o st) :
    KeptNext o (execNot p d s st) := by
  unfold execNot
  exact keptNext (kept_runCore h4)

theorem kept_execAbs {p d s st} (h4 : Kept o st) :
    KeptNext o (execAbs p d s st) := by
  unfold execAbs
  exact keptNext (kept_runCore h4)

theorem kept_execClz {p d s st} (h4 : Kept o st) :
    KeptNext o (execClz p d s st) := by
  unfold execClz
  exact keptNext (kept_runCore h4)

theorem kept_execSextb {p d s st} (h4 : Kept o st) :
    KeptNext o (execSextb p d s st) := by
  unfold execSextb
  exact keptNext (kept_runCore h4)

theorem kept_execSexth {p d s st} (h4 : Kept o st) :
    KeptNext o (execSexth p d s st) := by
  unfold execSexth
  exact keptNext (kept_runCore h4)

theorem kept_execZextb {p d s st} (h4 : Kept o st) :
    KeptNext o (execZextb p d s st) := by
  unfold execZextb
  exact keptNext (kept_runCore h4)

theorem kept_execZexth {p d s st} (h4 : Kept o st) :
    KeptNext o (execZexth p d s st) := by
  unfold execZexth
  exact keptNext (kept_runCore h4)

theorem kept_execBswap {p d s st} (h4 : Kept o st) :
    KeptNext o (execBswap p d s st) := by
  unfold execBswap
  exact keptNext (kept_runCore h4)

theorem kept_execMov {p d s st} (h4 : Kept o st) :
    KeptNext o (execMov p d s st) := by
  unfold execMov
  exact keptNext (kept_runCore h4)

theorem kept_execSel {p d s t c st} (h6 : Kept o st) :
    KeptNext o (execSel p d s t c st) := by
  unfold execSel
  exact keptNext (kept_runCore h6)

theorem kept_execAddi {p d s imm st} (h5 : Kept o st) :
    KeptNext o (execAddi p d s imm st) := by
  unfold execAddi
  exact keptNext (kept_runCore h5)

theorem kept_execAndi {p d s imm st} (h5 : Kept o st) :
    KeptNext o (execAndi p d s imm st) := by
  unfold execAndi
  exact keptNext (kept_runCore h5)

theorem kept_execOri {p d s imm st} (h5 : Kept o st) :
    KeptNext o (execOri p d s imm st) := by
  unfold execOri
  exact keptNext (kept_runCore h5)

theorem kept_execXori {p d s imm st} (h5 : Kept o st) :
    KeptNext o (execXori p d s imm st) := by
  unfold execXori
  exact keptNext (kept_runCore h5)

theorem kept_execShi {p d s kind amt st} (h6 : Kept o st) :
    KeptNext o (execShi p d s kind amt st) := by
  unfold execShi
  exact keptNext (kept_runCore h6)

theorem kept_execMovi {p d imm st} (h4 : Kept o st) :
    KeptNext o (execMovi p d imm st) := by
  unfold execMovi
  exact keptNext (kept_runCore h4)

theorem kept_execMovhi {p d imm st} (h4 : Kept o st) :
    KeptNext o (execMovhi p d imm st) := by
  unfold execMovhi
  exact keptNext (kept_runCore h4)

theorem kept_execMuli {p d s imm st} (h5 : Kept o st) :
    KeptNext o (execMuli p d s imm st) := by
  unfold execMuli
  exact keptNext (kept_runCore h5)

theorem kept_execAdda {p a s imm st} (h5 : Kept o st) :
    KeptNext o (execAdda p a s imm st) := by
  unfold execAdda
  exact keptNext (kept_runCore h5)

theorem kept_execMova {p d s st} (h4 : Kept o st) :
    KeptNext o (execMova p d s st) := by
  unfold execMova
  exact keptNext (kept_runCore h4)

theorem kept_execAddad {p d s t st} (h5 : Kept o st) :
    KeptNext o (execAddad p d s t st) := by
  unfold execAddad
  exact keptNext (kept_runCore h5)

theorem kept_execSubad {p d s t st} (h5 : Kept o st) :
    KeptNext o (execSubad p d s t st) := by
  unfold execSubad
  exact keptNext (kept_runCore h5)

theorem kept_execAddaw {p d s t st} (h5 : Kept o st) :
    KeptNext o (execAddaw p d s t st) := by
  unfold execAddaw
  exact keptNext (kept_runCore h5)

theorem kept_execAddah {p d s t st} (h5 : Kept o st) :
    KeptNext o (execAddah p d s t st) := by
  unfold execAddah
  exact keptNext (kept_runCore h5)

theorem kept_execMovad {p d s st} (h4 : Kept o st) :
    KeptNext o (execMovad p d s st) := by
  unfold execMovad
  exact keptNext (kept_runCore h4)

theorem kept_execMovda {p d s st} (h4 : Kept o st) :
    KeptNext o (execMovda p d s st) := by
  unfold execMovda
  exact keptNext (kept_runCore h4)

theorem kept_execSubaa {p d s t st} (h5 : Kept o st) :
    KeptNext o (execSubaa p d s t st) := by
  unfold execSubaa
  exact keptNext (kept_runCore h5)

theorem kept_execMovia {p a imm st} (h4 : Kept o st) :
    KeptNext o (execMovia p a imm st) := by
  unfold execMovia
  exact keptNext (kept_runCore h4)

theorem kept_execMovla {p a imm st} (h4 : Kept o st) :
    KeptNext o (execMovla p a imm st) := by
  unfold execMovla
  exact keptNext (kept_runCore h4)

/-! ### Machine/CoreFlow.lean -/

theorem kept_execBr {p disp st} (h3 : Kept o st) :
    KeptNext o (execBr p disp st) := by
  unfold execBr
  exact keptNext (kept_runCore h3)

theorem kept_execCall {p disp st} (h3 : Kept o st) :
    KeptNext o (execCall p disp st) := by
  unfold execCall
  exact keptNext (kept_runCore h3)

theorem kept_execJmp {p a st} (h3 : Kept o st) :
    KeptNext o (execJmp p a st) := by
  unfold execJmp
  exact keptNext (kept_runCore h3)

theorem kept_execCallr {p a st} (h3 : Kept o st) :
    KeptNext o (execCallr p a st) := by
  unfold execCallr
  exact keptNext (kept_runCore h3)

theorem kept_execRet {p st} (h2 : Kept o st) :
    KeptNext o (execRet p st) := by
  unfold execRet
  exact keptNext (kept_runCore h2)

theorem kept_execDbnz {p c disp st} (h4 : Kept o st) :
    KeptNext o (execDbnz p c disp st) := by
  unfold execDbnz
  exact keptNext (kept_runCore h4)

theorem kept_execRssv {p a st} (h3 : Kept o st) :
    KeptNext o (execRssv p a st) := by
  unfold execRssv
  exact keptNext (kept_runCore h3)

theorem kept_execRsrs {p a st} (h3 : Kept o st) :
    KeptNext o (execRsrs p a st) := by
  unfold execRsrs
  exact keptNext (kept_runCore h3)

/-! ### Machine/CoreIrq.lean -/

theorem kept_execInterruptEntry {s} (h1 : Kept o s) :
    KeptNext o (execInterruptEntry s) := by
  unfold execInterruptEntry
  refine keptNext ?_
  split
  · exact kept_takeExc h1
  · exact h1

theorem kept_execNmiEntry {s} (h1 : Kept o s) :
    KeptNext o (execNmiEntry s) := by
  unfold execNmiEntry
  exact keptNext (keptIte (kept_takeExc h1) h1)

theorem kept_execWatchdogStage1Expiry {t s} (h2 : Kept o s) :
    KeptNext o (execWatchdogStage1Expiry t s) := by
  unfold execWatchdogStage1Expiry
  extract_lets +onlyGivenNames v0
  have k1 : Kept o v0 := kept_seen h2
  clear_value v0
  exact keptNext (keptIte (kept_wdExpire1 k1) k1)

theorem kept_execWatchdogStage2Expiry {t s} (h2 : Kept o s) :
    KeptNext o (execWatchdogStage2Expiry t s) := by
  unfold execWatchdogStage2Expiry
  extract_lets +onlyGivenNames v0
  have k1 : Kept o v0 := kept_seen h2
  clear_value v0
  exact keptNext (keptIte (kept_wdExpire2 k1) k1)

theorem kept_execTmrWdkick {v s} (h2 : Kept o s) :
    KeptNext o (execTmrWdkick v s) := by
  unfold execTmrWdkick
  refine keptNext ?_
  refine kept_coreStore ?_ ?_
  · intro y0 y1
    exact kept_wdKick y1
  · exact h2

theorem kept_execSysUclo {v s} (h2 : Kept o s) :
    KeptNext o (execSysUclo v s) := by
  unfold execSysUclo
  refine keptNext ?_
  refine kept_coreStore ?_ ?_
  · intro y0 y1
    exact kept_ucLoWrite y1
  · exact h2

theorem kept_execSysUchi {v s} (h2 : Kept o s) :
    KeptNext o (execSysUchi v s) := by
  unfold execSysUchi
  refine keptNext ?_
  refine kept_coreStore ?_ ?_
  · intro y0 y1
    exact kept_ucHiWrite y1
  · exact h2

theorem kept_debugRead {a n s} (h3 : Kept o s) :
    Kept o (debugRead a n s) := by
  unfold debugRead
  split
  · exact kept_applyMark h3
  · extract_lets +onlyGivenNames v5
    have k6 : Kept o v5 := kept_readValue h3
    clear_value v5
    exact kept_mk.mpr k6

theorem kept_debugWrite {a n v s} (h4 : Kept o s) :
    Kept o (debugWrite a n v s) := by
  unfold debugWrite
  split
  · exact kept_applyMark h4
  · exact kept_writeValue h4

theorem kept_execDebugPortHalt {op s} (h2 : Kept o s) :
    KeptNext o (execDebugPortHalt op s) := by
  unfold execDebugPortHalt
  refine keptNext ?_
  refine keptIte ?_ ?_
  · exact h2
  · split
    · exact kept_wdHold (kept_mk.mpr h2)
    · exact keptIte (kept_mk.mpr h2) h2
    · exact kept_wdHold (kept_mk.mpr h2)
    · exact kept_mk.mpr h2
    · exact kept_mk.mpr h2
    · exact kept_mk.mpr h2
    · exact keptIte (kept_debugRead h2) h2
    · exact keptIte (kept_debugWrite h2) h2

/-! ### Machine/CoreMem.lean -/

theorem kept_execLdw {p t a disp st} (h5 : Kept o st) :
    KeptNext o (execLdw p t a disp st) := by
  unfold execLdw
  exact keptNext (kept_runCore h5)

theorem kept_execLdh {p t a disp st} (h5 : Kept o st) :
    KeptNext o (execLdh p t a disp st) := by
  unfold execLdh
  exact keptNext (kept_runCore h5)

theorem kept_execLdhu {p t a disp st} (h5 : Kept o st) :
    KeptNext o (execLdhu p t a disp st) := by
  unfold execLdhu
  exact keptNext (kept_runCore h5)

theorem kept_execLdb {p t a disp st} (h5 : Kept o st) :
    KeptNext o (execLdb p t a disp st) := by
  unfold execLdb
  exact keptNext (kept_runCore h5)

theorem kept_execLdbu {p t a disp st} (h5 : Kept o st) :
    KeptNext o (execLdbu p t a disp st) := by
  unfold execLdbu
  exact keptNext (kept_runCore h5)

theorem kept_execStw {p t a disp st} (h5 : Kept o st) :
    KeptNext o (execStw p t a disp st) := by
  unfold execStw
  exact keptNext (kept_runCore h5)

theorem kept_execSth {p t a disp st} (h5 : Kept o st) :
    KeptNext o (execSth p t a disp st) := by
  unfold execSth
  exact keptNext (kept_runCore h5)

theorem kept_execStb {p t a disp st} (h5 : Kept o st) :
    KeptNext o (execStb p t a disp st) := by
  unfold execStb
  exact keptNext (kept_runCore h5)

theorem kept_execLda {p t a disp st} (h5 : Kept o st) :
    KeptNext o (execLda p t a disp st) := by
  unfold execLda
  exact keptNext (kept_runCore h5)

theorem kept_execSta {p t a disp st} (h5 : Kept o st) :
    KeptNext o (execSta p t a disp st) := by
  unfold execSta
  exact keptNext (kept_runCore h5)

theorem kept_execLdd {p t bank byte off st} (h6 : Kept o st) :
    KeptNext o (execLdd p t bank byte off st) := by
  unfold execLdd
  exact keptNext (kept_runCore h6)

theorem kept_execStd {p t bank byte off st} (h6 : Kept o st) :
    KeptNext o (execStd p t bank byte off st) := by
  unfold execStd
  exact keptNext (kept_runCore h6)

theorem kept_execLdwp {p t a disp st} (h5 : Kept o st) :
    KeptNext o (execLdwp p t a disp st) := by
  unfold execLdwp
  exact keptNext (kept_runCore h5)

theorem kept_execStwp {p t a disp st} (h5 : Kept o st) :
    KeptNext o (execStwp p t a disp st) := by
  unfold execStwp
  exact keptNext (kept_runCore h5)

theorem kept_execPush {p t isA st} (h4 : Kept o st) :
    KeptNext o (execPush p t isA st) := by
  unfold execPush
  exact keptNext (kept_runCore h4)

theorem kept_execPop {p t isA st} (h4 : Kept o st) :
    KeptNext o (execPop p t isA st) := by
  unfold execPop
  exact keptNext (kept_runCore h4)

/-! ### Machine/CoreSys.lean -/

theorem kept_execMfc {p t creg st} (h4 : Kept o st) :
    KeptNext o (execMfc p t creg st) := by
  unfold execMfc
  exact keptNext (kept_runCore h4)

theorem kept_execMtc {p t creg st} (h4 : Kept o st) :
    KeptNext o (execMtc p t creg st) := by
  unfold execMtc
  exact keptNext (kept_runCore h4)

theorem kept_execNop {p st} (h2 : Kept o st) :
    KeptNext o (execNop p st) := by
  unfold execNop
  exact keptNext (kept_runCore h2)

theorem kept_execTrap {p imm st} (h3 : Kept o st) :
    KeptNext o (execTrap p imm st) := by
  unfold execTrap
  exact keptNext (kept_runCore h3)

theorem kept_execRfe {p st} (h2 : Kept o st) :
    KeptNext o (execRfe p st) := by
  unfold execRfe
  exact keptNext (kept_runCore h2)

theorem kept_execWait {p st} (h2 : Kept o st) :
    KeptNext o (execWait p st) := by
  unfold execWait
  exact keptNext (kept_runCore h2)

theorem kept_execFence {p st} (h2 : Kept o st) :
    KeptNext o (execFence p st) := by
  unfold execFence
  exact keptNext (kept_runCore h2)

theorem kept_execEi {p st} (h2 : Kept o st) :
    KeptNext o (execEi p st) := by
  unfold execEi
  exact keptNext (kept_runCore h2)

theorem kept_execDi {p st} (h2 : Kept o st) :
    KeptNext o (execDi p st) := by
  unfold execDi
  exact keptNext (kept_runCore h2)

theorem kept_execBkpt {p imm st} (h3 : Kept o st) :
    KeptNext o (execBkpt p imm st) := by
  unfold execBkpt
  exact keptNext (kept_runCore h3)

theorem kept_execBmov {p s d c sz st} (h6 : Kept o st) :
    KeptNext o (execBmov p s d c sz st) := by
  unfold execBmov
  exact keptNext (kept_runCore h6)

theorem kept_execBfill {p d c v sz st} (h6 : Kept o st) :
    KeptNext o (execBfill p d c v sz st) := by
  unfold execBfill
  exact keptNext (kept_runCore h6)

theorem kept_execBcmp {p s d c sz st} (h6 : Kept o st) :
    KeptNext o (execBcmp p s d c sz st) := by
  unfold execBcmp
  exact keptNext (kept_runCore h6)

theorem kept_execBscan {p s c v sz st} (h6 : Kept o st) :
    KeptNext o (execBscan p s c v sz st) := by
  unfold execBscan
  exact keptNext (kept_runCore h6)

theorem kept_execCustomInstruction {p major idx d s t imm st} (h8 : Kept o st) :
    KeptNext o (execCustomInstruction p major idx d s t imm st) := by
  unfold execCustomInstruction
  exact keptNext (kept_runCore h8)

end Sys2Proof.Machine
end

