-- ==== Sys2Proof/Laws/KeptCommands2.lean ====
section
/-! SUPPORT. What the operations keep (Laws/Kept.lean): commands of the flash guard, Floe, the keyboard and KPF. -/

namespace Sys2Proof.Machine

variable {o : State}

/-! ### Machine/FgdCmd.lean -/

theorem kept_hostFlash {tag ask s} (h3 : Kept o s) :
    Kept o (hostFlash tag ask s) := by
  unfold hostFlash
  extract_lets +onlyGivenNames v0
  clear_value v0
  extract_lets +onlyGivenNames v1
  have k2 : Kept o v1 := kept_mk.mpr h3
  clear_value v1
  extract_lets +onlyGivenNames v3
  clear_value v3
  extract_lets +onlyGivenNames v4
  have k5 : Kept o v4 := kept_mk.mpr k2
  clear_value v4
  extract_lets +onlyGivenNames v6
  have k7 : ∀ v6y1 v6y2 v6y3 v6y4, Kept o (v6 v6y1 v6y2 v6y3 v6y4) := by
    intro y8 y9 y10 y11
    unfold v6
    exact keptIte (kept_reqArrive k2) k5
  clear_value v6
  split
  · refine keptIte ?_ ?_
    · refine k7 _ _ _ _
    · exact k5
  · refine keptIte ?_ ?_
    · refine k7 _ _ _ _
    · exact k5
  · refine k7 _ _ _ _
  · exact k5

theorem kept_execPutFlash {x tag ask s} (h4 : Kept o s) :
    KeptNext o (execPutFlash x tag ask s) := by
  unfold execPutFlash
  refine keptNext ?_
  refine kept_espiTxn ?_ ?_
  · intro y0 y1
    split
    · refine kept_refusedAs
    · split
      · refine keptServed ?_
        intro y5 y6
        exact keptId y6
      · refine keptServed ?_
        intro y8 y9
        exact kept_hostFlash y9
  · exact h4

theorem kept_execGetFlash {x s} (h2 : Kept o s) :
    KeptNext o (execGetFlash x s) := by
  unfold execGetFlash
  refine keptNext ?_
  refine kept_espiTxn ?_ ?_
  · intro y0 y1
    split
    · refine kept_refusedAs
    · split
      · refine kept_getNothing
      · refine keptServed ?_
        intro y9 y10
        exact kept_mk.mpr y10
  · exact h2

theorem kept_execFgdStart {v dev0 dev1 s} (h4 : Kept o s) :
    KeptNext o (execFgdStart v dev0 dev1 s) := by
  unfold execFgdStart
  refine keptNext ?_
  refine kept_coreStore ?_ ?_
  · intro y0 y1
    exact kept_fgdWrite y1
  · exact kept_mk.mpr h4

theorem kept_execVerificationDone {t s} (h2 : Kept o s) :
    KeptNext o (execVerificationDone t s) := by
  unfold execVerificationDone
  extract_lets +onlyGivenNames v0
  have k1 : Kept o v0 := kept_seen h2
  clear_value v0
  exact keptNext (keptIte (kept_fgdVerify k1) k1)

theorem kept_execRsmen {v s} (h2 : Kept o s) :
    KeptNext o (execRsmen v s) := by
  unfold execRsmen
  refine keptNext ?_
  refine kept_coreStore ?_ ?_
  · intro y0 y1
    exact kept_fgdWrite y1
  · exact h2

theorem kept_execFgdPlock {v s} (h2 : Kept o s) :
    KeptNext o (execFgdPlock v s) := by
  unfold execFgdPlock
  refine keptNext ?_
  refine kept_coreStore ?_ ?_
  · intro y0 y1
    exact kept_fgdWrite y1
  · exact h2

theorem kept_execFlashRead {v s} (h2 : Kept o s) :
    KeptNext o (execFlashRead v s) := by
  unfold execFlashRead
  refine keptNext ?_
  refine kept_coreStore ?_ ?_
  · intro y0 y1
    exact kept_fgdWrite y1
  · exact h2

theorem kept_execFlashWrite {v s} (h2 : Kept o s) :
    KeptNext o (execFlashWrite v s) := by
  unfold execFlashWrite
  refine keptNext ?_
  refine kept_coreStore ?_ ?_
  · intro y0 y1
    exact kept_fgdWrite y1
  · exact h2

theorem kept_execFlashErase {v s} (h2 : Kept o s) :
    KeptNext o (execFlashErase v s) := by
  unfold execFlashErase
  refine keptNext ?_
  refine kept_coreStore ?_ ?_
  · intro y0 y1
    exact kept_fgdWrite y1
  · exact h2

theorem kept_execFlashOperationDone {t s} (h2 : Kept o s) :
    KeptNext o (execFlashOperationDone t s) := by
  unfold execFlashOperationDone
  exact keptNext (kept_flashDone (kept_seen h2))

theorem kept_execDeviceTimeout {t s} (h2 : Kept o s) :
    KeptNext o (execDeviceTimeout t s) := by
  unfold execDeviceTimeout
  exact keptNext (kept_flashTimeout (kept_seen h2))

theorem kept_execFgdCntRead {s} (h1 : Kept o s) :
    KeptNext o (execFgdCntRead s) := by
  unfold execFgdCntRead
  exact keptNext (kept_coreLoad h1)

theorem kept_execPromoGo {v s} (h2 : Kept o s) :
    KeptNext o (execPromoGo v s) := by
  unfold execPromoGo
  refine keptNext ?_
  refine kept_coreStore ?_ ?_
  · intro y0 y1
    exact kept_fgdWrite y1
  · exact h2

theorem kept_execPromoCancel {v s} (h2 : Kept o s) :
    KeptNext o (execPromoCancel v s) := by
  unfold execPromoCancel
  refine keptNext ?_
  refine kept_coreStore ?_ ?_
  · intro y0 y1
    exact kept_fgdWrite y1
  · exact h2

theorem kept_execPromotionVerified {t s} (h2 : Kept o s) :
    KeptNext o (execPromotionVerified t s) := by
  unfold execPromotionVerified
  extract_lets +onlyGivenNames v0
  have k1 : Kept o v0 := kept_seen h2
  clear_value v0
  exact keptNext (keptIte (kept_promoVerify k1) k1)

/-! ### Machine/FloeCmd.lean -/

theorem kept_execFrameReceived {p f x t s} (h5 : Kept o s) :
    KeptNext o (execFrameReceived p f x t s) := by
  unfold execFrameReceived
  exact keptNext (kept_recvFrame (kept_seen h5))

theorem kept_execTxctlGo {p v s} (h3 : Kept o s) :
    KeptNext o (execTxctlGo p v s) := by
  unfold execTxctlGo
  extract_lets +onlyGivenNames v0
  clear_value v0
  refine keptNext ?_
  refine kept_coreStore ?_ ?_
  · intro y1 y2
    exact kept_floeWrite y2
  · exact h3

theorem kept_execAttemptEnd {p x2 x t s} (h5 : Kept o s) :
    KeptNext o (execAttemptEnd p x2 x t s) := by
  unfold execAttemptEnd
  exact keptNext (kept_attemptEnd (kept_seen h5))

theorem kept_execRetryBackoffEnd {p t s} (h3 : Kept o s) :
    KeptNext o (execRetryBackoffEnd p t s) := by
  unfold execRetryBackoffEnd
  exact keptNext (kept_backoffEnd (kept_seen h3))

theorem kept_execKcfgValid {e v s} (h3 : Kept o s) :
    KeptNext o (execKcfgValid e v s) := by
  unfold execKcfgValid
  extract_lets +onlyGivenNames v0
  clear_value v0
  refine keptNext ?_
  refine kept_coreStore ?_ ?_
  · intro y1 y2
    exact kept_floeWrite y2
  · exact h3

theorem kept_execRxpop {p v s} (h3 : Kept o s) :
    KeptNext o (execRxpop p v s) := by
  unfold execRxpop
  extract_lets +onlyGivenNames v0
  clear_value v0
  refine keptNext ?_
  refine kept_coreStore ?_ ?_
  · intro y1 y2
    exact kept_floeWrite y2
  · exact h3

theorem kept_execPortEnable {p v s} (h3 : Kept o s) :
    KeptNext o (execPortEnable p v s) := by
  unfold execPortEnable
  extract_lets +onlyGivenNames v0
  clear_value v0
  refine keptNext ?_
  refine kept_coreStore ?_ ?_
  · intro y1 y2
    exact kept_floeWrite y2
  · exact h3

theorem kept_execFloePerrRead {p k s} (h3 : Kept o s) :
    KeptNext o (execFloePerrRead p k s) := by
  unfold execFloePerrRead
  exact keptNext (kept_coreLoad h3)

/-! ### Machine/KeysCmd.lean -/

theorem kept_execKscDeliv0Read {s} (h1 : Kept o s) :
    KeptNext o (execKscDeliv0Read s) := by
  unfold execKscDeliv0Read
  exact keptNext (kept_coreLoad h1)

theorem kept_execStuckMask {t s} (h2 : Kept o s) :
    KeptNext o (execStuckMask t s) := by
  unfold execStuckMask
  exact keptNext (kept_stuckMask (kept_seen h2))

theorem kept_execSleepScan {keys t s} (h3 : Kept o s) :
    KeptNext o (execSleepScan keys t s) := by
  unfold execSleepScan
  exact keptNext (kept_sleepScan (kept_seen h3))

theorem kept_execScannerHandover {v s} (h2 : Kept o s) :
    KeptNext o (execScannerHandover v s) := by
  unfold execScannerHandover
  refine keptNext ?_
  refine kept_coreStore ?_ ?_
  · intro y0 y1
    exact kept_kscWrite y1
  · exact h2

theorem kept_execKscLock {v s} (h2 : Kept o s) :
    KeptNext o (execKscLock v s) := by
  unfold execKscLock
  refine keptNext ?_
  refine kept_coreStore ?_ ?_
  · intro y0 y1
    exact kept_lockCtlWrite y1
  · exact h2

theorem kept_execKscUnlock {v s} (h2 : Kept o s) :
    KeptNext o (execKscUnlock v s) := by
  unfold execKscUnlock
  refine keptNext ?_
  refine kept_coreStore ?_ ?_
  · intro y0 y1
    exact kept_lockCtlWrite y1
  · exact h2

theorem kept_execSequenceWrite {k upper v s} (h4 : Kept o s) :
    KeptNext o (execSequenceWrite k upper v s) := by
  unfold execSequenceWrite
  extract_lets +onlyGivenNames v0
  clear_value v0
  refine keptNext ?_
  refine kept_coreStore ?_ ?_
  · intro y1 y2
    exact kept_seqWrite y2
  · exact h4

theorem kept_execStepTimeout {t s} (h2 : Kept o s) :
    KeptNext o (execStepTimeout t s) := by
  unfold execStepTimeout
  exact keptNext (kept_stepTimedOut (kept_seen h2))

theorem kept_execBackoffEnd {t s} (h2 : Kept o s) :
    KeptNext o (execBackoffEnd t s) := by
  unfold execBackoffEnd
  exact keptNext (kept_matcherRun (kept_seen h2))

/-! ### Machine/KpfRows.lean -/

theorem kept_asKpf {act t s} (h1 : ∀ acty1, (Kept o acty1) → Kept o (act acty1)) (h3 : Kept o s) :
    Kept o (asKpf act t s) := by
  unfold asKpf
  extract_lets +onlyGivenNames v0
  have k1 : Kept o v0 := kept_seen h3
  clear_value v0
  exact keptIte (h1 _ k1) k1

theorem kept_execDiscover {p t s} (h3 : Kept o s) :
    KeptNext o (execDiscover p t s) := by
  unfold execDiscover
  refine keptNext ?_
  refine kept_asKpf ?_ ?_
  · intro y0 y1
    exact kept_discoverDue y1
  · exact h3

theorem kept_execPresence {p f x t s} (h5 : Kept o s) :
    KeptNext o (execPresence p f x t s) := by
  unfold execPresence
  exact keptNext (kept_moduleFrame (kept_seen h5))

theorem kept_execQassign {p uid t s} (h4 : Kept o s) :
    KeptNext o (execQassign p uid t s) := by
  unfold execQassign
  refine keptNext ?_
  refine kept_asKpf ?_ ?_
  · intro y0 y1
    exact kept_quarantine y1
  · exact h4

theorem kept_execCertReq {p id t s} (h4 : Kept o s) :
    KeptNext o (execCertReq p id t s) := by
  unfold execCertReq
  refine keptNext ?_
  refine kept_asKpf ?_ ?_
  · intro y0 y1
    exact kept_certRequest y1
  · exact h4

theorem kept_execCert {p f x t s} (h5 : Kept o s) :
    KeptNext o (execCert p f x t s) := by
  unfold execCert
  exact keptNext (kept_moduleFrame (kept_seen h5))

theorem kept_execChallenge {p id t s} (h4 : Kept o s) :
    KeptNext o (execChallenge p id t s) := by
  unfold execChallenge
  refine keptNext ?_
  refine kept_asKpf ?_ ?_
  · intro y0 y1
    exact kept_challenge y1
  · exact h4

theorem kept_execResponse {p f x t s} (h5 : Kept o s) :
    KeptNext o (execResponse p f x t s) := by
  unfold execResponse
  exact keptNext (kept_moduleFrame (kept_seen h5))

theorem kept_execModuleAdmit {p id t s} (h4 : Kept o s) :
    KeptNext o (execModuleAdmit p id t s) := by
  unfold execModuleAdmit
  refine keptNext ?_
  refine kept_asKpf ?_ ?_
  · intro y0 y1
    exact kept_admitModule y1
  · exact h4

theorem kept_execReject {p id t s} (h4 : Kept o s) :
    KeptNext o (execReject p id t s) := by
  unfold execReject
  refine keptNext ?_
  refine kept_asKpf ?_ ?_
  · intro y0 y1
    exact kept_reject y1
  · exact h4

theorem kept_execRead {p id obj t s} (h5 : Kept o s) :
    KeptNext o (execRead p id obj t s) := by
  unfold execRead
  refine keptNext ?_
  refine kept_asKpf ?_ ?_
  · intro y0 y1
    exact kept_readObj y1
  · exact h5

theorem kept_execWrite {p id obj value t s} (h6 : Kept o s) :
    KeptNext o (execWrite p id obj value t s) := by
  unfold execWrite
  refine keptNext ?_
  refine kept_asKpf ?_ ?_
  · intro y0 y1
    exact kept_writeObj y1
  · exact h6

theorem kept_execPing {p id t s} (h4 : Kept o s) :
    KeptNext o (execPing p id t s) := by
  unfold execPing
  refine keptNext ?_
  refine kept_asKpf ?_ ?_
  · intro y0 y1
    exact kept_ping y1
  · exact h4

theorem kept_execReadResp {p f x t s} (h5 : Kept o s) :
    KeptNext o (execReadResp p f x t s) := by
  unfold execReadResp
  exact keptNext (kept_moduleFrame (kept_seen h5))

theorem kept_execWriteAck {p f x t s} (h5 : Kept o s) :
    KeptNext o (execWriteAck p f x t s) := by
  unfold execWriteAck
  exact keptNext (kept_moduleFrame (kept_seen h5))

theorem kept_execPong {p f x t s} (h5 : Kept o s) :
    KeptNext o (execPong p f x t s) := by
  unfold execPong
  exact keptNext (kept_moduleFrame (kept_seen h5))

theorem kept_execNotify {p f x t s} (h5 : Kept o s) :
    KeptNext o (execNotify p f x t s) := by
  unfold execNotify
  exact keptNext (kept_moduleFrame (kept_seen h5))

theorem kept_execError {p f x t s} (h5 : Kept o s) :
    KeptNext o (execError p f x t s) := by
  unfold execError
  exact keptNext (kept_moduleFrame (kept_seen h5))

theorem kept_execPieceDelivered {t s} (h2 : Kept o s) :
    KeptNext o (execPieceDelivered t s) := by
  unfold execPieceDelivered
  refine keptNext ?_
  refine kept_asKpf ?_ ?_
  · intro y0 y1
    exact kept_unitDelivered y1
  · exact h2

theorem kept_execSessionIdleExpiry {t s} (h2 : Kept o s) :
    KeptNext o (execSessionIdleExpiry t s) := by
  unfold execSessionIdleExpiry
  refine keptNext ?_
  refine kept_asKpf ?_ ?_
  · intro y0 y1
    exact kept_sessionIdle y1
  · exact h2

theorem kept_execAutoConfirm {t s} (h2 : Kept o s) :
    KeptNext o (execAutoConfirm t s) := by
  unfold execAutoConfirm
  refine keptNext ?_
  refine kept_asKpf ?_ ?_
  · intro y0 y1
    exact kept_autoConfirm y1
  · exact h2

theorem kept_execSmartBatteryPoll {r t s} (h3 : Kept o s) :
    KeptNext o (execSmartBatteryPoll r t s) := by
  unfold execSmartBatteryPoll
  refine keptNext ?_
  refine kept_asKpf ?_ ?_
  · intro y0 y1
    exact kept_packPoll y1
  · exact h3

theorem kept_execGaugeCheck {t s} (h2 : Kept o s) :
    KeptNext o (execGaugeCheck t s) := by
  unfold execGaugeCheck
  refine keptNext ?_
  refine kept_asKpf ?_ ?_
  · intro y0 y1
    exact kept_gaugeCheck y1
  · exact h2

theorem kept_execPolicyRestore {t s} (h2 : Kept o s) :
    KeptNext o (execPolicyRestore t s) := by
  unfold execPolicyRestore
  refine keptNext ?_
  refine kept_asKpf ?_ ?_
  · intro y0 y1
    exact kept_policyRestore y1
  · exact h2

end Sys2Proof.Machine
end

