-- ==== Sys2Proof/Laws/KeptCommands3.lean ====
section
/-! SUPPORT. What the operations keep (Laws/Kept.lean): commands of LPE, light, NVC, SEC, the system and thermal blocks, and the tick. -/

namespace Sys2Proof.Machine

variable {o : State}

/-! ### Machine/LpeCmd.lean -/

theorem kept_execSlotEnable {n v s} (h3 : Kept o s) :
    KeptNext o (execSlotEnable n v s) := by
  unfold execSlotEnable
  refine keptNext ?_
  refine kept_coreStore ?_ ?_
  · intro y0 y1
    exact kept_scfgWrite y1
  · exact h3

theorem kept_execSlotDisable {n v s} (h3 : Kept o s) :
    KeptNext o (execSlotDisable n v s) := by
  unfold execSlotDisable
  refine keptNext ?_
  refine kept_coreStore ?_ ?_
  · intro y0 y1
    exact kept_scfgWrite y1
  · exact h3

theorem kept_execLpeRun {v s} (h2 : Kept o s) :
    KeptNext o (execLpeRun v s) := by
  unfold execLpeRun
  refine keptNext ?_
  refine kept_coreStore ?_ ?_
  · intro y0 y1
    exact kept_lpeCtrlWrite y1
  · exact h2

theorem kept_execLpeLock {v s} (h2 : Kept o s) :
    KeptNext o (execLpeLock v s) := by
  unfold execLpeLock
  refine keptNext ?_
  refine kept_coreStore ?_ ?_
  · intro y0 y1
    exact kept_lpeCtrlWrite y1
  · exact h2

theorem kept_execLpeNowloRead {s} (h1 : Kept o s) :
    KeptNext o (execLpeNowloRead s) := by
  unfold execLpeNowloRead
  exact keptNext (kept_coreLoad h1)

theorem kept_execLpeSstatRead {n s} (h2 : Kept o s) :
    KeptNext o (execLpeSstatRead n s) := by
  unfold execLpeSstatRead
  exact keptNext (kept_coreLoad h2)

theorem kept_execSlotRelease {n t s} (h3 : Kept o s) :
    KeptNext o (execSlotRelease n t s) := by
  unfold execSlotRelease
  exact keptNext (kept_slotRelease (kept_seen h3))

theorem kept_execRailClr {upper v s} (h3 : Kept o s) :
    KeptNext o (execRailClr upper v s) := by
  unfold execRailClr
  refine keptNext ?_
  refine keptIte ?_ ?_
  · refine kept_coreStore ?_ ?_
    · intro y0 y1
      exact kept_railClr y1
    · exact h3
  · refine kept_coreStore ?_ ?_
    · intro y2 y3
      exact kept_railClr y3
    · exact h3

theorem kept_execFltholdClear {v s} (h2 : Kept o s) :
    KeptNext o (execFltholdClear v s) := by
  unfold execFltholdClear
  refine keptNext ?_
  refine kept_coreStore ?_ ?_
  · intro y0 y1
    exact kept_railStatWrite y1
  · exact h2

theorem kept_execPowerGoodChange {n level t s} (h4 : Kept o s) :
    KeptNext o (execPowerGoodChange n level t s) := by
  unfold execPowerGoodChange
  exact keptNext (kept_pinMoves (kept_seen h4))

/-! ### Machine/LuxCmd.lean -/

theorem kept_execBulkMoverTransfer {n t s} (h3 : Kept o s) :
    KeptNext o (execBulkMoverTransfer n t s) := by
  unfold execBulkMoverTransfer
  exact keptNext (kept_bulkMove (kept_seen h3))

theorem kept_execUnitCloseComplete {t s} (h2 : Kept o s) :
    KeptNext o (execUnitCloseComplete t s) := by
  unfold execUnitCloseComplete
  exact keptNext (kept_unitClosed (kept_seen h2))

theorem kept_execTimerSync {t s} (h2 : Kept o s) :
    KeptNext o (execTimerSync t s) := by
  unfold execTimerSync
  exact keptNext (kept_timerSync (kept_seen h2))

theorem kept_execLsyncInEdge {t s} (h2 : Kept o s) :
    KeptNext o (execLsyncInEdge t s) := by
  unfold execLsyncInEdge
  exact keptNext (kept_edgeSync (kept_seen h2))

theorem kept_execSyncnow {v s} (h2 : Kept o s) :
    KeptNext o (execSyncnow v s) := by
  unfold execSyncnow
  refine keptNext ?_
  refine kept_coreStore ?_ ?_
  · intro y0 y1
    exact kept_luxCtrlWrite y1
  · exact h2

theorem kept_execSyncFallback {t s} (h2 : Kept o s) :
    KeptNext o (execSyncFallback t s) := by
  unfold execSyncFallback
  exact keptNext (kept_syncFallback (kept_seen h2))

theorem kept_execFwclose {v s} (h2 : Kept o s) :
    KeptNext o (execFwclose v s) := by
  unfold execFwclose
  refine keptNext ?_
  refine kept_coreStore ?_ ?_
  · intro y0 y1
    exact kept_luxCtrlWrite y1
  · exact h2

theorem kept_execOcclose {v s} (h2 : Kept o s) :
    KeptNext o (execOcclose v s) := by
  unfold execOcclose
  refine keptNext ?_
  refine kept_coreStore ?_ ?_
  · intro y0 y1
    exact kept_luxCtrlWrite y1
  · exact h2

theorem kept_execPresent {t s} (h2 : Kept o s) :
    KeptNext o (execPresent t s) := by
  unfold execPresent
  exact keptNext (kept_present (kept_seen h2))

theorem kept_execLuxEnSet {v s} (h2 : Kept o s) :
    KeptNext o (execLuxEnSet v s) := by
  unfold execLuxEnSet
  refine keptNext ?_
  refine kept_coreStore ?_ ?_
  · intro y0 y1
    exact kept_luxCtrlWrite y1
  · exact h2

theorem kept_execLuxEnClear {v s} (h2 : Kept o s) :
    KeptNext o (execLuxEnClear v s) := by
  unfold execLuxEnClear
  refine keptNext ?_
  refine kept_coreStore ?_ ?_
  · intro y0 y1
    exact kept_luxCtrlWrite y1
  · exact h2

theorem kept_execMatrixTimingWrite {cfg v s} (h3 : Kept o s) :
    KeptNext o (execMatrixTimingWrite cfg v s) := by
  unfold execMatrixTimingWrite
  extract_lets +onlyGivenNames v0
  clear_value v0
  refine keptNext ?_
  refine kept_coreStore ?_ ?_
  · intro y1 y2
    exact kept_timingCheck (kept_regWrite y2)
  · exact h3

theorem kept_execScanEnd {r t s} (h3 : Kept o s) :
    KeptNext o (execScanEnd r t s) := by
  unfold execScanEnd
  exact keptNext (kept_scanEnd (kept_seen h3))

theorem kept_execVledOvervoltage {vled t s} (h3 : Kept o s) :
    KeptNext o (execVledOvervoltage vled t s) := by
  unfold execVledOvervoltage
  exact keptNext (kept_vledOver (kept_seen h3))

theorem kept_execLuxDiagclr {v s} (h2 : Kept o s) :
    KeptNext o (execLuxDiagclr v s) := by
  unfold execLuxDiagclr
  refine keptNext ?_
  refine kept_coreStore ?_ ?_
  · intro y0 y1
    exact kept_diagClr y1
  · exact h2

theorem kept_execLuxCntRead {s} (h1 : Kept o s) :
    KeptNext o (execLuxCntRead s) := by
  unfold execLuxCntRead
  exact keptNext (kept_coreLoad h1)

theorem kept_execChnEnable {v s} (h2 : Kept o s) :
    KeptNext o (execChnEnable v s) := by
  unfold execChnEnable
  refine keptNext ?_
  refine kept_coreStore ?_ ?_
  · intro y0 y1
    exact kept_chnCtrlWrite y1
  · exact h2

theorem kept_execChnDisable {v s} (h2 : Kept o s) :
    KeptNext o (execChnDisable v s) := by
  unfold execChnDisable
  refine keptNext ?_
  refine kept_coreStore ?_ ?_
  · intro y0 y1
    exact kept_chnCtrlWrite y1
  · exact h2

theorem kept_execEnumStatusReturn {x1 t s} (h3 : Kept o s) :
    KeptNext o (execEnumStatusReturn x1 t s) := by
  unfold execEnumStatusReturn
  extract_lets +onlyGivenNames v0
  have k1 : Kept o v0 := kept_seen h3
  clear_value v0
  refine keptNext ?_
  refine keptIte ?_ ?_
  · extract_lets +onlyGivenNames v2
    have k3 : Kept o v2 := kept_enumFound k1
    clear_value v2
    exact keptIte (kept_configState k3) k3
  · exact k1

theorem kept_execStatusResponse {r t s} (h3 : Kept o s) :
    KeptNext o (execStatusResponse r t s) := by
  unfold execStatusResponse
  exact keptNext (kept_statusResponse (kept_seen h3))

theorem kept_execCommit {v s} (h2 : Kept o s) :
    KeptNext o (execCommit v s) := by
  unfold execCommit
  refine keptNext ?_
  refine kept_coreStore ?_ ?_
  · intro y0 y1
    exact kept_chnCtrlWrite y1
  · exact h2

theorem kept_execReenum {v s} (h2 : Kept o s) :
    KeptNext o (execReenum v s) := by
  unfold execReenum
  refine keptNext ?_
  refine kept_coreStore ?_ ?_
  · intro y0 y1
    exact kept_chnCtrlWrite y1
  · exact h2

theorem kept_execEnumRetry {t s} (h2 : Kept o s) :
    KeptNext o (execEnumRetry t s) := by
  unfold execEnumRetry
  exact keptNext (kept_enumRetry (kept_seen h2))

theorem kept_execReturnedSync {mmap dmap crcOk t s} (h5 : Kept o s) :
    KeptNext o (execReturnedSync mmap dmap crcOk t s) := by
  unfold execReturnedSync
  exact keptNext (kept_returnedSync (kept_seen h5))

theorem kept_execChainBreak {t s} (h2 : Kept o s) :
    KeptNext o (execChainBreak t s) := by
  unfold execChainBreak
  exact keptNext (kept_chainBreak (kept_seen h2))

theorem kept_execChnDiagreq {v s} (h2 : Kept o s) :
    KeptNext o (execChnDiagreq v s) := by
  unfold execChnDiagreq
  refine keptNext ?_
  refine kept_coreStore ?_ ?_
  · intro y0 y1
    exact kept_diagReqWrite y1
  · exact h2

theorem kept_execDiagResponse {first count states t s} (h5 : Kept o s) :
    KeptNext o (execDiagResponse first count states t s) := by
  unfold execDiagResponse
  exact keptNext (kept_diagResponse (kept_seen h5))

theorem kept_execChnCntRead {s} (h1 : Kept o s) :
    KeptNext o (execChnCntRead s) := by
  unfold execChnCntRead
  exact keptNext (kept_coreLoad h1)

theorem kept_execChnDstatRead {j s} (h2 : Kept o s) :
    KeptNext o (execChnDstatRead j s) := by
  unfold execChnDstatRead
  exact keptNext (kept_coreLoad h2)

theorem kept_execAddressedRequestReturned {t s} (h2 : Kept o s) :
    KeptNext o (execAddressedRequestReturned t s) := by
  unfold execAddressedRequestReturned
  extract_lets +onlyGivenNames v0
  have k1 : Kept o v0 := kept_seen h2
  clear_value v0
  exact keptNext (keptIte (kept_toEnum k1) k1)

/-! ### Machine/NvcCmd.lean -/

theorem kept_execNvcProgram {v s} (h2 : Kept o s) :
    KeptNext o (execNvcProgram v s) := by
  unfold execNvcProgram
  refine keptNext ?_
  refine kept_coreStore ?_ ?_
  · intro y0 y1
    exact kept_nvcWrite y1
  · exact h2

theorem kept_execNvcErase {v s} (h2 : Kept o s) :
    KeptNext o (execNvcErase v s) := by
  unfold execNvcErase
  refine keptNext ?_
  refine kept_coreStore ?_ ?_
  · intro y0 y1
    exact kept_nvcWrite y1
  · exact h2

theorem kept_execNvcRead {v s} (h2 : Kept o s) :
    KeptNext o (execNvcRead v s) := by
  unfold execNvcRead
  refine keptNext ?_
  refine kept_coreStore ?_ ?_
  · intro y0 y1
    exact kept_nvcWrite y1
  · exact h2

theorem kept_execNvcDone {bad t s} (h3 : Kept o s) :
    KeptNext o (execNvcDone bad t s) := by
  unfold execNvcDone
  extract_lets +onlyGivenNames v0
  have k1 : Kept o v0 := kept_seen h3
  clear_value v0
  exact keptNext (keptIte (kept_nvcDone k1) k1)

theorem kept_execConfArm {v s} (h2 : Kept o s) :
    KeptNext o (execConfArm v s) := by
  unfold execConfArm
  refine keptNext ?_
  refine kept_coreStore ?_ ?_
  · intro y0 y1
    exact kept_nvcWrite y1
  · exact h2

theorem kept_execNvcConfirm {v s} (h2 : Kept o s) :
    KeptNext o (execNvcConfirm v s) := by
  unfold execNvcConfirm
  refine keptNext ?_
  refine kept_coreStore ?_ ?_
  · intro y0 y1
    exact kept_nvcWrite y1
  · exact h2

theorem kept_execConfirmationExpiry {t s} (h2 : Kept o s) :
    KeptNext o (execConfirmationExpiry t s) := by
  unfold execConfirmationExpiry
  extract_lets +onlyGivenNames v0
  have k1 : Kept o v0 := kept_seen h2
  clear_value v0
  exact keptNext (keptIte (kept_coreReset (kept_set (kept_clr k1))) k1)

theorem kept_execLogCommit {v s} (h2 : Kept o s) :
    KeptNext o (execLogCommit v s) := by
  unfold execLogCommit
  refine keptNext ?_
  refine kept_coreStore ?_ ?_
  · intro y0 y1
    exact kept_logRegWrite y1
  · exact h2

theorem kept_execRecordWritten {t s} (h2 : Kept o s) :
    KeptNext o (execRecordWritten t s) := by
  unfold execRecordWritten
  extract_lets +onlyGivenNames v0
  have k1 : Kept o v0 := kept_seen h2
  clear_value v0
  exact keptNext (keptIte (kept_recordWritten k1) k1)

theorem kept_execLogFlush {v s} (h2 : Kept o s) :
    KeptNext o (execLogFlush v s) := by
  unfold execLogFlush
  refine keptNext ?_
  refine kept_coreStore ?_ ?_
  · intro y0 y1
    exact kept_logRegWrite y1
  · exact h2

theorem kept_execLogCntRead {s} (h1 : Kept o s) :
    KeptNext o (execLogCntRead s) := by
  unfold execLogCntRead
  exact keptNext (kept_coreLoad h1)

/-! ### Machine/SecCmd.lean -/

theorem kept_atSupply {mv s} (h2 : Kept o s) :
    Kept o (atSupply mv s) := by
  unfold atSupply
  exact kept_mk.mpr h2

theorem kept_execSecLcreq {v supply s} (h3 : Kept o s) :
    KeptNext o (execSecLcreq v supply s) := by
  unfold execSecLcreq
  refine keptNext ?_
  refine kept_coreStore ?_ ?_
  · intro y0 y1
    exact kept_secWrite y1
  · exact kept_atSupply h3

theorem kept_execGofw {v supply s} (h3 : Kept o s) :
    KeptNext o (execGofw v supply s) := by
  unfold execGofw
  refine keptNext ?_
  refine kept_coreStore ?_ ?_
  · intro y0 y1
    exact kept_secWrite y1
  · exact kept_atSupply h3

theorem kept_execGohost {v supply s} (h3 : Kept o s) :
    KeptNext o (execGohost v supply s) := by
  unfold execGohost
  refine keptNext ?_
  refine kept_coreStore ?_ ?_
  · intro y0 y1
    exact kept_secWrite y1
  · exact kept_atSupply h3

theorem kept_execOemProg {v supply s} (h3 : Kept o s) :
    KeptNext o (execOemProg v supply s) := by
  unfold execOemProg
  refine keptNext ?_
  refine kept_coreStore ?_ ?_
  · intro y0 y1
    exact kept_secWrite y1
  · exact kept_atSupply h3

theorem kept_execOemRevoke {v supply s} (h3 : Kept o s) :
    KeptNext o (execOemRevoke v supply s) := by
  unfold execOemRevoke
  refine keptNext ?_
  refine kept_coreStore ?_ ?_
  · intro y0 y1
    exact kept_secWrite y1
  · exact kept_atSupply h3

theorem kept_execNewnonce {v s} (h2 : Kept o s) :
    KeptNext o (execNewnonce v s) := by
  unfold execNewnonce
  refine keptNext ?_
  refine kept_coreStore ?_ ?_
  · intro y0 y1
    exact kept_secWrite y1
  · exact h2

theorem kept_execSubmit {v s} (h2 : Kept o s) :
    KeptNext o (execSubmit v s) := by
  unfold execSubmit
  refine keptNext ?_
  refine kept_coreStore ?_ ?_
  · intro y0 y1
    exact kept_secWrite y1
  · exact h2

theorem kept_execTokenCheckDone {supply t s} (h3 : Kept o s) :
    KeptNext o (execTokenCheckDone supply t s) := by
  unfold execTokenCheckDone
  exact keptNext (kept_tokDone (kept_atSupply (kept_seen h3)))

theorem kept_execDebugPortToken {tok t s} (h3 : Kept o s) :
    KeptNext o (execDebugPortToken tok t s) := by
  unfold execDebugPortToken
  extract_lets +onlyGivenNames v0
  have k1 : Kept o v0 := kept_seen h3
  clear_value v0
  exact keptNext (keptIte (kept_tokSubmit k1) k1)

theorem kept_execHash256 {v s} (h2 : Kept o s) :
    KeptNext o (execHash256 v s) := by
  unfold execHash256
  refine keptNext ?_
  refine kept_coreStore ?_ ?_
  · intro y0 y1
    refine keptIte ?_ ?_
    · refine kept_cmdWriteOp ?_ ?_
      · intro y2 y3 y4
        exact kept_opHash y4
      · exact y1
    · exact y1
  · exact h2

theorem kept_execHash384 {v s} (h2 : Kept o s) :
    KeptNext o (execHash384 v s) := by
  unfold execHash384
  refine keptNext ?_
  refine kept_coreStore ?_ ?_
  · intro y0 y1
    refine keptIte ?_ ?_
    · refine kept_cmdWriteOp ?_ ?_
      · intro y2 y3 y4
        exact kept_opHash y4
      · exact y1
    · exact y1
  · exact h2

theorem kept_execGcm {v s} (h2 : Kept o s) :
    KeptNext o (execGcm v s) := by
  unfold execGcm
  refine keptNext ?_
  refine kept_coreStore ?_ ?_
  · intro y0 y1
    refine keptIte ?_ ?_
    · refine kept_cmdWriteOp ?_ ?_
      · intro y2 y3 y4
        exact kept_opGcm y4
      · exact y1
    · exact y1
  · exact h2

theorem kept_execCmac {v s} (h2 : Kept o s) :
    KeptNext o (execCmac v s) := by
  unfold execCmac
  refine keptNext ?_
  refine kept_coreStore ?_ ?_
  · intro y0 y1
    refine keptIte ?_ ?_
    · refine kept_cmdWriteOp ?_ ?_
      · intro y2 y3 y4
        exact kept_opCmac y4
      · exact y1
    · exact y1
  · exact h2

theorem kept_execVerify256 {v s} (h2 : Kept o s) :
    KeptNext o (execVerify256 v s) := by
  unfold execVerify256
  refine keptNext ?_
  refine kept_coreStore ?_ ?_
  · intro y0 y1
    refine keptIte ?_ ?_
    · refine kept_cmdWriteOp ?_ ?_
      · intro y2 y3 y4
        exact kept_opVerify y4
      · exact y1
    · exact y1
  · exact h2

theorem kept_execVerify384 {v s} (h2 : Kept o s) :
    KeptNext o (execVerify384 v s) := by
  unfold execVerify384
  refine keptNext ?_
  refine kept_coreStore ?_ ?_
  · intro y0 y1
    refine keptIte ?_ ?_
    · refine kept_cmdWriteOp ?_ ?_
      · intro y2 y3 y4
        exact kept_opVerify y4
      · exact y1
    · exact y1
  · exact h2

theorem kept_execSign256 {v s} (h2 : Kept o s) :
    KeptNext o (execSign256 v s) := by
  unfold execSign256
  refine keptNext ?_
  refine kept_coreStore ?_ ?_
  · intro y0 y1
    refine keptIte ?_ ?_
    · refine kept_cmdWriteOp ?_ ?_
      · intro y2 y3 y4
        exact kept_opSign y4
      · exact y1
    · exact y1
  · exact h2

theorem kept_execSign384 {v s} (h2 : Kept o s) :
    KeptNext o (execSign384 v s) := by
  unfold execSign384
  refine keptNext ?_
  refine kept_coreStore ?_ ?_
  · intro y0 y1
    refine keptIte ?_ ?_
    · refine kept_cmdWriteOp ?_ ?_
      · intro y2 y3 y4
        exact kept_opSign y4
      · exact y1
    · exact y1
  · exact h2

theorem kept_execEcdh256 {v s} (h2 : Kept o s) :
    KeptNext o (execEcdh256 v s) := by
  unfold execEcdh256
  refine keptNext ?_
  refine kept_coreStore ?_ ?_
  · intro y0 y1
    refine keptIte ?_ ?_
    · refine kept_cmdWriteOp ?_ ?_
      · intro y2 y3 y4
        exact kept_opEcdh y4
      · exact y1
    · exact y1
  · exact h2

theorem kept_execGenerate {v s} (h2 : Kept o s) :
    KeptNext o (execGenerate v s) := by
  unfold execGenerate
  refine keptNext ?_
  refine kept_coreStore ?_ ?_
  · intro y0 y1
    refine keptIte ?_ ?_
    · refine kept_cmdWriteOp ?_ ?_
      · intro y2 y3 y4
        exact kept_opGenerate y4
      · exact y1
    · exact y1
  · exact h2

theorem kept_execDerive {v s} (h2 : Kept o s) :
    KeptNext o (execDerive v s) := by
  unfold execDerive
  refine keptNext ?_
  refine kept_coreStore ?_ ?_
  · intro y0 y1
    refine keptIte ?_ ?_
    · refine kept_cmdWriteOp ?_ ?_
      · intro y2 y3 y4
        exact kept_opDerive y4
      · exact y1
    · exact y1
  · exact h2

theorem kept_execLoad {v s} (h2 : Kept o s) :
    KeptNext o (execLoad v s) := by
  unfold execLoad
  refine keptNext ?_
  refine kept_coreStore ?_ ?_
  · intro y0 y1
    refine keptIte ?_ ?_
    · refine kept_cmdWriteOp ?_ ?_
      · intro y2 y3 y4
        exact kept_opLoad y4
      · exact y1
    · exact y1
  · exact h2

theorem kept_execCryptoAttest {v s} (h2 : Kept o s) :
    KeptNext o (execCryptoAttest v s) := by
  unfold execCryptoAttest
  refine keptNext ?_
  refine kept_coreStore ?_ ?_
  · intro y0 y1
    refine keptIte ?_ ?_
    · refine kept_cmdWriteOp ?_ ?_
      · intro y2 y3 y4
        exact kept_opAttest y4
      · exact y1
    · exact y1
  · exact h2

theorem kept_execRandom {v s} (h2 : Kept o s) :
    KeptNext o (execRandom v s) := by
  unfold execRandom
  refine keptNext ?_
  refine kept_coreStore ?_ ?_
  · intro y0 y1
    refine keptIte ?_ ?_
    · refine kept_cmdWriteOp ?_ ?_
      · intro y2 y3 y4
        exact kept_opRandom y4
      · exact y1
    · exact y1
  · exact h2

theorem kept_execCommandDone {t s} (h2 : Kept o s) :
    KeptNext o (execCommandDone t s) := by
  unfold execCommandDone
  exact keptNext (kept_commandDone (kept_seen h2))

theorem kept_execKslotClr {k v s} (h3 : Kept o s) :
    KeptNext o (execKslotClr k v s) := by
  unfold execKslotClr
  extract_lets +onlyGivenNames v0
  clear_value v0
  refine keptNext ?_
  refine kept_coreStore ?_ ?_
  · intro y1 y2
    exact kept_secWrite y2
  · exact h3

theorem kept_execTrngFail {t s} (h2 : Kept o s) :
    KeptNext o (execTrngFail t s) := by
  unfold execTrngFail
  extract_lets +onlyGivenNames v0
  have k1 : Kept o v0 := kept_seen h2
  clear_value v0
  exact keptNext (keptIte (kept_set (kept_set k1)) k1)

theorem kept_execTrngRecover {t s} (h2 : Kept o s) :
    KeptNext o (execTrngRecover t s) := by
  unfold execTrngRecover
  extract_lets +onlyGivenNames v0
  have k1 : Kept o v0 := kept_seen h2
  clear_value v0
  exact keptNext (keptIte (kept_clr k1) k1)

theorem kept_execSecTrngRead {s} (h1 : Kept o s) :
    KeptNext o (execSecTrngRead s) := by
  unfold execSecTrngRead
  exact keptNext (kept_coreLoad h1)

theorem kept_execIkReady {t s} (h2 : Kept o s) :
    KeptNext o (execIkReady t s) := by
  unfold execIkReady
  exact keptNext (kept_ikReady (kept_seen h2))

theorem kept_execUcodeLock {v s} (h2 : Kept o s) :
    KeptNext o (execUcodeLock v s) := by
  unfold execUcodeLock
  refine keptNext ?_
  refine kept_coreStore ?_ ?_
  · intro y0 y1
    exact kept_secWrite y1
  · exact h2

/-! ### Machine/SysCmd.lean -/

theorem kept_execRegisterWrite {a v s} (h3 : Kept o s) :
    KeptNext o (execRegisterWrite a v s) := by
  unfold execRegisterWrite
  refine keptNext ?_
  refine kept_coreStore ?_ ?_
  · intro y0 y1
    exact kept_writeValue y1
  · exact h3

theorem kept_execLuxen {v s} (h2 : Kept o s) :
    KeptNext o (execLuxen v s) := by
  unfold execLuxen
  refine keptNext ?_
  refine kept_coreStore ?_ ?_
  · intro y0 y1
    exact kept_domctrlWrite y1
  · exact h2

theorem kept_execLuxReady {t s} (h2 : Kept o s) :
    KeptNext o (execLuxReady t s) := by
  unfold execLuxReady
  exact keptNext (kept_luxReady (kept_seen h2))

theorem kept_execCoreoff {v s} (h2 : Kept o s) :
    KeptNext o (execCoreoff v s) := by
  unfold execCoreoff
  refine keptNext ?_
  refine kept_coreStore ?_ ?_
  · intro y0 y1
    exact kept_domctrlWrite y1
  · exact h2

theorem kept_execShip {v s} (h2 : Kept o s) :
    KeptNext o (execShip v s) := by
  unfold execShip
  refine keptNext ?_
  refine kept_coreStore ?_ ?_
  · intro y0 y1
    exact kept_domctrlWrite y1
  · exact h2

theorem kept_strapped {x1 ncell s} (h3 : Kept o s) :
    Kept o (strapped x1 ncell s) := by
  unfold strapped
  exact kept_mk.mpr h3

theorem kept_execShipWake {x1 ncell s} (h3 : Kept o s) :
    KeptNext o (execShipWake x1 ncell s) := by
  unfold execShipWake
  extract_lets +onlyGivenNames v0
  have k1 : Kept o v0 := keptIte (kept_offCarriedOut h3) h3
  clear_value v0
  exact keptNext (keptIte (kept_coldReset (kept_strapped (kept_drawn k1))) k1)

theorem kept_wakeSource {src s} (h2 : Kept o s) :
    Kept o (wakeSource src s) := by
  unfold wakeSource
  extract_lets +onlyGivenNames v0
  have k1 : ∀ v0y1, (Kept o v0y1) → Kept o (v0 v0y1) := by
    intro y2 y3
    unfold v0
    exact kept_wakeFire y3
  clear_value v0
  split
  · exact k1 _ (keptIte (kept_mk.mpr h2) h2)
  · exact kept_keySource h2
  · exact keptIte h2 (k1 _ h2)
  · exact keptIte (k1 _ h2) h2
  · exact k1 _ h2

theorem kept_execWakeSource {src t s} (h3 : Kept o s) :
    KeptNext o (execWakeSource src t s) := by
  unfold execWakeSource
  exact keptNext (kept_wakeSource (kept_seen h3))

theorem kept_execWakeAlarm {t s} (h2 : Kept o s) :
    KeptNext o (execWakeAlarm t s) := by
  unfold execWakeAlarm
  exact keptNext (kept_alarmCheck (kept_seen h2))

theorem kept_execSysWakealarmhi {v s} (h2 : Kept o s) :
    KeptNext o (execSysWakealarmhi v s) := by
  unfold execSysWakealarmhi
  refine keptNext ?_
  refine kept_coreStore ?_ ?_
  · intro y0 y1
    exact kept_alarmWrite y1
  · exact h2

theorem kept_execCoresel {v s} (h2 : Kept o s) :
    KeptNext o (execCoresel v s) := by
  unfold execCoresel
  refine keptNext ?_
  refine kept_coreStore ?_ ?_
  · intro y0 y1
    exact kept_coreselWrite y1
  · exact h2

theorem kept_execClockSettled {t s} (h2 : Kept o s) :
    KeptNext o (execClockSettled t s) := by
  unfold execClockSettled
  extract_lets +onlyGivenNames v0
  have k1 : Kept o v0 := kept_seen h2
  clear_value v0
  exact keptNext (keptIte (kept_clockSettled k1) k1)

theorem kept_execPllLossOfLock {t s} (h2 : Kept o s) :
    KeptNext o (execPllLossOfLock t s) := by
  unfold execPllLossOfLock
  extract_lets +onlyGivenNames v0
  have k1 : Kept o v0 := kept_seen h2
  clear_value v0
  exact keptNext (keptIte (kept_pllLost k1) k1)

theorem kept_resetRequest {bit v s} (h3 : Kept o s) :
    Kept o (resetRequest bit v s) := by
  unfold resetRequest
  refine kept_coreStore ?_ ?_
  · intro y0 y1
    exact kept_rstreqWrite y1
  · exact h3

theorem kept_execSysRstreqCore {v s} (h2 : Kept o s) :
    KeptNext o (execSysRstreqCore v s) := by
  unfold execSysRstreqCore
  exact keptNext (kept_resetRequest h2)

theorem kept_execSysRstreqDomain {v s} (h2 : Kept o s) :
    KeptNext o (execSysRstreqDomain v s) := by
  unfold execSysRstreqDomain
  exact keptNext (kept_resetRequest h2)

theorem kept_execSysRstreqCold {v s} (h2 : Kept o s) :
    KeptNext o (execSysRstreqCold v s) := by
  unfold execSysRstreqCold
  exact keptNext (kept_resetRequest h2)

theorem kept_execSysRstreqHandover {v s} (h2 : Kept o s) :
    KeptNext o (execSysRstreqHandover v s) := by
  unfold execSysRstreqHandover
  exact keptNext (kept_resetRequest h2)

theorem kept_execDomainReset {t s} (h2 : Kept o s) :
    KeptNext o (execDomainReset t s) := by
  unfold execDomainReset
  exact keptNext (kept_requestedReset (kept_seen h2))

theorem kept_execColdReset {t s} (h2 : Kept o s) :
    KeptNext o (execColdReset t s) := by
  unfold execColdReset
  exact keptNext (kept_requestedReset (kept_seen h2))

theorem kept_execAonPowerUp {x1 ncell latchKept s} (h4 : Kept o s) :
    KeptNext o (execAonPowerUp x1 ncell latchKept s) := by
  unfold execAonPowerUp
  refine keptNext ?_
  refine keptIte ?_ ?_
  · exact h4
  · extract_lets +onlyGivenNames v0
    clear_value v0
    extract_lets +onlyGivenNames v1
    clear_value v1
    exact kept_coldReset (kept_strapped (kept_drawn h4))

theorem kept_execAonBrownout {t s} (h2 : Kept o s) :
    KeptNext o (execAonBrownout t s) := by
  unfold execAonBrownout
  extract_lets +onlyGivenNames v0
  have k1 : Kept o v0 := kept_seen h2
  clear_value v0
  exact keptNext (keptIte (kept_brownedOut k1) k1)

theorem kept_execV18PgAsserted {t s} (h2 : Kept o s) :
    KeptNext o (execV18PgAsserted t s) := by
  unfold execV18PgAsserted
  exact keptNext (kept_v18Good (kept_seen h2))

theorem kept_execV18PgDeasserted {t s} (h2 : Kept o s) :
    KeptNext o (execV18PgDeasserted t s) := by
  unfold execV18PgDeasserted
  extract_lets +onlyGivenNames v0
  have k1 : Kept o v0 := kept_seen h2
  clear_value v0
  refine keptNext ?_
  refine keptIte ?_ ?_
  · exact k1
  · extract_lets +onlyGivenNames v2
    clear_value v2
    exact keptIte (kept_coldReset (kept_drawn k1)) (kept_domainReset (kept_mk.mpr k1))

theorem kept_execV18PgTimeout {t s} (h2 : Kept o s) :
    KeptNext o (execV18PgTimeout t s) := by
  unfold execV18PgTimeout
  exact keptNext (kept_v18Timeout (kept_seen h2))

theorem kept_execV18Retry {t s} (h2 : Kept o s) :
    KeptNext o (execV18Retry t s) := by
  unfold execV18Retry
  exact keptNext (kept_v18Retry (kept_seen h2))

theorem kept_execWipeComplete {t s} (h2 : Kept o s) :
    KeptNext o (execWipeComplete t s) := by
  unfold execWipeComplete
  exact keptNext (kept_wipeComplete (kept_seen h2))

theorem kept_execHoldClear {v s} (h2 : Kept o s) :
    KeptNext o (execHoldClear v s) := by
  unfold execHoldClear
  refine keptNext ?_
  refine kept_coreStore ?_ ?_
  · intro y0 y1
    exact kept_holdClear y1
  · exact h2

theorem kept_execLifeCycleChange {aOk bOk t s} (h4 : Kept o s) :
    KeptNext o (execLifeCycleChange aOk bOk t s) := by
  unfold execLifeCycleChange
  extract_lets +onlyGivenNames v0
  have k1 : Kept o v0 := kept_seen h4
  clear_value v0
  refine keptNext ?_
  split
  · refine keptIte ?_ ?_
    · exact k1
    · refine keptIte ?_ ?_
      · exact kept_abandonTransition k1
      · extract_lets +onlyGivenNames v5
        clear_value v5
        extract_lets +onlyGivenNames v6
        have k7 : Kept o v6 := kept_recordWritten (kept_burned k1)
        clear_value v6
        exact keptIte (kept_coldReset (kept_drawn k7)) (kept_kbdLifeCycle (kept_retainedZeroed (kept_domainReset k7)))
  · exact k1

theorem kept_execErrEcccntRead {s} (h1 : Kept o s) :
    KeptNext o (execErrEcccntRead s) := by
  unfold execErrEcccntRead
  exact keptNext (kept_coreLoad h1)

theorem kept_execPllLockRegained {t s} (h2 : Kept o s) :
    KeptNext o (execPllLockRegained t s) := by
  unfold execPllLockRegained
  extract_lets +onlyGivenNames v0
  have k1 : Kept o v0 := kept_seen h2
  clear_value v0
  exact keptNext (keptIte (kept_set k1) k1)

theorem kept_execCrystalSourceChange {runs t s} (h3 : Kept o s) :
    KeptNext o (execCrystalSourceChange runs t s) := by
  unfold execCrystalSourceChange
  extract_lets +onlyGivenNames v0
  have k1 : Kept o v0 := kept_seen h3
  clear_value v0
  extract_lets +onlyGivenNames v2
  clear_value v2
  extract_lets +onlyGivenNames v3
  have k4 : Kept o v3 := kept_mk.mpr k1
  clear_value v3
  exact keptNext (keptIte (kept_wrB k4) k4)

/-! ### Machine/ThmCmd.lean -/

theorem kept_execStale {n t s} (h3 : Kept o s) :
    KeptNext o (execStale n t s) := by
  unfold execStale
  exact keptNext (kept_thmStale (kept_seen h3))

theorem kept_execThmLock {v s} (h2 : Kept o s) :
    KeptNext o (execThmLock v s) := by
  unfold execThmLock
  refine keptNext ?_
  refine kept_coreStore ?_ ?_
  · intro y0 y1
    exact kept_thmWrite y1
  · exact h2

theorem kept_execFanSpinupOk {n edges r t s} (h5 : Kept o s) :
    KeptNext o (execFanSpinupOk n edges r t s) := by
  unfold execFanSpinupOk
  exact keptNext (kept_fanStarted (kept_fanRead (kept_seen h5)))

theorem kept_execSpinupTimeout {n t s} (h3 : Kept o s) :
    KeptNext o (execSpinupTimeout n t s) := by
  unfold execSpinupTimeout
  exact keptNext (kept_fanSpinFail (kept_seen h3))

theorem kept_execRetrywaitEnd {n t s} (h3 : Kept o s) :
    KeptNext o (execRetrywaitEnd n t s) := by
  unfold execRetrywaitEnd
  extract_lets +onlyGivenNames v0
  have k1 : Kept o v0 := kept_seen h3
  clear_value v0
  exact keptNext (keptIte (kept_fanGo k1) k1)

theorem kept_execFanStall {n r t s} (h4 : Kept o s) :
    KeptNext o (execFanStall n r t s) := by
  unfold execFanStall
  extract_lets +onlyGivenNames v0
  have k1 : Kept o v0 := kept_fanRead (kept_seen h4)
  clear_value v0
  exact keptNext (keptIte (kept_fanStall k1) k1)

theorem kept_execFanNoload {n r t s} (h4 : Kept o s) :
    KeptNext o (execFanNoload n r t s) := by
  unfold execFanNoload
  extract_lets +onlyGivenNames v0
  have k1 : Kept o v0 := kept_fanRead (kept_seen h4)
  clear_value v0
  exact keptNext (keptIte (kept_fanNoload k1) k1)

theorem kept_execNoloadRetry {n t s} (h3 : Kept o s) :
    KeptNext o (execNoloadRetry n t s) := by
  unfold execNoloadRetry
  extract_lets +onlyGivenNames v0
  have k1 : Kept o v0 := kept_seen h3
  clear_value v0
  exact keptNext (keptIte (kept_wr (kept_fanGo k1)) k1)

theorem kept_execTachlost {n r t s} (h4 : Kept o s) :
    KeptNext o (execTachlost n r t s) := by
  unfold execTachlost
  extract_lets +onlyGivenNames v0
  have k1 : Kept o v0 := kept_fanRead (kept_seen h4)
  clear_value v0
  exact keptNext (keptIte (kept_setBit (kept_set k1)) k1)

theorem kept_execTachReturn {n t s} (h3 : Kept o s) :
    KeptNext o (execTachReturn n t s) := by
  unfold execTachReturn
  exact keptNext (kept_clr (kept_seen h3))

theorem kept_execFanvinUv {mv t s} (h3 : Kept o s) :
    KeptNext o (execFanvinUv mv t s) := by
  unfold execFanvinUv
  exact keptNext (kept_fanvinSeen (kept_seen h3))

theorem kept_execFanvinReturn {mv t s} (h3 : Kept o s) :
    KeptNext o (execFanvinReturn mv t s) := by
  unfold execFanvinReturn
  exact keptNext (kept_fanvinSeen (kept_seen h3))

theorem kept_execFanClr {n v s} (h3 : Kept o s) :
    KeptNext o (execFanClr n v s) := by
  unfold execFanClr
  refine keptNext ?_
  refine kept_coreStore ?_ ?_
  · intro y0 y1
    exact kept_fanCtrlWrite y1
  · exact h3

theorem kept_execFanModeOff {n v s} (h3 : Kept o s) :
    KeptNext o (execFanModeOff n v s) := by
  unfold execFanModeOff
  refine keptNext ?_
  refine kept_coreStore ?_ ?_
  · intro y0 y1
    exact kept_fanCtrlWrite y1
  · exact h3

/-! ### Machine/Tick.lean -/

theorem kept_idleTick {s} (h1 : Kept o s) :
    Kept o (idleTick s) := by
  unfold idleTick
  refine keptIte ?_ ?_
  · exact h1
  · extract_lets +onlyGivenNames v0
    have k1 : Kept o v0 := kept_alarmCheck (kept_offCarriedOut (kept_seen h1))
    clear_value v0
    extract_lets +onlyGivenNames v2
    have k3 : Kept o v2 := keptIte (kept_cycleRun k1) k1
    clear_value v2
    exact keptIte (kept_kpfTick (kept_logReady k3)) k3

end Sys2Proof.Machine
end

