-- ==== Sys2Proof/Laws/Wire.lean ====
section
/-! SUPPORT. What the coding on the wires keeps: a receiver takes out what stuffing put in (R275), and every code group
comes from its symbol (R241). -/

namespace Sys2Proof

/-- Unstuffing undoes stuffing, from any run below five. -/
theorem unstuffFrom_stuffFrom (bs : List Bool) :
    ∀ (last : Bool) (run : Nat), run < 5 → unstuffFrom last run (stuffFrom last run bs) = some bs := by
  induction bs with
  | nil => intros; rfl
  | cons b bs ih =>
    intro last run h
    have h5 : run ≠ 5 := by omega
    by_cases hn : (if b = last then run + 1 else 1) = 5
    · simp [stuffFrom, unstuffFrom, hn, h5, ih (!b) 1 (by omega)]
    · have : (if b = last then run + 1 else 1) < 5 := by
        split at hn <;> simp_all <;> omega
      simp [stuffFrom, unstuffFrom, hn, h5, ih b _ this]

/-- A receiver takes from the wire what the sender put on it (R275). -/
theorem unstuff_stuff (bs : List Bool) : unstuff (stuff bs) = some bs :=
  unstuffFrom_stuffFrom bs true 0 (by omega)

/-- A frame read as its sender stuffs it gives its own bits, and no stuff error. -/
theorem FloeFrame.taken_of_wire_none {f : FloeFrame} (h : f.wire = none) : f.taken = some f.bits := by
  simp [FloeFrame.taken, h, unstuff_stuff]

theorem FloeFrame.stuffBad_of_wire_none {f : FloeFrame} (h : f.wire = none) : f.stuffBad = false := by
  simp [FloeFrame.stuffBad, taken_of_wire_none h]

end Sys2Proof

namespace Sys2Proof.Machine

/-- One code group for each symbol. -/
theorem length_codeGroups (d : Bool) (xs : List ChainSymbol) : (codeGroups d xs).length = xs.length := by
  induction xs generalizing d with
  | nil => rfl
  | cons x xs ih => simp [codeGroups, ih]

/-- The running disparity goes on from one part of the line to the next. -/
theorem codeGroups_append (d : Bool) (xs ys : List ChainSymbol) :
    codeGroups d (xs ++ ys) = codeGroups d xs ++ codeGroups (disparityAfter d xs) ys := by
  induction xs generalizing d with
  | nil => rfl
  | cons x xs ih => simp [codeGroups, disparityAfter, ih]

end Sys2Proof.Machine
end

