-- ==== Sys2Proof/Machine/Balls.lean ====
section
/-! DEFINITION. The output balls whose state follows from registers and engines: what R472 gives them until they are
configured, and what their units make of them then.  The enables, lamps, link and matrix balls stand with their units. -/

namespace Sys2Proof.Machine

/-- Ball KSO`n` while line `d` of a frame is scanned: that line alone is driven low (R198, R472).
DESIGN CHOICE (log 121). -/
def ksoBall (s : State) (n d : Nat) : BallState :=
  if s.kbd.reading.isSome && n == d && decide (n < driveLines s) then .low else .released

/-- Ball FLOE`p` at bit `k` of the frame that the port sends: a dominant bit drives it low (R269, R275, R472).
DESIGN CHOICE (log 121). -/
def floeBall (s : State) (p k : Nat) : BallState :=
  if s.on (Reg.FLOE_PCFG.EN p) && (floe s p).phase == .sending && (floe s p).frame.line[k]? == some false then .low
  else .released

/-- FSPI_CLK, FSPI_CS0_N and FSPI_CS1_N, and FSPI_IO0 to FSPI_IO3, between transfers: as R472 has them until the bus is
enabled, and with FGD_CTRL.EN=0. -/
def fspiClkBall : BallState := .low
def fspiCsBall : BallState := .high
def fspiIoBall : BallState := .highZ

/-- LSYNC_OUT: low until the engine accepts a sync (R221, R472). -/
def lsyncBall (s : State) : BallState := if lsyncOut s then .high else .low

/-- THM_PROCHOT_N (R260, R472). -/
def prochotBall (s : State) : BallState := if s.on Reg.THM_STAT.PROCHOT then .low else .released

/-- Ball LSCN`l` at clock `c` of line `line`: at high impedance while LUX is off (R232, R472). -/
def lscnBall (s : State) (l line c : Nat) : BallState :=
  if !luxOn s then .highZ else if scanOut s l line c then .high else .low

/-- Bit `k` on LTXD: at high impedance while LUX is off (R241, R472). DESIGN CHOICE (log 121). -/
def ltxdBall (s : State) (k : Nat) : BallState :=
  if !luxOn s then .highZ
  else
    match (chainGroups s)[k / 10]? with
    | some g => if g.getMsbD (k % 10) then .high else .low
    | none => .highZ

/-- The host balls are at high impedance until the link mode is taken, and with no link (R50, R472). -/
def hostBallsOff (s : State) : Bool := !s.hostOn || s.rd Reg.HOST_STAT.MODE == 3

/-- ESPI_ALERT_N: driven high in SPI-target mode, and under eSPI push-pull or, where the host has chosen so, an open drain
(R51, R72). DESIGN CHOICE (log 121). -/
def alertBall (s : State) : BallState :=
  if hostBallsOff s then .highZ
  else if s.spi then .high
  else if alertPin s then .low
  else if s.link.cfgGeneral.testBit 23 then .released
  else .high

/-- HOST_IRQ_N: driven high under eSPI, an open drain in SPI-target mode (R51). -/
def irqBall (s : State) : BallState :=
  if hostBallsOff s then .highZ else if !s.spi then .high else if alertPin s then .low else .released

/-- HOST_RSMRST_N: low from cold reset, and pulled down while CORE is off (R339, R472). -/
def rsmBall (s : State) : BallState := if !s.sys.coreOn then .pullDown else if rsmReleased s then .high else .low

end Sys2Proof.Machine
end

