-- ==== Sys2Proof/WellFormed.lean ====
section
/-! DEFINITION. Which commands can occur: the lengths and shapes that the spec gives operands beyond what their types
say (R9, R72, R74, R75, R79, R158, R161, R273, R291, R305, R331). -/

namespace Sys2Proof

/-- A payload of 1 to 64 bytes. -/
def payloadOk (n : Nat) : Bool := 1 ≤ n && n ≤ 64

/-- A Floe frame as it can stand on the wire: at most 64 bytes, and a MAC of 8 bytes in a secured frame only. -/
def FloeFrame.shaped (f : FloeFrame) : Bool :=
  f.payload.length ≤ 64 && f.mac.length == (if f.ctl.getLsbD 3 then 8 else 0)

/-- A flash request as R331 lets it be asked. -/
def FlashAsk.shaped (a : FlashAsk) : Bool :=
  match a with
  | .read _ len => payloadOk len
  | .write _ data => payloadOk data.length
  | .erase _ => true
  | .other => true

/-- The command can occur; what its operand types do not say of their ranges is said here. -/
def Instr.wellFormed (i : Instr) : Bool :=
  match i with
  | .registerWrite a _ => a.toNat % 4 == 0
  | .memoryRead _ _ len => payloadOk len
  | .memoryWrite _ _ data => payloadOk data.length
  | .putVw _ groups => groups.length ≤ 64 && groups.all fun g => g.1 < 256
  | .putOob _ msg => msg.length ≤ 68
  | .putFlash _ _ ask => ask.shaped
  | .singleReadFrame _ _ len => len.toNat ≤ 512
  | .quadReadFrame _ _ len => len.toNat ≤ 512
  | .singleWriteFrame _ _ data => data.length ≤ 512
  | .quadWriteFrame _ _ data => data.length ≤ 512
  | .sourceCapabilities _ pdos _ _ => 1 ≤ pdos.length && pdos.length ≤ 11
  | .vdmReceived _ _ words _ => 1 ≤ words.length && words.length ≤ 8
  | .frameReceived _ f _ _ => f.shaped
  | .write _ _ _ value _ => value.length ≤ 62
  | .debugPortToken tok _ => tok.length == 272
  | _ => true

end Sys2Proof
end

