-- ==== Sys2Proof/Tests/Slice0.lean ====
section
/-! SUPPORT. Tests: ill-formed commands are refused, results known from outside the model, and for every obligation
with hypotheses concrete states and operands that meet them (one witness for each of its clauses). -/

namespace Sys2Proof.Tests
open Sys2Proof Sys2Proof.Machine

set_option Elab.async false

/-- A state with every part at its default. -/
abbrev blank : State := {}

/-- Set register fields. -/
def setFields (l : List (Field × Nat)) (s : State := blank) : State := l.foldl (fun s f => s.wr f.1 f.2) s

/-- The predicate that is always true. -/
abbrev always : Pred := ⟨false, 0⟩

/-- A core with patterned registers and a waiting load. -/
def patterned : State := { blank with cpu := { blank.cpu with
  d := (blank.cpu.d.set 1 0x80000000).set 2 0xFFFFFFFF |>.set 15 7 |>.set 3 0x12345678
  a := (blank.cpu.a.set 1 0x20000100).set 2 0x200FFFFC |>.set 3 3
  q := blank.cpu.q.set 1 0x7FFFFFFFFFFFFFFF
  p := blank.cpu.p.set 7 true
  slot := some (.data 3, 5), pc := 0x40 } }

/-- Task mode, running in main SRAM under an MPU region that grants everything. -/
def taskMode : State := { setFields [(Reg.SEC_MPUBASE.EN 0, 1), (Reg.SEC_MPUBASE.TX 0, 1), (Reg.SEC_MPUBASE.TR 0, 1),
  (Reg.SEC_MPUBASE.TW 0, 1), (Reg.SEC_MPUBASE.BASE 0, 0x1000000), (Reg.SEC_MPULIM.LIMIT 0, 0x1007FFF)] with
    cpu := { blank.cpu with priv := false, pc := 0x20000040 } }

/-- A return stack with `n` entries. -/
def returnStack (n : Nat) (lim : Nat := 0x400) : State :=
  ({ patterned with cpu := { patterned.cpu with rsp := BitVec.ofNat 13 (4 * n), rsl := BitVec.ofNat 13 lim } }.storeNat rsBase 4 0x1234).storeNat (rsBase + 4) 4 0x5678

/-- A core set up for a block of `n` items at `a` and `b`. -/
def blockAt (n : Nat) (a b : Nat) : State := { patterned with cpu := { patterned.cpu with
  d := patterned.cpu.d.set 4 (BitVec.ofNat 32 n) |>.set 5 0x11223344
  a := patterned.cpu.a.set 4 (BitVec.ofNat 32 a) |>.set 5 (BitVec.ofNat 32 b) } }

/-- Custom word 0 of major 0 runs the micro-ops `ops`. -/
def customWith (ops : List Op) (bad : List Nat := []) : State := { patterned with cpu := { patterned.cpu with
  table := [(0, 2 ^ 15 + (ops.length - 1) * 512)], ucodeBad := bad
  ucode := ops.zipIdx.map fun o => (o.2, (encodeOp always o.1).toNat) } }

/-- The micro-ops of custom word 0. -/
def custOps (s : State) : List (Pred × Op × Nat) := (entryOps (fetched s) (Sparse.get 0 0 s.cpu.table) ⟨0, 0, 0, 0⟩).getD []

/-- Their run. -/
def custRun (s : State) : Except Exc (State × Bool) :=
  microRun { fetched s with cpu := { (awake s).clearT with slot := none } } false (custOps s)

/-- Its state and divide condition. -/
def custOk (s : State) : State × Bool := match custRun s with | .ok r => r | .error _ => (s, true)

/-- Its exception. -/
def custErr (s : State) : Exc := match custRun s with | .error x => x | .ok _ => { vec := 0 }

theorem custOk_spec {s : State} (h : (custRun s).toBool = true) : custRun s = .ok (custOk s) := by
  unfold custOk
  split <;> simp_all [Except.toBool]

theorem custErr_spec {s : State} (h : (custRun s).toBool = false) : custRun s = .error (custErr s) := by
  unfold custErr
  split <;> simp_all [Except.toBool]

/-- A sequence that runs. -/
def cust1 : State := customWith [.ri .addi 1 2 5, .load .ldw 3 1 0]

/-- A sequence whose load is misaligned. -/
def cust2 : State := customWith [.ri .addi 1 2 5, .load .ldw 3 3 0]

/-- The debug port is open. -/
def debugOpen : State := setFields [(Reg.SEC_LCS.DBGOPEN, 1)]

/-- An eSPI link with every channel and page open, the window decoded at 0xFE000000. -/
def espiLink : State := setFields ((List.range 6).map (fun i => ((⟨0x400C0004, i, 1⟩ : Field), 1)) ++ [(Reg.HOST_STAT.HOSTPWR, 1), (Reg.CFG_ENABLE.WINDEC, 1),
    (Reg.CFG_ENABLE.ECDEC, 1), (Reg.CFG_WINBASE.WINBASE, 0xFE000000), (Reg.CFG_ECCMD.ECCMD, 0x66), (Reg.CFG_ECDATA.ECDATA, 0x62), (Reg.HOST_CTRL.OOBADDR, 0x20), (Reg.HW_MBXCTL.FWREADY, 1), (Reg.MBX_CTRL.FWREADY, 1)])
  { blank with link.cfgPeriph := 1, link.cfgWire := 1, link.cfgOob := 1, link.cfgFlash := 1, link.pages := 0x3F }

/-- The same with an SPI target. -/
def spiLink : State := setFields [(Reg.HOST_STAT.MODE, 2)] espiLink

/-- A transaction at TBASE 5. -/
def txn : Txn := ⟨5, false, true, true⟩

/-- An action of an LPE slot. -/
def plainAction : SlotAct := { action := 0, arg := 0, evt := true, maxlag := 0, budget := 100, released := 0, started := false, due := 0, stale := false }

/-- Icefall runs, slot `n` with period 1000. -/
def slotAt (n : Nat) (x : Slot) : State := setSlot n x (setFields [(Reg.LPE_CTRL.RUN, 1), (Reg.LPE_SCFG.EN n, 1), (Reg.LPE_SPER.PERIOD n, 1000), (Reg.LPE_SLAG.LAG n, 300), (Reg.LPE_CTRL.CATCHUP, 4), (Reg.LPE_SMIN.MINPER n, 900)])

/-- Port `p`'s PD block runs, attached to a source. -/
def pdAt (p : Nat) (x : PdPort := { attached := true, rp := 3 }) (s : State := blank) : State :=
  setPort p x { setFields [(Reg.PD_CFG.EN p, 1), (Reg.PD_STAT.ATTACHED p, 1)] s with pwr.mode := .run }

/-- Input priorities and limits. -/
def priorities : List (Field × Nat) := [(Reg.PWR_CTRL.PRIO0, 2), (Reg.PWR_CTRL.PRIO1, 3), (Reg.PWR_CTRL.PRIO2, 3), (Reg.PWR_INCFG.EN 2, 1), (Reg.PWR_INOVP.OVP 2, 24000)]

/-- Temperature thresholds, cells and band. -/
def thresholds : List (Field × Nat) := [(Reg.CHG_BAND0.COLD, 3000), (Reg.CHG_BAND0.COOL, 2500), (Reg.PWR_STAT.CELLS, 4), (Reg.CHG_STAT.BAND, 2), (Reg.CHG_BAND1.WARM, 1000), (Reg.CHG_BAND1.HOT, 600)]

/-- LUX runs. -/
def luxOn0 : State := setFields [(Reg.SYS_DOMCTRL.LUXEN, 1), (Reg.SYS_DOMCTRL.LUXRDY, 1), (Reg.LUX_CTRL.EN, 1), (Reg.LUX_STAT.RUNNING, 1), (Reg.LUX_PERIOD.PERIOD, 16667), (Reg.LUX_MTIM.LINE, 2600), (Reg.LUX_MTIM.BLANK, 200)]

/-- LUX is on. -/
def luxReady : State := setFields [(Reg.SYS_DOMCTRL.LUXEN, 1), (Reg.SYS_DOMCTRL.LUXRDY, 1)]

/-- LUX busy, with nothing presented. -/
def luxBusy : State := { setFields [(Reg.LUX_STAT.BUSY, 1)] luxOn0 with lux.presented := false }

/-- The chain in state `st`. -/
def chainAt (st : Nat) (l : List (Field × Nat) := []) (s : State := luxOn0) : State := setFields ([(Reg.CHN_CTRL.EN, 1), (Reg.CHN_STAT.STATE, st), (Reg.CHN_STAT.CV, 2)] ++ l) s

/-- An answer of the chain. -/
def chainAnswer (p : Fin 64) : ChainStatus := ⟨p, 2, 3, 0x81, 0xDEADBEEF, 512, 7, 0xFF, 5, 6⟩

/-- Fan `n` in state `st`. -/
def fanAt (n st : Nat) (l : List (Field × Nat) := []) (c : FanCh := {}) : State := setFanCh n c (setFields ([(Reg.FAN_STATn.STATE n, st), (Reg.FAN_CTRL.MODE n, 1), (Reg.FAN_CTRL.TACHEN n, 1), (Reg.FAN_ILIM.ISTALL n, 800), (Reg.FAN_ILIM.INOLOAD n, 20), (Reg.FAN_VLIM.VMAX n, 12000)] ++ l))

/-- KPF with both Floe ports enabled. -/
def floeUp (l : List (Field × Nat) := []) : State := { setFields ([(Reg.FLOE_PCFG.EN 0, 1), (Reg.FLOE_PCFG.EN 1, 1)] ++ l) with kpf.state := 1 }

/-- A frame with its CRC. -/
def withCrc (f : FloeFrame) : FloeFrame := { f with crc := BitVec.ofNat 16 (crc16 f.covered) }

/-- A secured frame with its MAC. -/
def secured (f : FloeFrame) (key : List Byte) : FloeFrame := let f := { f with ctl := 0x89 }; withCrc { f with mac := floeMac key 1 f }

/-- A signal without an edge. -/
def cleanSignal : FloeSignal := ⟨[], []⟩

/-- Port 1, key entry 17 of identifier 0x10. -/
def keyed (m : KpfModule) (l : List (Field × Nat) := []) : State :=
  { floeUp ([(Reg.FLOE_KCFG.VALID 17, 1), (Reg.FLOE_KCFG.ID 17, 0x10), (Reg.FLOE_KEY.KEY 17 3, 0x12345678)] ++ l) with kpf.modules := [m] }

/-- A module on port 1 in phase `ph`. -/
def moduleIn (ph : ModPhase) (id : Nat := 0xF0) : KpfModule := { port := 1, id := id, uid := 0x1122334455667788, cls := 1, phase := ph, entry := 17 }

/-- The key of entry 17. -/
def entryKey : List Byte := List.replicate 12 0 ++ leBytes 4 0x12345678 ++ List.replicate 16 0

/-- KPF with these modules. -/
def withMods (l : List KpfModule) : State := { floeUp with kpf.modules := l }

/-- A module whose certificate is awaited. -/
def certModule : KpfModule := { moduleIn .certWait with since := 7 }

/-- A module whose response is awaited. -/
def respModule : KpfModule := { moduleIn .respWait with nonceC := List.replicate 16 9, since := 7, cls := 2 }

/-- Its session key. -/
def respKey : List Byte := sessionKey respModule (List.replicate 16 3)

/-- A response that is right. -/
def respGood : List Byte := List.replicate 16 3 ++ (Crypto.cmac respKey (Crypto.ascii "MCONF" ++ respModule.nonceC ++ b1 0xF0)).take 8

/-- A response that is wrong. -/
def respBad : List Byte := List.replicate 24 3

/-- A frame of type `ty` in the clear. -/
def plainFrame (ty : Nat) (pl : List Byte) : FloeFrame := withCrc { src := 0xF0, dst := 1, ctl := BitVec.ofNat 8 (16 * ty + 1), payload := pl }

/-- A secured frame of the module. -/
def securedFrame (pl : List Byte) : FloeFrame := secured { src := 0x10, dst := 1, payload := pl, cnt := 1 } entryKey

/-- A mailbox request that waits for the module. -/
def waiting0 (c : Nat) : KpfWait := { tag := 3, code := c, port := 1, id := 0x10, obj := 7 }

/-- A P-384 public key. -/
def pubX : Nat := 0x8d999057ba3d2d969260045c55b97f089025959a6f434d651d207d19fb96e9e4fe0e86ebe0e64f85b96a9c75295df61

/-- Its second coordinate. -/
def pubY : Nat := 0x8e80f1fa5b1b3cedb7bfe8dffd6dba74b275d875bc6cc43e904e505f256ab4255ffd43e94d39e22d61501e700a940e80

/-- The signed part of a token. -/
def tokBody (kind arg : Nat) : List Byte :=
  leBytes 2 0x544B ++ [1, BitVec.ofNat 8 kind, 3, BitVec.ofNat 8 arg, 0, 0] ++ leBytes 8 5 ++ leBytes 16 1 ++ List.replicate 48 0
    ++ beBytes 48 pubX ++ beBytes 48 pubY

/-- A signed token of kind 1. -/
def tok1 : List Byte := tokBody 1 2 ++ beBytes 48 0x77a41d4606ffa1464793c7e5fdc7d98cb9d3910202dcd06bea4f240d3566da6b408bbae5026580d02d7e5c70500c831 ++ beBytes 48 0x45f8a2ab5392ea161b6fdf1dd548a2641897fbd48294f123ddfadc8afa598e8125a3ec1360c8137f9d66696bbd44b513

/-- A signed token of kind 6. -/
def tok6 : List Byte := tokBody 6 0 ++ beBytes 48 0x77a41d4606ffa1464793c7e5fdc7d98cb9d3910202dcd06bea4f240d3566da6b408bbae5026580d02d7e5c70500c831 ++ beBytes 48 0x5deb70e0f50e5ee69c1345d672c8e2e20e63b155765cd1a20b0770d00a9385cce43387483f14ad3d86580babec2f38bf

/-- A signed token of kind 4. -/
def tok4 : List Byte := tokBody 4 0 ++ beBytes 48 0x77a41d4606ffa1464793c7e5fdc7d98cb9d3910202dcd06bea4f240d3566da6b408bbae5026580d02d7e5c70500c831 ++ beBytes 48 0x80f77477d0f8063ebfc10002cfa13bba91f5fd41753c9ab8e304a632890282b8dfa06f87a32ccd8989b544d095be2030

/-- The manifest of one required region, signed. -/
def manHead (mseq : Nat) : List Byte := leBytes 4 0x4D53544B ++ leBytes 2 1 ++ [1, 0] ++ leBytes 4 mseq ++ [0, 0, 0, 0] ++ beBytes 48 pubX ++ beBytes 48 pubY

/-- The rest of the manifest. -/
def manRest : List Byte := List.replicate 48 0 ++ leBytes 2 9 ++ [0, 0] ++ leBytes 4 0 ++ leBytes 4 4096 ++ leBytes 4 0
  ++ beBytes 48 0x9761a6cc8f381514125bd5461b11a17a721703fb2179ddf15348b6276b47fe93bbca565060bdb425c99cae93fbd68d84

/-- The manifest with sequence number 0. -/
def man0 : List Byte := manHead 0 ++ beBytes 48 0x283c1d7365ce4788f29f8ebf234edffead6fe997fbea5ffa2d58cc9dfa7b1c508b05526f55b9ebb2040f05b48fb6d0e1 ++ beBytes 48 0x68aed95bec2284e10bd19597a49066d96646313106c254efb2de6eef3910f888bdda311cbe319811f6cabd5092856fe3 ++ manRest

/-- The same with sequence number 5. -/
def man5 : List Byte := manHead 5 ++ beBytes 48 0x283c1d7365ce4788f29f8ebf234edffead6fe997fbea5ffa2d58cc9dfa7b1c508b05526f55b9ebb2040f05b48fb6d0e1 ++ beBytes 48 0xfc95de53e021936db6ebc9803eaefcdf6245fd772b595f3ca58fd704b308be2f9c480ad401855445794bd698cf2fef22 ++ manRest

/-- FGD enabled with a flash of 8 MB. -/
def fgdOn (l : List (Field × Nat) := []) : State := setFields ([(Reg.FGD_CTRL.EN, 1), (Reg.FGD_DEV.PRESENT 0, 1), (Reg.FGD_TOP.TOP, 0x8000)] ++ l)

/-- Bytes in the external flash. -/
def inFlash (a : Nat) (bs : List Byte) (s : State) : State := { s with fgd.flash := bs.zipIdx.map fun p => (a + p.2, p.1) }

/-- The manifest is due to be checked. -/
def fgMan : State := inFlash 0x7000 man0 (fgdOn [(Reg.FGD_STAT.PHASE, 4)])

/-- A promotion is due. -/
def fgPro : State := inFlash 0x6000 man5 (fgdOn [(Reg.FGD_STAT.PHASE, 5), (Reg.FGD_STAT.PROMO, 1), (Reg.FGD_STAT.VERDICT, 1)])

/-- A flash request of FGD. -/
def fgReq (op : Nat) (pol : Bool) (data : List Byte := []) : FlashReq := { host := false, op := op, policy := pol, addr := 0x1FFE, len := if op = 2 then data.length else 4, data := data, tag := 0 }

/-- It is running. -/
def fgAct (r : FlashReq) : State := { fgdOn [(Reg.FGD_FREQ.BUSY, 1), (Reg.FGD_STAT.BUSY, 1), (Reg.FGD_FBUF.BUF, 0x8000100)] with fgd.active := some r, fgd.flash := [(0x1FFE, 0xF0), (0x1000, 3), (0x2000, 7)] }

/-- The registers of a flash request. -/
def flashFields (l : List (Field × Nat) := []) : State := fgdOn ([(Reg.FGD_FADDR.ADDR, 0x1FFE), (Reg.FGD_FLEN.LEN, 4), (Reg.FGD_FBUF.BUF, 0x8000100)] ++ l)

/-- A descriptor at 0x20001000 with GO's register pointing to it. -/
def descriptorAt (op ks fl src slen dst dlen aux auxlen : Nat) (s : State := blank) : State :=
  ((((((((setFields [(Reg.SEC_DESC.ADDR, 0x8000400)] s).storeNat 0x20001000 1 op).storeNat 0x20001001 1 ks).storeNat 0x20001002 2 fl).storeNat 0x20001004 4 src
    |>.storeNat 0x20001008 4 slen).storeNat 0x2000100C 4 dst).storeNat 0x20001010 4 dlen).storeNat 0x20001014 4 aux).storeNat 0x20001018 4 auxlen

/-- A descriptor. -/
def descOf (op ks fl src slen dst dlen aux auxlen : Nat) : Desc := ⟨op, ks, fl, src, slen, dst, dlen, aux, auxlen⟩

/-- An empty GCM text: its tag alone, for a key and an IV of zeros and no AAD. -/
def gcmInput (tag : Nat) : State := (blank.setBytes 0x20002000 (beBytes 16 tag))

/-- Input of a signature check. -/
def verifyInput : State := (blank.setBytes 0x20002000 (List.replicate 32 5)).setBytes 0x20003000 (Crypto.p256.public 2 ++ List.replicate 31 0 ++ [1] ++ List.replicate 31 0 ++ [1])

/-- A staging session with `n` bytes of package of the host as owner. -/
def staged (n : Nat) (s : State := blank) : State := { sessionNew 1 0 (List.replicate 48 1) n s with kpf.state := 1, kpf.members := [(1, 0)] }

/-- The registers of an NVC command. -/
def nvcSet (a buf len : Nat) (l : List (Field × Nat) := []) : State := setFields ([(Reg.NVC_ADDR.ADDR, a), (Reg.NVC_BUF.BUF, buf / 8), (Reg.NVC_LEN.LEN, len)] ++ l)

/-- An NVC command is running. -/
def nvcRuns (c : NvcCmd) (s : State := blank) : State := { setFields [(Reg.NVC_STAT.BUSY, 1)] s with nvc.cmd := some c }

/-- KPF serves a mailbox request over an open link. -/
def kpfUp : State := { espiLink with kpf.state := 1, board.features := 0xFFF }

/-- A request of command `code`. -/
def asked (code : Nat) (body : List Byte) (s : State := kpfUp) (tag : Nat := 3) : State :=
  ((((setFields [(Reg.MBX_TAGINFO.STATE tag, 2)] { s with mbx.taken := [tag] }).storeNat (boxAddr tag 0) 2 1).storeNat (boxAddr tag 2) 2 code).storeNat
    (boxAddr tag 4) 2 body.length).setBytes (boxAddr tag 16) body

/-- A started slot is on trial. -/
def trialState : State := { kpfUp with kpf.readyAt := 7, firn := [(bcWord 0, bootRecWord false false 2 5)] }

/-- Its boot record. -/
def trialRecord : BootRec := ⟨bcWord 0, false, false, 2, 5⟩

/-- The plan of a boot with nothing valid. -/
def romPlan : BootPlan := bootPlan none

/-- Both slots hold an image of 256 bytes. -/
def bothImages (l : List (Field × Nat) := []) : State := { setFields l with firn := [(1, 256 * 2 ^ 32), (0x30001, 256 * 2 ^ 32)] }

/-- A flash with a good SFDP table. -/
def goodFlash : Sfdp := { good := true, size := 0x1000000, eraseOp := some 0x20, read144 := true }

/-- A flash without one. -/
def noFlash : Sfdp := {}

/-- An admitted battery module. -/
def batteryModule : KpfModule := { moduleIn .admitted 0x10 with closed := true, objs := [(8, leBytes 2 3000), (9, leBytes 2 5000)] }

/-- The power path in its own control. -/
def s1run : State := { blank with pwr.mode := .run }

/-- The trackers of all inputs in enabled slots. -/
def trkOn (s : State) : State := setFields ([(Reg.LPE_CTRL.RUN, 1)] ++ (List.range 3).flatMap fun n => [(Reg.LPE_SCFG.EN n, 1), (Reg.LPE_SCFG.ACTION n, 6), (Reg.LPE_SCFG.ARG n, n + 1)]) s

/-- A signing key of 9 in slot 3, and a digest. -/
def sig0 (c : Nat) (n : Nat) : State := fillSlot 3 c 2 3 (List.replicate (n - 1) 0 ++ [9]) (blank.setBytes 0x20002000 (List.replicate n 5))

/-- An ECDH key of 9 in slot 3, and a public key. -/
def ecdhS (aux : List Byte) : State := fillSlot 3 1 4 3 (List.replicate 31 0 ++ [9]) (blank.setBytes 0x20003000 aux)

/-- The identity key 9, and a request that names no host record and no module record. -/
def attS : State := fillSlot 15 2 8 1 (List.replicate 47 0 ++ [9]) (blank.setBytes 0x20002000 ([0, 0] ++ List.replicate 6 7))

/-- A request of the command `code` is accepted at `s`, and `P` holds of it and of the state that serves it. -/
abbrev Serving (code : Nat) (body : List Byte) (s : State) (P : KpfReq → State → Prop) : Prop :=
  Accepts 3 code (asked code body s) ∧ P (readReq (kTake (asked code body s)) 3) (kTake (asked code body s))

/-- The state that an outcome answers, tested. -/
def ends (o : Host.Outcome State Fault Refusal) (P : State → Bool) : Bool :=
  match o with
  | .next u => P u
  | _ => false

/-! ### Ill-formed commands: one for each check -/

theorem test_ill_formed_register_write : (Instr.registerWrite 0x40000002 0).wellFormed = false := by decide
theorem test_ill_formed_memory_read :
    (Instr.memoryRead txn 0 0).wellFormed = false ∧ (Instr.memoryRead txn 0 65).wellFormed = false := by decide
theorem test_ill_formed_memory_write :
    (Instr.memoryWrite txn 0 []).wellFormed = false ∧ (Instr.memoryWrite txn 0 (List.replicate 65 0)).wellFormed = false := by
  decide +kernel
theorem test_ill_formed_wires : (Instr.putVw txn [(256, 0)]).wellFormed = false := by decide
theorem test_ill_formed_oob : (Instr.putOob txn (List.replicate 69 0)).wellFormed = false := by decide +kernel
theorem test_ill_formed_flash : (Instr.putFlash txn 0 (.read 0 65)).wellFormed = false := by decide
theorem test_ill_formed_frames : (Instr.singleReadFrame txn 0 513).wellFormed = false ∧
    (Instr.quadReadFrame txn 0 513).wellFormed = false ∧
    (Instr.singleWriteFrame txn 0 (List.replicate 513 0)).wellFormed = false ∧
    (Instr.quadWriteFrame txn 0 (List.replicate 513 0)).wellFormed = false := by
  refine ⟨?_, ?_, ?_, ?_⟩ <;> decide +kernel
theorem test_ill_formed_source_capabilities : (Instr.sourceCapabilities 0 [] true 5).wellFormed = false := by decide
theorem test_ill_formed_vdm : (Instr.vdmReceived 0 0 (List.replicate 9 0) 5).wellFormed = false := by decide
theorem test_ill_formed_frame :
    (Instr.frameReceived 1 { src := 0x10, dst := 1, ctl := 9, payload := [] } cleanSignal 5).wellFormed = false := by decide
theorem test_ill_formed_module_write : (Instr.write 0 0 0 (List.replicate 63 0) 5).wellFormed = false := by decide
theorem test_ill_formed_debug_token : (Instr.debugPortToken [] 5).wellFormed = false := by decide

/-! ### Check values and examples that the spec states -/

/-- "123456789" in ASCII. -/
def digits : List Byte := [0x31, 0x32, 0x33, 0x34, 0x35, 0x36, 0x37, 0x38, 0x39]

/-- R81. -/
theorem test_crc8_check_value : crc8 digits = 0xF4 := by decide +kernel
/-- R81's read frame example. -/
theorem test_crc8_of_frame : crc8 [0x51, 0x00, 0x20, 0x00, 0x04, 0x00] = 0x5B ∧ crc8 [0xA1, 0xA4, 0x02, 0x01, 0x00] = 0xF5 := by
  decide +kernel
/-- R241, R269. -/
theorem test_crc16_check_value : crc16 digits = 0x29B1 := by decide +kernel
/-- The CRC-32 of 13_update_settings_log.md. -/
theorem test_crc32_check_value : crc32 digits = 0xCBF43926 := by decide +kernel
/-- R404's examples: LDW D3, [A2 + 8]; ADDI D3, D3, 1 under P2 and under NOT P2; LDD D1 from BKP offset 0x0010. -/
theorem test_core_words : encodeOp always (.load .ldw 3 2 8) = 0x040C8008 ∧ encodeOp ⟨false, 2⟩ (.ri .addi 3 3 1) = 0x208CC001 ∧
    encodeOp ⟨true, 2⟩ (.ri .addi 3 3 1) = 0xA08CC001 ∧ encodeOp always (.dir false 1 true false 0x0010) = 0x06860010 := by
  decide +kernel
/-- The custom word of the gain example of 16_generdy_exceptions_and_microcode.md. -/
theorem test_custom_word : encodeOp always (.custom 0 5 4 2 3 0) = 0x0F1508C0 := by decide +kernel
/-- The microcode of that example. -/
def gain : State := { blank with cpu := { blank.cpu with
  table := [(5, 0x18A40)], d := (blank.cpu.d.set 2 40000).set 3 0x1905
  ucode := [(0x40, 0x2401808026), (0x41, 0x1400C003FF), (0x42, 0x0401C40400), (0x43, 0x5400404001), (0x44, 0x640040400B),
    (0x45, 0x190180002A)] } }
/-- Its result: D4 = 36,093, and no data register other than D4 changes. -/
theorem test_custom_gain :
    ends (exec (.customInstruction always 0 5 4 2 3 0) gain) (fun u => u.cpu.d == gain.cpu.d.set 4 36093) = true := by
  decide +kernel
/-- The first sequence of the load-slot examples: LDW D1, [A0]; ADD D2, D1, D1; ADD D3, D1, D1. -/
theorem test_load_slot :
    ends (exec (.ldw always 1 0 0) (({ blank with cpu := { blank.cpu with d := blank.cpu.d.set 1 2, a := blank.cpu.a.set 0 0x20000000 } }).storeNat
      0x20000000 4 5)) (fun u => ends (exec (.add always 2 1 1) u) (fun v => ends (exec (.add always 3 1 1) v) (fun w =>
        w.cpu.d[2] == 4 && w.cpu.d[3] == 10))) = true := by
  decide +kernel

/-! ### Published values of the named algorithms -/

/-- FIPS 180-4, "abc". -/
theorem test_sha256_abc : Crypto.sha Crypto.sha256 [0x61, 0x62, 0x63] =
    beBytes 32 0xba7816bf8f01cfea414140de5dae2223b00361a396177a9cb410ff61f20015ad := by decide +kernel
/-- FIPS 180-4, "abc". -/
theorem test_sha384_abc : Crypto.sha Crypto.sha384 [0x61, 0x62, 0x63] =
    beBytes 48 0xcb00753f45a35e8bb5a03d699ac65007272c32ab0eded1631a8b605a43ff5bed8086072ba1e7cc2358baeca134c825a7 := by
  decide +kernel
/-- The GCM specification's test case 13: a key and an IV of zeros, no text. -/
theorem test_gcm_tag : Crypto.gcmTag (List.replicate 32 0) (List.replicate 12 0) [] [] =
    beBytes 16 0x530f8afbc74536b9a963b4f1c4cb738b := by decide +kernel
/-- R241 with the tables of 8b/10b: K28.5, K27.7, D0.0 and K29.7 from negative disparity on. -/
theorem test_chain_code_groups : codeGroups false [.idle, .start, .data 0, .stop] =
    [0b0011111010, 0b0010010111, 0b0110001011, 0b0100010111] := by decide
/-- R275: the inverse bit follows five equal bits, and comes out again. -/
theorem test_floe_stuffing : stuff (List.replicate 6 true) = List.replicate 5 true ++ [false, true] := by decide
theorem test_floe_unstuffing : unstuff (List.replicate 5 true ++ [false, true]) = some (List.replicate 6 true) := by decide

/-! ### Witnesses: the hypotheses of every obligation can be met -/

theorem test_witness_EmptyQueueStep :
    (∃ (s : State), s.pending = []) ∧
    (∃ (s : State), s.pending = [] ∧ s.sys.aonOn = false) ∧
    (∃ (s : State), s.pending = [] ∧ s.sys.aonOn = true ∧ s.sys.coreOn = false ∧ s.sys.offReq = none ∧
       ((s.sys.alarmFired = true ∨ s.tbase + 1 < s.sys.alarm))) :=
  ⟨⟨blank, by decide +kernel⟩,
   ⟨{ blank with sys.aonOn := false, sys.offReq := some .ship }, by decide +kernel⟩,
   ⟨{ blank with sys.coreOn := false, sys.alarm := 2 }, by decide +kernel⟩⟩

theorem test_witness_RegisterArithmetic :
    (∃ q ∈ [(Instr.add, .add), (.sub, .sub), (.mul, .mul), (.mulhs, .mulhs), (.mulhu, .mulhu), (.divs, .divs), (.divu,
       .divu), (.rems, .rems), (.remu, .remu), (.min, .min), (.max, .max), (.minu, .minu), (.maxu, .maxu)],
      ∃ (p : _) (d : _) (x : _) (y : _) (s : State), Issues p (.rr q.2 (dreg d) (dreg x) (dreg y) 0) s ∧
      (aluSetsDz q.2 (s.cpu.dr (dreg y)) && s.cpu.dztrap) = false) ∧
    (∃ q ∈ [(Instr.addc, .addc), (.addx, .addx), (.subc, .subc), (.subx, .subx)],
      ∃ (p : _) (d : _) (x : _) (y : _) (k : _) (s : State), Issues p (.rr q.2 (dreg d) (dreg x) (dreg y) k) s) ∧
    (∃ (p : _) (d : _) (x : _) (y : _) (k : _) (s : State), Issues p (.rr .sel (dreg d) (dreg x) (dreg y) k) s) ∧
    (∃ q ∈ [(Instr.neg, .neg), (.abs, .abs), (.mov, .mov)], ∃ (p : _) (d : _) (x : _) (s : State),
      Issues p (.rr q.2 (dreg d) (dreg x) 0 0) s) :=
  ⟨⟨_, .head _, always, 15, 1, 2, patterned, by decide +kernel⟩,
   ⟨_, .head _, always, 15, 1, 2, 7, patterned, by decide +kernel⟩,
   ⟨always, 15, 1, 2, 7, patterned, by decide +kernel⟩,
   ⟨_, .head _, always, 15, 1, patterned, by decide +kernel⟩⟩

theorem test_witness_RegisterBits :
    (∃ q ∈ [(Instr.and, .and), (.or, .or), (.xor, .xor), (.andn, .andn), (.shl, .shl), (.shr, .shr), (.sar, .sar),
       (.rol, .rol), (.ror, .ror)], ∃ (p : _) (d : _) (x : _) (y : _) (s : State),
      Issues p (.rr q.2 (dreg d) (dreg x) (dreg y) 0) s ∧ (aluSetsDz q.2 (s.cpu.dr (dreg y)) && s.cpu.dztrap) = false) ∧
    (∃ q ∈ [(Instr.not, .not), (.clz, .clz), (.sextb, .sextb), (.sexth, .sexth), (.zextb, .zextb), (.zexth, .zexth),
       (.bswap, .bswap)], ∃ (p : _) (d : _) (x : _) (s : State), Issues p (.rr q.2 (dreg d) (dreg x) 0 0) s) :=
  ⟨⟨_, .head _, always, 15, 1, 2, patterned, by decide +kernel⟩,
   ⟨_, .head _, always, 15, 1, patterned, by decide +kernel⟩⟩

theorem test_witness_Immediates_1 :
    (∃ (p : _) (d : _) (x : _) (imm : _) (s : State), Issues p (.ri .addi (dreg d) (dreg x) imm) s) ∧
    (∃ (p : _) (d : _) (x : _) (imm : _) (s : State), Issues p (.ri .andi (dreg d) (dreg x) imm) s) ∧
    (∃ (p : _) (d : _) (x : _) (imm : _) (s : State), Issues p (.ri .ori (dreg d) (dreg x) imm) s) ∧
    (∃ (p : _) (d : _) (x : _) (imm : _) (s : State), Issues p (.ri .xori (dreg d) (dreg x) imm) s) ∧
    (∃ (p : _) (d : _) (x : _) (imm : _) (s : State), Issues p (.ri .muli (dreg d) (dreg x) imm) s) ∧
    (∃ (p : _) (d : _) (x : _) (kind : Fin 8) (n : Fin 32) (s : State), Issues p (.si (dreg d) (dreg x) kind n) s) ∧
    (∃ (p : _) (d : _) (imm : _) (s : State), Issues p (.mi false (dreg d) imm) s) ∧
    (∃ (p : _) (d : _) (imm : _) (s : State), Issues p (.mi true (dreg d) imm) s) ∧
    (∃ (p : _) (a : _) (b : _) (imm : _) (s : State), Issues p (.ai (dreg a) (dreg b) imm) s) ∧
    (∃ (p : _) (d : _) (x : _) (s : State), Issues p (.ar .mova (dreg d) (dreg x) 0) s) ∧
    (∃ (p : _) (d : _) (x : _) (y : _) (s : State), Issues p (.ar .addad (dreg d) (dreg x) (dreg y)) s) ∧
    (∃ (p : _) (d : _) (x : _) (y : _) (s : State), Issues p (.ar .subad (dreg d) (dreg x) (dreg y)) s) :=
  ⟨⟨always, 15, 1, -1, patterned, by decide +kernel⟩,
   ⟨always, 15, 1, -1, patterned, by decide +kernel⟩,
   ⟨always, 15, 1, -1, patterned, by decide +kernel⟩,
   ⟨always, 15, 1, -1, patterned, by decide +kernel⟩,
   ⟨always, 15, 1, -1, patterned, by decide +kernel⟩,
   ⟨always, 15, 1, 0, 31, patterned, by decide +kernel⟩,
   ⟨always, 15, -1, patterned, by decide +kernel⟩,
   ⟨always, 15, -1, patterned, by decide +kernel⟩,
   ⟨always, 7, 1, -1, patterned, by decide +kernel⟩,
   ⟨always, 7, 1, patterned, by decide +kernel⟩,
   ⟨always, 7, 1, 1, patterned, by decide +kernel⟩,
   ⟨always, 7, 1, 1, patterned, by decide +kernel⟩⟩

theorem test_witness_Immediates_2 :
    (∃ (p : _) (d : _) (x : _) (y : _) (s : State), Issues p (.ar .addaw (dreg d) (dreg x) (dreg y)) s) ∧
    (∃ (p : _) (d : _) (x : _) (y : _) (s : State), Issues p (.ar .addah (dreg d) (dreg x) (dreg y)) s) ∧
    (∃ (p : _) (d : _) (x : _) (s : State), Issues p (.ar .movad (dreg d) (dreg x) 0) s) ∧
    (∃ (p : _) (d : _) (x : _) (s : State), Issues p (.ar .movda (dreg d) (dreg x) 0) s) ∧
    (∃ (p : _) (d : _) (x : _) (y : _) (s : State), Issues p (.ar .subaa (dreg d) (dreg x) (dreg y)) s) ∧
    (∃ (p : _) (a : _) (imm : _) (s : State), Issues p (.am false (dreg a) imm) s) ∧
    (∃ (p : _) (a : _) (imm : _) (s : State), Issues p (.am true (dreg a) imm) s) :=
  ⟨⟨always, 7, 1, 1, patterned, by decide +kernel⟩,
   ⟨always, 7, 1, 1, patterned, by decide +kernel⟩,
   ⟨always, 7, 1, patterned, by decide +kernel⟩,
   ⟨always, 15, 7, patterned, by decide +kernel⟩,
   ⟨always, 15, 1, 7, patterned, by decide +kernel⟩,
   ⟨always, 7, -1, patterned, by decide +kernel⟩,
   ⟨always, 7, -1, patterned, by decide +kernel⟩⟩

theorem test_witness_LoadsAndStores :
    (∃ q ∈ [(Instr.ldw, .ldw), (.ldh, .ldh), (.ldhu, .ldhu), (.ldb, .ldb), (.ldbu, .ldbu)],
      ∃ (p : _) (t : _) (a : _) (disp : _) (s : State), Issues p (.load q.2 (dreg t) (dreg a) disp) s ∧
      accessCheck (fetched s) .load (s.cpu.ar (dreg a) + disp.signExtend 32) q.2.size = none) ∧
    (∃ (p : _) (t : _) (a : _) (disp : _) (s : State), Issues p (.load .lda (dreg t) (dreg a) disp) s ∧
      accessCheck (fetched s) .load (s.cpu.ar (dreg a) + disp.signExtend 32) 4 = none) ∧
    (∃ (p : _) (t : _) (a : _) (disp : _) (s : State), Issues p (.load .ldwp (dreg t) (dreg a) disp) s ∧
      accessCheck (fetched s) .load (s.cpu.ar (dreg a)) 4 = none) ∧
    (∃ (p : _) (t : _) (bank : _) (byte : _) (off : _) (s : State), Issues p (.dir false (dreg t) bank byte off) s ∧
       accessCheck (fetched s) .load ((if bank then s.cpu.bkp else s.cpu.bkd) ++ off) (if byte then 1 else 4) = none) ∧
    (∃ (p : _) (t : _) (isA : _) (s : State), Issues p (.stk true (dreg t) isA) s ∧
      accessCheck (fetched s) .load (s.cpu.ar 7) 4 = none) ∧
    (∃ q ∈ [(Instr.stw, .stw, 4), (.sth, .sth, 2), (.stb, .stb, 1)], ∃ (p : _) (t : _) (a : _) (disp : _) (s : State),
       Issues p (.store q.2.1 (dreg t) (dreg a) disp) s ∧
      accessCheck (fetched s) .store (s.cpu.ar (dreg a) + disp.signExtend 32) q.2.2 = none) ∧
    (∃ (p : _) (t : _) (a : _) (disp : _) (s : State), Issues p (.store .sta (dreg t) (dreg a) disp) s ∧
      accessCheck (fetched s) .store (s.cpu.ar (dreg a) + disp.signExtend 32) 4 = none) ∧
    (∃ (p : _) (t : _) (a : _) (disp : _) (s : State), Issues p (.store .stwp (dreg t) (dreg a) disp) s ∧
      accessCheck (fetched s) .store (s.cpu.ar (dreg a)) 4 = none) ∧
    (∃ (p : _) (t : _) (bank : _) (byte : _) (off : _) (s : State), Issues p (.dir true (dreg t) bank byte off) s ∧
       accessCheck (fetched s) .store ((if bank then s.cpu.bkp else s.cpu.bkd) ++ off) (if byte then 1 else 4) = none) ∧
    (∃ (p : _) (t : _) (isA : _) (s : State), Issues p (.stk false (dreg t) isA) s ∧
      accessCheck (fetched s) .store (s.cpu.ar 7 - 4) 4 = none) :=
  ⟨⟨_, .head _, always, 15, 1, 4, patterned, by decide +kernel⟩,
   ⟨always, 7, 1, 4, patterned, by decide +kernel⟩,
   ⟨always, 15, 1, -8192, patterned, by decide +kernel⟩,
   ⟨always, 3, false, false, 0x1FFC, { patterned with cpu := { patterned.cpu with bkd := 0x2000 } },
     by decide +kernel⟩,
   ⟨always, 3, false, { patterned with cpu := { patterned.cpu with a := patterned.cpu.a.set 7 0x20000100 } },
     by decide +kernel⟩,
   ⟨_, .head _, always, 15, 1, 4, patterned, by decide +kernel⟩,
   ⟨always, 7, 1, 4, patterned, by decide +kernel⟩,
   ⟨always, 15, 1, -8192, patterned, by decide +kernel⟩,
   ⟨always, 3, false, false, 0xFFFC, patterned, by decide +kernel⟩,
   ⟨always, 3, false, patterned, by decide +kernel⟩⟩

theorem test_witness_MainMemoryBytes :
    (∃ (_ : State) (a _ : Word) (n : Nat) (i : _), n ≤ 4 ∧
      ((areaOf a.toNat = .sram ∨ areaOf a.toNat = .retained ∨ areaOf a.toNat = .lighting)) ∧ i < n) ∧
    (∃ (_ : State) (a _ : Word) (n : Nat) (b : _), n ≤ 4 ∧
      ((areaOf a.toNat = .sram ∨ areaOf a.toNat = .retained ∨ areaOf a.toNat = .lighting)) ∧
      ((b < a.toNat ∨ a.toNat + n ≤ b))) ∧
    (∃ (s : State) (a v : Word) (n : Nat) (b : _), let u := writeValue s a n v; n ≤ 4 ∧
      ((areaOf a.toNat = .sram ∨ areaOf a.toNat = .retained ∨ areaOf a.toNat = .lighting)) ∧ b ∈ u.badBytes) ∧
    (∃ (_ : State) (a _ : Word) (n : Nat), n ≤ 4 ∧
      ((areaOf a.toNat = .sram ∨ areaOf a.toNat = .retained ∨ areaOf a.toNat = .lighting))) :=
  ⟨⟨patterned, 0x200FFFFF, 0x12345678, 4, 3, by decide +kernel⟩,
   ⟨patterned, 0x200FFFFF, 0x12345678, 4, 0x200FFFFE, by decide +kernel⟩,
   ⟨{ patterned with badBytes := [0x20000000, 0x20000004] }, 0x20000000, 1, 4, 0x20000004, by decide +kernel⟩,
   ⟨patterned, 0x200FFFFF, 0x12345678, 4, by decide +kernel⟩⟩

theorem test_witness_Accumulators :
    (∃ (p : _) (q : _) (x : _) (y : _) (s : State), Issues p (.acc .macs q (dreg x) (dreg y) 0) s) ∧
    (∃ (p : _) (q : _) (x : _) (y : _) (s : State), Issues p (.acc .macu q (dreg x) (dreg y) 0) s) ∧
    (∃ (p : _) (q : _) (x : _) (y : _) (s : State), Issues p (.acc .msbs q (dreg x) (dreg y) 0) s) ∧
    (∃ (p : _) (q : _) (x : _) (y : _) (s : State), Issues p (.acc .mulq q (dreg x) (dreg y) 0) s) ∧
    (∃ (p : _) (q : _) (x : _) (y : _) (s : State), Issues p (.acc .macsat q (dreg x) (dreg y) 0) s) ∧
    (∃ (p : _) (q : _) (s : State), Issues p (.acc .clrq q 0 0 0) s) ∧
    (∃ (p : _) (q : _) (d : _) (s : State), Issues p (.acc .rdql q (dreg d) 0 0) s) ∧
    (∃ (p : _) (q : _) (d : _) (s : State), Issues p (.acc .rdqh q (dreg d) 0 0) s) ∧
    (∃ (p : _) (q : _) (d : _) (sh : Fin 64) (s : State), Issues p (.acc .rdqs q (dreg d) 0 sh) s) ∧
    (∃ (p : _) (q : _) (x : _) (s : State), Issues p (.acc .wrql q (dreg x) 0 0) s) ∧
    (∃ (p : _) (q : _) (x : _) (s : State), Issues p (.acc .wrqh q (dreg x) 0 0) s) ∧
    (∃ (p : _) (q : _) (sh : Fin 64) (s : State), Issues p (.acc .shq q 0 0 sh) s) :=
  ⟨⟨always, 1, 1, 2, patterned, by decide +kernel⟩,
   ⟨always, 1, 1, 2, patterned, by decide +kernel⟩,
   ⟨always, 1, 1, 2, patterned, by decide +kernel⟩,
   ⟨always, 1, 1, 2, patterned, by decide +kernel⟩,
   ⟨always, 1, 1, 2, patterned, by decide +kernel⟩,
   ⟨always, 1, patterned, by decide +kernel⟩,
   ⟨always, 1, 15, patterned, by decide +kernel⟩,
   ⟨always, 1, 15, patterned, by decide +kernel⟩,
   ⟨always, 1, 15, 0, patterned, by decide +kernel⟩,
   ⟨always, 1, 15, patterned, by decide +kernel⟩,
   ⟨always, 1, 15, patterned, by decide +kernel⟩,
   ⟨always, 1, 63, patterned, by decide +kernel⟩⟩

theorem test_witness_ComparesAndPredicates_1 :
    (∃ (p : _) (d : _) (k : Fin 16) (x : _) (y : _) (s : State), Issues p (.cmp d k (dreg x) (dreg y)) s) ∧
    (∃ (p : _) (d : _) (k : Fin 16) (x : _) (imm : _) (s : State), Issues p (.cmpi d k (dreg x) imm) s) ∧
    (∃ (p : _) (d : _) (k : Fin 16) (x : _) (y : _) (s : State), Issues p (.cmpa d k (dreg x) (dreg y)) s) ∧
    (∃ (p : _) (d : _) (a : _) (b : _) (s : State), Issues p (.plog .pand d a b) s) ∧
    (∃ (p : _) (d : _) (a : _) (b : _) (s : State), Issues p (.plog .por d a b) s) ∧
    (∃ (p : _) (d : _) (a : _) (b : _) (s : State), Issues p (.plog .pxor d a b) s) ∧
    (∃ (p : _) (d : _) (a : _) (b : _) (s : State), Issues p (.plog .pandn d a b) s) ∧
    (∃ (p : _) (d : _) (a : _) (s : State), Issues p (.plog .pmov d a 0) s) ∧
    (∃ (p : _) (d : _) (a : _) (s : State), Issues p (.plog .pnot d a 0) s) ∧
    (∃ (p : _) (d : _) (s : State), Issues p (.plog .pset d 0 0) s) ∧
    (∃ (p : _) (d : _) (s : State), Issues p (.plog .pclr d 0 0) s) ∧
    (∃ (_ : Cpu) (k : PredNo) (_ : Bool), k ≠ 0) :=
  ⟨⟨always, 1, 0, 1, 2, patterned, by decide +kernel⟩,
   ⟨always, 1, 0, 1, -1, patterned, by decide +kernel⟩,
   ⟨always, 1, 0, 1, 2, patterned, by decide +kernel⟩,
   ⟨always, 1, 7, 0, patterned, by decide +kernel⟩,
   ⟨always, 1, 7, 0, patterned, by decide +kernel⟩,
   ⟨always, 1, 7, 0, patterned, by decide +kernel⟩,
   ⟨always, 1, 7, 0, patterned, by decide +kernel⟩,
   ⟨always, 1, 7, patterned, by decide +kernel⟩,
   ⟨always, 1, 7, patterned, by decide +kernel⟩,
   ⟨always, 7, patterned, by decide +kernel⟩,
   ⟨always, 7, patterned, by decide +kernel⟩,
   ⟨patterned.cpu, 7, true, by decide +kernel⟩⟩

theorem test_witness_ComparesAndPredicates_2 :
    ∃ (_ : Cpu) (k : PredNo) (_ : Bool) (j : PredNo), j ≠ k :=
  ⟨patterned.cpu, 7, false, 0, by decide +kernel⟩

theorem test_witness_BranchesAndReturnStack :
    (∃ (p : _) (disp : _) (s : State), Issues p (.br false disp) s) ∧
    (∃ (p : _) (a : _) (s : State), Issues p (.jmp false (dreg a)) s ∧ (s.cpu.ar (dreg a)).toNat % 4 = 0) ∧
    (∃ (p : _) (c : _) (disp : _) (s : State), Issues p (.dbnz (dreg c) disp) s) ∧
    (∃ (p : _) (disp : _) (s : State), Issues p (.br true disp) s ∧ rsOff s.cpu.rsp < rsOff s.cpu.rsl) ∧
    (∃ (p : _) (a : _) (s : State), Issues p (.jmp true (dreg a)) s ∧ (s.cpu.ar (dreg a)).toNat % 4 = 0 ∧
      rsOff s.cpu.rsp < rsOff s.cpu.rsl) ∧
    (∃ (p : _) (s : State), Issues p .ret s ∧ rsOff s.cpu.rsb < rsOff s.cpu.rsp ∧
      s.firstBad (rsBase + (rsOff s.cpu.rsp - 4)) 4 = none) ∧
    (∃ (p : _) (disp : _) (s : State), Issues p (.br true disp) s ∧ rsOff s.cpu.rsl ≤ rsOff s.cpu.rsp) ∧
    (∃ (p : _) (s : State), Issues p .ret s ∧ rsOff s.cpu.rsp ≤ rsOff s.cpu.rsb) ∧
    (∃ (p : _) (a : _) (s : State), Issues p (.jmp true (dreg a)) s ∧ rsOff s.cpu.rsl ≤ rsOff s.cpu.rsp) ∧
    (∃ (p : _) (a : _) (s : State), Issues p (.jmp false (dreg a)) s ∧ (s.cpu.ar (dreg a)).toNat % 4 ≠ 0) ∧
    (∃ (p : _) (a : _) (s : State), Issues p (.jmp true (dreg a)) s ∧ (s.cpu.ar (dreg a)).toNat % 4 ≠ 0 ∧
      rsOff s.cpu.rsp < rsOff s.cpu.rsl) :=
  ⟨⟨always, -1, patterned, by decide +kernel⟩,
   ⟨always, 1, patterned, by decide +kernel⟩,
   ⟨always, 15, -1, patterned, by decide +kernel⟩,
   ⟨always, -1, patterned, by decide +kernel⟩,
   ⟨always, 1, patterned, by decide +kernel⟩,
   ⟨always, returnStack 1, by decide +kernel⟩,
   ⟨always, 5, returnStack 256, by decide +kernel⟩,
   ⟨always, returnStack 0, by decide +kernel⟩,
   ⟨always, 1, returnStack 256, by decide +kernel⟩,
   ⟨always, 3, patterned, by decide +kernel⟩,
   ⟨always, 3, patterned, by decide +kernel⟩⟩

theorem test_witness_ReturnStackSpill :
    (∃ (p : _) (a : RegNo) (s : State),
      let n := (rsOff s.cpu.rsp - rsOff s.cpu.rsb) / 4; let base := s.cpu.ar (dreg a); Issues p (.sys .rssv (BitVec.ofNat 16 (a.val * 2 ^ 12))) s ∧
       base.toNat % 4 = 0 ∧ sramBase ≤ base.toNat ∧ base.toNat + 4 * (n + 1) ≤ sramBase + 0x100000 ∧ ((∀ i,
      i ≤ n → accessCheck (fetched s) .store (base + BitVec.ofNat 32 (4 * i)) 4 = none)) ∧ ((∀ i,
      i < n → s.firstBad (rsBase + rsOff s.cpu.rsb + 4 * i) 4 = none))) ∧
    (∃ (p : _) (a : RegNo) (n : Nat) (s : State),
      let base := s.cpu.ar (dreg a); Issues p (.sys .rsrs (BitVec.ofNat 16 (a.val * 2 ^ 12))) s ∧ base.toNat % 4 = 0 ∧
       sramBase ≤ base.toNat ∧ base.toNat + 4 * (n + 1) ≤ sramBase + 0x100000 ∧ s.loadNat base.toNat 4 = n ∧
      rsOff s.cpu.rsb + 4 * n ≤ rsOff s.cpu.rsl ∧ ((∀ i,
      i ≤ n → accessCheck (fetched s) .load (base + BitVec.ofNat 32 (4 * i)) 4 = none))) :=
  ⟨⟨always, 1, returnStack 2, by decide +kernel⟩,
   ⟨always, 1, 2, (returnStack 2).storeNat 0x20000100 4 2 |>.storeNat 0x20000104 4 0xAABBCCDD, by decide +kernel⟩⟩

theorem test_witness_ControlRegisters :
    (∃ (p : _) (t : _) (k : BitVec 6) (s : State), Issues p (.cr false (dreg t) k) s) ∧
    (∃ (p : _) (t : _) (k : BitVec 6) (s : State), Issues p (.cr true (dreg t) k) s) ∧
    (∃ (p : _) (s : State), Issues p (.sys .nop 0) s) ∧
    (∃ (p : _) (s : State), Issues p (.sys .fence 0) s) ∧
    (∃ (p : _) (s : State), Issues p (.sys .ei 0) s) ∧
    (∃ (p : _) (s : State), Issues p (.sys .di 0) s) ∧
    (∃ (p : _) (s : State), Issues p (.sys .wait 0) s) ∧
    (∃ (p : _) (s : State), Issues p (.sys .rfe 0) s) :=
  ⟨⟨always, 15, 0, patterned, by decide +kernel⟩,
   ⟨always, 1, 0x10, patterned, by decide +kernel⟩,
   ⟨always, patterned, by decide +kernel⟩,
   ⟨always, patterned, by decide +kernel⟩,
   ⟨always, patterned, by decide +kernel⟩,
   ⟨always, patterned, by decide +kernel⟩,
   ⟨always, patterned, by decide +kernel⟩,
   ⟨always, { patterned with cpu := { patterned.cpu with epsr := 0xFFFFFFFF, epc := 0x20000000 } }, by decide +kernel⟩⟩

theorem test_witness_ExceptionEntry :
    (∃ (e : Exc) (epc : Word) (s : State),
      let v := s.cpu.vbr + BitVec.ofNat 32 (4 * e.vec); let c : Cpu := { s.cpu with epc := epc, epsr := s.cpu.psr, vec := BitVec.ofNat 6 e.vec, code := e.code, eaddr := e.eaddr, priv := true, ie := false, erract := s.cpu.erract || e.vec == 1 || (3 ≤ e.vec && e.vec ≤ 7), nmiact := s.cpu.nmiact || e.vec == 11, nmipend := s.cpu.nmipend && e.vec != 11, waiting := false }; e.mark = .none ∧
       (((e.vec = 1 ∨ (3 ≤ e.vec ∧ e.vec ≤ 7)) → s.cpu.erract = false)) ∧
      accessCheck { s with cpu := c } .load v 4 = none ∧ (readValue { s with cpu := c } v 4).1.toNat % 4 = 0) ∧
    (∃ (e : Exc) (_ : Word) (s : State), e.mark = .none ∧ ((e.vec = 1 ∨ (3 ≤ e.vec ∧ e.vec ≤ 7))) ∧
      s.cpu.erract = true) :=
  ⟨⟨{ vec := 9, code := 7 }, 0x44, { patterned with cpu := { patterned.cpu with vbr := 0x20000000, erract := true } },
      by decide +kernel⟩,
   ⟨{ vec := 3 }, 0, { patterned with cpu := { patterned.cpu with erract := true } }, by decide +kernel⟩⟩

theorem test_witness_TrapsAndInterrupts_1 :
    (∃ (p : _) (imm : _) (s : State), Issues p (.sys .trap imm) s) ∧
    (∃ (p : _) (imm : _) (s : State), Issues p (.sys .bkpt imm) s ∧ s.sys.dbgBreak = false) ∧
    (∃ (p : _) (imm : _) (s : State), Issues p (.sys .bkpt imm) s ∧ s.sys.dbgBreak = true) ∧
    (∃ (p : _) (d : _) (x : _) (y : _) (s : State), Issues p (.rr .divs (dreg d) (dreg x) (dreg y) 0) s ∧
      s.cpu.dr (dreg y) = 0 ∧ s.cpu.dztrap = true) ∧
    (∃ (p : _) (d : _) (x : _) (y : _) (s : State), Issues p (.rr .divu (dreg d) (dreg x) (dreg y) 0) s ∧
      s.cpu.dr (dreg y) = 0 ∧ s.cpu.dztrap = true) ∧
    (∃ (p : _) (d : _) (x : _) (y : _) (s : State), Issues p (.rr .rems (dreg d) (dreg x) (dreg y) 0) s ∧
      s.cpu.dr (dreg y) = 0 ∧ s.cpu.dztrap = true) ∧
    (∃ (p : _) (d : _) (x : _) (y : _) (s : State), Issues p (.rr .remu (dreg d) (dreg x) (dreg y) 0) s ∧
      s.cpu.dr (dreg y) = 0 ∧ s.cpu.dztrap = true) ∧
    (∃ (s : State) (n : _), s.coreUp = true ∧ s.sys.dbgHalted = false ∧ s.cpu.slot = none ∧ irqReady s = some n) ∧
    (∃ (s : State), irqReady s = none) ∧
    (∃ (s : State) (n : _), irqReady s = some n) ∧
    (∃ (s : State) (n : _) (m : _), irqReady s = some n ∧ m < 32 ∧ linePending s m = true ∧
      s.cpu.ien.getLsbD m = true) ∧
    (∃ (s : State), s.coreUp = true ∧ s.sys.dbgHalted = false ∧ s.cpu.slot = none ∧ s.cpu.nmipend = true ∧
       s.cpu.nmiact = false ∧ s.cpu.erract = false) :=
  ⟨⟨always, 0xFFFF, patterned, by decide +kernel⟩,
   ⟨always, 0xFFFF, patterned, by decide +kernel⟩,
   ⟨always, 1, { patterned with sys := { patterned.sys with dbgBreak := true } }, by decide +kernel⟩,
   ⟨always, 15, 1, 2, { patterned with cpu := { patterned.cpu with dztrap := true, d := patterned.cpu.d.set 2 0 } },
      by decide +kernel⟩,
   ⟨always, 15, 1, 2, { patterned with cpu := { patterned.cpu with dztrap := true, d := patterned.cpu.d.set 2 0 } },
      by decide +kernel⟩,
   ⟨always, 15, 1, 2, { patterned with cpu := { patterned.cpu with dztrap := true, d := patterned.cpu.d.set 2 0 } },
      by decide +kernel⟩,
   ⟨always, 15, 1, 2, { patterned with cpu := { patterned.cpu with dztrap := true, d := patterned.cpu.d.set 2 0 } },
      by decide +kernel⟩,
   ⟨{ patterned with cpu := { patterned.cpu with slot := none, ie := true, ien := 0x81000000, isw := 0x81, ipri1 := 0 } },
      24, by decide +kernel⟩,
   ⟨patterned, by decide +kernel⟩,
   ⟨{ patterned with cpu := { patterned.cpu with ie := true, ien := 0x81000000, isw := 0x81 } }, 24,
     by decide +kernel⟩,
   ⟨{ patterned with cpu := { patterned.cpu with ie := true, ien := 0x81000000, isw := 0x81 } }, 24, 31,
     by decide +kernel⟩,
   ⟨{ patterned with cpu := { patterned.cpu with slot := none, nmipend := true } }, by decide +kernel⟩⟩

theorem test_witness_TrapsAndInterrupts_2 :
    ∃ (s : State), s.cpu.nmipend = false :=
  ⟨patterned, by decide +kernel⟩

theorem test_witness_BlockInstructions :
    (∃ (p : _) (d : _) (c : _) (v : _) (sz : Fin 4) (s : State),
      let n := (s.cpu.dr (dreg c)).toNat; let b := 2 ^ sz.val; let dst := (s.cpu.ar (dreg d)).toNat; Issues p (.blk .bfill 0 (dreg d) (dreg c) (dreg v) sz) s ∧
       sramBase ≤ dst ∧ dst + n * b ≤ sramBase + 0x100000 ∧ ((∀ i,
      i < n → accessCheck (fetched s) .store (BitVec.ofNat 32 (dst + i * b)) b = none)) ∧ nmiReady s = false ∧
       irqReady (fetched s) = none) ∧
    (∃ (p : _) (x : _) (d : _) (c : _) (sz : Fin 4) (s : State),
      let n := (s.cpu.dr (dreg c)).toNat; let b := 2 ^ sz.val; let src := (s.cpu.ar (dreg x)).toNat; let dst := (s.cpu.ar (dreg d)).toNat; Issues p (.blk .bmov (dreg x) (dreg d) (dreg c) 0 sz) s ∧
       sramBase ≤ dst ∧ dst + n * b ≤ sramBase + 0x100000 ∧ sramBase ≤ src ∧ src + n * b ≤ sramBase + 0x100000 ∧
      ((∀ i, i < n → accessCheck (fetched s) .load (BitVec.ofNat 32 (src + i * b)) b = none ∧
      accessCheck (fetched s) .store (BitVec.ofNat 32 (dst + i * b)) b = none)) ∧ nmiReady s = false ∧
      irqReady (fetched s) = none) ∧
    (∃ (p : _) (x : _) (d : _) (c : _) (sz : Fin 4) (s : State) (k : Nat),
      let n := (s.cpu.dr (dreg c)).toNat; let b := 2 ^ sz.val; let src := (s.cpu.ar (dreg x)).toNat; let dst := (s.cpu.ar (dreg d)).toNat; Issues p (.blk .bcmp (dreg x) (dreg d) (dreg c) 0 sz) s ∧
       sramBase ≤ dst ∧ dst + n * b ≤ sramBase + 0x100000 ∧ sramBase ≤ src ∧ src + n * b ≤ sramBase + 0x100000 ∧
      ((∀ i, i < n → accessCheck (fetched s) .load (BitVec.ofNat 32 (src + i * b)) b = none ∧
      accessCheck (fetched s) .load (BitVec.ofNat 32 (dst + i * b)) b = none)) ∧ nmiReady s = false ∧
      irqReady (fetched s) = none ∧ k ≤ n ∧ ((∀ i, i < k → s.loadNat (src + i * b) b = s.loadNat (dst + i * b) b)) ∧
       ((k < n → s.loadNat (src + k * b) b ≠ s.loadNat (dst + k * b) b))) ∧
    (∃ (p : _) (x : _) (c : _) (v : _) (sz : Fin 4) (s : State) (k : Nat),
      let n := (s.cpu.dr (dreg c)).toNat; let b := 2 ^ sz.val; let src := (s.cpu.ar (dreg x)).toNat; let want := (s.cpu.dr (dreg v)).toNat % 256 ^ b; Issues p (.blk .bscan (dreg x) 0 (dreg c) (dreg v) sz) s ∧
       sramBase ≤ src ∧ src + n * b ≤ sramBase + 0x100000 ∧ ((∀ i,
      i < n → accessCheck (fetched s) .load (BitVec.ofNat 32 (src + i * b)) b = none)) ∧ nmiReady s = false ∧
      irqReady (fetched s) = none ∧ k ≤ n ∧ ((∀ i, i < k → s.loadNat (src + i * b) b ≠ want)) ∧
      ((k < n → s.loadNat (src + k * b) b = want))) :=
  ⟨⟨always, 5, 4, 5, 2, blockAt 3 0 0x200FFFF4, by decide +kernel⟩,
   ⟨always, 4, 5, 4, 2, (blockAt 3 0x20000000 0x20000004).storeNat 0x20000000 4 0x55667788, by decide +kernel⟩,
   ⟨always, 4, 5, 4, 2, (blockAt 3 0x20000000 0x20000100).storeNat 0x20000008 4 0x55667788, 2, by decide +kernel⟩,
   ⟨always, 4, 4, 5, 0, (blockAt 3 0x20000000 0).storeNat 0x20000002 1 0x44, 2, by decide +kernel⟩⟩

theorem test_witness_CustomInstructions :
    (∃ p major idx d a t imm s ms s' dz, Issues p (.custom major idx d a t imm) s ∧
      entryOps (fetched s) (Sparse.get 0 (16 * major.val + idx.val) s.cpu.table) ⟨d, a, t, imm⟩ = some ms ∧
      microRun { fetched s with cpu := { (awake s).clearT with slot := none } } false ms = .ok (s', dz) ∧
      (dz && s'.cpu.dztrap) = false) ∧
    (∃ p major idx d a t imm s ms x, Issues p (.custom major idx d a t imm) s ∧
      entryOps (fetched s) (Sparse.get 0 (16 * major.val + idx.val) s.cpu.table) ⟨d, a, t, imm⟩ = some ms ∧
      microRun { fetched s with cpu := { (awake s).clearT with slot := none } } false ms = .error x) ∧
    (∃ (_ : Word) (s : State), Stores s 0x40000104 ∧ s.on Reg.SEC_LOCK.UCODE = false ∧
      s.on Reg.SYS_UCSEL.TABLE = true ∧ s.rd Reg.SYS_UCSEL.INDEX < 64) ∧
    (∃ (_ : Word) (s : State), Stores s 0x40000108 ∧ s.on Reg.SEC_LOCK.UCODE = false ∧
      s.on Reg.SYS_UCSEL.TABLE = false) ∧
    (∃ (_ : Word) (s : State), Stores s 0x40000104 ∧ s.on Reg.SEC_LOCK.UCODE = true) ∧
    (∃ (_ : Word) (s : State), Stores s 0x40000108 ∧ s.on Reg.SEC_LOCK.UCODE = true) :=
  ⟨⟨always, 0, 0, 0, 0, 0, 0, cust1, custOps cust1, (custOk cust1).1, (custOk cust1).2, by decide +kernel,
     by decide +kernel, custOk_spec (by decide +kernel), by decide +kernel⟩,
   ⟨always, 0, 0, 0, 0, 0, 0, cust2, custOps cust2, custErr cust2, by decide +kernel, by decide +kernel,
     custErr_spec (by decide +kernel)⟩,
   ⟨(0xFFFFFFFF : Word), setFields [(Reg.SYS_UCSEL.TABLE, 1), (Reg.SYS_UCSEL.INDEX, 63), (Reg.SYS_UCSEL.AUTOINC, 1)],
      by decide +kernel⟩,
   ⟨(0xFFFFFFFF : Word), setFields [(Reg.SYS_UCSEL.INDEX, 511), (Reg.SYS_UCSEL.AUTOINC, 1), (Reg.SYS_UCLO.DATA,
      0xFFFFFFFF)], by decide +kernel⟩,
   ⟨(1 : Word), setFields [(Reg.SEC_LOCK.UCODE, 1)], by decide +kernel⟩,
   ⟨(1 : Word), setFields [(Reg.SEC_LOCK.UCODE, 1)], by decide +kernel⟩⟩

theorem test_witness_WatchdogAndDebug_1 :
    (∃ (t : Nat) (s : State), wdDue (s.seen t) = true ∧ s.on Reg.TMR_WDSTAT.STAGE = false) ∧
    (∃ (t : Nat) (s : State), wdDue (s.seen t) = true ∧ s.on Reg.TMR_WDSTAT.STAGE = true) ∧
    (∃ (v : Word) (s : State), Stores s 0x40140108 ∧ v.toNat % 2 ^ 16 = 0x6B5A ∧ s.on Reg.TMR_WDCTL.EN = true ∧
      wdDue s = false ∧ s.wdog.expiredAt ≠ some s.tbase) ∧
    (∃ (v : Word) (s : State), Stores s 0x40140108 ∧ v.toNat % 2 ^ 16 = 0x6B5A ∧
      (s.on Reg.TMR_WDCTL.EN = false ∨ wdDue s = true ∨ s.wdog.expiredAt = some s.tbase)) ∧
    (∃ (v : Word) (s : State), Stores s 0x40140108 ∧ v.toNat % 2 ^ 16 ≠ 0x6B5A ∧ s.on Reg.TMR_WDCTL.EN = true ∧
      s.on Reg.TMR_WDSTAT.STAGE = false) ∧
    (∃ (v : Word) (s : State), Stores s 0x40140108 ∧ v.toNat % 2 ^ 16 ≠ 0x6B5A ∧ s.on Reg.TMR_WDCTL.EN = true ∧
      s.on Reg.TMR_WDSTAT.STAGE = true) ∧
    (∃ (v : Word) (s : State), Stores s 0x40140108 ∧ v.toNat % 2 ^ 16 ≠ 0x6B5A ∧ s.on Reg.TMR_WDCTL.EN = false) ∧
    (∃ (s : State), s.on Reg.TMR_WDCTL.EN = true ∧ s.wdog.held = none ∧ s.on Reg.TMR_WDSTAT.STAGE = false) ∧
    (∃ (s : State), s.coreUp = true ∧ s.on Reg.SEC_LCS.DBGOPEN = true) ∧
    (∃ (s : State), s.coreUp = true ∧ s.on Reg.SEC_LCS.DBGOPEN = true ∧ s.sys.dbgHalted = true) ∧
    (∃ (_ : RegNo) (_ : Word) (s : State), s.coreUp = true ∧ s.on Reg.SEC_LCS.DBGOPEN = true) ∧
    (∃ (_ _ : Word) (_ : Fin 3) (s : State), s.rd Reg.SEC_LCS.DBGLEVEL ≠ 2) :=
  ⟨⟨50000, { setFields [(Reg.TMR_WDCTL.EN, 1), (Reg.TMR_WDCFG.T1, 50)] with tbase := 50000 }, by decide +kernel⟩,
   ⟨100000000, { setFields [(Reg.TMR_WDCTL.EN, 1), (Reg.TMR_WDSTAT.STAGE, 1)] with tbase := 7 }, by decide +kernel⟩,
   ⟨(0x12346B5A : Word), { setFields [(Reg.TMR_WDCTL.EN, 1)] with tbase := 7 }, by decide +kernel⟩,
   ⟨(0x6B5A : Word), blank, by decide +kernel⟩,
   ⟨(0x6B5B : Word), setFields [(Reg.TMR_WDCTL.EN, 1)], by decide +kernel⟩,
   ⟨(0x6B5B : Word), setFields [(Reg.TMR_WDCTL.EN, 1), (Reg.TMR_WDSTAT.STAGE, 1)], by decide +kernel⟩,
   ⟨(0x6B5B : Word), blank, by decide +kernel⟩,
   ⟨{ setFields [(Reg.TMR_WDCTL.EN, 1), (Reg.TMR_WDCFG.T1, 50)] with tbase := 50000 }, by decide +kernel⟩,
   ⟨debugOpen, by decide +kernel⟩,
   ⟨{ debugOpen with sys.dbgHalted := true }, by decide +kernel⟩,
   ⟨15, 0x12345678, setFields [(Reg.SEC_LCS.DBGOPEN, 1)] patterned, by decide +kernel⟩,
   ⟨0x20000000, 5, 2, setFields [(Reg.SEC_LCS.DBGLEVEL, 1)] debugOpen, by decide +kernel⟩⟩

theorem test_witness_WatchdogAndDebug_2 :
    (∃ (a _ : Word) (s : State), s.coreUp = true ∧ s.on Reg.SEC_LCS.DBGOPEN = true ∧ s.rd Reg.SEC_LCS.DBGLEVEL = 2 ∧
       0x20000000 ≤ a.toNat ∧ a.toNat < 0x20100000 ∧
      accessCheck { s with cpu := { s.cpu with priv := true } } .store a 4 = none) ∧
    (∃ (_ : DebugOp) (s : State), s.on Reg.SEC_LCS.DBGOPEN = false) ∧
    (∃ (s : State), s.sys.dbgHalted = true ∧ s.sys.dbgStep = false) :=
  ⟨⟨0x200FFFFC, 0x12345678, setFields [(Reg.SEC_LCS.DBGOPEN, 1), (Reg.SEC_LCS.DBGLEVEL, 2)], by decide +kernel⟩,
   ⟨DebugOp.halt, setFields [(Reg.SEC_LCS.DBGOPEN, 0)], by decide +kernel⟩,
   ⟨{ blank with sys := { blank.sys with dbgHalted := true } }, by decide +kernel⟩⟩

theorem test_witness_PredicateFalse :
    ∃ (p : Pred) (op : Op) (s : State), canIssue s = true ∧ accessCheck s .fetch s.cpu.pc 4 = none ∧
      decodeCheck s p op = none ∧ s.cpu.holds p = false :=
  ⟨⟨true, 7⟩, .rr .add 1 2 3 0, patterned, by decide +kernel⟩

theorem test_witness_PrivilegedInTaskMode :
    (∃ (_ : Pred) (s : State) (f : _), canIssue s = true ∧ accessCheck s .fetch s.cpu.pc 4 = none ∧
      s.cpu.priv = false ∧ f ∈ ([.rfe, .wait, .ei, .di] : List SysOp)) ∧
    (∃ (_ : Pred) (s : State), canIssue s = true ∧ accessCheck s .fetch s.cpu.pc 4 = none ∧ s.cpu.priv = false) ∧
    (∃ (_ : Pred) (s : State) (_ : RegNo) (k : BitVec 6), canIssue s = true ∧ accessCheck s .fetch s.cpu.pc 4 = none ∧
       s.cpu.priv = false ∧ ((4 ≤ k.toNat ∧ k.toNat ≤ 6 ∨ 0x10 ≤ k.toNat ∧ k.toNat ≤ 0x1F))) :=
  ⟨⟨always, taskMode, .rfe, by decide +kernel⟩,
   ⟨always, taskMode, by decide +kernel⟩,
   ⟨always, taskMode, 15, 4, by decide +kernel⟩⟩

theorem test_witness_InstructionWords :
    ∃ (p : Pred) (op : Op), wordOk p op = true ∧ op.wordRegs = true :=
  ⟨always, .rr .add 1 2 15 0, by decide +kernel⟩

theorem test_witness_DomainControl :
    (∃ (v : Word) (s : State), Stores s 0x40000010 ∧ v.toNat % 2 = 1 ∧ v.toNat / 2 ^ 24 ≠ 0xA5 ∧
      s.on Reg.SYS_DOMCTRL.LUXEN = false) ∧
    (∃ (_ : Nat) (s : State), s.coreUp = true ∧ s.on Reg.SYS_DOMCTRL.LUXEN = true ∧
      s.on Reg.SYS_DOMCTRL.LUXRDY = false) ∧
    (∃ (v : Word) (s : State), Stores s 0x40000010 ∧ v.toNat / 2 ^ 24 = 0xA5 ∧ v.toNat % 2 = 0 ∧
      v.toNat.testBit 9 = false ∧ v.toNat.testBit 16 = false ∧ s.sys.offReq = none ∧ coreNeeded s = false) ∧
    (∃ (v : Word) (s : State), Stores s 0x40000010 ∧ v.toNat / 2 ^ 24 = 0xA5 ∧
      (v.toNat.testBit 0 = s.on Reg.SYS_DOMCTRL.LUXEN) ∧ v.toNat.testBit 9 = false ∧ v.toNat.testBit 16 = false ∧
       coreNeeded s = true) ∧
    (∃ (v : Word) (s : State), Stores s 0x40000010 ∧ v.toNat / 2 ^ 24 = 0xA5 ∧
      (v.toNat.testBit 0 = s.on Reg.SYS_DOMCTRL.LUXEN) ∧ v.toNat.testBit 16 = false ∧
      (v.toNat.testBit 9 = true ∨ s.sys.offReq.isSome = true)) ∧
    (∃ (v : Word) (s : State), Stores s 0x40000010 ∧ v.toNat / 2 ^ 24 = 0xA5 ∧
      (v.toNat.testBit 0 = s.on Reg.SYS_DOMCTRL.LUXEN) ∧ v.toNat.testBit 16 = false ∧
      (v.toNat.testBit 8 = true ∨ s.sys.offReq.isSome = true ∨ inputAttached s = true)) ∧
    (∃ (v : Word) (s : State), Stores s 0x40000010 ∧ v.toNat / 2 ^ 24 = 0xA5 ∧
      (v.toNat.testBit 0 = s.on Reg.SYS_DOMCTRL.LUXEN) ∧ v.toNat.testBit 8 = false ∧ v.toNat.testBit 16 = false ∧
       s.sys.offReq = none ∧ inputAttached s = false) ∧
    (∃ (s : State), s.pending = [] ∧ s.sys.aonOn = true ∧ s.sys.offReq = some .coreOff ∧ s.sys.alarmFired = true) ∧
    (∃ (s : State), s.pending = [] ∧ s.sys.aonOn = true ∧ s.sys.offReq = some .ship) ∧
    (∃ (_ : Fin 4) (_ : Fin 8) (s : State), (s.sys.shipMode = true ∨ s.sys.offReq = some .ship)) ∧
    (∃ (_ : Word) (s : State), Stores s 0x40000020) ∧
    (∃ (_ : Word) (s : State), Stores s 0x40000040) :=
  ⟨⟨1, blank, by decide +kernel⟩,
   ⟨0, setFields [(Reg.SYS_DOMCTRL.LUXEN, 1)] (blank.setByte 0x30030BFF 7), by decide +kernel⟩,
   ⟨0xA5000000, blank, by decide +kernel⟩,
   ⟨0xA5000001, setFields [(Reg.SYS_DOMCTRL.LUXEN, 1)], by decide +kernel⟩,
   ⟨0xA5000200, blank, by decide +kernel⟩,
   ⟨0xA5000100, blank, by decide +kernel⟩,
   ⟨0xA5000200, blank, by decide +kernel⟩,
   ⟨{ blank with sys.offReq := some .coreOff, sys.alarmFired := true }, by decide +kernel⟩,
   ⟨{ blank with sys.offReq := some .ship }, by decide +kernel⟩,
   ⟨0, 5, { blank with sys.shipMode := true, sys.aonOn := false }, by decide +kernel⟩,
   ⟨0xFFFFFFFF, setFields [(Reg.SYS_RSTCAUSE.FATAL, 1),(Reg.SYS_RSTCAUSE.COREREQ, 1)], by decide +kernel⟩,
   ⟨0xFFFFFFFF, blank, by decide +kernel⟩⟩

theorem test_witness_WakeAndClocks :
    (∃ (n : Fin 9) (t : Nat) (s : State), s.sys.aonOn = true ∧ s.sys.shipMode = false ∧ s.sys.coreOn = true ∧ n ≠ 4 ∧
       ((n = 5 → kbdLocked s = false)) ∧ ((n = 7 → s.sys.alarm ≤ max s.tbase t))) ∧
    (∃ (n : Fin 9) (t : Nat) (s : State), aonOnly s = true ∧ s.on ⟨0x40000040, n.val, 1⟩ = true ∧ n ≠ 4 ∧
      ((n = 5 → kbdLocked s = false)) ∧ ((n = 7 → s.sys.alarm ≤ max s.tbase t))) ∧
    (∃ (n : Fin 9) (t : Nat) (s : State), ((n = 5 ∧ kbdLocked s = true) ∨ (n = 7 ∧ max s.tbase t < s.sys.alarm))) ∧
    (∃ (t : Nat) (s : State), s.sys.aonOn = true ∧ s.sys.shipMode = false ∧ s.sys.coreOn = true ∧
      s.sys.alarmFired = false ∧ s.sys.alarm ≤ max s.tbase t) ∧
    (∃ (t : Nat) (s : State), max s.tbase t < s.sys.alarm) ∧
    (∃ (v : Word) (s : State), Stores s 0x4000004C ∧ s.tbase < s.rd Reg.SYS_WAKEALARMLO.ALARMLO + 2 ^ 32 * v.toNat) ∧
    (∃ (v : Word) (s : State), Stores s 0x40000030 ∧ s.on Reg.SYS_CLKCFG.CLKBUSY = false ∧
      s.on Reg.SYS_CLKCFG.ONOSC10 = false ∧ v.toNat % 16 ≠ s.rd Reg.SYS_CLKCFG.CORESEL) ∧
    (∃ (_ : Word) (s : State), Stores s 0x40000030 ∧ s.on Reg.SYS_CLKCFG.CLKBUSY = true) ∧
    (∃ (_ : Nat) (s : State), s.sys.coreOn = true ∧ s.on Reg.SYS_CLKCFG.CLKBUSY = true ∧ s.sys.pllBack = false) ∧
    (∃ (_ : Nat) (s : State), s.sys.coreOn = true ∧ s.on Reg.SYS_CLKCFG.PLLLOCK = true) ∧
    (∃ (_ : Nat) (s : State), s.sys.coreOn = true ∧ s.on Reg.SYS_CLKCFG.ONOSC10 = true) ∧
    (∃ (_ : Bool) (_ : Nat) (s : State), s.sys.coreOn = true) :=
  ⟨⟨8, 5, blank, by decide +kernel⟩,
   ⟨8, 5, setFields [(⟨0x40000040, 8, 1⟩,
     1)] { blank with sys.coreOn := false, sys.v18en := false, sys.v18pg := false }, by decide +kernel⟩,
   ⟨5, 5, setFields [(Reg.KSC_LOCKCTL.LOCK, 1)], by decide +kernel⟩,
   ⟨5, { blank with sys.alarm := 5 }, by decide +kernel⟩,
   ⟨4, { blank with sys.alarm := 5 }, by decide +kernel⟩,
   ⟨1, blank, by decide +kernel⟩,
   ⟨15, blank, by decide +kernel⟩,
   ⟨0xFFFFFFFF, setFields [(Reg.SYS_CLKCFG.CLKBUSY, 1)], by decide +kernel⟩,
   ⟨3, setFields [(Reg.SYS_CLKCFG.CLKBUSY, 1)], by decide +kernel⟩,
   ⟨3, setFields [(Reg.SYS_CLKCFG.PLLLOCK, 1)], by decide +kernel⟩,
   ⟨3, setFields [(Reg.SYS_CLKCFG.ONOSC10, 1), (Reg.SYS_CLKCFG.PLLLOCK, 0)], by decide +kernel⟩,
   ⟨true, 3, blank, by decide +kernel⟩⟩

theorem test_witness_ResetRequests :
    (∃ (v : Word) (s : State), Stores s 0x40000014 ∧ v.toNat.testBit 1 = false ∧ v.toNat.testBit 2 = false ∧
       v.toNat.testBit 3 = false ∧ s.sys.waiting = none) ∧
    (∃ (v : Word) (s : State), Stores s 0x40000014 ∧ v.toNat.testBit 0 = false ∧ v.toNat.testBit 1 = false ∧
       v.toNat.testBit 2 = false ∧ s.sys.waiting = none) ∧
    (∃ (v : Word) (s : State), Stores s 0x40000014 ∧ v.toNat % 16 = 0 ∧ s.sys.waiting = none) ∧
    (∃ (v : Word) (s : State), Stores s 0x40000014 ∧ v.toNat % 16 = 0) ∧
    (∃ (v : Word) (s : State), Stores s 0x40000014 ∧ v.toNat / 2 ^ 24 ≠ 0x5C) ∧
    (∃ (_ : Nat) (s : State), s.coreUp = true ∧ s.sys.waiting = some .domain ∧ s.log.front = [] ∧ s.sys.v18pg = true ∧
       s.nvc.cmd = none ∧ s.fgd.active = none) ∧
    (∃ (_ : Nat) (s : State), s.coreUp = true ∧ s.sys.waiting = some .cold ∧ s.log.front = []) :=
  ⟨⟨0x5C000001, blank, by decide +kernel⟩,
   ⟨0x5C000008, blank, by decide +kernel⟩,
   ⟨0x5C000000, blank, by decide +kernel⟩,
   ⟨0x5C000000, { blank with sys.waiting := some .domain }, by decide +kernel⟩,
   ⟨0x5D000003, blank, by decide +kernel⟩,
   ⟨5, { { patterned with kpf.state := 1, firn := [(3, 5)], mem := [(0x20000000, 1)] } with sys.waiting := some .domain, sys.waitingCauses := 0x20 },
      by decide +kernel⟩,
   ⟨5, { { patterned with kpf.state := 1, firn := [(3, 5)], mem := [(0x20000000, 1)] } with sys.waiting := some .cold, sys.waitingCauses := 8 },
      by decide +kernel⟩⟩

theorem test_witness_SupplyAndStartUp :
    (∃ (_ : Fin 4) (_ : Fin 8) (_ : Bool) (s : State), s.sys.aonOn = false ∧ s.sys.shipMode = false) ∧
    (∃ (_ : Nat) (s : State), s.sys.aonOn = true) ∧
    (∃ (_ : Nat) (s : State), s.sys.aonOn = true ∧ s.sys.waitPg = true) ∧
    (∃ (_ : Nat) (s : State), s.sys.aonOn = true ∧ s.sys.coreOn = true ∧ s.sys.waiting ≠ some .cold) ∧
    (∃ (t : Nat) (s : State), s.sys.aonOn = true ∧ s.sys.waitPg = true ∧ s.sys.pgSince + 20000 ≤ max s.tbase t) ∧
    (∃ (t : Nat) (s : State), s.sys.aonOn = true ∧ s.sys.retryWait = true ∧ s.sys.pgSince + 1000000 ≤ max s.tbase t) ∧
    (∃ (_ : Nat) (s : State), s.sys.wiping = true) ∧
    (∃ (_ : Word) (s : State), Stores s 0x40000018 ∧ s.on Reg.SYS_PADHOLD.HOLD = true) ∧
    (∃ (s : State), Loads s 0x40150014) ∧
    (∃ (_ : Bool) (_ : Nat) (s : State) (dst : Nat), s.sec.seq = some (.transition dst) ∧ s.coreUp = true ∧
       s.log.front = [] ∧ s.nvc.cmd = none ∧ s.sys.v18pg = true ∧ s.sys.waiting ≠ some .cold) ∧
    (∃ (_ : Bool) (_ : Nat) (s : State) (dst : Nat), s.sec.seq = some (.transition dst) ∧ s.coreUp = true ∧
       s.log.front = [] ∧ s.nvc.cmd = none) :=
  ⟨⟨0, 5, false, { blank with sys.aonOn := false }, by decide +kernel⟩,
   ⟨5, patterned, by decide +kernel⟩,
   ⟨7, { blank with sys.coreOn := false, sys.v18pg := false, sys.waitPg := true, sys.attempts := 2 },
     by decide +kernel⟩,
   ⟨7, blank, by decide +kernel⟩,
   ⟨20000, { blank with sys.waitPg := true }, by decide +kernel⟩,
   ⟨1000000, { blank with sys.retryWait := true }, by decide +kernel⟩,
   ⟨7, { { patterned with kpf.state := 1, firn := [(3, 5)], mem := [(0x20000000, 1)] } with sys.wiping := true, sys.causes := 0x1F },
      by decide +kernel⟩,
   ⟨0, setFields [(Reg.SYS_PADHOLD.HOLD, 1)], by decide +kernel⟩,
   ⟨setFields [(Reg.ERR_ECCCNT.CORR, 0xFFFF), (Reg.ERR_ECCCNT.DED, 7)], by decide +kernel⟩,
   ⟨true, 5, { blank with sec.seq := some (.transition 2) }, 2, by decide +kernel⟩,
   ⟨false, 5, { blank with sec.seq := some (.transition 2) }, 2, by decide +kernel⟩⟩

theorem test_witness_EspiTransactions_1 :
    (∃ (x : Txn) (a n : Nat) (s : State),
      let base := (edge x s).rd Reg.CFG_WINBASE.WINBASE / 2 ^ 16 * 2 ^ 16; EspiOk x s ∧
      (edge x s).link.cfgPeriph.testBit 0 = true ∧ 1 ≤ n ∧ n ≤ 64 ∧ (edge x s).on Reg.CFG_ENABLE.WINDEC = true ∧
      base ≤ a ∧ a - base + n ≤ 0x3000) ∧
    (∃ (x : Txn) (t : Fin 8) (i : Nat) (d : List Byte) (s : State), EspiOk x s ∧
      (edge x s).link.cfgPeriph.testBit 0 = true ∧ d ≠ [] ∧ d.length ≤ 64 ∧ 16 ≤ i ∧ i + d.length ≤ 0x200 ∧
      (edge x s).on Reg.CFG_ENABLE.WINDEC = true ∧ (edge x s).link.pages.testBit 2 = true ∧
      (((edge x s).rd (Reg.MBX_TAGINFO.STATE t) = 0 ∨ (edge x s).rd (Reg.MBX_TAGINFO.STATE t) = 3)) ∧
      (edge x s).mbx.replay = []) ∧
    (∃ (x : Txn) (s : State) (port : BitVec 16), EspiOk x s ∧ (edge x s).link.cfgPeriph.testBit 0 = true ∧
      portSel (edge x s) port.toNat = .ecData) ∧
    (∃ (x : Txn) (s : State) (port : BitVec 16), EspiOk x s ∧ (edge x s).link.cfgPeriph.testBit 0 = true ∧
      portSel (edge x s) port.toNat = .cfgIndex) ∧
    (∃ (x : Txn) (b : Byte) (s : State), EspiOk x s ∧ (edge x s).link.cfgWire.testBit 0 = true ∧ b.getLsbD 4 = true) ∧
    (∃ (x : Txn) (g : Nat) (b : Byte) (s : State), EspiOk x s ∧ (edge x s).link.cfgWire.testBit 0 = true ∧
       waitingGroups (edge x s) = [(g, b)] ∧ 2 ≤ g) ∧
    (∃ (x : Txn) (s : State), EspiOk x s ∧ (edge x s).link.cfgWire.testBit 0 = true ∧ waitingGroups (edge x s) = []) ∧
    (∃ (x : Txn) (msg : List Byte) (s : State), EspiOk x s ∧ (edge x s).link.cfgOob.testBit 0 = true ∧ msg ≠ [] ∧
       msg.length ≤ 68 ∧ (msg.headD 0).toNat / 2 = (edge x s).rd Reg.HOST_CTRL.OOBADDR ∧
      (edge x s).on Reg.HOST_OOBRX.FULL = false) ∧
    (∃ (x : Txn) (s : State), EspiOk x s ∧ (edge x s).link.cfgOob.testBit 0 = true) ∧
    (∃ (x : Txn) (_ : Fin 16) (_ n : Nat) (s : State), EspiOk x s ∧ (edge x s).link.cfgFlash.testBit 0 = true ∧
      (edge x s).link.flashBusy = false ∧ (edge x s).coreUp = true ∧ 1 ≤ n ∧ n ≤ 64) ∧
    (∃ (x : Txn) (d : FlashDone) (s : State), EspiOk x s ∧ (edge x s).link.cfgFlash.testBit 0 = true ∧
      (edge x s).link.flashDone = some d ∧ (edge x s).on Reg.HOST_VWIN.HOSTRSTWARN = false) ∧
    (∃ (x : Txn) (s : State), EspiOk x s) :=
  ⟨⟨txn, 0xFE000000, 64, espiLink, by decide +kernel⟩,
   ⟨txn, 7, 0x1FF, [5], espiLink, by decide +kernel⟩,
   ⟨txn, { setFields [(Reg.EC_STATUS.OBF, 1)] espiLink with ec.out := 9 }, 0x62, by decide +kernel⟩,
   ⟨txn, espiLink, 0x4E, by decide +kernel⟩,
   ⟨txn, 0x11, espiLink, by decide +kernel⟩,
   ⟨txn, 6, groupByte { espiLink with link.groups := [6] } 6, { espiLink with link.groups := [6] }, by decide +kernel⟩,
   ⟨txn, espiLink, by decide +kernel⟩,
   ⟨txn, [0x40], espiLink, by decide +kernel⟩,
   ⟨txn, setFields [(Reg.HOST_OOBTX.BUSY, 1), (Reg.HOST_OOBTX.LEN, 68)] espiLink, by decide +kernel⟩,
   ⟨txn, 15, 0xFFFFFFFF, 64, espiLink, by decide +kernel⟩,
   ⟨txn, ⟨5, true, [1,2]⟩, { espiLink with link.flashDone := some ⟨5, true, [1,2]⟩, link.flashBusy := true },
     by decide +kernel⟩,
   ⟨txn, espiLink, by decide +kernel⟩⟩

theorem test_witness_EspiTransactions_2 :
    (∃ (x : Txn) (_ : Word) (s : State), EspiOk x s) ∧
    (∃ (x : Txn) (_ : Unsupported) (s : State), EspiOk x s ∧ (edge x s).rd Reg.HOST_ERRCNT.FRAME < 65535) :=
  ⟨⟨txn, 1, espiLink, by decide +kernel⟩,
   ⟨txn, .opcode, espiLink, by decide +kernel⟩⟩

theorem test_witness_TransactionsWithoutEffect :
    (∃ (x : Txn) (a n : Nat) (d : List Byte) (port : BitVec 16) (b : Byte) (g : List (Nat × Byte)) (tag : Fin 16) (r : FlashAsk) (v : Word) (k : Unsupported) (s : State) (i : _),
       i ∈ [Instr.memoryRead x a n, .memoryWrite x a d, .ioRead x port, .ioWrite x port b, .putVw x g, .getVw x,
       .putOob x d, .getOob x, .putFlash x tag r, .getFlash x, .getStatus x, .getConfiguration x port,
       .setConfiguration x port v, .resetCommand x, .unsupportedCommand x k] ∧ s.hostOn = true ∧ s.espi = true ∧
       x.crcOk = false) ∧
    (∃ (x : Txn) (a n : Nat) (d : List Byte) (port : BitVec 16) (b : Byte) (g : List (Nat × Byte)) (tag : Fin 16) (r : FlashAsk) (v : Word) (k : Unsupported) (s : State) (i : _),
       i ∈ [Instr.memoryRead x a n, .memoryWrite x a d, .ioRead x port, .ioWrite x port b, .putVw x g, .getVw x,
       .putOob x d, .getOob x, .putFlash x tag r, .getFlash x, .getStatus x, .getConfiguration x port,
       .setConfiguration x port v, .resetCommand x, .unsupportedCommand x k] ∧ s.hostOn = true ∧ s.espi = true ∧
       x.crcOk = true ∧ x.completed = false) ∧
    (∃ (x : Txn) (a n : Nat) (d : List Byte) (port : BitVec 16) (b : Byte) (g : List (Nat × Byte)) (tag : Fin 16) (r : FlashAsk) (v : Word) (k : Unsupported) (s : State) (i : _),
       i ∈ [Instr.memoryRead x a n, .memoryWrite x a d, .ioRead x port, .ioWrite x port b, .putVw x g, .getVw x,
       .putOob x d, .getOob x, .putFlash x tag r, .getFlash x, .getStatus x, .getConfiguration x port,
       .setConfiguration x port v, .resetCommand x, .unsupportedCommand x k] ∧ (s.hostOn && s.espi) = false) ∧
    (∃ (x : Txn) (a : BitVec 24) (n : BitVec 16) (d : List Byte) (s : State) (i : _),
      i ∈ [Instr.singleReadFrame x a n, .singleWriteFrame x a d, .quadReadFrame x a n, .quadWriteFrame x a d] ∧
       s.hostOn = true ∧ s.spi = true ∧ x.crcOk = false ∧ x.completed = true) ∧
    (∃ (x : Txn) (a : BitVec 24) (n : BitVec 16) (d : List Byte) (s : State) (i : _),
      i ∈ [Instr.singleReadFrame x a n, .singleWriteFrame x a d, .quadReadFrame x a n, .quadWriteFrame x a d] ∧
       s.hostOn = true ∧ s.spi = true ∧ x.completed = false) ∧
    (∃ (x : Txn) (a : BitVec 24) (n : BitVec 16) (d : List Byte) (s : State) (i : _),
      i ∈ [Instr.singleReadFrame x a n, .singleWriteFrame x a d, .quadReadFrame x a n, .quadWriteFrame x a d] ∧
       (s.hostOn && s.spi) = false) :=
  ⟨⟨⟨5, false, false, true⟩, 0xFE001010, 5, [1], 0x62, 3, [(2, 0x11)], 4, .other, 5, .opcode, espiLink,
     .memoryRead (⟨5, false, false, true⟩) 0xFE001010 5, by decide +kernel⟩,
   ⟨⟨5, false, true, false⟩, 0xFE001010, 5, [1], 0x62, 3, [(2, 0x11)], 4, .other, 5, .opcode, espiLink,
     .memoryRead (⟨5, false, true, false⟩) 0xFE001010 5, by decide +kernel⟩,
   ⟨txn, 0xFE001010, 5, [1], 0x62, 3, [(2, 0x11)], 4, .other, 5, .opcode, blank, .getOob txn, by decide +kernel⟩,
   ⟨⟨5, false, false, true⟩, 0x1010, 4, [1], spiLink, .singleReadFrame (⟨5, false, false, true⟩) 0x1010 4,
     by decide +kernel⟩,
   ⟨⟨5, false, true, false⟩, 0x1010, 4, [1], spiLink, .singleReadFrame (⟨5, false, true, false⟩) 0x1010 4,
     by decide +kernel⟩,
   ⟨txn, 0x1010, 4, [1], blank, .singleReadFrame txn 0x1010 4, by decide +kernel⟩⟩

theorem test_witness_SpiFrames :
    (∃ (x : Txn) (a : BitVec 24) (n : BitVec 16) (s : State) (i : _), SpiOk x s ∧ 1 ≤ n.toNat ∧ n.toNat ≤ 512 ∧
       a.toNat + n.toNat ≤ 0x3000 ∧ i ∈ [Instr.singleReadFrame x a n, .quadReadFrame x a n]) ∧
    (∃ (x : Txn) (t : Fin 8) (k : Nat) (d : List Byte) (s : State) (i : _), SpiOk x s ∧ d ≠ [] ∧ 16 ≤ k ∧
      k + d.length ≤ 0x200 ∧ (edge x s).link.pages.testBit 2 = true ∧
      (((edge x s).rd (Reg.MBX_TAGINFO.STATE t) = 0 ∨ (edge x s).rd (Reg.MBX_TAGINFO.STATE t) = 3)) ∧
      (edge x s).mbx.replay = [] ∧ i ∈ [Instr.singleWriteFrame x (BitVec.ofNat 24 (0x1000 + 0x200 * t + k)) d,
       .quadWriteFrame x (BitVec.ofNat 24 (0x1000 + 0x200 * t + k)) d]) ∧
    (∃ (_ : Txn) (s : State), s.hostOn = true ∧ s.spi = true) ∧
    (∃ (_ : Nat) (_ : Bool) (s : State), s.spi = true) :=
  ⟨⟨txn, 0, 512, spiLink, Instr.singleReadFrame txn 0 512, by decide +kernel⟩,
   ⟨txn, 7, 0x1FF, [5], spiLink, Instr.singleWriteFrame txn 0x1FFF [5], by decide +kernel⟩,
   ⟨txn, spiLink, by decide +kernel⟩,
   ⟨4, true, spiLink, by decide +kernel⟩⟩

theorem test_witness_EcServerAtHostReset :
    (∃ (_ : Nat) (s : State), s.hostOn = true ∧ ((s.espi = true ∨ s.spi = true))) ∧
    (∃ (_ : Nat) (s : State), s.hostOn = false ∧ s.sys.aonOn = true ∧ s.sys.shipMode = false) :=
  ⟨⟨5, setFields [(Reg.EC_STATUS.OBF, 1), (Reg.EC_STATUS.IBF, 1), (Reg.EC_STATUS.BURST, 1), (Reg.HW_HOSTCTL.HOLD, 1),
      (Reg.HW_EVMASK.EVMASK,
     7)] { espiLink with ec.inq := [(1, false)], ec.held := some (1, 2), ec.image := [(3, 4)], ec.qq := [7], ec.wq := [(1, 2)] },
      by decide +kernel⟩,
   ⟨5, setFields [(Reg.HOST_STAT.HOSTPWR, 0)] (setFields [(Reg.EC_STATUS.OBF, 1), (Reg.EC_STATUS.IBF, 1),
      (Reg.EC_STATUS.BURST, 1), (Reg.HW_HOSTCTL.HOLD, 1), (Reg.HW_EVMASK.EVMASK,
     7)] { espiLink with ec.inq := [(1, false)], ec.held := some (1, 2), ec.image := [(3, 4)], ec.qq := [7], ec.wq := [(1, 2)] }),
      by decide +kernel⟩⟩

theorem test_witness_HostPowerAndReset :
    (∃ (_ : Nat) (s : State), s.hostOn = false ∧ s.sys.aonOn = true ∧ s.sys.shipMode = false) ∧
    (∃ (_ : Nat) (s : State), s.hostOn = true) ∧
    (∃ (_ : Nat) (s : State), s.hostOn = true ∧ ((s.espi = true ∨ s.spi = true))) ∧
    (∃ (t : Nat) (s : State), s.hostOn = true ∧ s.on Reg.HW_HOSTCTL.HOLD = true ∧
      s.link.holdAt + 2000 ≤ max s.tbase t) ∧
    (∃ (s : State), s.on Reg.HW_HOSTCTL.HOLD = true ∧ s.link.holdExpired = true) :=
  ⟨⟨5, setFields [(Reg.HOST_STAT.HOSTPWR, 0)] (setFields [(Reg.EC_STATUS.OBF, 1), (Reg.EC_STATUS.IBF, 1),
      (Reg.EC_STATUS.BURST, 1), (Reg.HW_HOSTCTL.HOLD, 1), (Reg.HW_EVMASK.EVMASK,
     7)] { espiLink with ec.inq := [(1, false)], ec.held := some (1, 2), ec.image := [(3, 4)], ec.qq := [7], ec.wq := [(1, 2)] }),
      by decide +kernel⟩,
   ⟨5, setFields [(Reg.EC_STATUS.OBF, 1), (Reg.EC_STATUS.IBF, 1), (Reg.EC_STATUS.BURST, 1), (Reg.HW_HOSTCTL.HOLD, 1),
      (Reg.HW_EVMASK.EVMASK,
     7)] { espiLink with ec.inq := [(1, false)], ec.held := some (1, 2), ec.image := [(3, 4)], ec.qq := [7], ec.wq := [(1, 2)] },
      by decide +kernel⟩,
   ⟨5, setFields [(Reg.EC_STATUS.OBF, 1), (Reg.EC_STATUS.IBF, 1), (Reg.EC_STATUS.BURST, 1), (Reg.HW_HOSTCTL.HOLD, 1),
      (Reg.HW_EVMASK.EVMASK,
     7)] { espiLink with ec.inq := [(1, false)], ec.held := some (1, 2), ec.image := [(3, 4)], ec.qq := [7], ec.wq := [(1, 2)] },
      by decide +kernel⟩,
   ⟨2000, setFields [(Reg.HW_HOSTCTL.HOLD, 1)] espiLink, by decide +kernel⟩,
   ⟨{ setFields [(Reg.HW_HOSTCTL.HOLD, 1)] espiLink with link.holdExpired := true }, by decide +kernel⟩⟩

theorem test_witness_PostsAndTags_1 :
    (∃ (v : Word) (s : State), Stores s 0x400C0010 ∧ Reg.HOST_POST.CLOSE.of v.toNat = 0 ∧
      Reg.HOST_POST.ABORT.of v.toNat = 0 ∧ Reg.HOST_POST.FULL.of v.toNat = 0 ∧ Reg.HOST_POST.DROPPED.of v.toNat = 0 ∧
       s.link.opened = none) ∧
    (∃ (v : Word) (p : Post) (s : State), Stores s 0x400C0010 ∧ Reg.HOST_POST.OPEN.of v.toNat = 0 ∧
       Reg.HOST_POST.FULL.of v.toNat = 0 ∧ Reg.HOST_POST.DROPPED.of v.toNat = 0 ∧ s.hostOn = true ∧
      s.link.opened = some p ∧ s.link.closed = none ∧ ((({} : Post).merge p).bytes.length + p.pushes.length) ≤ 512) ∧
    (∃ (v : Word) (s : State), Stores s 0x400C0010 ∧ Reg.HOST_POST.OPEN.of v.toNat = 0 ∧
      Reg.HOST_POST.CLOSE.of v.toNat = 0 ∧ Reg.HOST_POST.FULL.of v.toNat = 0 ∧ Reg.HOST_POST.DROPPED.of v.toNat = 0) ∧
    (∃ (off : BitVec 14) (_ : Word) (p : Post) (s : State), Stores s (0x400C4000 + off.toNat) ∧
      s.link.opened = some p ∧ 16 ≤ off.toNat) ∧
    (∃ (_ : Word) (s : State), Stores s 0x400C0004) ∧
    (∃ (_ : Word) (s : State), Stores s 0x400C0050) ∧
    (∃ (v : Word) (s : State), Stores s 0x400C0054 ∧ s.hostOn = true ∧ s.on Reg.HOST_OOBTX.BUSY = false ∧
      1 ≤ v.toNat % 128 ∧ v.toNat % 128 ≤ 68) ∧
    (∃ (_ : Word) (s : State), Stores s 0x400C0034) ∧
    (∃ (s : State), Loads s 0x400C0040) ∧
    (∃ (s : State), Loads s 0x400D001C) ∧
    (∃ (_ : Word) (s : State), Stores s 0x400D0014) ∧
    (∃ (v : Word) (s : State), Stores s 0x400D0000 ∧ v.toNat % 2 = 1 ∧ s.hostOn = true) :=
  ⟨⟨0, espiLink, by decide +kernel⟩,
   ⟨2, { bytes := [(16, 5), (17, 6)], pushes := [1] },
     { espiLink with link.opened := some { bytes := [(16, 5), (17, 6)], pushes := [1] }, tbase := 9 },
     by decide +kernel⟩,
   ⟨0, { espiLink with link.opened := some {} }, by decide +kernel⟩,
   ⟨16, 0x12345678, {}, { espiLink with link.opened := some {} }, by decide +kernel⟩,
   ⟨0x15, { espiLink with tbase := 8 }, by decide +kernel⟩,
   ⟨0, setFields [(Reg.HOST_OOBRX.FULL, 1), (Reg.HOST_OOBRX.LEN, 9)] espiLink, by decide +kernel⟩,
   ⟨68, espiLink, by decide +kernel⟩,
   ⟨0x1F, espiLink, by decide +kernel⟩,
   ⟨setFields [(Reg.HOST_ERRCNT.CRC, 65535), (Reg.HOST_ERRCNT.FRAME, 3)] espiLink, by decide +kernel⟩,
   ⟨setFields [(Reg.MBX_CNT.DUP, 65535), (Reg.MBX_CNT.HWANS, 3)] espiLink, by decide +kernel⟩,
   ⟨0xFF, setFields [(Reg.MBX_TAGINFO.STATE 0, 1), (Reg.MBX_TAGINFO.STATE 7, 1), (Reg.MBX_TAGINFO.STATE 3, 3),
      (Reg.MBX_TAGINFO.STATE 4, 2)] espiLink, by decide +kernel⟩,
   ⟨1, setFields [(Reg.MBX_CTRL.FWREADY, 0), (Reg.HW_MBXCTL.FWREADY, 0)] espiLink, by decide +kernel⟩⟩

theorem test_witness_PostsAndTags_2 :
    (∃ (v : Word) (p : Post) (s : State), Stores s 0x400D0018 ∧ s.rd (Reg.MBX_TAGINFO.STATE (v.toNat % 8)) = 2 ∧
       s.link.opened = some p) ∧
    (∃ (v : Word) (s : State), Stores s 0x400D0018 ∧ s.rd (Reg.MBX_TAGINFO.STATE (v.toNat % 8)) ≠ 2) ∧
    (∃ (off : BitVec 12) (_ : Word) (s : State), Stores s (0x400D1000 + off.toNat) ∧
      s.rd (Reg.MBX_TAGINFO.STATE (off.toNat / 0x200)) = 2 ∧ 16 ≤ off.toNat % 0x200) :=
  ⟨⟨0x107, {}, setFields [(Reg.MBX_TAGINFO.STATE 7, 2)] { espiLink with link.opened := some {} }, by decide +kernel⟩,
   ⟨7, espiLink, by decide +kernel⟩,
   ⟨0xFFC, 0x12345678, setFields [(Reg.MBX_TAGINFO.STATE 7, 2)] espiLink, by decide +kernel⟩⟩

theorem test_witness_MailboxDoorbell :
    (∃ (x : Txn) (_ : Fin 8) (s : State), (edge x s).link.pages.testBit 1 = true ∧ EspiOk x s ∧
      (edge x s).link.cfgPeriph.testBit 0 = true ∧ (edge x s).on Reg.CFG_ENABLE.WINDEC = true) ∧
    (∃ (x : Txn) (t : Fin 8) (s : State) (i : _), (edge x s).link.pages.testBit 1 = true ∧ SpiOk x s ∧
      i ∈ [Instr.singleWriteFrame x 0x800 [BitVec.ofNat 8 (2 ^ t.val)],
      .quadWriteFrame x 0x800 [BitVec.ofNat 8 (2 ^ t.val)]]) ∧
    (∃ (t : Nat) (s : State), let q := s.rd (Reg.MBX_TAGINFO.STATE t); t < 8 ∧ (q = 1 ∨ q = 2)) ∧
    (∃ (t : Nat) (s : State), let q := s.rd (Reg.MBX_TAGINFO.STATE t); t < 8 ∧ (q = 0 ∨ q = 3) ∧ t ∈ s.mbx.replay) ∧
    (∃ (t : Nat) (s : State), let q := s.rd (Reg.MBX_TAGINFO.STATE t); t < 8 ∧ (q = 0 ∨ q = 3) ∧ t ∉ s.mbx.replay ∧
       496 < s.loadNat (mbxBase + 0x200 * t + 4) 2) ∧
    (∃ (t : Nat) (s : State), let q := s.rd (Reg.MBX_TAGINFO.STATE t); t < 8 ∧ (q = 0 ∨ q = 3) ∧ t ∉ s.mbx.replay ∧
       s.loadNat (mbxBase + 0x200 * t + 4) 2 ≤ 496 ∧ s.on Reg.HW_MBXCTL.FWREADY = false) ∧
    (∃ (t : Nat) (s : State), let q := s.rd (Reg.MBX_TAGINFO.STATE t); t < 8 ∧ (q = 0 ∨ q = 3) ∧ t ∉ s.mbx.replay ∧
       s.loadNat (mbxBase + 0x200 * t + 4) 2 ≤ 496 ∧ s.on Reg.HW_MBXCTL.FWREADY = true) ∧
    (∃ (t : Nat) (_ : State) (k : _), t < 8 ∧ k < 8 ∧ k ≠ t) :=
  ⟨⟨txn, 7, espiLink, by decide +kernel⟩,
   ⟨txn, 7, spiLink, .singleWriteFrame txn 0x800 [0x80], by decide +kernel⟩,
   ⟨7, setFields [(Reg.MBX_TAGINFO.STATE 7, 1)] espiLink, by decide +kernel⟩,
   ⟨7, setFields [(Reg.MBX_TAGINFO.STATE 7, 3)] { espiLink with mbx.replay := [7] }, by decide +kernel⟩,
   ⟨7, espiLink.storeNat 0x400D1E04 2 497, by decide +kernel⟩,
   ⟨7, setFields [(Reg.HW_MBXCTL.FWREADY, 0)] (espiLink.storeNat 0x400D1E04 2 496), by decide +kernel⟩,
   ⟨7, espiLink.storeNat 0x400D1E04 2 496, by decide +kernel⟩,
   ⟨7, espiLink, 0, by decide +kernel⟩⟩

theorem test_witness_EcAndBulk_1 :
    (∃ (x : Txn) (s : State), EspiOk x s ∧ Quiet s ∧ s.link.cfgPeriph.testBit 0 = true ∧
      s.on Reg.EC_STATUS.IBF = false ∧ portSel s (s.rd Reg.CFG_ECCMD.ECCMD) = .ecCmd ∧
      portSel s (s.rd Reg.CFG_ECDATA.ECDATA) = .ecData) ∧
    (∃ (x : Txn) (s : State) (_ _ : Byte), EspiOk x s ∧ Quiet s ∧ s.link.cfgPeriph.testBit 0 = true ∧
      s.on Reg.EC_STATUS.IBF = false ∧ portSel s (s.rd Reg.CFG_ECCMD.ECCMD) = .ecCmd ∧
      portSel s (s.rd Reg.CFG_ECDATA.ECDATA) = .ecData ∧ s.ec.wq.length < 16) ∧
    (∃ (x : Txn) (s : State) (c : Byte), EspiOk x s ∧ Quiet s ∧ s.link.cfgPeriph.testBit 0 = true ∧
      s.on Reg.EC_STATUS.IBF = false ∧ portSel s (s.rd Reg.CFG_ECCMD.ECCMD) = .ecCmd ∧
      portSel s (s.rd Reg.CFG_ECDATA.ECDATA) = .ecData ∧ 0x84 < c.toNat) ∧
    (∃ (_ : Word) (p : Post) (s : State), s.link.opened = some p ∧ Stores s 0x400D008C) ∧
    (∃ (_ : Word) (p : Post) (s : State), s.link.opened = some p ∧ Stores s 0x400D0090) ∧
    (∃ (_ : Word) (p : Post) (s : State) (off : BitVec 8), s.link.opened = some p ∧ Stores s (0x400D8000 + off.toNat)) ∧
    (∃ (b : Byte) (c : Bool) (r : List (Byte × Bool)) (s : State), Loads s 0x400D0084 ∧ s.ec.inq = (b, c) :: r) ∧
    (∃ (a d : Byte) (r : List (Byte × Byte)) (s : State), Loads s 0x400D0088 ∧ s.ec.wq = (a, d) :: r ∧
      s.ec.held = none) ∧
    (∃ (_ a : Nat) (b : Byte) (r : List BulkItem) (s : State), s.coreUp = true ∧ s.bulk.wfifo = .byte b a false :: r ∧
       s.rd Reg.HW_BULK_TARGET.TARGET = 2 ∧ s.on Reg.SYS_DOMCTRL.LUXEN = true ∧ s.on Reg.SYS_DOMCTRL.LUXRDY = true) ∧
    (∃ (_ : Nat) (e : Bool) (r : List BulkItem) (s : State), s.bulk.wfifo = .close e :: r ∧
      s.rd Reg.HW_BULK_TARGET.TARGET = 2) ∧
    (∃ (b0 b1 b2 b3 : Byte) (a0 a1 a2 a3 : Nat) (r : List BulkItem) (s : State), Loads s 0x400D00A8 ∧
      s.rd Reg.HW_BULK_TARGET.TARGET = 4 ∧
      s.bulk.wfifo = .byte b0 a0 false :: .byte b1 a1 false :: .byte b2 a2 false :: .byte b3 a3 false :: r) ∧
    (∃ (_ : Word) (s : State), Stores s 0x400D00AC ∧ s.hostOn = true ∧ s.bulk.rfifo.length ≤ 4092) :=
  ⟨⟨txn, { setFields [(Reg.EC_STATUS.OBF, 1)] espiLink with ec.image := [(255, 7)], ec.qq := [4, 5] },
     by decide +kernel⟩,
   ⟨txn, { setFields [(Reg.EC_STATUS.OBF, 1)] espiLink with ec.image := [(255, 7)], ec.qq := [4, 5] }, 255, 3,
     by decide +kernel⟩,
   ⟨txn, { setFields [(Reg.EC_STATUS.OBF, 1)] espiLink with ec.image := [(255, 7)], ec.qq := [4, 5] }, 0x85,
     by decide +kernel⟩,
   ⟨0x1FF, {}, { espiLink with link.opened := some {} }, by decide +kernel⟩,
   ⟨0x1FF, {}, { espiLink with link.opened := some {} }, by decide +kernel⟩,
   ⟨0x12345678, {}, { espiLink with link.opened := some {} }, 0xFC, by decide +kernel⟩,
   ⟨0xAB, true, [(1, false)], { espiLink with ec.inq := [(0xAB, true), (1, false)] }, by decide +kernel⟩,
   ⟨0xAB, 0xFF, [(1, 2)], { espiLink with ec.wq := [(0xAB, 0xFF), (1, 2)] }, by decide +kernel⟩,
   ⟨5, 3, 0xAA, [.close true], setFields [(Reg.HW_BULK_TARGET.TARGET, 2), (Reg.SYS_DOMCTRL.LUXEN, 1),
      (Reg.SYS_DOMCTRL.LUXRDY, 1)] { espiLink with bulk.wfifo := [.byte 0xAA 3 false, .close true] },
     by decide +kernel⟩,
   ⟨5, true, [], setFields [(Reg.HW_BULK_TARGET.TARGET, 2), (Reg.SYS_DOMCTRL.LUXEN, 1), (Reg.SYS_DOMCTRL.LUXRDY,
     1)] { espiLink with bulk.wfifo := [.close true] }, by decide +kernel⟩,
   ⟨1, 2, 3, 4, 0, 1, 2, 3, [], setFields [(Reg.HW_BULK_TARGET.TARGET,
     4)] { espiLink with bulk.wfifo := [.byte 1 0 false, .byte 2 1 false, .byte 3 2 false, .byte 4 3 false] },
     by decide +kernel⟩,
   ⟨0x12345678, espiLink, by decide +kernel⟩⟩

theorem test_witness_EcAndBulk_2 :
    ∃ (s : State), Stores s 0x400D00B0 ∧ s.bulk.closeReq = true ∧ bulkErr s = false :=
  ⟨{ espiLink with bulk.closeReq := true }, by decide +kernel⟩

theorem test_witness_IcefallSlots :
    (∃ (n : Fin 64) (_ : Word) (s : State), Stores s (0x40011000 + 0x20 * n) ∧ s.on Reg.LPE_CTRL.LOCK = false ∧
      s.on (Reg.LPE_SCFG.EN n) = false ∧ (slotOf s n).act = none) ∧
    (∃ (n : Fin 64) (_ : Word) (s : State), Stores s (0x40011000 + 0x20 * n) ∧ s.on Reg.LPE_CTRL.LOCK = false ∧
      s.on (Reg.LPE_SCFG.EN n) = true) ∧
    (∃ (_ : Word) (s : State), Stores s 0x40010000 ∧ s.on Reg.LPE_CTRL.RUN = false) ∧
    (∃ (_ : Word) (s : State), Stores s 0x40010000) ∧
    (∃ (s : State), Loads s 0x40010008) ∧
    (∃ (n : Fin 64) (s : State), Loads s (0x4001101C + 0x20 * n)) ∧
    (∃ (n : Fin 64) (t r : Nat) (s : State), (slotOf s n).next = some r ∧ (slotOf s n).act = none ∧
      r ≤ max s.tbase t ∧ s.on Reg.LPE_CTRL.RUN = true ∧ s.on (Reg.LPE_SCFG.EN n) = true) ∧
    (∃ (n : Fin 64) (t : Nat) (_ : ActionData) (a : SlotAct) (s : State), let e := s.seen t; canStart e n = some a ∧
       a.action = 0) ∧
    (∃ (n : Fin 64) (t : Nat) (_ : ActionData) (a : SlotAct) (s : State), let e := s.seen t; canStart e n = some a ∧
       a.action ≠ 0 ∧ unitOff e a = true) ∧
    (∃ (n : Fin 64) (t : Nat) (_ : ActionData) (a : SlotAct) (s : State), let e := s.seen t; canStart e n = some a ∧
       a.action ≠ 0 ∧ unitOff e a = false ∧ passWaits e a = false) ∧
    (∃ (n : Fin 64) (t next : Nat) (a : SlotAct) (s : State), (slotOf s n).act = some a ∧ a.started = true ∧
      a.due ≤ max s.tbase t ∧ a.stale = false ∧ (slotOf s n).next = some next) :=
  ⟨⟨63, 0x80000001, setFields [(Reg.LPE_SPER.PERIOD 63, 10), (Reg.LPE_SPH.PHASE 63, 9)], by decide +kernel⟩,
   ⟨63, 0, slotAt 63 { next := some 5, act := some plainAction }, by decide +kernel⟩,
   ⟨1, { setFields [(Reg.LPE_SCFG.EN 63, 1), (Reg.LPE_SPER.PERIOD 63, 1000), (Reg.LPE_SPH.PHASE 63, 30)] with tbase := 77 },
      by decide +kernel⟩,
   ⟨0, blank, by decide +kernel⟩,
   ⟨{ blank with tbase := 0x123456789 }, by decide +kernel⟩,
   ⟨63, setFields [(Reg.LPE_SSTAT.OVRCNT 63, 7), (Reg.LPE_SSTAT.BUSY 63, 1)], by decide +kernel⟩,
   ⟨63, 5, 5, slotAt 63 { next := some 5 }, by decide +kernel⟩,
   ⟨63, 5, {}, plainAction, slotAt 63 { act := some plainAction }, by decide +kernel⟩,
   ⟨0, 5, {}, { plainAction with action := 4 }, slotAt 0 { act := some { plainAction with action := 4 } },
     by decide +kernel⟩,
   ⟨0, 5, {}, { plainAction with action := 4 }, (setFields [(Reg.KSC_CTRL.EN,
     1)] (slotAt 0 { act := some { plainAction with action := 4 } })), by decide +kernel⟩,
   ⟨63, 50, 900, { plainAction with started := true, due := 50 },
     slotAt 63 { next := some 900, act := some { plainAction with started := true, due := 50 } }, by decide +kernel⟩⟩

theorem test_witness_RailSequencer :
    (∃ (s : State) (n : Nat), n < 40 ∧ s.on Reg.SYS_PADHOLD.HOLD = false ∧ chState s n = 0) ∧
    (∃ (s : State) (n : Nat), n < 40 ∧ s.on Reg.SYS_PADHOLD.HOLD = false ∧ chState s n = 2 ∧ railPg s n = some true) ∧
    (∃ (s : State) (n : Nat), n < 40 ∧ s.on Reg.SYS_PADHOLD.HOLD = false ∧ chState s n = 3 ∧ railPg s n = some false ∧
       s.rd (Reg.RAIL_CHCTL.POLICY n) ≠ 3) ∧
    (∃ (s : State) (n : Nat), let dem := (demanded s (railGraph s)).contains n; n < 40 ∧
      s.on Reg.SYS_PADHOLD.HOLD = false ∧ chState s n = 3 ∧ railPg s n ≠ some false ∧ dem = true) ∧
    (∃ (s : State) (n : Nat), n < 40 ∧ s.on Reg.SYS_PADHOLD.HOLD = false ∧ chState s n = 4 ∧
      s.rail.clr.testBit n = true) ∧
    (∃ (s : State) (n : Nat), n < 40 ∧ s.on Reg.SYS_PADHOLD.HOLD = false ∧ chState s n = 5 ∧ railPg s n = some false) ∧
    (∃ (s : State), s.on Reg.SYS_PADHOLD.HOLD = true) ∧
    (∃ (upper : Bool) (_ : Word) (s : State), Stores s (0x40020018 + 4 * upper.toNat)) ∧
    (∃ (_ : Word) (s : State), Stores s 0x40020004 ∧ s.on Reg.RAIL_STAT.FLTHOLD = true ∧
      s.on Reg.RAIL_CTRL.AUTO = true) :=
  ⟨⟨blank, 39, by decide +kernel⟩,
   ⟨setFields [(Reg.RAIL_CHSTAT.STATE 39, 2), (Reg.RAIL_CHCTL.MODE 39, 1), (Reg.RAIL_CHCTL.PGPOL 39,
     1)] { blank with rail.pins := 2 ^ 39 }, 39, by decide +kernel⟩,
   ⟨setFields [(Reg.RAIL_CHSTAT.STATE 39, 3), (Reg.RAIL_CHCTL.MODE 39, 1), (Reg.RAIL_CHCTL.PGPOL 39, 1)], 39,
     by decide +kernel⟩,
   ⟨setFields [(Reg.RAIL_CHSTAT.STATE 39, 3), (Reg.RAIL_CHCTL.MODE 39, 1), (Reg.RAIL_CHCTL.PGSRC 39, 2)], 39,
     by decide +kernel⟩,
   ⟨setFields [(Reg.RAIL_CHSTAT.STATE 39, 4), (Reg.RAIL_CHCTL.MODE 39, 1), (Reg.RAIL_CHCTL.PGSRC 39,
     2)] { blank with rail.clr := 2 ^ 39 }, 39, by decide +kernel⟩,
   ⟨setFields [(Reg.RAIL_CHSTAT.STATE 39, 5), (Reg.RAIL_CHCTL.MODE 39, 1), (Reg.RAIL_CHCTL.PGPOL 39, 1)], 39,
     by decide +kernel⟩,
   ⟨setFields [(Reg.SYS_PADHOLD.HOLD, 1), (Reg.RAIL_CHCTL.MODE 39, 1)], by decide +kernel⟩,
   ⟨false, 0xFFFFFFFF, blank, by decide +kernel⟩,
   ⟨0, setFields [(Reg.RAIL_STAT.FLTHOLD, 1), (Reg.RAIL_CTRL.AUTO, 1), (Reg.RAIL_STAT.DECODED, 5)], by decide +kernel⟩⟩

theorem test_witness_PowerInputs :
    (∃ (n : Fin 3) (vin t : Nat) (s : State), s.sys.aonOn = true ∧ (pin s n).ovp = false ∧ (pin s n).valid = false ∧
       3500 ≤ vin ∧ vin < ovpThreshold s n ∧ (pin s n).blockedUntil ≤ max s.tbase t ∧ sinkState s n = true) ∧
    (∃ (n : Fin 3) (vin _ : Nat) (s : State), s.sys.aonOn = true ∧ (pin s n).ovp = false ∧ (pin s n).valid = true ∧
       vin < 3500) ∧
    (∃ (n : Fin 3) (t : Nat) (s : State), s.sys.aonOn = true ∧ (pin s n).valid = true ∧ (pin s n).timed = false ∧
      (pin s n).validSince + 150000 ≤ max s.tbase t ∧
      ((n.val = 2 ∨ (pin s n).pdSeen = false ∨ s.on (Reg.PD_STAT.CONTRACT n) = true))) ∧
    (∃ (t d n : Nat) (s : State), s.sys.aonOn = true ∧ s.pwr.deadUntil = some d ∧ d ≤ max s.tbase t ∧
      s.pwr.mode ≠ .held ∧ s.pwr.sel = none ∧ s.on Reg.CHG_REVSTAT.ACTIVE = false ∧ (ranking s).head? = some n) ∧
    (∃ (n : Fin 3) (vin _ : Nat) (s : State), s.pwr.sel = some n.val ∧ vin < 3200) ∧
    (∃ (_ : Word) (s : State), Stores s 0x40030000 ∧ s.pwr.mode ≠ .run ∧ s.on Reg.CHG_REVSTAT.ACTIVE = false) ∧
    (∃ (n : Fin 3) (t : Nat) (s : State), s.pwr.mode = .run ∧ s.pwr.sel = some n.val ∧
      (((pin s n).trk = 3 ∨ (pin s n).trk = 4)) ∧ (pin s n).reprobeAt ≤ max s.tbase t ∧ trackerSlot s n = true ∧
      s.on Reg.PWR_STAT.BATREM = false) ∧
    (∃ (n : Fin 3) (t : Nat) (s : State), s.pwr.mode = .run ∧ s.pwr.sel = some n.val ∧
      (((pin s n).trk = 3 ∨ (pin s n).trk = 4)) ∧ (pin s n).reprobeAt ≤ max s.tbase t ∧ trackerSlot s n = false) ∧
    (∃ (n : Fin 3) (_ : Nat) (s : State), s.pwr.sel = some n.val) :=
  ⟨⟨2, 3500, 5, setFields priorities, by decide +kernel⟩,
   ⟨2, 3499, 5, setPin 2 { valid := true, timed := true } blank, by decide +kernel⟩,
   ⟨2, 150000, setPin 2 { valid := true } (setFields priorities), by decide +kernel⟩,
   ⟨50, 50, 2, { setPin 2 { valid := true, timed := true, attached := true } (setFields priorities) with pwr.deadUntil := some 50, pwr.mode := .run },
      by decide +kernel⟩,
   ⟨2, 3199, 5, { setPin 2 { valid := true, timed := true, attached := true } (setFields priorities) with pwr.sel := some 2 },
      by decide +kernel⟩,
   ⟨1, { pdAt 0 with pwr.mode := .boot }, by decide +kernel⟩,
   ⟨2, 100, trkOn { setPin 2 { trk := 3, reprobeAt := 100 } blank with pwr.mode := .run, pwr.sel := some 2 },
     by decide +kernel⟩,
   ⟨2, 100, setFields [(Reg.LPE_SCFG.ACTION 0,
     0)] { setPin 2 { trk := 3, reprobeAt := 100, ilim := 700 } blank with pwr.mode := .run, pwr.sel := some 2 },
     by decide +kernel⟩,
   ⟨2, 5, { blank with pwr.sel := some 2 }, by decide +kernel⟩⟩

theorem test_witness_PowerProtection :
    (∃ (_ : Fin 3) (_ : Nat) (s : State), s.on Reg.PWR_STAT.BATREM = false) ∧
    (∃ (n : Fin 3) (vin _ : Nat) (s : State), ovpThreshold s n ≤ vin) ∧
    (∃ (vsys _ : Nat) (s : State), vsysTarget s * 110 < vsys * 100) ∧
    (∃ (vsys _ : Nat) (s : State), vsys * 100 < s.rd Reg.PWR_VSYSMIN.VSYSMIN * 90) :=
  ⟨⟨0, 5, blank, by decide +kernel⟩,
   ⟨2, 24001, 5, setFields priorities, by decide +kernel⟩,
   ⟨30000, 5, blank, by decide +kernel⟩,
   ⟨1, 5, setFields [(Reg.PWR_VSYSMIN.VSYSMIN, 10000)], by decide +kernel⟩⟩

theorem test_witness_PortContracts :
    (∃ (p : Fin 2) (_ : Bool) (_ : Fin 4) (_ : Nat) (s : State), s.sys.aonOn = true ∧ (port s p).attached = false) ∧
    (∃ (p : Fin 2) (_ : Nat) (s : State), (port s p).attached = true) ∧
    (∃ (p : Fin 2) (l : List Word) (_ : Bool) (_ : Nat) (s : State), pdRuns s p = true ∧ (port s p).attached = true ∧
       (port s p).source = false ∧ l ≠ [] ∧ s.on Reg.CHG_REVSTAT.ACTIVE = false) ∧
    (∃ (p : Fin 2) (_ : Nat) (s : State), pdRuns s p = true ∧
      ((s.on (Reg.PD_STAT.EPR p) = true ∨ s.on (Reg.PD_STAT.PPS p) = true))) ∧
    (∃ (p : Fin 2) (v : Word) (s : State),
      let w := withBit (Reg.PD_REQ.GO p) v; let obj := (Reg.PD_REQ.OBJPOS p).of w; Stores s (0x4005011C + 0x100 * p) ∧
       (Reg.PD_REQ.AUTO p).of w = 0 ∧ s.rd (Reg.PD_STAT.NPDO p) < obj) ∧
    (∃ (p : Fin 2) (v : Word) (s : State),
      let w := withBit (Reg.PD_REQ.GO p) v; let obj := (Reg.PD_REQ.OBJPOS p).of w; Stores s (0x4005011C + 0x100 * p) ∧
       (Reg.PD_REQ.AUTO p).of w = 0 ∧ pdRuns s p = true ∧ (port s p).attached = true ∧ (port s p).source = false ∧
      1 ≤ obj ∧ obj ≤ s.rd (Reg.PD_STAT.NPDO p) ∧ pdoFixed (s.rd (Reg.PD_RXPDO.PDO p (obj - 1))) = true) ∧
    (∃ (p : Fin 2) (_ _ _ : Nat) (r : PdRequest) (s : State), pdRuns s p = true ∧ (port s p).attached = true ∧
      (port s p).source = false ∧ (port s p).request = some r ∧ s.on Reg.CHG_REVSTAT.ACTIVE = false) :=
  ⟨⟨1, true, 3, 5, { blank with pwr.mode := .run }, by decide +kernel⟩,
   ⟨1, 5, pdAt 1, by decide +kernel⟩,
   ⟨1, [0x0001912C], true, 5, pdAt 1, by decide +kernel⟩,
   ⟨1, 5, setFields [(Reg.PD_STAT.EPR 1, 1)] (pdAt 1), by decide +kernel⟩,
   ⟨1, 0x0000000B, pdAt 1, by decide +kernel⟩,
   ⟨1, 1, setFields [(Reg.PD_STAT.NPDO 1, 1), (Reg.PD_RXPDO.PDO 1 0, 0x0001912C)] (pdAt 1), by decide +kernel⟩,
   ⟨1, 1, 300, 5, ⟨1, 5000, 300, false⟩, pdAt 1 { attached := true, request := some ⟨1, 5000, 300, false⟩ },
     by decide +kernel⟩⟩

theorem test_witness_PortMessages :
    (∃ (p : Fin 2) (_ : Fin 3) (l : List Word) (_ : Nat) (s : State), pdRuns s p = true ∧ (port s p).attached = true ∧
       l ≠ [] ∧ s.on (Reg.PD_VDMCTL.RXFULL p) = false) ∧
    (∃ (p : Fin 2) (_ : Fin 3) (l : List Word) (_ : Nat) (s : State), pdRuns s p = true ∧ (port s p).attached = true ∧
       l ≠ [] ∧ s.on (Reg.PD_VDMCTL.RXFULL p) = true) ∧
    (∃ (p : Fin 2) (_ : Word) (s : State), Stores s (0x40050120 + 0x100 * p)) ∧
    (∃ (p : Fin 2) (_ : Word) (_ : Bool) (s : State), Stores s (0x40050120 + 0x100 * p) ∧ pdRuns s p = true ∧
      (port s p).attached = true) ∧
    (∃ (p : Fin 2) (t d : Nat) (s : State), (port s p).vdmAt = some d ∧ d + 25000 ≤ max s.tbase t) ∧
    (∃ (p : Fin 2) (_ : Nat) (s : State), (port s p).attached = true ∧ pdRuns s p = true) ∧
    (∃ (p : Fin 2) (_ : Nat) (s : State), (port s p).attached = true ∧ pdRuns s p = false) ∧
    (∃ (p : Fin 2) (_ : Nat) (s : State), pdRuns s p = true ∧ (port s p).attached = true ∧
      s.on (Reg.PD_CFG.PRSWAP p) = true ∧ (port s p).source = false ∧ s.on Reg.CHG_REVSTAT.ACTIVE = false ∧
      s.pwr.sel = none ∧ ((ranking s = [] ∨ s.pwr.deadUntil.isSome = true))) ∧
    (∃ (p : Fin 2) (_ : Nat) (s : State), pdRuns s p = true ∧ (port s p).attached = true ∧
      s.on (Reg.PD_CFG.PRSWAP p) = false) ∧
    (∃ (p : Fin 2) (_ : Nat) (s : State) (toDfp : _), pdRuns s p = true ∧ (port s p).attached = true ∧
      toDfp = s.on (Reg.PD_CFG.DRPREF p)) ∧
    (∃ (p : Fin 2) (_ : Nat) (s : State) (toDfp : _), pdRuns s p = true ∧ (port s p).attached = true ∧
      toDfp ≠ s.on (Reg.PD_CFG.DRPREF p)) ∧
    (∃ (p : Fin 2) (_ : Nat) (s : State), pdRuns s p = true ∧ (port s p).attached = true) :=
  ⟨⟨1, 2, List.replicate 7 0xFF008041, 5, pdAt 1, by decide +kernel⟩,
   ⟨1, 2, [0xFF008041], 5, setFields [(Reg.PD_VDMCTL.RXFULL 1, 1)] (pdAt 1), by decide +kernel⟩,
   ⟨1, 0, setFields [(Reg.PD_VDMCTL.RXFULL 1, 1), (Reg.PD_VDMCTL.RXLEN 1,
     5)] (pdAt 1 { attached := true, vdmAt := some 5 }), by decide +kernel⟩,
   ⟨1, 1, true, pdAt 1, by decide +kernel⟩,
   ⟨1, 25005, 5, pdAt 1 { attached := true, vdmAt := some 5 }, by decide +kernel⟩,
   ⟨1, 5, setFields [(Reg.PD_STAT.CONTRACT 1, 1), (Reg.PD_STAT.HRCNT 1, 255)] (pdAt 1), by decide +kernel⟩,
   ⟨1, 5, { pdAt 1 with pwr.mode := .held }, by decide +kernel⟩,
   ⟨1, 5, setFields [(Reg.PD_CFG.PRSWAP 1, 1)] (pdAt 1), by decide +kernel⟩,
   ⟨0, 5, pdAt 0, by decide +kernel⟩,
   ⟨1, 5, setFields [(Reg.PD_CFG.DRPREF 1, 1)] (pdAt 1), true, by decide +kernel⟩,
   ⟨1, 5, pdAt 1, !(blank.on (Reg.PD_CFG.DRPREF 1)), by decide +kernel⟩,
   ⟨1, 5, pdAt 1, by decide +kernel⟩⟩

theorem test_witness_ChargerSupervision_1 :
    (∃ (code : BitVec 12) (s : State),
      let c := code.toNat; let cold := s.rd Reg.CHG_BAND0.COLD; let cool := s.rd Reg.CHG_BAND0.COOL; let warm := s.rd Reg.CHG_BAND1.WARM; let hot := s.rd Reg.CHG_BAND1.HOT; 205 ≤ hot ∧
       hot ≤ warm ∧ warm < cool ∧ cool ≤ cold ∧ cold ≤ 3891 ∧ warm < c ∧ c < cold) ∧
    (∃ (code : BitVec 12) (s : State),
      let c := code.toNat; let cold := s.rd Reg.CHG_BAND0.COLD; let cool := s.rd Reg.CHG_BAND0.COOL; let warm := s.rd Reg.CHG_BAND1.WARM; let hot := s.rd Reg.CHG_BAND1.HOT; 205 ≤ hot ∧
       hot ≤ warm ∧ warm < cool ∧ cool ≤ cold ∧ cold ≤ 3891 ∧ warm < c ∧ c < cool) ∧
    (∃ (code : BitVec 12) (s : State),
      let c := code.toNat; let cold := s.rd Reg.CHG_BAND0.COLD; let cool := s.rd Reg.CHG_BAND0.COOL; let warm := s.rd Reg.CHG_BAND1.WARM; let hot := s.rd Reg.CHG_BAND1.HOT; 205 ≤ hot ∧
       hot ≤ warm ∧ warm < cool ∧ cool ≤ cold ∧ cold ≤ 3891 ∧ hot < c ∧ c < cool) ∧
    (∃ (_ : Nat) (s : State) (code : BitVec 12), s.rd Reg.CHG_STAT.FCAUSE = 0 ∧ s.on Reg.PWR_STAT.BATREM = false ∧
       code.toNat < 205) ∧
    (∃ (_ : Nat) (s : State) (ibat : Int), s.rd Reg.CHG_STAT.FCAUSE = 0 ∧ s.on Reg.PWR_STAT.BATREM = false ∧
      (ocpLimit s : Int) < ibat) ∧
    (∃ (_ : Nat) (s : State), s.rd Reg.CHG_STAT.FCAUSE = 0 ∧ s.on Reg.PWR_STAT.BATREM = false ∧
      timerLimit s ≤ s.rd Reg.CHG_TMRCNT.COUNT) ∧
    (∃ (vbat _ : Nat) (s : State), (vregEff s + 100) * cells s < vbat ∧ vbat ≤ cells s * 4700 ∧
      s.on Reg.CHG_STAT.BATOVACT = false) ∧
    (∃ (_ : Nat) (s : State), s.on Reg.CHG_STAT.TSHUT = false) ∧
    (∃ (t : Nat) (s : State), timerRuns s = true ∧ s.rd Reg.CHG_STAT.FCAUSE = 0 ∧
      s.chg.tickAt + (if halfSpeed s then 1000000 else 500000) ≤ max s.tbase t) ∧
    (∃ (t : Nat) (s : State), s.on Reg.CHG_STAT.CYCLE = true ∧ s.rd Reg.CHG_STAT.LOOP = 0 ∧
      s.chg.currentAt + 3600000000 ≤ max s.tbase t) ∧
    (∃ (_ : Word) (s : State), Stores s 0x40040000 ∧ s.rd Reg.CHG_STAT.FCAUSE ≠ 0 ∧ faultPresent s = false) ∧
    (∃ (_ : Word) (s : State), Stores s 0x40040000 ∧ s.rd Reg.CHG_STAT.FCAUSE ≠ 0 ∧ faultPresent s = true) :=
  ⟨⟨2999, setFields ((Reg.CHG_BANDACT.HYST, 50) :: thresholds), by decide +kernel⟩,
   ⟨2499, setFields ((Reg.CHG_BANDACT.HYST, 50) :: thresholds), by decide +kernel⟩,
   ⟨601, setFields ((Reg.CHG_BANDACT.HYST, 50) :: thresholds), by decide +kernel⟩,
   ⟨5, setFields thresholds, 204, by decide +kernel⟩,
   ⟨5, setFields [(Reg.CHG_STAT.STATE, 2), (Reg.CHG_STAT.CYCLE, 1), (Reg.CHG_STAT.LOOP, 1), (Reg.PWR_STAT.CELLS, 4)],
      20000, by decide +kernel⟩,
   ⟨5, setFields [(Reg.CHG_TMRCNT.COUNT, 0xFFFF)] (setFields [(Reg.CHG_STAT.STATE, 2), (Reg.CHG_STAT.CYCLE, 1),
      (Reg.CHG_STAT.LOOP, 1), (Reg.PWR_STAT.CELLS, 4)]), by decide +kernel⟩,
   ⟨18800, 5, setFields [(Reg.CHG_STAT.STATE, 2), (Reg.CHG_STAT.CYCLE, 1), (Reg.CHG_STAT.LOOP, 1),
      (Reg.PWR_STAT.CELLS, 4)], by decide +kernel⟩,
   ⟨5, blank, by decide +kernel⟩,
   ⟨500000, setFields [(Reg.CHG_STAT.STATE, 2), (Reg.CHG_STAT.CYCLE, 1), (Reg.CHG_STAT.LOOP, 1), (Reg.PWR_STAT.CELLS,
      4)], by decide +kernel⟩,
   ⟨3600000000, setFields [(Reg.CHG_STAT.LOOP, 0)] (setFields [(Reg.CHG_STAT.STATE, 2), (Reg.CHG_STAT.CYCLE, 1),
      (Reg.CHG_STAT.LOOP, 1), (Reg.PWR_STAT.CELLS, 4)]), by decide +kernel⟩,
   ⟨0, setFields [(Reg.CHG_STAT.FCAUSE, 1)], by decide +kernel⟩,
   ⟨0, setFields [(Reg.CHG_STAT.FCAUSE, 3), (Reg.CHG_MEAS.BATTH, 204)], by decide +kernel⟩⟩

theorem test_witness_ChargerSupervision_2 :
    (∃ (_ : Word) (s : State), Stores s 0x40040000) ∧
    (∃ (_ : Int) (_ : Nat) (s : State), s.rd Reg.CHG_QACC.QACC < 2 ^ 32) :=
  ⟨⟨0, setFields [(Reg.CHG_QACC.QACC, 5)], by decide +kernel⟩,
   ⟨-1, 5, blank, by decide +kernel⟩⟩

theorem test_witness_ReverseSupply :
    (∃ (p : Fin 2) (_ c : Nat) (s : State), s.on Reg.CHG_REVSTAT.ACTIVE = true ∧ s.rd Reg.CHG_REVSTAT.PORT = p ∧
       reverseCause s = some c) ∧
    (∃ (p : Fin 2) (x : VbusReading) (s : State), s.on Reg.CHG_REVSTAT.ACTIVE = true ∧ s.rd Reg.CHG_REVSTAT.PORT = p ∧
       s.on (Reg.PD_STAT.CONTRACT p) = true ∧ x.vbus * 10 < 8 * s.rd (Reg.PD_CONTRACT.VOLT p)) ∧
    (∃ (p : Fin 2) (vbat _ : Nat) (s : State), s.on Reg.CHG_REVSTAT.ACTIVE = true ∧ s.rd Reg.CHG_REVSTAT.PORT = p ∧
       vbat < s.rd Reg.CHG_REVVMIN.REVVMIN * cells s ∧ vbat ≤ cells s * 4700) ∧
    (∃ (n : Fin 3) (p : Fin 2) (t : Nat) (s : State), s.on Reg.CHG_REVSTAT.ACTIVE = true ∧
      s.rd Reg.CHG_REVSTAT.PORT = p ∧ s.sys.aonOn = true ∧ (pin s n).valid = true ∧ (pin s n).timed = false ∧
      (pin s n).validSince + 150000 ≤ max s.tbase t ∧
      ((n.val = 2 ∨ (pin s n).pdSeen = false ∨ s.on (Reg.PD_STAT.CONTRACT n) = true)) ∧ s.pwr.mode ≠ .held ∧
      s.pwr.sel = none ∧ s.pwr.deadUntil = none ∧ named s = [n.val]) :=
  ⟨⟨0, 5, 1, setFields [(Reg.CHG_REVSTAT.ACTIVE, 1), (Reg.CHG_REVSTAT.IOUT, 5), (Reg.PWR_STAT.CELLS, 4),
      (Reg.CHG_REVVMIN.REVVMIN, 3000)], by decide +kernel⟩,
   ⟨0, ⟨3999, 5⟩, setFields [(Reg.CHG_REVSTAT.ACTIVE, 1), (Reg.CHG_REVSTAT.PORT, 0), (Reg.PD_STAT.CONTRACT 0, 1),
      (Reg.PD_CONTRACT.VOLT 0, 5000), (Reg.CHG_REVSTAT.IOUT, 5)], by decide +kernel⟩,
   ⟨0, 11999, 5, setFields [(Reg.CHG_REVSTAT.ACTIVE, 1), (Reg.CHG_REVSTAT.IOUT, 5), (Reg.PWR_STAT.CELLS, 4),
      (Reg.CHG_REVVMIN.REVVMIN, 3000)], by decide +kernel⟩,
   ⟨2, 0, 150000, setPin 2 { valid := true } (setFields priorities (setFields [(Reg.CHG_REVSTAT.ACTIVE, 1),
      (Reg.CHG_REVSTAT.IOUT, 5), (Reg.PWR_STAT.CELLS, 4), (Reg.CHG_REVVMIN.REVVMIN, 3000)] s1run)), by decide +kernel⟩⟩

theorem test_witness_Keyboard :
    (∃ (s : State), Loads s 0x40060100) ∧
    (∃ (t k t0 : Nat) (s : State), s.rd Reg.KSC_STUCKCFG.STUCKTO ≠ 0 ∧ (k, t0) ∈ s.kbd.since ∧
      s.rd Reg.KSC_STUCKCFG.STUCKTO * 1000000 + t0 ≤ max s.tbase t ∧ exempt s k = false) ∧
    (∃ (keys : List (Fin 768)) (_ : Nat) (k : Fin 768) (s : State), frameOn s = false ∧ s.sys.aonOn = true ∧
       s.sys.shipMode = false ∧ k ∈ keys ∧ (geomMask s).testBit k = true ∧ s.kbd.masked.testBit k = false) ∧
    (∃ (v : Word) (s : State), Stores s 0x40060000 ∧ frameOn s = false ∧ Reg.KSC_CTRL.EN.of v.toNat = 1 ∧
       Reg.KSC_CTRL.SLEEP.of v.toNat = 0) ∧
    (∃ (v : Word) (s : State), Stores s 0x40060024 ∧ Reg.KSC_LOCKCTL.UNLOCK.of v.toNat = 0 ∧
      s.rd Reg.KSC_LOCKCTL.LOCK = 0 ∧ keyLevel2 s = 0) ∧
    (∃ (_ : Word) (s : State), Stores s 0x40060024 ∧ s.rd Reg.KSC_LOCKCTL.LOCK = 1) ∧
    (∃ (k : Fin 8) (upper : Bool) (_ : Word) (s : State), Stores s (0x40060400 + 8 * k + 4 * upper.toNat) ∧
      kbdLocked s = true) ∧
    (∃ (k : Fin 8) (upper : Bool) (_ : Word) (s : State), Stores s (0x40060400 + 8 * k + 4 * upper.toNat) ∧
      kbdLocked s = false) ∧
    (∃ (t i : Nat) (s : State), s.kbd.matcher = .step i ∧ kbdLocked s = true ∧
      s.kbd.timer + stepTimeout s i ≤ max s.tbase t) ∧
    (∃ (t : Nat) (s : State), s.kbd.matcher = .backoff ∧ kbdLocked s = true ∧ seqSteps s ≠ 0 ∧ keyLevel2 s = 0 ∧
       s.kbd.timer + s.kbd.backoff ≤ max s.tbase t) :=
  ⟨⟨{ blank with kbd.frame := { deliv := 2 ^ 33 + 5, wheld := 7, stuck := 1, stat := 3 } }, by decide +kernel⟩,
   ⟨5000000, 767, 0, { setFields [(Reg.KSC_STUCKCFG.STUCKTO, 5)] with kbd.since := [(3, 9), (767, 0)] },
     by decide +kernel⟩,
   ⟨[5, 767], 5, 767, setFields [(Reg.KSC_SENSEEN.SENSEEN, 0xFFFFFFFF), (Reg.KSC_GEOM.NDRV, 24)], by decide +kernel⟩,
   ⟨1, { blank with kbd.raw := 6 }, by decide +kernel⟩,
   ⟨1, blank, by decide +kernel⟩,
   ⟨0, { setFields [(Reg.KSC_LOCKCTL.LOCK, 1), (Reg.KSC_LOCKST.FAILS, 12)] with kbd.raw := 6, kbd.masked := 2 },
     by decide +kernel⟩,
   ⟨7, true, 0, setFields [(Reg.KSC_LOCKCTL.LOCK, 1)], by decide +kernel⟩,
   ⟨7, true, 0xFFFFFFFF, blank, by decide +kernel⟩,
   ⟨100000, 0, { setFields [(Reg.KSC_LOCKCTL.LOCK, 1), (Reg.KSC_LOCKCTL.NSTEPS, 2)] with kbd.matcher := .step 0 },
     by decide +kernel⟩,
   ⟨1000000, { setFields [(Reg.KSC_LOCKCTL.LOCK, 1), (Reg.KSC_LOCKCTL.NSTEPS, 1)] with kbd.matcher := .backoff },
     by decide +kernel⟩⟩

theorem test_witness_LightingEngine_1 :
    (∃ (s : State) (t : Nat),
      let apart := fun (now : Nat) => ∀ a, s.lux.lastSync = some a → a + 4166 ≤ now; luxEn s = true ∧
      s.on Reg.LUX_STAT.BUSY = false ∧ apart (max s.tbase t) ∧ syncSrc s = 0 ∧ s.lux.nextSync ≤ max s.tbase t) ∧
    (∃ (s : State) (t : Nat),
      let apart := fun (now : Nat) => ∀ a, s.lux.lastSync = some a → a + 4166 ≤ now; luxEn s = true ∧
      s.on Reg.LUX_STAT.BUSY = false ∧ apart (max s.tbase t) ∧ syncSrc s = 1) ∧
    (∃ (s : State) (v : Word),
      let apart := fun (now : Nat) => ∀ a, s.lux.lastSync = some a → a + 4166 ≤ now; luxEn s = true ∧
      s.on Reg.LUX_STAT.BUSY = false ∧ apart s.tbase ∧ Stores s 0x40070000 ∧ syncSrc s = 2 ∧
      Reg.LUX_CTRL.EN.of v.toNat = 1) ∧
    (∃ (s : State) (t : Nat),
      let early := fun (now : Nat) => s.on Reg.LUX_STAT.BUSY = true ∨ ∃ a, s.lux.lastSync = some a ∧ now < a + 4166; luxEn s = true ∧
       early (max s.tbase t) ∧ syncSrc s = 0 ∧ s.lux.nextSync ≤ max s.tbase t) ∧
    (∃ (s : State) (t : Nat),
      let early := fun (now : Nat) => s.on Reg.LUX_STAT.BUSY = true ∨ ∃ a, s.lux.lastSync = some a ∧ now < a + 4166; luxEn s = true ∧
       early (max s.tbase t) ∧ syncSrc s = 1) ∧
    (∃ (s : State) (v : Word),
      let early := fun (now : Nat) => s.on Reg.LUX_STAT.BUSY = true ∨ ∃ a, s.lux.lastSync = some a ∧ now < a + 4166; luxEn s = true ∧
       early s.tbase ∧ Stores s 0x40070000 ∧ syncSrc s = 2 ∧ Reg.LUX_CTRL.EN.of v.toNat = 1) ∧
    (∃ (t : Nat) (s : State), luxEn s = true ∧ syncSrc s = 1 ∧ s.on Reg.LUX_STAT.SYNCLOST = false ∧
      s.lux.edgeAt + 1000 * max 1 (s.rd Reg.LUX_SYNC.SYNCTO) ≤ max s.tbase t) ∧
    (∃ (v : Word) (s : State), Stores s 0x40070000 ∧ Reg.LUX_CTRL.SYNCNOW.of v.toNat = 0) ∧
    (∃ (v : Word) (s : State), Stores s 0x40070000 ∧ Reg.LUX_CTRL.SYNCNOW.of v.toNat = 0 ∧
      s.on Reg.LUX_CTRL.EN = false) ∧
    (∃ (_ : Word) (s : State), Stores s 0x40070000 ∧ s.on Reg.LUX_CTRL.EN = true) ∧
    (∃ (_ : Nat) (s : State), s.on Reg.LUX_STAT.BUSY = true ∧ s.lux.presented = false) ∧
    (∃ (_ : Word) (s : State), Stores s 0x40070030 ∧ s.on Reg.LUX_CTRL.EN = true) :=
  ⟨⟨luxOn0, 5, by decide +kernel⟩,
   ⟨setFields [(Reg.LUX_SYNC.SRC, 1), (Reg.LUX_STAT.SYNCLOST, 1)] luxOn0, 5, by decide +kernel⟩,
   ⟨setFields [(Reg.LUX_SYNC.SRC, 2)] luxOn0, 1, by decide +kernel⟩,
   ⟨luxBusy, 5, by decide +kernel⟩,
   ⟨setFields [(Reg.LUX_SYNC.SRC, 1)] luxBusy, 5, by decide +kernel⟩,
   ⟨setFields [(Reg.LUX_SYNC.SRC, 2)] luxBusy, 1, by decide +kernel⟩,
   ⟨1000000, { setFields [(Reg.LUX_SYNC.SRC, 1), (Reg.LUX_SYNC.SYNCTO, 1000)] luxOn0 with lux.lastSync := some 7 },
     by decide +kernel⟩,
   ⟨0, luxReady, by decide +kernel⟩,
   ⟨0, luxReady, by decide +kernel⟩,
   ⟨0, luxOn0, by decide +kernel⟩,
   ⟨5, luxBusy, by decide +kernel⟩,
   ⟨0x0064012C, luxOn0, by decide +kernel⟩⟩

theorem test_witness_LightingEngine_2 :
    (∃ (_ : ScanReading) (_ : Nat) (s : State), s.on Reg.LUX_STAT.RUNNING = true) ∧
    (∃ (mv _ : Nat) (s : State), luxEn s = true ∧ 10 * s.rd Reg.LUX_VLEDLIM.VLEDMAX + 1000 < mv) ∧
    (∃ (v : Word) (s : State), Stores s 0x40070500 ∧ Reg.LUX_DIAGCLR.ALL.of v.toNat = 0 ∧
      Reg.LUX_DIAGCLR.CH.of v.toNat < 768) ∧
    (∃ (s : State), Loads s 0x4007001C) :=
  ⟨⟨⟨20480, [], []⟩, 5, luxOn0, by decide +kernel⟩,
   ⟨1001, 5, setFields [(Reg.LUX_VLEDLIM.VLEDMAX, 0)] luxOn0, by decide +kernel⟩,
   ⟨767, setFields [(Reg.LUX_DIAG.STATE 47, 0xFFFFFFFF)] luxReady, by decide +kernel⟩,
   ⟨setFields [(Reg.LUX_CNT.REPEAT, 7), (Reg.LUX_CNT.PAR, 3)] luxReady, by decide +kernel⟩⟩

theorem test_witness_ChainEngine_1 :
    (∃ (_ : Word) (s : State), Stores s 0x40080000 ∧ s.on Reg.CHN_CTRL.EN = false) ∧
    (∃ (_ : Word) (s : State), Stores s 0x40080000 ∧ s.on Reg.CHN_CTRL.EN = true) ∧
    (∃ (v : Word) (s : State), Stores s 0x40080000 ∧ s.on Reg.CHN_CTRL.EN = true ∧ Reg.CHN_CTRL.EN.of v.toNat = 1 ∧
       s.rd Reg.CHN_STAT.STATE = 3 ∧ Reg.CHN_CTRL.REENUM.of v.toNat = 0) ∧
    (∃ (v : Word) (s : State), Stores s 0x40080000 ∧ s.on Reg.CHN_CTRL.EN = true ∧ Reg.CHN_CTRL.EN.of v.toNat = 1 ∧
       s.rd Reg.CHN_STAT.STATE = 3 ∧ s.on Reg.LUX_STAT.BUSY = false) ∧
    (∃ (v : Word) (s : State), Stores s 0x40080000 ∧ s.on Reg.CHN_CTRL.EN = true ∧ Reg.CHN_CTRL.EN.of v.toNat = 1 ∧
       s.rd Reg.CHN_STAT.STATE = 3 ∧ s.on Reg.LUX_STAT.BUSY = true) ∧
    (∃ (_ : Fin 64) (_ : Nat) (s : State), s.rd Reg.CHN_STAT.STATE = 1 ∧ s.chn.probing = true) ∧
    (∃ (r : ChainStatus) (_ : Nat) (s : State), s.rd Reg.CHN_STAT.STATE = 1 ∧ s.chn.probing = false ∧
      s.chn.unanswered = [r.pos.val]) ∧
    (∃ (r : ChainStatus) (_ : Nat) (s : State), s.rd Reg.CHN_STAT.STATE = 3 ∧ s.chn.statusSent = [r.pos.val]) ∧
    (∃ (t d : Nat) (s : State), s.chn.retryAt = some d ∧ d ≤ max s.tbase t ∧ s.rd Reg.CHN_STAT.STATE = 1) ∧
    (∃ (_ _ : BitVec 64) (_ : Bool) (_ : Nat) (s : State), s.chn.awaitSync = true) ∧
    (∃ (_ : Nat) (s : State), s.rd Reg.CHN_STAT.STATE = 1 ∧ s.chn.probing = true) ∧
    (∃ (_ : Nat) (s : State), s.rd Reg.CHN_STAT.STATE = 3 ∧ s.chn.awaitSync = true) :=
  ⟨⟨1, luxReady, by decide +kernel⟩,
   ⟨0, chainAt 3 [] { luxOn0 with chn.included := [0, 5] }, by decide +kernel⟩,
   ⟨1, chainAt 3, by decide +kernel⟩,
   ⟨1, chainAt 3, by decide +kernel⟩,
   ⟨1, chainAt 3 [(Reg.LUX_STAT.BUSY, 1)], by decide +kernel⟩,
   ⟨63, 5, chainAt 1 [] { luxOn0 with chn.probing := true }, by decide +kernel⟩,
   ⟨chainAnswer 63, 5, chainAt 1 [] { luxOn0 with chn.unanswered := [63] }, by decide +kernel⟩,
   ⟨chainAnswer 63, 5, chainAt 3 [] { luxOn0 with chn.statusSent := [63] }, by decide +kernel⟩,
   ⟨5, 5, chainAt 1 [] { luxOn0 with chn.retryAt := some 5 }, by decide +kernel⟩,
   ⟨0xFFFFFFFFFFFFFFFF, 1, true, 5, chainAt 3 [] { luxBusy with chn.awaitSync := true }, by decide +kernel⟩,
   ⟨5, chainAt 1 [] { luxOn0 with chn.probing := true }, by decide +kernel⟩,
   ⟨5, chainAt 3 [] { luxBusy with chn.awaitSync := true, chn.breaks := 1 }, by decide +kernel⟩⟩

theorem test_witness_ChainEngine_2 :
    (∃ (v : Word) (s : State),
      let w := withBit Reg.CHN_DIAGREQ.GO v; let j := Reg.CHN_DIAGREQ.DRV.of w; Stores s 0x40080030 ∧
      2 ≤ s.rd Reg.CHN_STAT.CV ∧ j ∈ s.chn.included) ∧
    (∃ (v : Word) (s : State),
      let w := withBit Reg.CHN_DIAGREQ.GO v; let j := Reg.CHN_DIAGREQ.DRV.of w; Stores s 0x40080030 ∧
      (s.rd Reg.CHN_STAT.CV ≤ 1 ∨ j ∉ s.chn.included)) ∧
    (∃ (first n _ j : Nat) (_ : List Byte) (s : State), s.chn.diagSent = some (j, first, n)) ∧
    (∃ (s : State), Loads s 0x40080010) ∧
    (∃ (j : Fin 64) (s : State), Loads s (0x4008101C + 0x40 * j)) ∧
    (∃ (_ : Nat) (s : State), s.rd Reg.CHN_STAT.STATE = 3) ∧
    (∃ (p : List Byte) (s : State), s.chn.sent = [p]) :=
  ⟨⟨0, chainAt 3 [] { luxOn0 with chn.included := [0] }, by decide +kernel⟩,
   ⟨0, chainAt 3, by decide +kernel⟩,
   ⟨0, 256, 5, 3, List.replicate 64 0xAA, chainAt 3 [] { luxOn0 with chn.diagSent := some (3, 0, 256) },
     by decide +kernel⟩,
   ⟨chainAt 3 [(Reg.CHN_CNT.BREAK, 255), (Reg.CHN_CNT.CRCERR, 3)], by decide +kernel⟩,
   ⟨63, chainAt 3 [(Reg.CHN_DSTAT.MMCNT 63, 5), (Reg.CHN_DSTAT.FLAGS 63, 3)], by decide +kernel⟩,
   ⟨5, chainAt 3, by decide +kernel⟩,
   ⟨[1, 2], { luxOn0 with chn.sent := [[1, 2]] }, by decide +kernel⟩⟩

theorem test_witness_ThermalAndFans_1 :
    (∃ (n : Fin 20) (t : Nat) (s : State), s.on (Reg.THM_TCFG.EN n) = true ∧ s.rd Reg.THM_CTRL.STALE ≠ 0 ∧
      (thermIn s n).at_ + s.rd Reg.THM_CTRL.STALE * 10000 ≤ max s.tbase t) ∧
    (∃ (_ : Word) (s : State), Stores s 0x400A0000) ∧
    (∃ (n : Fin 4) (edges : Bool) (r : FanReading) (_ : Nat) (s : State), fanState s n = 1 ∧ fanPowered s = true ∧
       (((edges = true ∧ s.on (Reg.FAN_CTRL.TACHEN n) = true) ∨ 300 ≤ rrpm s n r))) ∧
    (∃ (n : Fin 4) (t : Nat) (s : State), fanState s n = 1 ∧ fanPowered s = true ∧
      (fanCh s n).timer + 1500000 ≤ max s.tbase t) ∧
    (∃ (n : Fin 4) (t : Nat) (s : State), fanState s n = 3 ∧ (fanCh s n).timer + 2000000 ≤ max s.tbase t) ∧
    (∃ (n : Fin 4) (t : Nat) (s : State), fanState s n = 5 ∧ (fanCh s n).timer + 10000000 ≤ max s.tbase t) ∧
    (∃ (n : Fin 4) (r : FanReading) (_ : Nat) (s : State), fanState s n = 2 ∧ fanPowered s = true ∧
      s.rd (Reg.FAN_ILIM.ISTALL n) ≤ min 1250 r.iout ∧ rrpm s n r = 0) ∧
    (∃ (n : Fin 4) (r : FanReading) (_ : Nat) (s : State), fanState s n = 2 ∧ fanPowered s = true ∧
      min 1250 r.iout < s.rd (Reg.FAN_ILIM.INOLOAD n) ∧ trpm s n r = 0 ∧ rrpm s n r = 0) ∧
    (∃ (n : Fin 4) (r : FanReading) (_ : Nat) (s : State), fanState s n = 2 ∧ fanPowered s = true ∧
      s.on (Reg.FAN_CTRL.TACHEN n) = true ∧ r.period = 0 ∧ s.rd (Reg.FAN_ILIM.INOLOAD n) ≤ min 1250 r.iout ∧
      min 1250 r.iout < s.rd (Reg.FAN_ILIM.ISTALL n) ∧ 300 ≤ rrpm s n r) ∧
    (∃ (mv _ : Nat) (s : State), mv < 4300 ∧ fanPowered s = true) ∧
    (∃ (mv _ : Nat) (s : State), 4500 ≤ mv ∧ fanPowered s = false) ∧
    (∃ (n : Fin 4) (v : Word) (s : State), Stores s (0x40090100 + 0x40 * n) ∧ fanState s n = 4 ∧
      (Reg.FAN_CTRL.MODE n).of v.toNat ≠ 0) :=
  ⟨⟨19, 100000, setFields [(Reg.THM_TCFG.EN 19, 1), (Reg.THM_CTRL.STALE, 10)], by decide +kernel⟩,
   ⟨0, blank, by decide +kernel⟩,
   ⟨3, true, {}, 5, fanAt 3 1, by decide +kernel⟩,
   ⟨3, 1500000, fanAt 3 1, by decide +kernel⟩,
   ⟨3, 2000005, fanAt 3 3 [] { timer := 5 }, by decide +kernel⟩,
   ⟨3, 10000000, fanAt 3 5 [(Reg.FAN_STATn.TRIES 3, 3)], by decide +kernel⟩,
   ⟨3, { iout := 800 }, 5, fanAt 3 2, by decide +kernel⟩,
   ⟨3, { iout := 19 }, 5, fanAt 3 2, by decide +kernel⟩,
   ⟨3, { iout := 20, ripple := 1000 }, 5, fanAt 3 2, by decide +kernel⟩,
   ⟨4299, 5, fanAt 3 2, by decide +kernel⟩,
   ⟨4500, 5, fanAt 3 2 [(Reg.FAN_STAT.FANVINUV, 1)], by decide +kernel⟩,
   ⟨3, 1, fanAt 3 4 [(Reg.FAN_STATn.TRIES 3, 3)], by decide +kernel⟩⟩

theorem test_witness_ThermalAndFans_2 :
    ∃ (n : Fin 4) (_ : Word) (s : State), Stores s (0x40090100 + 0x40 * n) :=
  ⟨3, 0, fanAt 3 2, by decide +kernel⟩

theorem test_witness_FloeHardware_1 :
    (∃ (p : Fin 2) (f : FloeFrame) (_ : FloeSignal) (_ : Nat) (s : State), s.coreUp = true ∧
      s.on (Reg.FLOE_PCFG.EN p) = true ∧ f.stuffBad = false ∧ f.crc.toNat = crc16 f.covered ∧ f.formed = true ∧
      f.dst = 1 ∧ ((f.type = 2 ∨ f.type = 4)) ∧ 0xF0 ≤ f.src.toNat ∧ f.src.toNat ≤ 0xFE ∧ (floe s p).fifo.length < 8) ∧
    (∃ (p : Fin 2) (f : FloeFrame) (_ : FloeSignal) (_ : Nat) (s : State), s.coreUp = true ∧
      s.on (Reg.FLOE_PCFG.EN p) = true ∧ f.stuffBad = false ∧ f.crc.toNat = crc16 f.covered ∧ f.formed = true ∧
       ((f.dst = 1 ∨ f.dst = 0xFF)) ∧ ((f.src.toNat ≤ 0x0F ∨ f.src = 0xFF ∨ f.type = 1 ∨ f.type = 3))) ∧
    (∃ (p : Fin 2) (f : FloeFrame) (_ : FloeSignal) (_ : Nat) (s : State), s.coreUp = true ∧
      s.on (Reg.FLOE_PCFG.EN p) = true ∧ f.stuffBad = false ∧ f.crc.toNat ≠ crc16 f.covered) ∧
    (∃ (p : Fin 2) (f : FloeFrame) (_ : FloeSignal) (_ : Nat) (pre post : List Bool) (b : Bool) (s : State),
      s.coreUp = true ∧ s.on (Reg.FLOE_PCFG.EN p) = true ∧ f.wire = some (pre ++ List.replicate 6 b ++ post)) ∧
    (∃ (f : FloeFrame), f.wire = none) ∧
    (∃ (p : Fin 2) (_ : Word) (s : State), let f := txFrame s p; Stores s (0x400B011C + 0x100 * p) ∧
      s.on (Reg.FLOE_TXCTL.BUSY p) = false ∧ s.rd (Reg.FLOE_TXHDR.LEN p) ≤ 64 ∧ txAllowed f = true ∧
      0x0F < f.dst.toNat ∧ f.sec = false) ∧
    (∃ (p : Fin 2) (_ : Word) (s : State) (e : _), let f := txFrame s p; Stores s (0x400B011C + 0x100 * p) ∧
      s.on (Reg.FLOE_TXCTL.BUSY p) = false ∧ s.rd (Reg.FLOE_TXHDR.LEN p) ≤ 64 ∧ txAllowed f = true ∧ f.sec = true ∧
       keyEntry s p f.dst.toNat = some e ∧ s.rd (Reg.FLOE_KTX.KTX e) ≠ 0xFFFFFFFF) ∧
    (∃ (p : Fin 2) (_ : Word) (s : State), let f := txFrame s p; Stores s (0x400B011C + 0x100 * p) ∧
      s.on (Reg.FLOE_TXCTL.BUSY p) = false ∧
      (64 < s.rd (Reg.FLOE_TXHDR.LEN p) ∨ txAllowed f = false ∨ f.dst.toNat ≤ 0x0F ∨ (f.sec = true ∧
      keyEntry s p f.dst.toNat = none))) ∧
    (∃ (p : Fin 2) (_ : FloeSignal) (t : Nat) (s : State), s.coreUp = true ∧ s.on (Reg.FLOE_PCFG.EN p) = true ∧
      (floe s p).phase = .sending ∧ (floe s p).idleAt ≤ max s.tbase t) ∧
    (∃ (p : Fin 2) (t r : Nat) (s : State), s.coreUp = true ∧ s.on (Reg.FLOE_PCFG.EN p) = true ∧
      (floe s p).phase = .backoff r ∧ (floe s p).idleAt + bitTimes s p (16 * r) ≤ max s.tbase t) ∧
    (∃ (e : Fin 32) (_ : Word) (s : State), Stores s (0x400B1000 + 0x40 * e)) ∧
    (∃ (p : Fin 2) (_ : Word) (s : State), Stores s (0x400B012C + 0x100 * p)) :=
  ⟨⟨1, withCrc { src := 0xF5, dst := 1, ctl := 0x21, payload := [1, 2] }, cleanSignal, 5, floeUp, by decide +kernel⟩,
   ⟨1, withCrc { src := 0x0F, dst := 1, ctl := 0x21, payload := [] }, cleanSignal, 5, floeUp, by decide +kernel⟩,
   ⟨1, { (withCrc { src := 0x0F, dst := 1, ctl := 0x21 }) with crc := ~~~(BitVec.ofNat 16 (crc16 ({ src := 0x0F, dst := 1, ctl := 0x21 } : FloeFrame).covered)) },
      cleanSignal, 5, floeUp [(Reg.FLOE_PERRA.CRCERR 1, 254)], by decide +kernel⟩,
   ⟨1, { withCrc { src := 0xF5, dst := 1, ctl := 0x21 } with wire := some (List.replicate 6 true ++ [false]) },
      cleanSignal, 5, [], [false], true, floeUp, by decide +kernel⟩,
   ⟨withCrc { src := 0xF5, dst := 1, ctl := 0x21, payload := [0, 0, 0xFF, 0xFF, 0x1F] }, by decide +kernel⟩,
   ⟨1, 1, floeUp [(Reg.FLOE_TXHDR.DST 1, 0xFE), (Reg.FLOE_TXHDR.TYPE 1, 3), (Reg.FLOE_TXHDR.LEN 1, 64)],
     by decide +kernel⟩,
   ⟨1, 1, keyed (moduleIn .admitted 0x10) [(Reg.FLOE_TXHDR.DST 1, 0x10), (Reg.FLOE_TXHDR.TYPE 1, 8),
      (Reg.FLOE_TXHDR.SEC 1, 1), (Reg.FLOE_TXHDR.LEN 1, 3), (Reg.FLOE_KTX.KTX 17, 0xFFFFFFFE)], 17, by decide +kernel⟩,
   ⟨1, 1, floeUp [(Reg.FLOE_TXHDR.DST 1, 0xFE), (Reg.FLOE_TXHDR.TYPE 1, 3), (Reg.FLOE_TXHDR.LEN 1, 65)],
     by decide +kernel⟩,
   ⟨1, cleanSignal, 5, { floeUp [(Reg.FLOE_TXCTL.BUSY 1, 1)] with floe1.phase := .sending }, by decide +kernel⟩,
   ⟨1, 100000, 5, { floeUp [(Reg.FLOE_TXCTL.BUSY 1, 1)] with floe1.phase := .backoff 5, floe1.attempts := 1 },
     by decide +kernel⟩,
   ⟨31, 0x10F, blank, by decide +kernel⟩,
   ⟨1, 0, { floeUp with floe1.fifo := [{}, {}] }, by decide +kernel⟩⟩

theorem test_witness_FloeHardware_2 :
    (∃ (p : Fin 2) (_ : Word) (s : State), Stores s (0x400B0100 + 0x100 * p)) ∧
    (∃ (p : Fin 2) (k : Fin 3) (s : State), Loads s (0x400B010C + 0x100 * p + 4 * k)) :=
  ⟨⟨1, 0xFFFFFFFF, floeUp, by decide +kernel⟩,
   ⟨1, 2, floeUp [(Reg.FLOE_PERRC.SPOOF 1, 3)], by decide +kernel⟩⟩

theorem test_witness_FloeModules_1 :
    (∃ (p : Fin 2) (_ : Nat) (s : State), Acting s ∧ canSend s p = true ∧ p.val ∉ s.kpf.restarted ∧
      ((∀ m ∈ s.kpf.modules, m.port ≠ p.val))) ∧
    (∃ (p : Fin 2) (t : Nat) (s : State), Acting s ∧ canSend s p = true ∧ p.val ∈ s.kpf.restarted ∧
      Sparse.get 0 p s.kpf.discAt + 1000000 ≤ max s.tbase t ∧ ((∀ m ∈ s.kpf.modules,
      m.port = p.val → m.phase = .admitted ∨ m.phase = .admitting))) ∧
    (∃ (p : Fin 2) (f : FloeFrame) (_ : FloeSignal) (_ : Nat) (s : State), PlainIn p 2 f s ∧ f.src = 0xFE ∧
      12 ≤ f.payload.length ∧ ((∀ o ∈ s.kpf.modules, o.port = p.val → o.uid ≠ natAt f.payload 0 8))) ∧
    (∃ (p : Fin 2) (m : KpfModule) (_ : Nat) (s : State), Acting s ∧ canSend s p = true ∧ s.kpf.modules = [m] ∧
      m.port = p.val ∧ m.id = 0xFE ∧ m.phase = .newcomer) ∧
    (∃ (p : Fin 2) (id t : Nat) (m : KpfModule) (s : State), CanAsk p id m s ∧ 0xF0 ≤ id ∧ id ≤ 0xFD ∧
      m.phase = .stranger ∧ ((m.rejects = 0 ∨ (m.rejects < 3 ∧ m.since + 60000000 ≤ max s.tbase t)))) ∧
    (∃ (p : Fin 2) (id _ : Nat) (m : KpfModule) (s : State), CanAsk p id m s ∧ 0xF0 ≤ id ∧ id ≤ 0xFD ∧
      m.phase = .certGood ∧ m.parts = 0) ∧
    (∃ (p : Fin 2) (id _ : Nat) (m : KpfModule) (s : State), CanAsk p id m s ∧ 0xF0 ≤ id ∧ id ≤ 0xFD ∧
      m.phase = .certGood ∧ m.parts ≠ 0 ∧ m.nonceC.length = 16 ∧ (Crypto.p256.public m.ephemeral).length = 64) ∧
    (∃ (p : Fin 2) (id _ : Nat) (m : KpfModule) (s : State), CanAsk p id m s ∧ 0xF0 ≤ id ∧ id ≤ 0xFD ∧
      m.phase = .confGood ∧ m.entry < 32 ∧ 0x10 ≤ m.newId ∧ m.newId ≤ 0xEF ∧ m.key.length = 32 ∧
      findMod s p m.newId = none) ∧
    (∃ (p : Fin 2) (id _ : Nat) (m : KpfModule) (s : State), CanAsk p id m s ∧ 0xF0 ≤ id ∧ id ≤ 0xFD ∧
      m.phase = .rejecting) ∧
    (∃ (p : Fin 2) (f : FloeFrame) (_ : FloeSignal) (t : Nat) (off : Byte) (data all : List Byte) (m n : KpfModule) (s : State),
       PlainIn p 4 f s ∧ findMod s p f.src.toNat = some m ∧ f.payload = [2, off] ++ data ∧ m.phase = .certWait ∧
       message m off.toNat 144 data = (n, some all) ∧ n.since + 100000 ≥ max s.tbase t) ∧
    (∃ (p : Fin 2) (f : FloeFrame) (_ : FloeSignal) (t : Nat) (off : Byte) (data all : List Byte) (m n : KpfModule) (s : State),
       PlainIn p 4 f s ∧ findMod s p f.src.toNat = some m ∧ f.payload = [4, off] ++ data ∧ m.phase = .respWait ∧
       message m off.toNat 24 data = (n, some all) ∧ max s.tbase t ≤ n.since + 2000000 ∧
      ((Crypto.cmac (sessionKey n (all.take 16)) (Crypto.ascii "MCONF" ++ n.nonceC ++ b1 n.id)).take 8 ≠ all.drop 16)) ∧
    (∃ (p : Fin 2) (f : FloeFrame) (_ : FloeSignal) (t : Nat) (off : Byte) (data all : List Byte) (m n : KpfModule) (s : State) (i : _) (e : _),
       PlainIn p 4 f s ∧ findMod s p f.src.toNat = some m ∧ f.payload = [4, off] ++ data ∧ m.phase = .respWait ∧
       message m off.toNat 24 data = (n, some all) ∧ max s.tbase t ≤ n.since + 2000000 ∧
      (Crypto.cmac (sessionKey n (all.take 16)) (Crypto.ascii "MCONF" ++ n.nonceC ++ b1 n.id)).take 8 = all.drop 16 ∧
       ((∀ o ∈ s.kpf.modules, o.phase = .admitted → o.uid ≠ n.uid)) ∧ newId s n = some i ∧
      freeEntry s n.port = some e) :=
  ⟨⟨1, 5, floeUp, by decide +kernel⟩,
   ⟨1, 1000000, { floeUp with kpf.restarted := [1] }, by decide +kernel⟩,
   ⟨1, withCrc { src := 0xFE, dst := 1, ctl := 0x21, payload := leBytes 8 0x1122334455667788 ++ [1, 0, 0, 0] },
      cleanSignal, 5, floeUp, by decide +kernel⟩,
   ⟨1, moduleIn .newcomer 0xFE, 5, withMods [moduleIn .newcomer 0xFE], by decide +kernel⟩,
   ⟨1, 0xF0, 5, moduleIn .stranger, withMods [moduleIn .stranger], by decide +kernel⟩,
   ⟨1, 0xF0, 5, moduleIn .certGood, withMods [moduleIn .certGood], by decide +kernel⟩,
   ⟨1, 0xF0, 5, { moduleIn .certGood with parts := 1, nonceC := List.replicate 16 9, ephemeral := 2 },
     withMods [{ moduleIn .certGood with parts := 1, nonceC := List.replicate 16 9, ephemeral := 2 }],
     by decide +kernel⟩,
   ⟨1, 0xF0, 5, { moduleIn .confGood with newId := 0x10, key := List.replicate 32 7 },
     withMods [{ moduleIn .confGood with newId := 0x10, key := List.replicate 32 7 }], by decide +kernel⟩,
   ⟨1, 0xF0, 5, { moduleIn .rejecting with reason := 3, rejects := 2 },
     withMods [{ moduleIn .rejecting with reason := 3, rejects := 2 }], by decide +kernel⟩,
   ⟨1, plainFrame 4 ([2, 96] ++ List.replicate 48 5), cleanSignal, 100007, 96, List.replicate 48 5,
     List.replicate 96 4 ++ List.replicate 48 5, { certModule with msg := (List.range 96).map fun i => (i, 4) },
      (message { certModule with msg := (List.range 96).map fun i => (i, 4) } 96 144 (List.replicate 48 5)).1,
      withMods [{ certModule with msg := (List.range 96).map fun i => (i, 4) }], by decide +kernel⟩,
   ⟨1, plainFrame 4 ([4, 0] ++ respBad), cleanSignal, 2000007, 0, respBad, respBad, respModule,
     (message respModule 0 24 respBad).1, withMods [respModule], by decide +kernel⟩,
   ⟨1, plainFrame 4 ([4, 0] ++ respGood), cleanSignal, 2000007, 0, respGood, respGood, respModule,
     (message respModule 0 24 respGood).1, withMods [respModule], 0x30, 16, by decide +kernel⟩⟩

theorem test_witness_FloeModules_2 :
    (∃ (p : Fin 2) (id obj e _ : Nat) (m : KpfModule) (s : State), CanAsk p id m s ∧ HasKey p id e s ∧
      m.phase = .admitted ∧ ((pieceObj m obj = true → dongleMay m 1 obj [] s = true))) ∧
    (∃ (p : Fin 2) (id _ e _ : Nat) (m : KpfModule) (s : State) (close : Bool), CanAsk p id m s ∧ HasKey p id e s ∧
       m.phase = .admitted ∧ m.cls = 1 ∧ ((close = true → mayClose s m = true))) ∧
    (∃ (p : Fin 2) (id _ e t : Nat) (m : KpfModule) (s : State), CanAsk p id m s ∧ HasKey p id e s ∧
      (m.phase = .admitted ∨ m.phase = .admitting) ∧ ((m.pingAt = 0 ∨ m.pingAt + 1000000 ≤ max s.tbase t)) ∧
      m.missed < 3) ∧
    (∃ (p : Fin 2) (id _ e t : Nat) (m : KpfModule) (s : State), CanAsk p id m s ∧ HasKey p id e s ∧
      (m.phase = .admitted ∨ m.phase = .admitting) ∧ ((m.pingAt = 0 ∨ m.pingAt + 1000000 ≤ max s.tbase t)) ∧
      3 ≤ m.missed ∧ m.entry < 32) ∧
    (∃ (p : Fin 2) (e : Nat) (f : FloeFrame) (_ : FloeSignal) (_ : Nat) (obj _ : Byte) (v : List Byte) (m : KpfModule) (s : State),
       SecuredIn p e f s ∧ findMod s p f.src.toNat = some m ∧ f.payload = [0x81, obj] ++ v ∧ m.cls ≠ 5 ∧
      s.kpf.wait = none) ∧
    (∃ (p : Fin 2) (e : Nat) (f : FloeFrame) (_ : FloeSignal) (_ : Nat) (obj _ : Byte) (v : List Byte) (m : KpfModule) (s : State),
       SecuredIn p e f s ∧ findMod s p f.src.toNat = some m ∧ f.payload = [0x84, obj] ++ v) ∧
    (∃ (p : Fin 2) (e : Nat) (f : FloeFrame) (_ : FloeSignal) (_ : Nat) (_ st : Byte) (v : List Byte) (m : KpfModule) (s : State),
       SecuredIn p e f s ∧ findMod s p f.src.toNat = some m ∧ f.payload = [0x82, 0x0A, st] ++ v ∧ m.cls = 1 ∧ st ≠ 0 ∧
       m.closed = true ∧ s.kpf.wait = none) ∧
    (∃ (p : Fin 2) (e : Nat) (f : FloeFrame) (_ : FloeSignal) (_ : Nat) (obj _ : Byte) (v : List Byte) (m : KpfModule) (s : State),
       SecuredIn p e f s ∧ findMod s p f.src.toNat = some m ∧ f.payload = [0x83, obj] ++ v ∧ m.phase = .admitting) ∧
    (∃ (p : Fin 2) (e : Nat) (f : FloeFrame) (_ : FloeSignal) (_ : Nat) (obj _ : Byte) (v : List Byte) (m : KpfModule) (s : State),
       SecuredIn p e f s ∧ findMod s p f.src.toNat = some m ∧ f.payload = [0x83, obj] ++ v ∧ m.phase = .admitted) ∧
    (∃ (p : Fin 2) (e : Nat) (f : FloeFrame) (_ : FloeSignal) (_ : Nat) (obj _ : Byte) (v : List Byte) (m : KpfModule) (s : State) (w : _),
       SecuredIn p e f s ∧ findMod s p f.src.toNat = some m ∧ f.payload = [0xFF, obj] ++ v ∧ s.kpf.wait = some w ∧
       ((w.code = 0x0802 ∨ w.code = 0x0803)) ∧ w.port = m.port ∧ w.id = m.id ∧ w.obj = obj.toNat ∧
      tagState s w.tag = tagOwned) :=
  ⟨⟨1, 0x10, 0xFF, 17, 5, moduleIn .admitted 0x10, keyed (moduleIn .admitted 0x10), by decide +kernel⟩,
   ⟨1, 0x10, 0, 17, 5, moduleIn .admitted 0x10, keyed (moduleIn .admitted 0x10), true, by decide +kernel⟩,
   ⟨1, 0x10, 0, 17, 1000000, { moduleIn .admitted 0x10 with missed := 2 },
     keyed { moduleIn .admitted 0x10 with missed := 2 }, by decide +kernel⟩,
   ⟨1, 0x10, 0, 17, 5, { moduleIn .admitted 0x10 with missed := 3 },
     keyed { moduleIn .admitted 0x10 with missed := 3 }, by decide +kernel⟩,
   ⟨1, 17, securedFrame [0x81, 9, 7, 8], cleanSignal, 5, 9, 0, [7, 8], moduleIn .admitted 0x10,
     keyed (moduleIn .admitted 0x10), by decide +kernel⟩,
   ⟨1, 17, securedFrame [0x84, 9, 7, 8], cleanSignal, 5, 9, 0, [7, 8], moduleIn .admitted 0x10,
     keyed (moduleIn .admitted 0x10), by decide +kernel⟩,
   ⟨1, 17, securedFrame [0x82, 0x0A, 1], cleanSignal, 5, 9, 1, [], { moduleIn .admitted 0x10 with closed := true },
      keyed { moduleIn .admitted 0x10 with closed := true }, by decide +kernel⟩,
   ⟨1, 17, securedFrame [0x83, 0], cleanSignal, 5, 0, 0, [], moduleIn .admitting 0x10,
     keyed (moduleIn .admitting 0x10), by decide +kernel⟩,
   ⟨1, 17, securedFrame [0x83, 0], cleanSignal, 5, 0, 0, [], { moduleIn .admitted 0x10 with missed := 2 },
     keyed { moduleIn .admitted 0x10 with missed := 2 }, by decide +kernel⟩,
   ⟨1, 17, securedFrame [0xFF, 7, 1], cleanSignal, 5, 7, 0, [1], moduleIn .admitted 0x10,
     { keyed (moduleIn .admitted 0x10) [(Reg.MBX_TAGINFO.STATE 3, 2), (Reg.HOST_STAT.HOSTPWR, 1)] with kpf.wait := some (waiting0 0x0802) },
      waiting0 0x0802, by decide +kernel⟩⟩

theorem test_witness_LifeCycleAndTokens_1 :
    (∃ (v : Word) (_ : Nat) (s : State), Stores s 0x400E0010 ∧ v.toNat / 2 ^ 24 ≠ 0x3C) ∧
    (∃ (v : Word) (_ : Nat) (s : State) (x : _), Stores s 0x400E0010 ∧ v.toNat / 2 ^ 24 = 0x3C ∧ s.sec.seq = some x) ∧
    (∃ (v : Word) (_ : Nat) (s : State), Stores s 0x400E0010 ∧ v.toNat / 2 ^ 24 = 0x3C ∧ s.sec.seq = none ∧
      (5 ≤ v.toNat % 8 ∨ v.toNat % 8 = 0 ∨ v.toNat % 8 = 3 ∨ 2 ≤ lcs s)) ∧
    (∃ (v : Word) (supply : Nat) (s : State), Stores s 0x400E0010 ∧ v.toNat / 2 ^ 24 = 0x3C ∧ SequencerFree supply s ∧
       ((lcs s = 0 ∧ v.toNat % 8 = 1) ∨ (lcs s = 1 ∧ v.toNat % 8 = 2 ∧
      (List.range 4).any (slotLive s) = true) ∨ (lcs s ≤ 1 ∧ v.toNat % 8 = 4))) ∧
    (∃ (v : Word) (supply : Nat) (s : State), let n := Reg.SEC_ARBADV.FWTGT.of v.toNat; Stores s 0x400E0014 ∧
       SequencerFree supply s ∧ lcs s ≠ 4 ∧ Reg.SEC_ARBADV.GOHOST.of v.toNat = 0 ∧ s.sec.fuses.fwarb < n ∧ n ≤ 64 ∧
      n ≤ s.rd Reg.SEC_BOOTINFO.SVN) ∧
    (∃ (v : Word) (supply : Nat) (s : State), let n := Reg.SEC_ARBADV.FWTGT.of v.toNat; Stores s 0x400E0014 ∧
       SequencerFree supply s ∧ lcs s ≠ 4 ∧ Reg.SEC_ARBADV.GOHOST.of v.toNat = 0 ∧ n ≤ s.sec.fuses.fwarb) ∧
    (∃ (v : Word) (supply : Nat) (s : State), let n := Reg.SEC_ARBADV.FWTGT.of v.toNat; Stores s 0x400E0014 ∧
       SequencerFree supply s ∧ lcs s ≠ 4 ∧ Reg.SEC_ARBADV.GOHOST.of v.toNat = 0 ∧ s.sec.fuses.fwarb < n ∧
      (64 < n ∨ s.rd Reg.SEC_BOOTINFO.SVN < n)) ∧
    (∃ (v : Word) (supply : Nat) (s : State), let m := Reg.SEC_ARBADV.HOSTTGT.of v.toNat; Stores s 0x400E0014 ∧
       SequencerFree supply s ∧ lcs s ≠ 4 ∧ Reg.SEC_ARBADV.GOFW.of v.toNat = 0 ∧ s.sec.fuses.hostarb < m ∧ m ≤ 64) ∧
    (∃ (v : Word) (supply : Nat) (s : State), let m := Reg.SEC_ARBADV.HOSTTGT.of v.toNat; Stores s 0x400E0014 ∧
       SequencerFree supply s ∧ lcs s ≠ 4 ∧ Reg.SEC_ARBADV.GOFW.of v.toNat = 0 ∧ s.sec.fuses.hostarb < m ∧ 64 < m) ∧
    (∃ (v : Word) (supply : Nat) (s : State), let k := Reg.SEC_OEMPROG.SLOT.of v.toNat; Stores s 0x400E0018 ∧
      v.toNat / 2 ^ 24 = 0x3C ∧ SequencerFree supply s ∧ Reg.SEC_OEMPROG.REVOKE.of v.toNat = 0 ∧ lcs s ≤ 1 ∧
      slotProg s k = false) ∧
    (∃ (v : Word) (supply : Nat) (s : State), let k := Reg.SEC_OEMPROG.SLOT.of v.toNat; Stores s 0x400E0018 ∧
      v.toNat / 2 ^ 24 = 0x3C ∧ SequencerFree supply s ∧ Reg.SEC_OEMPROG.REVOKE.of v.toNat = 0 ∧ lcs s ≤ 1 ∧
      slotProg s k = true) ∧
    (∃ (v : Word) (supply : Nat) (s : State), Stores s 0x400E0018 ∧ v.toNat / 2 ^ 24 = 0x3C ∧ SequencerFree supply s ∧
       Reg.SEC_OEMPROG.REVOKE.of v.toNat = 0 ∧ 1 < lcs s) :=
  ⟨⟨0x00000002, 5000, blank, by decide +kernel⟩,
   ⟨0x3C000002, 5000, { blank with sec.seq := some (.token [1, 2]) }, SeqOp.token [1, 2], by decide +kernel⟩,
   ⟨0x3C000003, 5000, blank, by decide +kernel⟩,
   ⟨0x3C000001, 4500, setFields [(Reg.SEC_LCS.STATE, 0)], by decide +kernel⟩,
   ⟨(64 + 2 ^ 16 : Nat), 4500, setFields [(Reg.SEC_BOOTINFO.SVN, 64), (Reg.SEC_LCS.STATE, 2)], by decide +kernel⟩,
   ⟨0, 4500, setFields [(Reg.SEC_LCS.STATE, 2)], by decide +kernel⟩,
   ⟨65, 4500, setFields [(Reg.SEC_LCS.STATE, 2)], by decide +kernel⟩,
   ⟨0x00004000, 4500, blank, by decide +kernel⟩,
   ⟨0x00004100, 4500, blank, by decide +kernel⟩,
   ⟨0x3C000003, 4500, blank.storeNat 0x20000000 4 7, by decide +kernel⟩,
   ⟨0x3C000003, 4500, setFields [(Reg.SEC_LCS.STATE,
     1)] { blank with sec.fuses.oemHash := [(3, List.replicate 48 1)] }, by decide +kernel⟩,
   ⟨0x3C000003, 4500, setFields [(Reg.SEC_LCS.STATE, 2)], by decide +kernel⟩⟩

theorem test_witness_LifeCycleAndTokens_2 :
    (∃ (v : Word) (supply : Nat) (s : State), Stores s 0x400E0018 ∧ v.toNat / 2 ^ 24 = 0x3C ∧ SequencerFree supply s ∧
       Reg.SEC_OEMPROG.PROG.of v.toNat = 0 ∧ lcs s ≤ 1) ∧
    (∃ (v : Word) (s : State), Stores s 0x400E0020 ∧ Reg.SEC_TOKCTL.KEYOK.of v.toNat = 0 ∧
      Reg.SEC_TOKCTL.SUBMIT.of v.toNat = 0) ∧
    (∃ (v : Word) (s : State), Stores s 0x400E0020 ∧ Reg.SEC_TOKCTL.KEYOK.of v.toNat = 0 ∧
      Reg.SEC_TOKCTL.NEWNONCE.of v.toNat = 0) ∧
    (∃ (_ : List Byte) (_ : Nat) (s : State), s.coreUp = true ∧ s.sec.seq = none) ∧
    (∃ (_ _ : Nat) (tok : List Byte) (s : State), s.sec.seq = some (.token tok) ∧ tokCheck s tok ≠ 0) ∧
    (∃ (_ _ : Nat) (tok : List Byte) (s : State), s.sec.seq = some (.token tok) ∧ tokCheck s tok = 0 ∧
      tokKind tok = 1) ∧
    (∃ (_ _ : Nat) (tok : List Byte) (s : State), s.sec.seq = some (.token tok) ∧ tokCheck s tok = 0 ∧
      tokKind tok = 6) :=
  ⟨⟨0x3C000003, 4500, setFields [(Reg.SEC_LCS.STATE,
     1)] { blank with sec.fuses.oemHash := [(3, List.replicate 48 1)] }, by decide +kernel⟩,
   ⟨0, blank, by decide +kernel⟩,
   ⟨0, blank.storeNat 0x20000000 4 0x12345678, by decide +kernel⟩,
   ⟨List.replicate 272 7, 5, blank, by decide +kernel⟩,
   ⟨4500, 5, [1, 2], { blank with sec.seq := some (.token [1, 2]) }, by decide +kernel⟩,
   ⟨4500, 5, tok1, { setFields [(Reg.SEC_LCS.STATE, 3), (Reg.SEC_NONCE.NONCE 0, 1), (Reg.SEC_TOKCTL.BUSY, 1), (Reg.SEC_FUSESTAT.SEQBUSY, 1)] with sec.fuses.devid := 5, sec.fuses.oemHash := [(3, Crypto.sha Crypto.sha384 (beBytes 48 pubX ++ beBytes 48 pubY))], sec.seq := some (.token tok1) },
      by decide +kernel⟩,
   ⟨4500, 5, tok6, { setFields [(Reg.SEC_LCS.STATE, 3), (Reg.SEC_NONCE.NONCE 0, 1), (Reg.SEC_TOKCTL.BUSY, 1), (Reg.SEC_FUSESTAT.SEQBUSY, 1)] with sec.fuses.devid := 5, sec.fuses.oemHash := [(3, Crypto.sha Crypto.sha384 (beBytes 48 pubX ++ beBytes 48 pubY))], sec.seq := some (.token tok6) },
      by decide +kernel⟩⟩

theorem test_witness_LifeCycleAndTokens_3 :
    ∃ (_ _ : Nat) (tok : List Byte) (s : State), s.sec.seq = some (.token tok) ∧ tokCheck s tok = 0 ∧ tokKind tok = 4 :=
  ⟨4500, 5, tok4, { setFields [(Reg.SEC_LCS.STATE, 3), (Reg.SEC_NONCE.NONCE 0, 1), (Reg.SEC_TOKCTL.BUSY, 1), (Reg.SEC_FUSESTAT.SEQBUSY, 1)] with sec.fuses.devid := 5, sec.fuses.oemHash := [(3, Crypto.sha Crypto.sha384 (beBytes 48 pubX ++ beBytes 48 pubY))], sec.seq := some (.token tok4) },
     by decide +kernel⟩

theorem test_witness_CryptoEngine_1 :
    (∃ (big : Bool) (d : Desc) (s : State), d.first = true ∧ d.last = true ∧ srcOk d = true ∧
      dstOk d (if big then 48 else 32) = true ∧ inputBad s d.src d.slen = false) ∧
    (∃ (d : Desc) (s : State), d.type ≠ 3 ∧ auxOk d = true ∧ d.auxlen = 16 ∧
      ((d.type ≠ 0 → dstOk d (publicLength d.type) = true)) ∧ (lcs s = 4 ∨ s.on Reg.SEC_LCS.DBGOPENED = true)) ∧
    (∃ (d : Desc) (s : State), d.type ≠ 3 ∧ auxOk d = true ∧ d.auxlen = 16 ∧
      ((d.type ≠ 0 → dstOk d (publicLength d.type) = true)) ∧ lcs s ≠ 4 ∧ s.on Reg.SEC_LCS.DBGOPENED = false ∧
       d.dstSlot = 15) ∧
    (∃ (d : Desc) (_ : State), d.type ≠ 3 ∧ ((d.type ≠ 0 → dstOk d (publicLength d.type) = true)) ∧ d.dstSlot = 15) ∧
    (∃ (d : Desc) (s : State), d.type ≠ 3 ∧ ((d.type ≠ 0 → dstOk d (publicLength d.type) = true)) ∧ d.dstSlot ≠ 15 ∧
       s.on Reg.SEC_TRNGSTAT.FAIL = true) ∧
    (∃ (d : Desc) (s : State), d.type ≠ 3 ∧ ((d.type ≠ 0 → dstOk d (publicLength d.type) = true)) ∧ d.dstSlot ≠ 15 ∧
       s.on Reg.SEC_TRNGSTAT.FAIL = false) ∧
    (∃ (d : Desc) (s : State), d.type ≠ 3 ∧ d.type = 0 ∧ srcOk d = true ∧ d.slen = 32 ∧ d.dstSlot ≠ 15 ∧
      inputBad s d.src 32 = false) ∧
    (∃ (d : Desc) (_ : State), d.type ≠ 3 ∧ srcOk d = true ∧ d.slen = (if d.type = 2 then 48 else 32) ∧
      d.dstSlot = 15) ∧
    (∃ (d : Desc) (s : State), dstOk d d.dlen = true ∧ s.on Reg.SEC_TRNGSTAT.FAIL = true) ∧
    (∃ (d : Desc) (s : State), dstOk d d.dlen = true ∧ s.on Reg.SEC_TRNGSTAT.FAIL = false) ∧
    (∃ (d : Desc) (s : State) (i : _), dstOk d d.dlen = true ∧ s.on Reg.SEC_TRNGSTAT.FAIL = false ∧ i < d.dlen) ∧
    (∃ (d : Desc) (key : List Byte) (s : State), srcOk d = true ∧ dstOk d 16 = true ∧
      inputBad s d.src d.slen = false ∧ ((d.kslot = 0xFF ∧ auxOk d = true ∧ d.auxlen = 32 ∧
      inputBad s d.aux 32 = false ∧ key = s.bytes d.aux 32) ∨ (d.kslot < 16 ∧ slotKey s d.kslot 0 0 = some key))) :=
  ⟨⟨false, descOf 1 0 3 0x20002000 5 0x20003000 32 0 0, blank.storeNat 0x20002000 4 0x12345678, by decide +kernel⟩,
   ⟨descOf 11 0 0x0200 0 0 0x20002000 0 0x20003000 16, setFields [(Reg.SEC_LCS.STATE, 4)], by decide +kernel⟩,
   ⟨descOf 11 0 0x0F00 0 0 0 0 0x20003000 16, setFields [(Reg.SEC_LCS.DBGOPENED, 0)], by decide +kernel⟩,
   ⟨descOf 10 0 0x1F10 0 0 0x20002000 64 0 0, blank, by decide +kernel⟩,
   ⟨descOf 10 0 0x1010 0 0 0x20002000 64 0 0, setFields [(Reg.SEC_TRNGSTAT.FAIL, 1)], by decide +kernel⟩,
   ⟨descOf 10 0 0x1E10 0 0 0x20002000 64 0 0, blank, by decide +kernel⟩,
   ⟨descOf 12 0 0x9E00 0x20002000 32 0 0 0 0, blank.storeNat 0x20002000 4 0x12345678, by decide +kernel⟩,
   ⟨descOf 12 0 0x9F00 0x20002000 32 0 0 0 0, blank, by decide +kernel⟩,
   ⟨descOf 14 0 0 0 0 0x20002000 5 0 0, setFields [(Reg.SEC_TRNGSTAT.FAIL, 1)], by decide +kernel⟩,
   ⟨descOf 14 0 0 0 0 0x20002000 5 0 0, blank, by decide +kernel⟩,
   ⟨descOf 14 0 0 0 0 0x20002000 5 0 0, blank, 4, by decide +kernel⟩,
   ⟨descOf 4 0xFF 0 0x20002000 5 0x20004000 16 0x20003000 32, (blank.storeNat 0x20003000 4 7).bytes 0x20003000 32,
      blank.storeNat 0x20003000 4 7, by decide +kernel⟩⟩

theorem test_witness_CryptoEngine_2 :
    (∃ (c : _) (d : Desc) (s : State), c ∈ [(Crypto.p256, 1), (Crypto.p384, 2)] ∧ srcOk d = true ∧
      dstOk d (2 * c.1.len) = true ∧ d.slen = c.1.len ∧ d.kslot < 16 ∧ slotKey s d.kslot c.2 1 = none) ∧
    (∃ (c : _) (d : Desc) (s : State) (key : _), c ∈ [(Crypto.p256, 1), (Crypto.p384, 2)] ∧ srcOk d = true ∧
      dstOk d (2 * c.1.len) = true ∧ d.slen = c.1.len ∧ d.kslot < 16 ∧ slotKey s d.kslot c.2 1 = some key ∧
      s.on Reg.SEC_TRNGSTAT.FAIL = true) ∧
    (∃ (c : _) (d : Desc) (s : State) (key : _), c ∈ [(Crypto.p256, 1), (Crypto.p384, 2)] ∧ srcOk d = true ∧
      dstOk d (2 * c.1.len) = true ∧ d.slen = c.1.len ∧ d.kslot < 16 ∧ slotKey s d.kslot c.2 1 = some key ∧
      s.on Reg.SEC_TRNGSTAT.FAIL = false ∧ inputBad s d.src d.slen = false) ∧
    (∃ (d : Desc) (s : State), auxOk d = true ∧ d.auxlen = 64 ∧ dstOk d 32 = true ∧ d.kslot < 16 ∧
      slotKey s d.kslot 1 2 = none) ∧
    (∃ (d : Desc) (s : State) (key : _), let q := Crypto.p256.pubKey (s.bytes d.aux 64); auxOk d = true ∧
      d.auxlen = 64 ∧ dstOk d 32 = true ∧ d.kslot < 16 ∧ slotKey s d.kslot 1 2 = some key ∧
      inputBad s d.aux 64 = false ∧ q = none) ∧
    (∃ (d : Desc) (s : State) (key : _), let q := Crypto.p256.pubKey (s.bytes d.aux 64); auxOk d = true ∧
      d.auxlen = 64 ∧ dstOk d 32 = true ∧ d.kslot < 16 ∧ slotKey s d.kslot 1 2 = some key ∧
      inputBad s d.aux 64 = false ∧ q ≠ none) ∧
    (∃ (d : Desc) (nhost nmod : Byte) (s : State), srcOk d = true ∧ auxOk d = true ∧ d.auxlen = 32 ∧
      inputBytes s d.src 1 = [nhost] ∧ inputBytes s (d.src + 1) 1 = [nmod] ∧ nhost.toNat ≤ 16 ∧ nmod.toNat ≤ 32 ∧
       d.slen = 8 + 56 * nhost.toNat + 16 * nmod.toNat ∧ dstOk d (0x70 + d.slen + 96) = true ∧
      (lcs s = 4 ∨ s.on Reg.SEC_LCS.DBGOPENED = true)) ∧
    (∃ (d : Desc) (nhost nmod : Byte) (s : State) (key : _), srcOk d = true ∧ auxOk d = true ∧ d.auxlen = 32 ∧
       inputBytes s d.src 1 = [nhost] ∧ inputBytes s (d.src + 1) 1 = [nmod] ∧ nhost.toNat ≤ 16 ∧ nmod.toNat ≤ 32 ∧
       d.slen = 8 + 56 * nhost.toNat + 16 * nmod.toNat ∧ dstOk d (0x70 + d.slen + 96) = true ∧ lcs s ≠ 4 ∧
      s.on Reg.SEC_LCS.DBGOPENED = false ∧ slotKey s 15 2 3 = some key ∧ s.on Reg.SEC_TRNGSTAT.FAIL = true) ∧
    (∃ (d : Desc) (nhost nmod : Byte) (s : State) (key : _), srcOk d = true ∧ auxOk d = true ∧ d.auxlen = 32 ∧
       inputBytes s d.src 1 = [nhost] ∧ inputBytes s (d.src + 1) 1 = [nmod] ∧ nhost.toNat ≤ 16 ∧ nmod.toNat ≤ 32 ∧
       d.slen = 8 + 56 * nhost.toNat + 16 * nmod.toNat ∧ dstOk d (0x70 + d.slen + 96) = true ∧ lcs s ≠ 4 ∧
      s.on Reg.SEC_LCS.DBGOPENED = false ∧ slotKey s 15 2 3 = some key ∧ s.on Reg.SEC_TRNGSTAT.FAIL = false ∧
      inputBad s d.src d.slen = false ∧ inputBad s d.aux 32 = false) ∧
    (∃ (c : Crypto.Curve) (d : Desc) (s : State),
      let aux := s.bytes d.aux d.auxlen; let sig := aux.drop (2 * c.len); srcOk d = true ∧ auxOk d = true ∧
      d.slen = c.len ∧ d.auxlen = 4 * c.len ∧ inputBad s d.src d.slen = false ∧ inputBad s d.aux d.auxlen = false ∧
       c.pubKey aux ≠ none ∧ c.inRange (beNat (sig.take c.len)) = true ∧ c.inRange (beNat (sig.drop c.len)) = true) :=
  ⟨⟨(Crypto.p256, 1), descOf 7 3 0 0x20002000 32 0x20004000 64 0 0, blank, by decide +kernel⟩,
   ⟨(Crypto.p256, 1), descOf 7 3 0 0x20002000 32 0x20004000 64 0 0, setFields [(Reg.SEC_TRNGSTAT.FAIL,
     1)] (sig0 1 32), List.replicate 31 0 ++ [9], by decide +kernel⟩,
   ⟨(Crypto.p256, 1), descOf 7 3 0 0x20002000 32 0x20004000 64 0 0, sig0 1 32, List.replicate 31 0 ++ [9],
     by decide +kernel⟩,
   ⟨descOf 9 3 0 0 0 0x20004000 32 0x20003000 64, blank, by decide +kernel⟩,
   ⟨descOf 9 3 0 0 0 0x20004000 32 0x20003000 64, ecdhS (List.replicate 64 5), List.replicate 31 0 ++ [9],
     by decide +kernel⟩,
   ⟨descOf 9 3 0 0 0 0x20004000 32 0x20003000 64, ecdhS (Crypto.p256.public 2), List.replicate 31 0 ++ [9],
     by decide +kernel⟩,
   ⟨descOf 13 0 0 0x20002000 8 0x20004000 1000 0x20003000 32, 0, 0, setFields [(Reg.SEC_LCS.STATE, 4)] attS,
     by decide +kernel⟩,
   ⟨descOf 13 0 0 0x20002000 8 0x20004000 1000 0x20003000 32, 0, 0, setFields [(Reg.SEC_TRNGSTAT.FAIL, 1)] attS,
      List.replicate 47 0 ++ [9], by decide +kernel⟩,
   ⟨descOf 13 0 0 0x20002000 8 0x20004000 1000 0x20003000 32, 0, 0, attS, List.replicate 47 0 ++ [9],
     by decide +kernel⟩,
   ⟨Crypto.p256, descOf 5 0 0 0x20002000 32 0 0 0x20003000 128, verifyInput, by decide +kernel⟩⟩

theorem test_witness_CryptoEngine_3 :
    (∃ (d : Desc) (s : State),
      let aux := s.bytes d.aux d.auxlen; let src := inputBytes s d.src d.slen; let c := src.take (d.slen - 16); let ok := Crypto.gcmTag (aux.take 32) ((aux.drop 32).take 12) ((aux.drop 32).drop 12) c = src.drop (d.slen - 16); srcOk d = true ∧
       auxOk d = true ∧ d.decrypt = true ∧ d.kslot = 0xFF ∧ dstOk d (d.slen - 16) = true ∧ 44 ≤ d.auxlen ∧
      16 ≤ d.slen ∧ inputBad s d.src d.slen = false ∧ inputBad s d.aux d.auxlen = false ∧ ok) ∧
    (∃ (d : Desc) (s : State),
      let aux := s.bytes d.aux d.auxlen; let src := inputBytes s d.src d.slen; let c := src.take (d.slen - 16); let ok := Crypto.gcmTag (aux.take 32) ((aux.drop 32).take 12) ((aux.drop 32).drop 12) c = src.drop (d.slen - 16); srcOk d = true ∧
       auxOk d = true ∧ d.decrypt = true ∧ d.kslot = 0xFF ∧ dstOk d (d.slen - 16) = true ∧ 44 ≤ d.auxlen ∧
      16 ≤ d.slen ∧ inputBad s d.src d.slen = false ∧ inputBad s d.aux d.auxlen = false ∧ ¬ok) ∧
    (∃ (_ : Nat) (c : CryptoCmd) (s : State), s.sec.cmd = some c ∧ inSram c.desc 32 = true) ∧
    (∃ (k : Fin 16) (_ : Word) (s : State), Stores s (0x400E0200 + 4 * k) ∧ k.val < 15) ∧
    (∃ (k : Fin 16) (_ : Word) (s : State), Stores s (0x400E0200 + 4 * k) ∧ k.val = 15) ∧
    (∃ (_ : Nat) (s : State), s.coreUp = true) ∧
    (∃ (_ : Nat) (s : State), s.coreUp = true ∧ s.on Reg.SEC_LCS.IKRDY = false) ∧
    (∃ (s : State), Loads s 0x400E0058) ∧
    (∃ (_ : Word) (s : State), Stores s 0x400E0064) ∧
    (∀ op ∈ [1, 2, 3, 4, 5, 6, 7, 8, 9, 10, 11, 12, 13, 14],
      let s := descriptorAt op 0 3 0x20002000 5 0x20003000 32 0 0; Stores s 0x400E0040 ∧
      (1 : Word).toNat.testBit 0 = true ∧ fgdVerifying s = false ∧ inSram (descAddr s) 32 = true ∧
      s.firstBad (descAddr s) 32 = none ∧ (readDesc s (descAddr s)).op = op) :=
  ⟨⟨descOf 3 0xFF 4 0x20002000 16 0x20004000 0 0x20003000 44, gcmInput 0x530f8afbc74536b9a963b4f1c4cb738b,
     by decide +kernel⟩,
   ⟨descOf 3 0xFF 4 0x20002000 16 0x20004000 0 0x20003000 44, gcmInput 5, by decide +kernel⟩,
   ⟨5, ⟨0x20001000, 7, 0x1234⟩,
     { setFields [(Reg.SEC_CMDSTAT.BUSY, 1)] with sec.cmd := some ⟨0x20001000, 7, 0x1234⟩ }, by decide +kernel⟩,
   ⟨14, 0x10000, fillSlot 14 1 2 3 [1] blank, by decide +kernel⟩,
   ⟨15, 0xFFFFFFFF, fillSlot 15 1 2 3 [1] blank, by decide +kernel⟩,
   ⟨5, blank, by decide +kernel⟩,
   ⟨5, blank, by decide +kernel⟩,
   ⟨blank, by decide +kernel⟩,
   ⟨0, blank, by decide +kernel⟩,
   by decide +kernel⟩

theorem test_witness_BootAndConfirmation_1 :
    (∃ (_ : Nat) (s : State), s.coreUp = true ∧ s.sec.booting = true ∧ s.on Reg.SEC_LCS.IKRDY = true ∧
      s.sys.dbgHalted = false) ∧
    (∃ (s : State), blockAccepted s.sys.activeSlot s = true) ∧
    (∃ (s : State), blockAccepted s.sys.activeSlot s = false ∧ latestBoot s = none) ∧
    (∃ (s : State) (r : BootRec), blockAccepted s.sys.activeSlot s = false ∧ latestBoot s = some r) ∧
    (∃ (_ : BootPlan) (_ _ : Bool) (s : State), 2 ≤ lcs s) ∧
    (∃ (_ : Word) (s : State), Stores s 0x40100024 ∧ s.on Reg.SEC_LOCK.MEAS = false) ∧
    (∃ (v : Word) (s : State), Stores s 0x40100024 ∧ s.on Reg.SEC_LOCK.MEAS = true ∧
      Reg.NVC_CONFCTL.CONFIRM.of v.toNat = 0 ∧ Reg.NVC_CONFCTL.EXPIRED.of v.toNat = 0) ∧
    (∃ (v : Word) (s : State), Stores s 0x40100024 ∧ Reg.NVC_CONFCTL.ARM.of v.toNat = 0 ∧ v.toNat / 2 ^ 24 = 0xC5) ∧
    (∃ (v : Word) (s : State), Stores s 0x40100024 ∧ Reg.NVC_CONFCTL.ARM.of v.toNat = 0 ∧ v.toNat / 2 ^ 24 ≠ 0xC5 ∧
       Reg.NVC_CONFCTL.EXPIRED.of v.toNat = 0) ∧
    (∃ (_ : Nat) (s : State), s.coreUp = true ∧ s.on Reg.NVC_CONFCTL.ARMED = true) ∧
    (∃ (t : Nat) (s : State), let e := takeUnit (s.seen t); Acting s ∧ bulkTarget s = 5 ∧ e.bulk.closeReq = false) ∧
    (∃ (t : Nat) (s : State), let e := takeUnit (s.seen t); let a := e.rd Reg.HW_BULK_ADDR.ADDR; Acting s ∧
      bulkTarget s = 5 ∧ e.bulk.closeReq = true ∧ a % 4096 = 0 ∧ 4 ≤ e.kpf.unit.length ∧ bulkErr e = false) :=
  ⟨⟨5, { setFields [(Reg.SEC_LCS.IKRDY, 1)] with sec.booting := true }, by decide +kernel⟩,
   ⟨{ handBlock false blank with sec.handover := true }, by decide +kernel⟩,
   ⟨bothImages, by decide +kernel⟩,
   ⟨{ blank with firn := [(bcWord 0, bootRecWord true false 2 5)] }, ⟨bcWord 0, true, false, 2, 5⟩, by decide +kernel⟩,
   ⟨romPlan, false, false, bothImages [(Reg.SEC_LCS.STATE, 2)], by decide +kernel⟩,
   ⟨0, blank, by decide +kernel⟩,
   ⟨0x80000001, setFields [(Reg.SEC_LOCK.MEAS, 1)], by decide +kernel⟩,
   ⟨0xC5000002, setFields [(Reg.NVC_CONFCTL.ARMED, 1)], by decide +kernel⟩,
   ⟨0xC4000002, setFields [(Reg.NVC_CONFCTL.ARMED, 1)], by decide +kernel⟩,
   ⟨120000005, { setFields [(Reg.NVC_CONFCTL.ARMED, 1)] with nvc.armedAt := 5 }, by decide +kernel⟩,
   ⟨5, { setFields [(Reg.HW_BULK_TARGET.TARGET, 5)] with kpf.state := 1, bulk.wfifo := [.byte 1 0 false] },
     by decide +kernel⟩,
   ⟨5, { (setFields [(Reg.HW_BULK_TARGET.TARGET, 5), (Reg.HW_BULK_ADDR.ADDR, 0)] (staged 8192)) with bulk.closeReq := true, kpf.unit := [1, 2, 3, 4, 5] },
      by decide +kernel⟩⟩

theorem test_witness_BootAndConfirmation_2 :
    (∃ (src : Nat × Nat) (i : Nat) (data : List Byte) (s : State), sessionOpen s = true ∧ src ∈ s.kpf.members ∧
      i < sessionPieces s ∧ i < 125 ∧ sessionLen s ≤ 512000 ∧ pieceStored s i = false ∧ data.length = pieceLen s i ∧
       s.firnWord (0x37F100 / 8 + i) = erasedWord ∧ crc32 data < 2 ^ 32) ∧
    (∃ (src : Nat × Nat) (i : Nat) (data : List Byte) (s : State) (crc : _), sessionOpen s = true ∧
      src ∈ s.kpf.members ∧ i < sessionPieces s ∧ i < 125 ∧ sessionLen s ≤ 512000 ∧ pieceStored s i = false ∧
       (data.length ≠ pieceLen s i ∨ crc32 data ≠ crc)) ∧
    (∃ (_ : Nat) (s : State), Acting s ∧ sessionOpen s = true) ∧
    (∃ (_ : Nat) (q : BootRec) (s : State), Acting s ∧ latestBoot s = some q ∧ q.state = 2 ∧
      q.slot = s.on Reg.SEC_BOOTINFO.SLOT ∧ hostConf s = false ∧ s.on Reg.MBX_CTRL.FWREADY = true ∧
      s.rd Reg.TMR_WDSTAT.STAGE = 0) :=
  ⟨⟨(1, 0), 1, List.replicate 4 7, staged 4100, by decide +kernel⟩,
   ⟨(1, 0), 1, List.replicate 5 7, staged 4100, 5, by decide +kernel⟩,
   ⟨259200000000, staged 300, by decide +kernel⟩,
   ⟨10000007, trialRecord, trialState, by decide +kernel⟩⟩

theorem test_witness_FlashGuard_1 :
    (∃ (v : Word) (_ _ : Sfdp) (s : State), Stores s 0x400F0000 ∧ s.fgd.queue = [] ∧ Reg.FGD_CTRL.EN.of v.toNat = 1 ∧
       Reg.FGD_CTRL.RSMEN.of v.toNat = 0) ∧
    (∃ (v : Word) (_ _ : Sfdp) (s : State), Stores s 0x400F0000 ∧ s.fgd.queue = [] ∧ Reg.FGD_CTRL.EN.of v.toNat = 0) ∧
    (∃ (_ : Nat) (s : State), s.coreUp = true ∧ s.rd Reg.FGD_STAT.PHASE ≠ 0 ∧ s.rd Reg.FGD_STAT.PHASE ≠ 5 ∧
      s.on (Reg.FGD_DEV.PRESENT 0) = false) ∧
    (∃ (_ : Nat) (s : State), s.coreUp = true ∧ s.rd Reg.FGD_STAT.PHASE ≠ 0 ∧ s.rd Reg.FGD_STAT.PHASE ≠ 5 ∧
      s.on (Reg.FGD_DEV.PRESENT 0) = true ∧ s.fgd.sigWait = true ∧ s.sec.cmd.isSome = true ∧ sigNeeded s 0 = true) ∧
    (∃ (_ : Nat) (s : State), s.coreUp = true ∧ s.rd Reg.FGD_STAT.PHASE ≠ 0 ∧ s.rd Reg.FGD_STAT.PHASE ≠ 5 ∧
      s.on (Reg.FGD_DEV.PRESENT 0) = true ∧ (s.fgd.sigWait = false ∨ s.sec.cmd = none) ∧ manCause s 0 = 0 ∧
      ((manOff s 0 = manOff s 1 ∨ manCause s 1 ≠ 0)) ∧ passes (streamAll s false [] (manAt s 0).regions) = true) ∧
    (∃ (_ : Nat) (s : State), s.coreUp = true ∧ s.rd Reg.FGD_STAT.PHASE ≠ 0 ∧ s.rd Reg.FGD_STAT.PHASE ≠ 5 ∧
      s.on (Reg.FGD_DEV.PRESENT 0) = true ∧ (s.fgd.sigWait = false ∨ s.sec.cmd = none) ∧ manCause s 0 ≠ 0 ∧
      ((manOff s 0 = manOff s 1 ∨ manCause s 1 ≠ 0))) ∧
    (∃ (v : Word) (s : State), Stores s 0x400F0000 ∧ Reg.FGD_CTRL.START.of v.toNat = 0 ∧ s.fgd.queue = []) ∧
    (∃ c ∈ [(Instr.flashRead, 1), (Instr.flashWrite, 2), (Instr.flashErase, 3)], ∃ (v : Word) (s : State),
      Stores s 0x400F0040 ∧ s.rd Reg.FGD_FREQ.BUSY = 0 ∧ 1 ≤ s.rd Reg.FGD_STAT.PHASE ∧ s.rd Reg.FGD_STAT.PHASE ≤ 4) ∧
    (∃ c ∈ [(Instr.flashRead, 1), (Instr.flashWrite, 2), (Instr.flashErase, 3)], ∃ (v : Word) (s : State),
      let len := s.rd Reg.FGD_FLEN.LEN; let buf := 4 * s.rd Reg.FGD_FBUF.BUF; Stores s 0x400F0040 ∧
      s.rd Reg.FGD_FREQ.BUSY = 0 ∧ (s.rd Reg.FGD_STAT.PHASE = 0 ∨ 4 < s.rd Reg.FGD_STAT.PHASE) ∧ c.2 ≠ 3 ∧
      (len = 0 ∨ 4096 < len ∨ inSram buf len = false)) ∧
    (∃ c ∈ [(Instr.flashRead, 1), (Instr.flashWrite, 2), (Instr.flashErase, 3)], ∃ (v : Word) (s : State),
      let len := s.rd Reg.FGD_FLEN.LEN; let buf := 4 * s.rd Reg.FGD_FBUF.BUF; let r : FlashReq := { host := false, op := c.2, policy := Reg.FGD_FREQ.SRC.of v.toNat == 1, addr := s.rd Reg.FGD_FADDR.ADDR, len := len, data := if c.2 = 2 then s.bytes buf len else [], tag := 0 }; Stores s 0x400F0040 ∧
       s.rd Reg.FGD_FREQ.BUSY = 0 ∧ (s.rd Reg.FGD_STAT.PHASE = 0 ∨ 4 < s.rd Reg.FGD_STAT.PHASE) ∧
      (c.2 = 3 ∨ (1 ≤ len ∧ len ≤ 4096 ∧ inSram buf len = true)) ∧ s.fgd.queue = [] ∧ s.fgd.active = none ∧
      reqRefused s r = 0 ∧ s.on Reg.FGD_CTRL.EN = true) ∧
    (∃ c ∈ [(Instr.flashRead, 1), (Instr.flashWrite, 2), (Instr.flashErase, 3)], ∃ (v : Word) (s : State),
      let len := s.rd Reg.FGD_FLEN.LEN; let buf := 4 * s.rd Reg.FGD_FBUF.BUF; let r : FlashReq := { host := false, op := c.2, policy := Reg.FGD_FREQ.SRC.of v.toNat == 1, addr := s.rd Reg.FGD_FADDR.ADDR, len := len, data := if c.2 = 2 then s.bytes buf len else [], tag := 0 }; Stores s 0x400F0040 ∧
       s.rd Reg.FGD_FREQ.BUSY = 0 ∧ (s.rd Reg.FGD_STAT.PHASE = 0 ∨ 4 < s.rd Reg.FGD_STAT.PHASE) ∧
      (c.2 = 3 ∨ (1 ≤ len ∧ len ≤ 4096 ∧ inSram buf len = true)) ∧ s.fgd.queue = [] ∧ s.fgd.active = none ∧
      reqRefused s r ≠ 0) ∧
    (∃ (_ : Nat) (r : FlashReq) (s : State), s.fgd.active = some r ∧ r.host = false ∧ s.fgd.queue = [] ∧
       s.fgd.applyDue = false ∧ r.op = 1) :=
  ⟨⟨0x11, goodFlash, noFlash, fgdOn [(Reg.FGD_STAT.VERDICT, 3), (Reg.FGD_STAT.PHASE, 5)], by decide +kernel⟩,
   ⟨0, goodFlash, goodFlash, fgdOn, by decide +kernel⟩,
   ⟨5, setFields [(Reg.FGD_STAT.PHASE, 1)], by decide +kernel⟩,
   ⟨5, { fgMan with fgd.sigWait := true, sec.cmd := some ⟨0, 0, 0⟩ }, by decide +kernel⟩,
   ⟨5, fgMan, by decide +kernel⟩,
   ⟨5, fgdOn [(Reg.FGD_STAT.PHASE, 4), (Reg.FGD_STAT.RSM, 1)], by decide +kernel⟩,
   ⟨0, fgdOn [(Reg.FGD_STAT.VERDICT, 2), (Reg.FGD_STAT.RSM, 1)], by decide +kernel⟩,
   ⟨_, .head _, 0xFF, flashFields [(Reg.FGD_STAT.PHASE, 4)], by decide +kernel⟩,
   ⟨_, .head _, 0, flashFields [(Reg.FGD_STAT.PHASE, 5), (Reg.FGD_FLEN.LEN, 0)], by decide +kernel⟩,
   ⟨_, .head _, 0, flashFields [(Reg.FGD_STAT.PHASE, 5)], by decide +kernel⟩,
   ⟨_, .head _, 0xFF, flashFields, by decide +kernel⟩,
   ⟨5, fgReq 1 false, fgAct (fgReq 1 false), by decide +kernel⟩⟩

theorem test_witness_FlashGuard_2 :
    (∃ (_ : Nat) (r : FlashReq) (s : State), s.fgd.active = some r ∧ r.host = false ∧ s.fgd.queue = [] ∧
       s.fgd.applyDue = false ∧ r.op = 3 ∧ r.policy = false) ∧
    (∃ (_ : Nat) (r : FlashReq) (s : State), s.fgd.active = some r ∧ r.host = false ∧ s.fgd.queue = [] ∧
       s.fgd.applyDue = false ∧ r.op = 2 ∧ r.policy = false ∧ r.len = r.data.length) ∧
    (∃ (_ : Nat) (r : FlashReq) (s : State), s.fgd.active = some r ∧ r.host = false ∧ s.fgd.queue = [] ∧
       s.fgd.applyDue = false) ∧
    (∃ (s : State), Loads s 0x400F0050) ∧
    (∃ (v : Word) (s : State), Stores s 0x400F0034 ∧ Reg.FGD_PROMO.CANCEL.of v.toNat = 0) ∧
    (∃ (v : Word) (s : State), Stores s 0x400F0034 ∧ Reg.FGD_PROMO.GO.of v.toNat = 0) ∧
    (∃ (_ : Nat) (s : State),
      let i := 1 - s.rd Reg.FGD_STAT.ACTMAN; let m := manAt s i; let bad := manOff s 0 = manOff s 1 ∨ manCause s i ≠ 0 ∨ m.mseq ≤ s.rd Reg.FGD_ACTSEQ.MSEQ; s.coreUp = true ∧
       s.rd Reg.FGD_STAT.PROMO = 1 ∧ (s.fgd.sigWait = false ∨ s.sec.cmd = none) ∧ bad) ∧
    (∃ (_ : Nat) (s : State),
      let i := 1 - s.rd Reg.FGD_STAT.ACTMAN; let m := manAt s i; let bad := manOff s 0 = manOff s 1 ∨ manCause s i ≠ 0 ∨ m.mseq ≤ s.rd Reg.FGD_ACTSEQ.MSEQ; s.coreUp = true ∧
       s.rd Reg.FGD_STAT.PROMO = 1 ∧ (s.fgd.sigWait = false ∨ s.sec.cmd = none) ∧ ¬bad ∧
      passes (streamAll s true (s.fgd.act.regions.filter (·.state == 1)) m.regions) = true) :=
  ⟨⟨5, fgReq 3 false, fgAct (fgReq 3 false), by decide +kernel⟩,
   ⟨5, fgReq 2 false [0x3F, 1, 2], fgAct (fgReq 2 false [0x3F, 1, 2]), by decide +kernel⟩,
   ⟨5, fgReq 2 false [0x3F, 1, 2], fgAct (fgReq 2 false [0x3F, 1, 2]), by decide +kernel⟩,
   ⟨fgdOn [(Reg.FGD_CNT.DENIED, 65535), (Reg.FGD_CNT.DEVERR, 3)], by decide +kernel⟩,
   ⟨0, fgdOn [(Reg.FGD_STAT.VERDICT, 1)], by decide +kernel⟩,
   ⟨0, { fgPro with fgd.applyDue := true }, by decide +kernel⟩,
   ⟨5, fgdOn [(Reg.FGD_STAT.PROMO, 1)], by decide +kernel⟩,
   ⟨5, fgPro, by decide +kernel⟩⟩

theorem test_witness_FirnAndLog :
    (∃ c ∈ [(Instr.nvcProgram, 1), (Instr.nvcErase, 2), (Instr.nvcRead, 3)], ∃ (v : Word) (s : State),
      let x : NvcCmd := ⟨c.2, s.rd Reg.NVC_ADDR.ADDR, 8 * s.rd Reg.NVC_BUF.BUF, s.rd Reg.NVC_LEN.LEN⟩; Stores s 0x40100000 ∧
       v.toNat / 2 ^ 24 = 0x6E ∧ s.on Reg.NVC_STAT.BUSY = false ∧ nvcAligned x = false) ∧
    (∃ c ∈ [(Instr.nvcProgram, 1), (Instr.nvcErase, 2), (Instr.nvcRead, 3)], ∃ (v : Word) (s : State),
      let x : NvcCmd := ⟨c.2, s.rd Reg.NVC_ADDR.ADDR, 8 * s.rd Reg.NVC_BUF.BUF, s.rd Reg.NVC_LEN.LEN⟩; let top := if c.2 = 2 then x.addr + 4096 else x.addr + x.len; Stores s 0x40100000 ∧
       v.toNat / 2 ^ 24 = 0x6E ∧ s.on Reg.NVC_STAT.BUSY = false ∧ nvcAligned x = true ∧ c.2 ≠ 3 ∧
      nvcAllowed s x.addr top = false) ∧
    (∃ c ∈ [(Instr.nvcProgram, 1), (Instr.nvcErase, 2), (Instr.nvcRead, 3)], ∃ (v : Word) (s : State),
      let x : NvcCmd := ⟨c.2, s.rd Reg.NVC_ADDR.ADDR, 8 * s.rd Reg.NVC_BUF.BUF, s.rd Reg.NVC_LEN.LEN⟩; let top := if c.2 = 2 then x.addr + 4096 else x.addr + x.len; Stores s 0x40100000 ∧
       v.toNat / 2 ^ 24 = 0x6E ∧ s.on Reg.NVC_STAT.BUSY = false ∧ nvcAligned x = true ∧
      ((c.2 = 3 ∨ nvcAllowed s x.addr top = true))) ∧
    (∃ (_ : Nat) (c : NvcCmd) (s : State), s.coreUp = true ∧ s.nvc.cmd = some c ∧ c.addr + c.len ≤ 0x400000 ∧
      c.cmd = 2 ∧ c.addr % 4096 = 0) ∧
    (∃ (_ : Nat) (c : NvcCmd) (s : State) (n : _), s.coreUp = true ∧ s.nvc.cmd = some c ∧ c.addr + c.len ≤ 0x400000 ∧
       c.cmd = 1 ∧ c.addr % 8 = 0 ∧ c.len % 8 = 0 ∧ n ≤ c.len / 8 ∧ ((∀ i,
      i < n → s.firnWord (c.addr / 8 + i) = erasedWord)) ∧
      ((n < c.len / 8 → s.firnWord (c.addr / 8 + n) ≠ erasedWord))) ∧
    (∃ (_ : Nat) (c : NvcCmd) (s : State), s.coreUp = true ∧ s.nvc.cmd = some c ∧ c.addr + c.len ≤ 0x400000 ∧
      c.cmd = 3 ∧ c.addr % 8 = 0 ∧ c.len % 8 = 0 ∧ ((∀ i, i < c.len / 8 → c.addr / 8 + i ∉ s.firnDed))) ∧
    (∃ (_ : Nat) (c : NvcCmd) (s : State) (j : _), s.coreUp = true ∧ s.nvc.cmd = some c ∧ c.addr + c.len ≤ 0x400000 ∧
       c.cmd = 3 ∧ c.addr % 8 = 0 ∧ c.len % 8 = 0 ∧ j < c.len / 8 ∧ c.addr / 8 + j ∈ s.firnDed ∧ ((∀ i,
      i < j → c.addr / 8 + i ∉ s.firnDed))) ∧
    (∃ (_ : Word) (s : State), Stores s 0x40110034) ∧
    (∃ (_ : Nat) (r : LogRec) (rest : List LogRec) (s : State), s.coreUp = true ∧ s.log.front = r :: rest ∧
      s.on Reg.LOG_STAT.READY = true ∧ s.rd Reg.LOG_STAT.HEAD < 8192 ∧ r.data.length = 16 ∧ ((∀ i,
      i < 4 → s.firnWord (0x78000 + 4 * s.rd Reg.LOG_STAT.HEAD + i) = erasedWord))) ∧
    (∃ (_ : Word) (s : State), Stores s 0x40110000) ∧
    (∃ (s : State), Loads s 0x40110010) ∧
    (∃ (s : State), Loads s 0x40150014) :=
  ⟨⟨_, .head _, 0x6E000000, nvcSet 0x300004 0x20001000 8, by decide +kernel⟩,
   ⟨_, .head _, 0x6E000000, nvcSet 0x200000 0x20001000 8 [(Reg.SEC_BOOTINFO.SLOT, 1)], by decide +kernel⟩,
   ⟨_, .head _, 0x6E000000, nvcSet 0x300000 0x20001000 8, by decide +kernel⟩,
   ⟨5, ⟨2, 0x300000, 0, 0⟩, nvcRuns ⟨2, 0x300000, 0, 0⟩ { blank with firn := [(0x60000, 5), (0x60200, 7)] },
     by decide +kernel⟩,
   ⟨5, ⟨1, 0x300000, 0x20001000, 16⟩, nvcRuns ⟨1, 0x300000, 0x20001000, 16⟩ (blank.storeNat 0x20001000 8 7), 2,
     by decide +kernel⟩,
   ⟨5, ⟨3, 0x300000, 0x20001000, 16⟩, nvcRuns ⟨3, 0x300000, 0x20001000, 16⟩ { blank with firn := [(0x60000, 5)] },
     by decide +kernel⟩,
   ⟨5, ⟨3, 0x300000, 0x20001000, 16⟩, nvcRuns ⟨3, 0x300000, 0x20001000,
     16⟩ { blank with firn := [(0x60000, 5)], firnDed := [0x60001] }, 1, by decide +kernel⟩,
   ⟨0, blank, by decide +kernel⟩,
   ⟨5, ⟨1, 2, 3, 4, List.replicate 16 9⟩, [⟨1, 1, 1, 1, []⟩],
     { setFields [(Reg.LOG_STAT.READY, 1), (Reg.LOG_STAT.HEAD, 8191)] with log.front := [⟨1, 2, 3, 4, List.replicate 16 9⟩, ⟨1, 1, 1, 1, []⟩] },
      by decide +kernel⟩,
   ⟨0, blank, by decide +kernel⟩,
   ⟨setFields [(Reg.LOG_CNT.DROPCORE, 5)], by decide +kernel⟩,
   ⟨setFields [(Reg.ERR_ECCCNT.CORR, 5), (Reg.ERR_ECCCNT.DED, 1)], by decide +kernel⟩⟩

theorem test_witness_BatteryAndPolicy :
    (∃ (t : Nat) (_ : Option PackReading) (s : State), Acting s ∧ feature s 10 = true ∧
      s.kpf.pack.pollAt + 2000000 ≤ max s.tbase t) ∧
    (∃ (t rem full : Nat) (s : State), Acting s ∧ gaugeCaps (s.seen t) = some (rem, full) ∧
      s.kpf.pack.gaugeAt + 600000000 ≤ max s.tbase t) ∧
    (∃ (t : Nat) (s : State), Acting s ∧ anyStall s = false ∧ s.kpf.policy = 2 ∧
      s.kpf.stallAt + 10000000 ≤ max s.tbase t) :=
  ⟨⟨2000000, none, kpfUp, by decide +kernel⟩,
   ⟨600000000, 3000, 5000, { kpfUp with kpf.modules := [batteryModule] }, by decide +kernel⟩,
   ⟨10000000, { kpfUp with kpf.policy := 2 }, by decide +kernel⟩⟩

theorem test_witness_KpfSystemCommands_1 :
    (∃ (t _ : Nat) (resp : List Byte) (_ : Bool) (s : State), tagState s t = tagOwned ∧ resp.length ≤ 496) ∧
    (∃ (t _ : Nat) (resp : List Byte) (_ : Bool) (s : State) (a : _), tagState s t = tagOwned ∧ resp.length ≤ 496 ∧
      (a < boxAddr t 7 ∨ boxAddr t (16 + resp.length) ≤ a)) ∧
    (∃ (tag : Fin 8) (s : State), IsNext tag 0x0102 s ∧ (kTake s).kpf.state = 1 ∧ (readReq (kTake s) tag).body = []) ∧
    (∃ (tag : Fin 8) (s : State), IsNext tag 0x0202 s ∧ (kTake s).kpf.state = 2) ∧
    (∃ (tag : Fin 8) (s : State), IsNext tag 0x0407 s ∧ (kTake s).kpf.state = 1 ∧ feature s 2 = false ∧
      feature s 3 = false) ∧
    (∃ (tag : Fin 8) (s : State), kpfRuns s = true ∧ (kTake s).kpf.wait = none ∧
      (kTake s).mbx.taken.head? = some tag.val ∧ boxCmd (kTake s) tag = 0x0105 ∧
      (kTake s).on (Reg.MBX_TAGINFO.RESEND tag) = true ∧ Sparse.get [] tag (kTake s).kpf.stored = []) ∧
    Serving 0x0101 ([]) kpfUp (fun _ _ => True) ∧
    Serving 0x0102 ((leBytes 1 1)) kpfUp (fun _ _ => True) ∧
    Serving 0x0103 ((leBytes 1 0)) kpfUp (fun q _ => (q.u8 0 = 0 ∨ 30 < q.u8 0)) ∧
    (Serving 0x0103 ((leBytes 1 30)) kpfUp (fun q e => 1 ≤ q.u8 0 ∧ q.u8 0 ≤ 30 ∧ e.kpf.ovf = false)) ∧
    Serving 0x0104 ([]) kpfUp (fun _ _ => True) ∧
    Serving 0x0105 ([]) ({ kpfUp with tbase := 0x123456789 }) (fun _ _ => True) :=
  ⟨⟨3, 6, [1, 2, 3], false, asked 0x0101 [], by decide +kernel⟩,
   ⟨3, 6, [1, 2, 3], false, asked 0x0101 [], 0x400D1000, by decide +kernel⟩,
   ⟨3, asked 0x0102 [], by decide +kernel⟩,
   ⟨3, asked 0x0202 [] { kpfUp with kpf.state := 2 }, by decide +kernel⟩,
   ⟨3, asked 0x0407 [] { kpfUp with board.features := 0xFF3 }, by decide +kernel⟩,
   ⟨3, setFields [(Reg.MBX_TAGINFO.RESEND 3, 1)] (asked 0x0105 []), by decide +kernel⟩,
   by decide +kernel,
   by decide +kernel,
   by decide +kernel,
   by decide +kernel,
   by decide +kernel,
   by decide +kernel⟩

theorem test_witness_KpfSystemCommands_2 :
    Serving 0x0106 ([]) kpfUp (fun _ _ => True) ∧
    Serving 0x0201 ([]) ((setFields [(Reg.RAIL_WARN1.CH, 5)] kpfUp)) (fun _ _ => True) ∧
    Serving 0x0202 ((leBytes 1 40)) kpfUp (fun q _ => let n := q.u8 0; 39 < n) ∧
    Serving 0x0202 ((leBytes 1 39)) ((setFields [(Reg.RAIL_CHSTAT.STATE 39,
      3)] kpfUp)) (fun q _ => let n := q.u8 0; n ≤ 39) ∧
    Serving 0x0203 ((leBytes 1 255)) kpfUp (fun q _ => let n := q.u8 0; n = 0xFF) ∧
    (Serving 0x0203 ((leBytes 1 40)) kpfUp (fun q _ => let n := q.u8 0; 39 < n ∧ n ≠ 0xFF)) ∧
    Serving 0x0203 ((leBytes 1 0)) kpfUp (fun q _ => let n := q.u8 0; n < 32) ∧
    (Serving 0x0203 ((leBytes 1 39)) kpfUp (fun q _ => let n := q.u8 0; 32 ≤ n ∧ n ≤ 39)) ∧
    (Serving 0x0204 ([]) ((setFields [(Reg.RAIL_CTRL.FLTSET, 1), (Reg.RAIL_SETLO.MEMLO 1, 1),
      (Reg.RAIL_CHSTAT.STATE 0,
      4)] kpfUp)) (fun _ e => let held := ∃ n, n < 40 ∧ (railSet e (e.rd Reg.RAIL_CTRL.FLTSET)).testBit n = true ∧ chState e n = chFault; held)) ∧
    (Serving 0x0204 ([]) kpfUp (fun _ e => let held := ∃ n, n < 40 ∧ (railSet e (e.rd Reg.RAIL_CTRL.FLTSET)).testBit n = true ∧ chState e n = chFault; ¬held)) ∧
    Serving 0x0205 ((leBytes 2 512 ++ leBytes 2 0 ++ leBytes 4 0)) kpfUp (fun q _ => 512 ≤ q.u16 0) ∧
    Serving 0x0205 ((leBytes 2 511 ++ leBytes 2 0 ++ leBytes 4 0)) kpfUp (fun q _ => q.u16 0 < 512) :=
  by refine ⟨?_, ?_, ?_, ?_, ?_, ?_, ?_, ?_, ?_, ?_, ?_, ?_⟩ <;> decide +kernel

theorem test_witness_KpfSystemCommands_3 :
    Serving 0x0206 ((leBytes 2 0)) kpfUp (fun q _ => (q.u16 0 = 0 ∨ 600 < q.u16 0)) ∧
    (Serving 0x0206 ((leBytes 2 1)) kpfUp (fun q _ => 1 ≤ q.u16 0 ∧ q.u16 0 ≤ 600)) ∧
    Serving 0x0301 ([]) kpfUp (fun _ e => battery e = none) ∧
    Serving 0x0301 ([]) ({ kpfUp with kpf.modules := [batteryModule] }) (fun _ e => (battery e).isSome = true) ∧
    Serving 0x0302 ([]) ((setFields [(Reg.CHG_MEAS.IBAT, 0x1234)] kpfUp)) (fun _ _ => True) ∧
    Serving 0x0303 ([]) kpfUp (fun _ _ => True) ∧
    Serving 0x0304 ([]) ((setFields [(Reg.CHG_STAT.FCAUSE, 5), (Reg.CHG_MEAS.IBAT,
      12000)] kpfUp)) (fun _ e => let t := kField Reg.CHG_CTRL.FLTCLR 1 e; chgFaulted t = true) ∧
    Serving 0x0304 ([]) kpfUp (fun _ e => let t := kField Reg.CHG_CTRL.FLTCLR 1 e; chgFaulted t = false) ∧
    Serving 0x0305 ((leBytes 2 0 ++ leBytes 2 0 ++ leBytes 1 2 ++ leBytes 1 0 ++ leBytes 2 0)) kpfUp (fun q _ => (1 < q.u8 4 ∨ 1 < q.u8 5)) ∧
    (Serving 0x0305 ((leBytes 2 3000 ++ leBytes 2 4100 ++ leBytes 1 1 ++ leBytes 1 0 ++ leBytes 2 0)) kpfUp (fun q _ => q.u8 4 ≤ 1 ∧
       q.u8 5 = 0)) ∧
    (∀ p ∈ [(0x0106, 6), (0x0205, 6), (0x0304, 6), (0x0602, 6), (0x0B05, 6)],
      IsNext 3 p.1 (asked p.1 [] { kpfUp with kpf.sealed := true }) ∧
      (kTake (asked p.1 [] { kpfUp with kpf.sealed := true })).kpf.state = 1 ∧
      (kTake (asked p.1 [] { kpfUp with kpf.sealed := true })).kpf.sealed = true) :=
  by refine ⟨?_, ?_, ?_, ?_, ?_, ?_, ?_, ?_, ?_, ?_, ?_⟩ <;> decide +kernel

theorem test_witness_KpfPlatformCommands_1 :
    Serving 0x0401 ((leBytes 1 2)) kpfUp (fun q _ => let p := q.u8 0; 1 < p) ∧
    (Serving 0x0401 ((leBytes 1 0)) ({ kpfUp with board.features := 0xFFB }) (fun q e => let p := q.u8 0; p ≤ 1 ∧
       feature e (2 + p) = false)) ∧
    (Serving 0x0401 ((leBytes 1 0)) kpfUp (fun q e => let p := q.u8 0; p ≤ 1 ∧ feature e (2 + p) = true)) ∧
    Serving 0x0402 ((leBytes 1 2)) kpfUp (fun q _ => let p := q.u8 0; 1 < p) ∧
    (Serving 0x0402 ((leBytes 1 0)) ({ kpfUp with board.features := 0xFFB }) (fun q e => let p := q.u8 0; p ≤ 1 ∧
       feature e (2 + p) = false)) ∧
    (Serving 0x0402 ((leBytes 1 1)) ((setFields [(Reg.PD_STAT.NPDO 1, 2), (Reg.PD_RXPDO.PDO 1 0,
      0x0001912C)] kpfUp)) (fun q e => let p := q.u8 0; p ≤ 1 ∧ feature e (2 + p) = true)) ∧
    Serving 0x0403 ((leBytes 1 2 ++ leBytes 5 0)) kpfUp (fun q _ => let p := q.u8 0; 1 < p) ∧
    (Serving 0x0403 ((leBytes 1 0 ++ leBytes 5 0)) ({ kpfUp with board.features := 0xFFB }) (fun q e => let p := q.u8 0; p ≤ 1 ∧
       feature e (2 + p) = false)) ∧
    (Serving 0x0403 ((leBytes 1 0 ++ leBytes 1 12 ++ leBytes 2 0 ++ leBytes 2 0)) kpfUp (fun q e => let p := q.u8 0; p ≤ 1 ∧
       feature e (2 + p) = true ∧ (11 < q.u8 1 ∨ 127 < q.u16 4 / 50))) ∧
    (Serving 0x0403 ((leBytes 1 1 ++ leBytes 1 1 ++ leBytes 2 5000 ++ leBytes 2 3000)) kpfUp (fun q e => let p := q.u8 0; p ≤ 1 ∧
       feature e (2 + p) = true ∧ q.u8 1 ≤ 11 ∧ q.u16 4 / 50 ≤ 127)) ∧
    Serving 0x0404 ((leBytes 1 2 ++ leBytes 3 0)) kpfUp (fun q _ => let p := q.u8 0; 1 < p) ∧
    (Serving 0x0404 ((leBytes 1 0 ++ leBytes 3 0)) ({ kpfUp with board.features := 0xFFB }) (fun q e => let p := q.u8 0; p ≤ 1 ∧
       feature e (2 + p) = false)) :=
  by refine ⟨?_, ?_, ?_, ?_, ?_, ?_, ?_, ?_, ?_, ?_, ?_, ?_⟩ <;> decide +kernel

theorem test_witness_KpfPlatformCommands_2 :
    (Serving 0x0404 ((leBytes 1 1 ++ leBytes 1 0 ++ leBytes 1 0 ++ leBytes 1 0)) kpfUp (fun q e => let p := q.u8 0; p ≤ 1 ∧
       feature e (2 + p) = true ∧ (q.u8 2 = 0 ∨ 8 < q.u8 2 ∨ 2 < q.u8 1))) ∧
    (Serving 0x0404 ((leBytes 1 0 ++ leBytes 1 0 ++ leBytes 1 1 ++ leBytes 1 0 ++ leBytes 4 5)) ((setFields [(Reg.PD_VDMCTL.TXBUSY 0,
       1)] kpfUp)) (fun q e => let p := q.u8 0; p ≤ 1 ∧ feature e (2 + p) = true ∧ 1 ≤ q.u8 2 ∧ q.u8 2 ≤ 8 ∧
      q.u8 1 ≤ 2 ∧ e.on (Reg.PD_VDMCTL.TXBUSY p) = true)) ∧
    (Serving 0x0404 ((leBytes 1 1 ++ leBytes 1 2 ++ leBytes 1 2 ++ leBytes 1 0 ++ leBytes 4 4278222849 ++ leBytes 4 7)) kpfUp (fun q e => let p := q.u8 0; p ≤ 1 ∧
       feature e (2 + p) = true ∧ 1 ≤ q.u8 2 ∧ q.u8 2 ≤ 8 ∧ q.u8 1 ≤ 2 ∧ e.on (Reg.PD_VDMCTL.TXBUSY p) = false)) ∧
    Serving 0x0405 ((leBytes 1 2)) kpfUp (fun q _ => let p := q.u8 0; 1 < p) ∧
    (Serving 0x0405 ((leBytes 1 0)) ({ kpfUp with board.features := 0xFFB }) (fun q e => let p := q.u8 0; p ≤ 1 ∧
       feature e (2 + p) = false)) ∧
    Serving 0x0405 ((leBytes 1 1)) ({ kpfUp with kpf.vdms := [⟨1, 0, [0xFF008001, 3]⟩] }) (fun q e => (takeVdm (q.u8 0) e).kpf.vdms.head?.any (fun v => v.port == q.u8 0) = true) ∧
    Serving 0x0406 ((leBytes 1 2 ++ leBytes 11 0)) kpfUp (fun q _ => let p := q.u8 0; 1 < p) ∧
    (Serving 0x0406 ((leBytes 1 0 ++ leBytes 11 0)) ({ kpfUp with board.features := 0xFFB }) (fun q e => let p := q.u8 0; p ≤ 1 ∧
       feature e (2 + p) = false)) ∧
    (Serving 0x0406 ((leBytes 1 1 ++ leBytes 1 4 ++ leBytes 1 15 ++ leBytes 1 3 ++ leBytes 2 20000 ++ leBytes 2 5000 ++ leBytes 1 100 ++ leBytes 1 0 ++ leBytes 2 3000)) kpfUp (fun q e => let p := q.u8 0; let bad := 3 < q.u8 1 ∨ 15 < q.u8 2 ∨ 3 < q.u8 3 ∨ 511 < q.u16 4 / 100 ∨ 127 < q.u16 6 / 100 ∨ 1023 < q.u16 10 / 10; p ≤ 1 ∧
       feature e (2 + p) = true ∧ bad)) ∧
    (Serving 0x0406 ((leBytes 1 1 ++ leBytes 1 3 ++ leBytes 1 15 ++ leBytes 1 3 ++ leBytes 2 20000 ++ leBytes 2 5000 ++ leBytes 1 100 ++ leBytes 1 0 ++ leBytes 2 3000)) kpfUp (fun q e => let p := q.u8 0; let bad := 3 < q.u8 1 ∨ 15 < q.u8 2 ∨ 3 < q.u8 3 ∨ 511 < q.u16 4 / 100 ∨ 127 < q.u16 6 / 100 ∨ 1023 < q.u16 10 / 10; p ≤ 1 ∧
       feature e (2 + p) = true ∧ ¬bad)) ∧
    Serving 0x0407 ((leBytes 1 2 ++ leBytes 1 7 ++ leBytes 1 100 ++ leBytes 1 0 ++ leBytes 2 3000 ++ leBytes 2 0)) kpfUp (fun q _ => let bad := 1 < q.u8 0 ∨ 7 < q.u8 1 ∨ 127 < q.u8 2 ∨ 511 < q.u16 4 / 10; bad) ∧
    Serving 0x0407 ((leBytes 1 1 ++ leBytes 1 7 ++ leBytes 1 100 ++ leBytes 1 0 ++ leBytes 2 3000 ++ leBytes 2 0)) kpfUp (fun q _ => let bad := 1 < q.u8 0 ∨ 7 < q.u8 1 ∨ 127 < q.u8 2 ∨ 511 < q.u16 4 / 10; ¬bad) :=
  by refine ⟨?_, ?_, ?_, ?_, ?_, ?_, ?_, ?_, ?_, ?_, ?_, ?_⟩ <;> decide +kernel

theorem test_witness_KpfPlatformCommands_3 :
    Serving 0x0501 ([]) ((setFields [(Reg.THM_TEMP.TEMP 19, 0x1F0)] kpfUp)) (fun _ _ => True) ∧
    Serving 0x0502 ([]) ((setFields [(Reg.FAN_OUT.VOUT 3, 5000)] kpfUp)) (fun _ _ => True) ∧
    (Serving 0x0503 ((leBytes 1 3 ++ leBytes 1 1 ++ leBytes 2 16384)) kpfUp (fun q _ => let n := q.u8 0; let bad := 3 < n ∨ 3 < q.u8 1 ∨ (q.u8 1 = 1 ∧ 16383 < q.u16 2); bad)) ∧
    (Serving 0x0503 ((leBytes 1 3 ++ leBytes 1 0 ++ leBytes 2 0)) kpfUp (fun q _ => let n := q.u8 0; let bad := 3 < n ∨ 3 < q.u8 1 ∨ (q.u8 1 = 1 ∧ 16383 < q.u16 2); ¬bad)) ∧
    Serving 0x0504 ((leBytes 1 4)) kpfUp (fun q _ => 3 < q.u8 0) ∧
    Serving 0x0504 ((leBytes 1 3)) kpfUp (fun q _ => q.u8 0 ≤ 3) ∧
    Serving 0x0505 ((leBytes 1 3)) kpfUp (fun q _ => 2 < q.u8 0) ∧
    Serving 0x0505 ((leBytes 1 2)) kpfUp (fun q _ => q.u8 0 ≤ 2) ∧
    Serving 0x0601 ([]) kpfUp (fun _ _ => True) ∧
    Serving 0x0602 ((leBytes 100 0)) kpfUp (fun _ _ => True) ∧
    Serving 0x0603 ([]) kpfUp (fun _ _ => True) ∧
    Serving 0x0604 ((leBytes 2 21579 ++ leBytes 1 1 ++ leBytes 1 1 ++ leBytes 268 0)) kpfUp (fun q _ => let tok := q.body.take 272; tokKind tok ≠ 6) :=
  by refine ⟨?_, ?_, ?_, ?_, ?_, ?_, ?_, ?_, ?_, ?_, ?_, ?_⟩ <;> decide +kernel

theorem test_witness_KpfPlatformCommands_4 :
    (Serving 0x0604 (tok6) ({ setFields [(Reg.SEC_LCS.STATE, 3), (Reg.SEC_NONCE.NONCE 0, 1), (Reg.SEC_FUSESTAT.OEMPROG, 8)] kpfUp with sec.fuses.devid := 5, sec.fuses.oemHash := [(3, Crypto.sha Crypto.sha384 (beBytes 48 pubX ++ beBytes 48 pubY))] }) (fun q e => let tok := q.body.take 272; let t := checkToken tok e; tokKind tok = 6 ∧
       t.on Reg.SEC_TOKCTL.KEYOK = true)) ∧
    (Serving 0x0604 ((leBytes 2 21579 ++ leBytes 1 1 ++ leBytes 1 6 ++ leBytes 268 0)) ({ kpfUp with sec.fuses.devid := 5 }) (fun q e => let tok := q.body.take 272; let t := checkToken tok e; tokKind tok = 6 ∧
       t.on Reg.SEC_TOKCTL.KEYOK = false)) ∧
    Serving 0x0605 ((leBytes 100 0)) ((setFields [(Reg.KSC_LOCKCTL.LOCK, 1), (Reg.KSC_LOCKST.STATE,
      1)] kpfUp)) (fun _ e => kbdLocked e = true) ∧
    (Serving 0x0605 ((leBytes 1 8 ++ leBytes 3 0 ++ leBytes 2 1024 ++ leBytes 94 0)) kpfUp (fun q e => let bad := 8 < q.u8 0 ∨ ∃ k, k < 8 ∧ ∃ i, i < 4 ∧ 1023 < q.u16 (4 + 12 * k + 2 * i); kbdLocked e = false ∧
       bad)) ∧
    (Serving 0x0605 ((leBytes 100 0)) kpfUp (fun q e => let bad := 8 < q.u8 0 ∨ ∃ k, k < 8 ∧ ∃ i, i < 4 ∧ 1023 < q.u16 (4 + 12 * k + 2 * i); kbdLocked e = false ∧
       ¬bad)) ∧
    Serving 0x0701 ([]) kpfUp (fun _ _ => True) ∧
    Serving 0x0702 ((leBytes 1 16 ++ leBytes 1 3 ++ leBytes 2 2047 ++ leBytes 4 16777215)) kpfUp (fun q _ => let bad := 15 < q.u8 0 ∨ 3 < q.u8 1 ∨ 2047 < q.u16 2 ∨ 2 ^ 24 ≤ q.u32 4; bad) ∧
    (Serving 0x0702 ((leBytes 1 15 ++ leBytes 1 3 ++ leBytes 2 2047 ++ leBytes 4 16777215)) ((setFields [(Reg.SYS_DOMCTRL.LUXEN,
       1), (Reg.SYS_DOMCTRL.LUXRDY,
      1)] kpfUp)) (fun q e => let bad := 15 < q.u8 0 ∨ 3 < q.u8 1 ∨ 2047 < q.u16 2 ∨ 2 ^ 24 ≤ q.u32 4; ¬bad ∧
      luxOn e = true)) ∧
    (Serving 0x0702 ((leBytes 1 15 ++ leBytes 1 3 ++ leBytes 2 2047 ++ leBytes 4 16777215)) kpfUp (fun q e => let bad := 15 < q.u8 0 ∨ 3 < q.u8 1 ∨ 2047 < q.u16 2 ∨ 2 ^ 24 ≤ q.u32 4; ¬bad ∧
       luxOn e = false ∧ q.u8 0 % 2 = 1)) ∧
    (Serving 0x0702 ((leBytes 1 0 ++ leBytes 1 3 ++ leBytes 2 2047 ++ leBytes 4 16777215)) kpfUp (fun q e => let bad := 15 < q.u8 0 ∨ 3 < q.u8 1 ∨ 2047 < q.u16 2 ∨ 2 ^ 24 ≤ q.u32 4; ¬bad ∧
       luxOn e = false ∧ q.u8 0 % 2 = 0)) :=
  by refine ⟨?_, ?_, ?_, ?_, ?_, ?_, ?_, ?_, ?_, ?_⟩ <;> decide +kernel

theorem test_witness_KpfPlatformCommands_5 :
    Serving 0x0703 ((leBytes 1 16 ++ leBytes 1 3 ++ leBytes 2 1023 ++ leBytes 2 32767 ++ leBytes 2 7 ++ leBytes 1 1 ++ leBytes 3 0)) ((setFields [(Reg.SYS_DOMCTRL.LUXEN,
       1), (Reg.SYS_DOMCTRL.LUXRDY,
      1)] kpfUp)) (fun q _ => let r := q.u8 0; let bad := 15 < r ∨ 3 < q.u8 1 ∨ 1023 < q.u16 2 ∨ 32767 < q.u16 4 ∨ 1 < q.u8 8; bad) ∧
    (Serving 0x0703 ((leBytes 1 15 ++ leBytes 1 3 ++ leBytes 2 1023 ++ leBytes 2 32767 ++ leBytes 2 7 ++ leBytes 1 1 ++ leBytes 3 0)) kpfUp (fun q e => let r := q.u8 0; let bad := 15 < r ∨ 3 < q.u8 1 ∨ 1023 < q.u16 2 ∨ 32767 < q.u16 4 ∨ 1 < q.u8 8; ¬bad ∧
       luxOn e = false)) ∧
    (Serving 0x0703 ((leBytes 1 15 ++ leBytes 1 3 ++ leBytes 2 1023 ++ leBytes 2 32767 ++ leBytes 2 7 ++ leBytes 1 1 ++ leBytes 3 0)) ((setFields [(Reg.SYS_DOMCTRL.LUXEN,
       1), (Reg.SYS_DOMCTRL.LUXRDY,
      1)] kpfUp)) (fun q e => let r := q.u8 0; let bad := 15 < r ∨ 3 < q.u8 1 ∨ 1023 < q.u16 2 ∨ 32767 < q.u16 4 ∨ 1 < q.u8 8; ¬bad ∧
       luxOn e = true)) ∧
    Serving 0x0704 ((leBytes 1 64 ++ leBytes 1 0 ++ leBytes 18 4660)) ((setFields [(Reg.SYS_DOMCTRL.LUXEN, 1),
       (Reg.SYS_DOMCTRL.LUXRDY, 1)] kpfUp)) (fun q _ => 63 < q.u8 0) ∧
    (Serving 0x0704 ((leBytes 1 63 ++ leBytes 1 0 ++ leBytes 18 4660)) kpfUp (fun q e => q.u8 0 ≤ 63 ∧
      luxOn e = false)) ∧
    (Serving 0x0704 ((leBytes 1 63 ++ leBytes 1 0 ++ leBytes 18 4660)) ((setFields [(Reg.SYS_DOMCTRL.LUXEN, 1),
       (Reg.SYS_DOMCTRL.LUXRDY, 1)] kpfUp)) (fun q e => q.u8 0 ≤ 63 ∧ luxOn e = true)) ∧
    Serving 0x0705 ((leBytes 1 64 ++ leBytes 1 1 ++ leBytes 2 1023 ++ leBytes 2 32767 ++ leBytes 2 0 ++ leBytes 4 1 ++ leBytes 4 2 ++ leBytes 4 3 ++ leBytes 4 4)) ((setFields [(Reg.SYS_DOMCTRL.LUXEN,
       1), (Reg.SYS_DOMCTRL.LUXRDY,
      1)] kpfUp)) (fun q _ => let j := q.u8 0; let bad := 63 < j ∨ 1 < q.u8 1 ∨ 1023 < q.u16 2 ∨ 32767 < q.u16 4; bad) ∧
    (Serving 0x0705 ((leBytes 1 63 ++ leBytes 1 1 ++ leBytes 2 1023 ++ leBytes 2 32767 ++ leBytes 2 0 ++ leBytes 4 1 ++ leBytes 4 2 ++ leBytes 4 3 ++ leBytes 4 4)) kpfUp (fun q e => let j := q.u8 0; let bad := 63 < j ∨ 1 < q.u8 1 ∨ 1023 < q.u16 2 ∨ 32767 < q.u16 4; ¬bad ∧
       luxOn e = false)) ∧
    (Serving 0x0705 ((leBytes 1 63 ++ leBytes 1 1 ++ leBytes 2 1023 ++ leBytes 2 32767 ++ leBytes 2 0 ++ leBytes 4 1 ++ leBytes 4 2 ++ leBytes 4 3 ++ leBytes 4 4)) ((setFields [(Reg.SYS_DOMCTRL.LUXEN,
       1), (Reg.SYS_DOMCTRL.LUXRDY,
      1)] kpfUp)) (fun q e => let j := q.u8 0; let bad := 63 < j ∨ 1 < q.u8 1 ∨ 1023 < q.u16 2 ∨ 32767 < q.u16 4; ¬bad ∧
       luxOn e = true)) ∧
    Serving 0x0706 ([]) kpfUp (fun _ e => luxOn e = false) ∧
    Serving 0x0706 ([]) ((setFields [(Reg.SYS_DOMCTRL.LUXEN, 1), (Reg.SYS_DOMCTRL.LUXRDY,
      1)] kpfUp)) (fun _ e => luxOn e = true) ∧
    Serving 0x0707 ((leBytes 1 0)) kpfUp (fun _ e => luxOn e = false) :=
  by refine ⟨?_, ?_, ?_, ?_, ?_, ?_, ?_, ?_, ?_, ?_, ?_, ?_⟩ <;> decide +kernel

theorem test_witness_KpfPlatformCommands_6 :
    Serving 0x0707 ((leBytes 1 1)) ((setFields [(Reg.SYS_DOMCTRL.LUXEN, 1), (Reg.SYS_DOMCTRL.LUXRDY, 1),
       (Reg.CHN_STAT.NFOUND, 3)] kpfUp)) (fun _ e => luxOn e = true) ∧
    Serving 0x0708 ((leBytes 2 1 ++ leBytes 2 768)) ((setFields [(Reg.SYS_DOMCTRL.LUXEN, 1), (Reg.SYS_DOMCTRL.LUXRDY,
       1)] kpfUp)) (fun q _ => let a := q.u16 0; let n := q.u16 2; let bad := n = 0 ∨ 768 < n ∨ 768 < a + n; bad) ∧
    (Serving 0x0708 ((leBytes 2 0 ++ leBytes 2 1)) kpfUp (fun q e => let a := q.u16 0; let n := q.u16 2; let bad := n = 0 ∨ 768 < n ∨ 768 < a + n; ¬bad ∧
       luxOn e = false)) ∧
    (Serving 0x0708 ((leBytes 2 0 ++ leBytes 2 768)) ((setFields [(Reg.SYS_DOMCTRL.LUXEN, 1), (Reg.SYS_DOMCTRL.LUXRDY,
       1)] kpfUp)) (fun q e => let a := q.u16 0; let n := q.u16 2; let bad := n = 0 ∨ 768 < n ∨ 768 < a + n; ¬bad ∧
       luxOn e = true)) ∧
    (Serving 0x0709 ((leBytes 2 65535)) ((setFields [(Reg.SYS_DOMCTRL.LUXEN, 1), (Reg.SYS_DOMCTRL.LUXRDY,
      1)] kpfUp)) (fun q e => let c := q.u16 0; c = 0xFFFF ∧ luxOn e = true)) ∧
    (Serving 0x0709 ((leBytes 2 768)) ((setFields [(Reg.SYS_DOMCTRL.LUXEN, 1), (Reg.SYS_DOMCTRL.LUXRDY,
      1)] kpfUp)) (fun q _ => let c := q.u16 0; 767 < c ∧ c ≠ 0xFFFF)) ∧
    (Serving 0x0709 ((leBytes 2 767)) ((setFields [(Reg.SYS_DOMCTRL.LUXEN, 1), (Reg.SYS_DOMCTRL.LUXRDY,
      1)] kpfUp)) (fun q e => let c := q.u16 0; c ≤ 767 ∧ luxOn e = true)) ∧
    (Serving 0x0709 ((leBytes 2 0)) kpfUp (fun q e => let c := q.u16 0; (c ≤ 767 ∨ c = 0xFFFF) ∧ luxOn e = false)) :=
  by refine ⟨?_, ?_, ?_, ?_, ?_, ?_, ?_, ?_⟩ <;> decide +kernel

theorem test_witness_KpfSecurityAndUpdateCommands_1 :
    Serving 0x0801 ((leBytes 1 0)) ({ kpfUp with kpf.modules := [batteryModule, { moduleIn .admitted 0x11 with uid := 3, cls := 2 }, moduleIn .newcomer, { moduleIn .stranger with reason := 3 }] }) (fun _ _ => True) ∧
    Serving 0x0802 ((leBytes 1 2 ++ leBytes 1 16 ++ leBytes 1 7 ++ leBytes 1 0)) ({ kpfUp with kpf.modules := [batteryModule, { moduleIn .admitted 0x11 with uid := 3, cls := 2 }, moduleIn .newcomer, { moduleIn .stranger with reason := 3 }] }) (fun q _ => let p := q.u8 0; 1 < p) ∧
    (Serving 0x0802 ((leBytes 1 0 ++ leBytes 3 0)) ({ kpfUp with board.features := 0xFDF }) (fun q e => let p := q.u8 0; p ≤ 1 ∧
       feature e (5 + p) = false)) ∧
    (Serving 0x0802 ((leBytes 1 0 ++ leBytes 1 16 ++ leBytes 1 7 ++ leBytes 1 0)) ({ kpfUp with kpf.modules := [batteryModule, { moduleIn .admitted 0x11 with uid := 3, cls := 2 }, moduleIn .newcomer, { moduleIn .stranger with reason := 3 }] }) (fun q e => let p := q.u8 0; p ≤ 1 ∧
       feature e (5 + p) = true ∧ admitted e p (q.u8 1) = none)) ∧
    (Serving 0x0802 ((leBytes 1 1 ++ leBytes 1 16 ++ leBytes 1 7 ++ leBytes 1 0)) ({ kpfUp with kpf.modules := [batteryModule, { moduleIn .admitted 0x11 with uid := 3, cls := 2 }, moduleIn .newcomer, { moduleIn .stranger with reason := 3 }] }) (fun q e => let p := q.u8 0; p ≤ 1 ∧
       feature e (5 + p) = true ∧ admitted e p (q.u8 1) ≠ none)) ∧
    (Serving 0x0802 ((leBytes 1 1 ++ leBytes 1 16 ++ leBytes 1 7 ++ leBytes 1 0)) ({ kpfUp with kpf.modules := [batteryModule, { moduleIn .admitted 0x11 with uid := 3, cls := 2 }, moduleIn .newcomer, { moduleIn .stranger with reason := 3 }] }) (fun q e => let p := q.u8 0; p ≤ 1 ∧
       feature e (5 + p) = true ∧ admitted e p (q.u8 1) ≠ none ∧ canSend e p = false)) ∧
    Serving 0x0803 ((leBytes 1 1 ++ leBytes 1 16 ++ leBytes 1 7 ++ leBytes 1 0)) ({ kpfUp with kpf.modules := [batteryModule, { moduleIn .admitted 0x11 with uid := 3, cls := 2 }, moduleIn .newcomer, { moduleIn .stranger with reason := 3 }] }) (fun q _ => let p := q.u8 0; let n := q.u8 3; (n = 0 ∨ 62 < n ∨ 1 < p)) ∧
    (Serving 0x0803 ((leBytes 1 0 ++ leBytes 1 16 ++ leBytes 1 7 ++ leBytes 1 62 ++ leBytes 62 1)) ({ kpfUp with kpf.modules := [batteryModule, { moduleIn .admitted 0x11 with uid := 3, cls := 2 }, moduleIn .newcomer, { moduleIn .stranger with reason := 3 }] }) (fun q e => let p := q.u8 0; let n := q.u8 3; 1 ≤ n ∧
       n ≤ 62 ∧ p ≤ 1 ∧ feature e (5 + p) = true ∧ admitted e p (q.u8 1) = none)) ∧
    (Serving 0x0803 ((leBytes 1 1 ++ leBytes 1 16 ++ leBytes 1 10 ++ leBytes 1 1 ++ leBytes 1 1)) ({ kpfUp with kpf.modules := [batteryModule, { moduleIn .admitted 0x11 with uid := 3, cls := 2 }, moduleIn .newcomer, { moduleIn .stranger with reason := 3 }] }) (fun q e => let p := q.u8 0; let n := q.u8 3; 1 ≤ n ∧
       n ≤ 62 ∧ p ≤ 1 ∧ feature e (5 + p) = true ∧ (admitted e p (q.u8 1)).isSome = true ∧
      ((admitted e p (q.u8 1)).all fun m => m.cls == 1) = true ∧ q.u8 2 = 0x0A)) ∧
    (Serving 0x0803 ((leBytes 1 1 ++ leBytes 1 17 ++ leBytes 1 10 ++ leBytes 1 1 ++ leBytes 1 1)) ({ kpfUp with kpf.modules := [batteryModule, { moduleIn .admitted 0x11 with uid := 3, cls := 2 }, moduleIn .newcomer, { moduleIn .stranger with reason := 3 }] }) (fun q e => let p := q.u8 0; let n := q.u8 3; 1 ≤ n ∧
       n ≤ 62 ∧ p ≤ 1 ∧ feature e (5 + p) = true ∧ (admitted e p (q.u8 1)).isSome = true ∧
      (((admitted e p (q.u8 1)).all fun m => m.cls == 1) = false ∨ q.u8 2 ≠ 0x0A))) ∧
    Serving 0x0804 ((leBytes 1 2)) kpfUp (fun q _ => let p := q.u8 0; 1 < p) ∧
    (Serving 0x0804 ((leBytes 1 0)) ({ kpfUp with board.features := 0xFDF }) (fun q e => let p := q.u8 0; p ≤ 1 ∧
       feature e (5 + p) = false)) :=
  by refine ⟨?_, ?_, ?_, ?_, ?_, ?_, ?_, ?_, ?_, ?_, ?_, ?_⟩ <;> decide +kernel

theorem test_witness_KpfSecurityAndUpdateCommands_2 :
    (Serving 0x0804 ((leBytes 1 1)) ((setFields [(Reg.FLOE_PCFG.EN 1, 1)] kpfUp)) (fun q e => let p := q.u8 0; p ≤ 1 ∧
       feature e (5 + p) = true ∧ canSend e p = true)) ∧
    (Serving 0x0804 ((leBytes 1 0)) kpfUp (fun q e => let p := q.u8 0; p ≤ 1 ∧ feature e (5 + p) = true ∧
      canSend e p = false)) ∧
    Serving 0x0901 ([]) kpfUp (fun _ _ => True) ∧
    Serving 0x0901 ([]) ((setFields [(Reg.SEC_TRNGSTAT.FAIL,
      1)] kpfUp)) (fun _ e => e.on Reg.SEC_TRNGSTAT.FAIL = true) ∧
    Serving 0x0902 ((leBytes 2 21579 ++ leBytes 1 1 ++ leBytes 1 6 ++ leBytes 268 0)) kpfUp (fun q _ => let tok := q.body.take 272; tokKind tok = 6) ∧
    (Serving 0x0902 ((leBytes 2 21579 ++ leBytes 1 1 ++ leBytes 1 4 ++ leBytes 268 0)) kpfUp (fun q _ => let tok := q.body.take 272; 2 ≤ tokKind tok ∧
       tokKind tok ≤ 4)) ∧
    (Serving 0x0902 (tok1) ({ setFields [(Reg.SEC_LCS.STATE, 3), (Reg.SEC_NONCE.NONCE 0, 1), (Reg.SEC_FUSESTAT.OEMPROG, 8)] kpfUp with sec.fuses.devid := 5, sec.fuses.oemHash := [(3, Crypto.sha Crypto.sha384 (beBytes 48 pubX ++ beBytes 48 pubY))] }) (fun q e => let tok := q.body.take 272; let t := checkToken tok (kField Reg.SEC_EVT.REFUSED 1 e); (tokKind tok < 2 ∨ tokKind tok = 5 ∨ 6 < tokKind tok) ∧
       t.rd Reg.SEC_TOKCTL.RESULT = 0 ∧ t.on Reg.SEC_EVT.REFUSED = false)) ∧
    (Serving 0x0902 ((leBytes 2 21579 ++ leBytes 1 1 ++ leBytes 1 1 ++ leBytes 268 0)) ({ kpfUp with sec.fuses.devid := 5 }) (fun q e => let tok := q.body.take 272; let t := checkToken tok (kField Reg.SEC_EVT.REFUSED 1 e); (tokKind tok < 2 ∨ tokKind tok = 5 ∨ 6 < tokKind tok) ∧
       (t.rd Reg.SEC_TOKCTL.RESULT ≠ 0 ∨ t.on Reg.SEC_EVT.REFUSED = true))) ∧
    Serving 0x0903 ((leBytes 32 7)) kpfUp (fun _ _ => True) ∧
    Serving 0x0904 ((leBytes 2 0)) kpfUp (fun _ e => e.kpf.report = none) :=
  by refine ⟨?_, ?_, ?_, ?_, ?_, ?_, ?_, ?_, ?_, ?_⟩ <;> decide +kernel

theorem test_witness_KpfSecurityAndUpdateCommands_3 :
    (Serving 0x0904 ((leBytes 2 600)) ({ kpfUp with kpf.report := some (List.replicate 600 7) }) (fun q e => e.kpf.report.isSome = true ∧
       (e.kpf.report.getD []).length ≤ q.u16 0)) ∧
    (Serving 0x0904 ((leBytes 2 5)) ({ kpfUp with kpf.report := some (List.replicate 600 7) }) (fun q e => e.kpf.report.isSome = true ∧
       q.u16 0 < (e.kpf.report.getD []).length)) ∧
    Serving 0x0905 ([]) ((setFields [(Reg.SEC_LCS.STATE, 4)] kpfUp)) (fun _ e => lcs e = 4) ∧
    Serving 0x0905 ([]) kpfUp (fun _ e => lcs e ≠ 4) ∧
    Serving 0x0906 ([]) kpfUp (fun _ _ => True) ∧
    Serving 0x0A01 ([]) ((setFields [(Reg.FGD_REGSTAT.VALID 3, 1), (Reg.FGD_REGSTAT.REGION 3,
      9)] kpfUp)) (fun _ _ => True) ∧
    Serving 0x0A02 ([]) ((setFields [(Reg.FGD_STAT.PROMO, 1)] kpfUp)) (fun _ e => e.rd Reg.FGD_STAT.PROMO = 1) ∧
    (Serving 0x0A02 ([]) kpfUp (fun _ e => let v := e.rd Reg.FGD_STAT.VERDICT; e.rd Reg.FGD_STAT.PROMO ≠ 1 ∧ v ≠ 1 ∧
      v ≠ 2)) ∧
    (Serving 0x0A02 ([]) ((setFields [(Reg.FGD_STAT.VERDICT,
      1)] kpfUp)) (fun _ e => let v := e.rd Reg.FGD_STAT.VERDICT; e.rd Reg.FGD_STAT.PROMO ≠ 1 ∧ (v = 1 ∨ v = 2))) ∧
    Serving 0x0A03 ([]) ((setFields [(Reg.FGD_STAT.PROMO, 2)] kpfUp)) (fun _ _ => True) ∧
    Serving 0x0A04 ([]) kpfUp (fun _ e => e.fgd.act.regions = []) :=
  by refine ⟨?_, ?_, ?_, ?_, ?_, ?_, ?_, ?_, ?_, ?_, ?_⟩ <;> decide +kernel

theorem test_witness_KpfSecurityAndUpdateCommands_4 :
    (Serving 0x0A04 ([]) ({ kpfUp with fgd.act := { readManifest man0 with hsvn := 3 }, sec.seq := some (.transition 2) }) (fun _ e => let target := hostTarget e; let t := kWrite Reg.SEC_ARBADV.HOSTTGT.addr [(Reg.SEC_ARBADV.HOSTTGT, target), (Reg.SEC_ARBADV.GOHOST, 1)] e; e.fgd.act.regions ≠ [] ∧
       (e.sec.seq.isSome = true ∨ lcs e = 4 ∨ t.rd Reg.SEC_FUSESTAT.HOSTARB < target))) ∧
    (Serving 0x0A04 ([]) ({ kpfUp with fgd.act := readManifest man0 }) (fun _ e => let target := hostTarget e; let t := kWrite Reg.SEC_ARBADV.HOSTTGT.addr [(Reg.SEC_ARBADV.HOSTTGT, target), (Reg.SEC_ARBADV.GOHOST, 1)] e; e.fgd.act.regions ≠ [] ∧
       e.sec.seq = none ∧ lcs e ≠ 4 ∧ target ≤ t.rd Reg.SEC_FUSESTAT.HOSTARB)) ∧
    (Serving 0x0A05 ((leBytes 2 0)) kpfUp (fun q e => (∀ r, r < 16 → ¬(e.on (Reg.FGD_REGSTAT.VALID r) = true ∧
      e.rd (Reg.FGD_REGSTAT.REGION r) = q.u16 0)))) ∧
    (Serving 0x0A05 ((leBytes 2 9)) ((setFields [(Reg.FGD_REGSTAT.VALID 3, 1), (Reg.FGD_REGSTAT.REGION 3, 9),
       (Reg.FGD_DIG.DIGEST 3 11, 0x12345678)] kpfUp)) (fun q e => e.on (Reg.FGD_REGSTAT.VALID 3) = true ∧
      e.rd (Reg.FGD_REGSTAT.REGION 3) = q.u16 0 ∧ (∀ j, j < 16 → e.on (Reg.FGD_REGSTAT.VALID j) = true ∧
      e.rd (Reg.FGD_REGSTAT.REGION j) = q.u16 0 → j = 3))) ∧
    Serving 0x0B01 ((leBytes 48 7 ++ leBytes 4 256 ++ leBytes 1 2 ++ leBytes 3 0)) kpfUp (fun q _ => 1 < q.u8 52) ∧
    (Serving 0x0B01 ((leBytes 48 7 ++ leBytes 4 255 ++ leBytes 1 1 ++ leBytes 3 0)) kpfUp (fun q _ => q.u8 52 ≤ 1 ∧
       (q.u32 48 < 256 ∨ 512000 < q.u32 48))) ∧
    (Serving 0x0B01 ((leBytes 48 7 ++ leBytes 4 255 ++ leBytes 1 1 ++ leBytes 3 0)) kpfUp (fun q e => let r := sessionRequest (1, 0) (q.body.take 48) (q.u32 48) e; q.u8 52 ≤ 1 ∧
       r.1 ≠ 0)) ∧
    (Serving 0x0B01 ((leBytes 48 7 ++ leBytes 4 256 ++ leBytes 1 1 ++ leBytes 3 0)) kpfUp (fun q e => let r := sessionRequest (1, 0) (q.body.take 48) (q.u32 48) e; q.u8 52 ≤ 1 ∧
       r.1 = 0)) :=
  by refine ⟨?_, ?_, ?_, ?_, ?_, ?_, ?_, ?_⟩ <;> decide +kernel

theorem test_witness_KpfSecurityAndUpdateCommands_5 :
    Serving 0x0B02 ((leBytes 2 0 ++ leBytes 2 0 ++ leBytes 2 0 ++ leBytes 2 0 ++ leBytes 4 5)) kpfUp (fun q _ => let n := q.u16 4; (n = 0 ∨ 480 < n)) ∧
    (Serving 0x0B02 ((leBytes 2 0 ++ leBytes 2 0 ++ leBytes 2 10 ++ leBytes 2 0 ++ leBytes 4 5 ++ leBytes 10 7)) kpfUp (fun q e => let e := kpfScan 0x37F000 4096 e; let n := q.u16 4; 1 ≤ n ∧
       n ≤ 480 ∧ sessionOpen e = false)) ∧
    (Serving 0x0B02 ((leBytes 2 0 ++ leBytes 2 0 ++ leBytes 2 10 ++ leBytes 2 0 ++ leBytes 4 5 ++ leBytes 10 7)) ({ staged 20 kpfUp with kpf.members := [] }) (fun q e => let e := kpfScan 0x37F000 4096 e; let n := q.u16 4; let open_ := 1 ≤ n ∧ n ≤ 480 ∧ sessionOpen e = true; open_ ∧
       (1, 0) ∉ e.kpf.members)) ∧
    (Serving 0x0B02 ((leBytes 2 1 ++ leBytes 2 0 ++ leBytes 2 10 ++ leBytes 2 0 ++ leBytes 4 5 ++ leBytes 10 7)) (staged 20 kpfUp) (fun q e => let e := kpfScan 0x37F000 4096 e; let i := q.u16 0; let off := q.u16 2; let n := q.u16 4; let open_ := 1 ≤ n ∧ n ≤ 480 ∧ sessionOpen e = true; open_ ∧
       (1, 0) ∈ e.kpf.members ∧ (sessionPieces e ≤ i ∨ pieceLen e i < off + n))) ∧
    (Serving 0x0B02 ((leBytes 2 0 ++ leBytes 2 0 ++ leBytes 2 20 ++ leBytes 2 0 ++ leBytes 4 5) ++ List.replicate 20 7) (((staged 20 kpfUp).setFirnWord ((sessionOff + 0x100) / 8) (5 + 2 ^ 48 * 0xA5A5))) (fun q e => let e := kpfScan 0x37F000 4096 e; let i := q.u16 0; let off := q.u16 2; let n := q.u16 4; let open_ := 1 ≤ n ∧ n ≤ 480 ∧ sessionOpen e = true; open_ ∧
       (1, 0) ∈ e.kpf.members ∧ i < sessionPieces e ∧ off + n ≤ pieceLen e i ∧ pieceStored e i = true)) ∧
    (Serving 0x0B02 ((leBytes 2 0 ++ leBytes 2 0 ++ leBytes 2 10 ++ leBytes 2 0 ++ leBytes 4 5 ++ leBytes 10 7)) (staged 20 kpfUp) (fun q e => let e := kpfScan 0x37F000 4096 e; let i := q.u16 0; let off := q.u16 2; let n := q.u16 4; let open_ := 1 ≤ n ∧ n ≤ 480 ∧ sessionOpen e = true; let c := addChunk i (q.u32 8) off ((q.body.drop 12).take n) e; open_ ∧
       (1, 0) ∈ e.kpf.members ∧ i < sessionPieces e ∧ off + n ≤ pieceLen e i ∧ pieceStored e i = false ∧
       c.kpf.piece.length < pieceLen c i)) ∧
    (Serving 0x0B02 ((leBytes 2 0 ++ leBytes 2 0 ++ leBytes 2 20 ++ leBytes 2 0 ++ leBytes 4 (crc32 (List.replicate 20 7))) ++ List.replicate 20 7) (staged 20 { kpfUp with firn := [(1, 256 * 2 ^ 32), (0x30001, 256 * 2 ^ 32)] }) (fun q e => let e := kpfScan 0x37F000 4096 e; let i := q.u16 0; let off := q.u16 2; let n := q.u16 4; let open_ := 1 ≤ n ∧ n ≤ 480 ∧ sessionOpen e = true; let c := addChunk i (q.u32 8) off ((q.body.drop 12).take n) e; let r := storePiece (1, 0) i (c.kpf.piece.map (·.2)) (q.u32 8) c; open_ ∧
       (1, 0) ∈ e.kpf.members ∧ i < sessionPieces e ∧ off + n ≤ pieceLen e i ∧ pieceStored e i = false ∧
      pieceLen c i ≤ c.kpf.piece.length ∧ r.1 = .stored)) ∧
    (Serving 0x0B02 ((leBytes 2 0 ++ leBytes 2 0 ++ leBytes 2 20 ++ leBytes 2 0 ++ leBytes 4 5) ++ List.replicate 20 7) (staged 20 { kpfUp with firn := [(1, 256 * 2 ^ 32), (0x30001, 256 * 2 ^ 32)] }) (fun q e => let e := kpfScan 0x37F000 4096 e; let i := q.u16 0; let off := q.u16 2; let n := q.u16 4; let open_ := 1 ≤ n ∧ n ≤ 480 ∧ sessionOpen e = true; let c := addChunk i (q.u32 8) off ((q.body.drop 12).take n) e; let r := storePiece (1, 0) i (c.kpf.piece.map (·.2)) (q.u32 8) c; open_ ∧
       (1, 0) ∈ e.kpf.members ∧ i < sessionPieces e ∧ off + n ≤ pieceLen e i ∧ pieceStored e i = false ∧
      pieceLen c i ≤ c.kpf.piece.length ∧ r.1 = .refused)) ∧
    Serving 0x0B03 ([]) kpfUp (fun _ _ => True) ∧
    Serving 0x0B04 ([]) kpfUp (fun _ e => let e := kpfScan 0x37F000 4096 e; let applied := sessionValid e && marked e mkApplied; applied = false) ∧
    (Serving 0x0B04 ([]) ((mark 1 (staged 20 kpfUp)).setFirnWord (bcWord 0) (bootRecWord false false 2 5)) (fun _ e => let e := kpfScan 0x37F000 4096 e; let applied := sessionValid e && marked e mkApplied; applied = true ∧
       bootStateIs e 2 = true)) ∧
    (Serving 0x0B04 ([]) (mark 1 (staged 20 kpfUp)) (fun _ e => let e := kpfScan 0x37F000 4096 e; let applied := sessionValid e && marked e mkApplied; applied = true ∧
       bootStateIs e 2 = false)) :=
  by refine ⟨?_, ?_, ?_, ?_, ?_, ?_, ?_, ?_, ?_, ?_, ?_, ?_⟩ <;> decide +kernel

theorem test_witness_KpfSecurityAndUpdateCommands_6 :
    Serving 0x0B05 ([]) kpfUp (fun _ e => let e := kpfScan 0x37F000 4096 e; sessionOpen e = false) ∧
    (Serving 0x0B05 ([]) (staged 300 kpfUp) (fun _ e => let e := kpfScan 0x37F000 4096 e; let clear := e.firnWord (0x37F050 / 8 + mkCancelled) = erasedWord; sessionOpen e = true ∧
       clear)) ∧
    (Serving 0x0B05 ([]) ((staged 300 kpfUp).setFirnWord (0x37F050 / 8 + 3) 5) (fun _ e => let e := kpfScan 0x37F000 4096 e; let clear := e.firnWord (0x37F050 / 8 + mkCancelled) = erasedWord; sessionOpen e = true ∧
       ¬clear)) ∧
    Serving 0x0B06 ([]) kpfUp (fun _ e => onTrial e = false) ∧
    Serving 0x0B06 ([]) ({ kpfUp with firn := [(bcWord 0, bootRecWord false false 2 5)] }) (fun _ e => onTrial e = true) ∧
    Serving 0x0C01 ([]) ((setFields [(Reg.LOG_CNT.DROPCORE, 7)] kpfUp)) (fun _ _ => True) ∧
    Serving 0x0C02 ((leBytes 2 8192 ++ leBytes 1 15 ++ leBytes 1 0)) kpfUp (fun q _ => let a := q.u16 0; let bad := 8191 < a ∨ q.u8 2 = 0 ∨ 15 < q.u8 2; bad) ∧
    Serving 0x0C02 ((leBytes 2 8191 ++ leBytes 1 15 ++ leBytes 1 0)) kpfUp (fun q _ => let a := q.u16 0; let bad := 8191 < a ∨ q.u8 2 = 0 ∨ 15 < q.u8 2; ¬bad) ∧
    Serving 0x0C03 ((leBytes 1 4 ++ leBytes 1 0 ++ leBytes 2 4660 ++ leBytes 16 9)) kpfUp (fun q _ => 3 < q.u8 0) ∧
    (Serving 0x0C03 ((leBytes 1 0 ++ leBytes 1 0 ++ leBytes 2 4660 ++ leBytes 16 9)) ({ kpfUp with log.front := List.replicate 56 ⟨1, 1, 1, 1, []⟩ }) (fun q e => let full := 56 ≤ e.log.front.length; q.u8 0 ≤ 3 ∧
       full)) ∧
    (Serving 0x0C03 ((leBytes 1 3 ++ leBytes 1 0 ++ leBytes 2 4660 ++ leBytes 16 9)) kpfUp (fun q e => let full := 56 ≤ e.log.front.length; q.u8 0 ≤ 3 ∧
       ¬full)) ∧
    Serving 0x0D01 ((leBytes 2 49152)) kpfUp (fun q _ => let key := q.u16 0; 0xC000 ≤ key) :=
  by refine ⟨?_, ?_, ?_, ?_, ?_, ?_, ?_, ?_, ?_, ?_, ?_, ?_⟩ <;> decide +kernel

theorem test_witness_KpfSecurityAndUpdateCommands_7 :
    Serving 0x0D01 ((leBytes 2 32)) kpfUp (fun q _ => let key := q.u16 0; key < 0xC000) ∧
    Serving 0x0D02 ((leBytes 2 49152 ++ leBytes 2 0)) kpfUp (fun q _ => let key := q.u16 0; 0xC000 ≤ key) ∧
    (Serving 0x0D02 ((leBytes 2 80 ++ leBytes 2 0)) kpfUp (fun q e => let key := q.u16 0; key < 0x8000 ∧
      (e.kpf.sealed = true ∨ key = 0x0050 ∨ key = 0x0051 ∨ key = 0x0052))) ∧
    (Serving 0x0D02 ((leBytes 2 1 ++ leBytes 2 0)) kpfUp (fun q e => let key := q.u16 0; key < 0x8000 ∧
      e.kpf.sealed = false ∧ key ∉ [0x0010, 0x0020, 0x0030, 0x0040, 0x0050, 0x0051, 0x0052])) ∧
    (Serving 0x0D02 ((leBytes 2 16 ++ leBytes 2 1 ++ leBytes 1 2)) kpfUp (fun q e => let key := q.u16 0; let v : List Byte := ((q.body.drop 4).take (q.u16 2)); ((0x8000 ≤ key ∧
       key < 0xC000) ∨ (e.kpf.sealed = false ∧ key ∈ [0x0010, 0x0020, 0x0030, 0x0040])) ∧
      (480 < q.u16 2 ∨ (key < 0x8000 ∧ valueGood key v = false)))) ∧
    (Serving 0x0D02 ((leBytes 2 32 ++ leBytes 2 4 ++ leBytes 2 2000 ++ leBytes 2 4000)) kpfUp (fun q e => let key := q.u16 0; let v : List Byte := ((q.body.drop 4).take (q.u16 2)); ((0x8000 ≤ key ∧
       key < 0xC000) ∨ (e.kpf.sealed = false ∧ key ∈ [0x0010, 0x0020, 0x0030, 0x0040])) ∧ q.u16 2 ≤ 480 ∧
      (0x8000 ≤ key ∨ valueGood key v = true))) ∧
    Serving 0x0D03 ((leBytes 2 49152)) kpfUp (fun q _ => let key := q.u16 0; 0xC000 ≤ key) ∧
    (Serving 0x0D03 ((leBytes 2 82)) kpfUp (fun q e => let key := q.u16 0; key < 0x8000 ∧
      (e.kpf.sealed = true ∨ key = 0x0050 ∨ key = 0x0051 ∨ key = 0x0052))) ∧
    (Serving 0x0D03 ((leBytes 2 1)) kpfUp (fun q e => let key := q.u16 0; key < 0x8000 ∧ e.kpf.sealed = false ∧
      key ∉ [0x0010, 0x0020, 0x0030, 0x0040, 0x0050, 0x0051, 0x0052])) ∧
    (Serving 0x0D03 ((leBytes 2 32768)) kpfUp (fun q e => let key := q.u16 0; ((0x8000 ≤ key ∧
      key < 0xC000) ∨ (e.kpf.sealed = false ∧ key ∈ [0x0010, 0x0020, 0x0030, 0x0040])) ∧
      (settingOf e key).isNone = true)) ∧
    (Serving 0x0D03 ((leBytes 2 32768)) ((writeSetting 0x8000 [1,
      2] false kpfUp).2) (fun q e => let key := q.u16 0; ((0x8000 ≤ key ∧ key < 0xC000) ∨ (e.kpf.sealed = false ∧
      key ∈ [0x0010, 0x0020, 0x0030, 0x0040])) ∧ (settingOf e key).isSome = true)) :=
  by refine ⟨?_, ?_, ?_, ?_, ?_, ?_, ?_, ?_, ?_, ?_, ?_⟩ <;> decide +kernel

theorem test_witness_CanonicalKept :
    ∃ s t : State, Canonical s ∧ step s = .next t :=
  ⟨blank, idleTick blank, by decide +kernel, rfl⟩

theorem test_witness_FusesOnlyBurn :
    ∃ s t : State, step s = .next t :=
  ⟨blank, idleTick blank, rfl⟩

end Sys2Proof.Tests
end

/-! What a step keeps, whatever the command (O59). -/

namespace Sys2Proof.Machine

/-- A command keeps the canonical form, the queue and the burned fuses. -/
theorem kept_exec {o s : State} (i : Instr) (h : Kept o s) : KeptNext o (exec i s) := by
  cases i with
  | registerWrite => exact kept_execRegisterWrite h
  | luxen => exact kept_execLuxen h
  | luxReady => exact kept_execLuxReady h
  | coreoff => exact kept_execCoreoff h
  | ship => exact kept_execShip h
  | shipWake => exact kept_execShipWake h
  | wakeSource => exact kept_execWakeSource h
  | wakeAlarm => exact kept_execWakeAlarm h
  | sysWakealarmhi => exact kept_execSysWakealarmhi h
  | coresel => exact kept_execCoresel h
  | clockSettled => exact kept_execClockSettled h
  | pllLossOfLock => exact kept_execPllLossOfLock h
  | sysRstreqCore => exact kept_execSysRstreqCore h
  | sysRstreqDomain => exact kept_execSysRstreqDomain h
  | sysRstreqCold => exact kept_execSysRstreqCold h
  | sysRstreqHandover => exact kept_execSysRstreqHandover h
  | domainReset => exact kept_execDomainReset h
  | coldReset => exact kept_execColdReset h
  | aonPowerUp => exact kept_execAonPowerUp h
  | aonBrownout => exact kept_execAonBrownout h
  | v18PgAsserted => exact kept_execV18PgAsserted h
  | v18PgDeasserted => exact kept_execV18PgDeasserted h
  | v18PgTimeout => exact kept_execV18PgTimeout h
  | v18Retry => exact kept_execV18Retry h
  | wipeComplete => exact kept_execWipeComplete h
  | holdClear => exact kept_execHoldClear h
  | memoryRead => exact kept_execMemoryRead h
  | memoryWrite => exact kept_execMemoryWrite h
  | ioRead => exact kept_execIoRead h
  | ioWrite => exact kept_execIoWrite h
  | putVw => exact kept_execPutVw h
  | getVw => exact kept_execGetVw h
  | putOob => exact kept_execPutOob h
  | getOob => exact kept_execGetOob h
  | putFlash => exact kept_execPutFlash h
  | getFlash => exact kept_execGetFlash h
  | getStatus => exact kept_execGetStatus h
  | getConfiguration => exact kept_execGetConfiguration h
  | setConfiguration => exact kept_execSetConfiguration h
  | resetCommand => exact kept_execResetCommand h
  | unsupportedCommand => exact kept_execUnsupportedCommand h
  | holdExpiry => exact kept_execHoldExpiry h
  | singleReadFrame => exact kept_execSingleReadFrame h
  | singleWriteFrame => exact kept_execSingleWriteFrame h
  | quadReadFrame => exact kept_execQuadReadFrame h
  | quadWriteFrame => exact kept_execQuadWriteFrame h
  | unknownOpcode => exact kept_execUnknownOpcode h
  | hostReset => exact kept_execHostReset h
  | hostPowerUp => exact kept_execHostPowerUp h
  | hostPowerLoss => exact kept_execHostPowerLoss h
  | postOpen => exact kept_execPostOpen h
  | postClose => exact kept_execPostClose h
  | postAbort => exact kept_execPostAbort h
  | apertureWrite => exact kept_execApertureWrite h
  | hostWinen => exact kept_execHostWinen h
  | oobRel => exact kept_execOobRel h
  | oobGo => exact kept_execOobGo h
  | hostVwout => exact kept_execHostVwout h
  | hostErrcntRead => exact kept_execHostErrcntRead h
  | mbxTake => exact kept_execMbxTake h
  | fwready => exact kept_execFwready h
  | mbxDone => exact kept_execMbxDone h
  | directWindowWrite => exact kept_execDirectWindowWrite h
  | rdEc => exact kept_execRdEc h
  | wrEc => exact kept_execWrEc h
  | beEc => exact kept_execBeEc h
  | bdEc => exact kept_execBdEc h
  | qrEc => exact kept_execQrEc h
  | ecForwardedCommand => exact kept_execEcForwardedCommand h
  | mbxEcout => exact kept_execMbxEcout h
  | mbxEcqpush => exact kept_execMbxEcqpush h
  | ecImageWrite => exact kept_execEcImageWrite h
  | mbxEcinRead => exact kept_execMbxEcinRead h
  | mbxEcwqRead => exact kept_execMbxEcwqRead h
  | mbxCntRead => exact kept_execMbxCntRead h
  | bulkMoverTransfer => exact kept_execBulkMoverTransfer h
  | unitCloseComplete => exact kept_execUnitCloseComplete h
  | mbxBulkrd => exact kept_execMbxBulkrd h
  | mbxBulkwr => exact kept_execMbxBulkwr h
  | mbxBulkack => exact kept_execMbxBulkack h
  | slotEnable => exact kept_execSlotEnable h
  | slotDisable => exact kept_execSlotDisable h
  | lpeRun => exact kept_execLpeRun h
  | lpeLock => exact kept_execLpeLock h
  | lpeNowloRead => exact kept_execLpeNowloRead h
  | lpeSstatRead => exact kept_execLpeSstatRead h
  | slotRelease => exact kept_execSlotRelease h
  | actionStart => exact kept_execActionStart h
  | actionFinish => exact kept_execActionFinish h
  | railClr => exact kept_execRailClr h
  | fltholdClear => exact kept_execFltholdClear h
  | powerGoodChange => exact kept_execPowerGoodChange h
  | inputValid => exact kept_execInputValid h
  | qualified => exact kept_execQualified h
  | deadTimeEnd => exact kept_execDeadTimeEnd h
  | unplug => exact kept_execUnplug h
  | inputLoss => exact kept_execInputLoss h
  | take => exact kept_execTake h
  | reprobe => exact kept_execReprobe h
  | floorLoop => exact kept_execFloorLoop h
  | batteryRemoval => exact kept_execBatteryRemoval h
  | removalClear => exact kept_execRemovalClear h
  | ovp => exact kept_execOvp h
  | ocp => exact kept_execOcp h
  | reverseCurrent => exact kept_execReverseCurrent h
  | vsysOvervoltage => exact kept_execVsysOvervoltage h
  | vsysUndervoltage => exact kept_execVsysUndervoltage h
  | typecAttach => exact kept_execTypecAttach h
  | typecDetach => exact kept_execTypecDetach h
  | sourceCapabilities => exact kept_execSourceCapabilities h
  | keepAlive => exact kept_execKeepAlive h
  | pdReq => exact kept_execPdReq h
  | requestReply => exact kept_execRequestReply h
  | vdmReceived => exact kept_execVdmReceived h
  | rxrel => exact kept_execRxrel h
  | txgo => exact kept_execTxgo h
  | vdmTimeout => exact kept_execVdmTimeout h
  | hardReset => exact kept_execHardReset h
  | prSwap => exact kept_execPrSwap h
  | drSwap => exact kept_execDrSwap h
  | vconnSwap => exact kept_execVconnSwap h
  | alertReceived => exact kept_execAlertReceived h
  | notSupportedMessage => exact kept_execNotSupportedMessage h
  | bandChange => exact kept_execBandChange h
  | thshort => exact kept_execThshort h
  | batov => exact kept_execBatov h
  | chgocp => exact kept_execChgocp h
  | dieStop => exact kept_execDieStop h
  | dieResume => exact kept_execDieResume h
  | safetyTimerTick => exact kept_execSafetyTimerTick h
  | timerFault => exact kept_execTimerFault h
  | cycleTimeout => exact kept_execCycleTimeout h
  | fltclr => exact kept_execFltclr h
  | qclr => exact kept_execQclr h
  | chgLock => exact kept_execChgLock h
  | qaccWrap => exact kept_execQaccWrap h
  | reverseStop => exact kept_execReverseStop h
  | reverseOcp => exact kept_execReverseOcp h
  | reverseVbatLow => exact kept_execReverseVbatLow h
  | kscDeliv0Read => exact kept_execKscDeliv0Read h
  | stuckMask => exact kept_execStuckMask h
  | sleepScan => exact kept_execSleepScan h
  | scannerHandover => exact kept_execScannerHandover h
  | kscLock => exact kept_execKscLock h
  | kscUnlock => exact kept_execKscUnlock h
  | sequenceWrite => exact kept_execSequenceWrite h
  | stepTimeout => exact kept_execStepTimeout h
  | backoffEnd => exact kept_execBackoffEnd h
  | timerSync => exact kept_execTimerSync h
  | lsyncInEdge => exact kept_execLsyncInEdge h
  | syncnow => exact kept_execSyncnow h
  | syncFallback => exact kept_execSyncFallback h
  | fwclose => exact kept_execFwclose h
  | occlose => exact kept_execOcclose h
  | present => exact kept_execPresent h
  | luxEnSet => exact kept_execLuxEnSet h
  | luxEnClear => exact kept_execLuxEnClear h
  | matrixTimingWrite => exact kept_execMatrixTimingWrite h
  | scanEnd => exact kept_execScanEnd h
  | vledOvervoltage => exact kept_execVledOvervoltage h
  | luxDiagclr => exact kept_execLuxDiagclr h
  | luxCntRead => exact kept_execLuxCntRead h
  | chnEnable => exact kept_execChnEnable h
  | chnDisable => exact kept_execChnDisable h
  | enumStatusReturn => exact kept_execEnumStatusReturn h
  | statusResponse => exact kept_execStatusResponse h
  | commit => exact kept_execCommit h
  | reenum => exact kept_execReenum h
  | enumRetry => exact kept_execEnumRetry h
  | returnedSync => exact kept_execReturnedSync h
  | chainBreak => exact kept_execChainBreak h
  | chnDiagreq => exact kept_execChnDiagreq h
  | diagResponse => exact kept_execDiagResponse h
  | chnCntRead => exact kept_execChnCntRead h
  | chnDstatRead => exact kept_execChnDstatRead h
  | stale => exact kept_execStale h
  | thmLock => exact kept_execThmLock h
  | fanSpinupOk => exact kept_execFanSpinupOk h
  | spinupTimeout => exact kept_execSpinupTimeout h
  | retrywaitEnd => exact kept_execRetrywaitEnd h
  | fanStall => exact kept_execFanStall h
  | fanNoload => exact kept_execFanNoload h
  | noloadRetry => exact kept_execNoloadRetry h
  | tachlost => exact kept_execTachlost h
  | tachReturn => exact kept_execTachReturn h
  | fanvinUv => exact kept_execFanvinUv h
  | fanvinReturn => exact kept_execFanvinReturn h
  | fanClr => exact kept_execFanClr h
  | fanModeOff => exact kept_execFanModeOff h
  | frameReceived => exact kept_execFrameReceived h
  | txctlGo => exact kept_execTxctlGo h
  | attemptEnd => exact kept_execAttemptEnd h
  | retryBackoffEnd => exact kept_execRetryBackoffEnd h
  | kcfgValid => exact kept_execKcfgValid h
  | rxpop => exact kept_execRxpop h
  | portEnable => exact kept_execPortEnable h
  | floePerrRead => exact kept_execFloePerrRead h
  | discover => exact kept_execDiscover h
  | presence => exact kept_execPresence h
  | qassign => exact kept_execQassign h
  | certReq => exact kept_execCertReq h
  | cert => exact kept_execCert h
  | challenge => exact kept_execChallenge h
  | response => exact kept_execResponse h
  | moduleAdmit => exact kept_execModuleAdmit h
  | reject => exact kept_execReject h
  | read => exact kept_execRead h
  | write => exact kept_execWrite h
  | ping => exact kept_execPing h
  | readResp => exact kept_execReadResp h
  | writeAck => exact kept_execWriteAck h
  | pong => exact kept_execPong h
  | notify => exact kept_execNotify h
  | error => exact kept_execError h
  | secLcreq => exact kept_execSecLcreq h
  | lifeCycleChange => exact kept_execLifeCycleChange h
  | gofw => exact kept_execGofw h
  | gohost => exact kept_execGohost h
  | oemProg => exact kept_execOemProg h
  | oemRevoke => exact kept_execOemRevoke h
  | newnonce => exact kept_execNewnonce h
  | submit => exact kept_execSubmit h
  | tokenCheckDone => exact kept_execTokenCheckDone h
  | debugPortToken => exact kept_execDebugPortToken h
  | hash256 => exact kept_execHash256 h
  | hash384 => exact kept_execHash384 h
  | gcm => exact kept_execGcm h
  | cmac => exact kept_execCmac h
  | verify256 => exact kept_execVerify256 h
  | verify384 => exact kept_execVerify384 h
  | sign256 => exact kept_execSign256 h
  | sign384 => exact kept_execSign384 h
  | ecdh256 => exact kept_execEcdh256 h
  | generate => exact kept_execGenerate h
  | derive => exact kept_execDerive h
  | load => exact kept_execLoad h
  | cryptoAttest => exact kept_execCryptoAttest h
  | random => exact kept_execRandom h
  | commandDone => exact kept_execCommandDone h
  | kslotClr => exact kept_execKslotClr h
  | trngFail => exact kept_execTrngFail h
  | trngRecover => exact kept_execTrngRecover h
  | secTrngRead => exact kept_execSecTrngRead h
  | ikReady => exact kept_execIkReady h
  | ucodeLock => exact kept_execUcodeLock h
  | bootSlotStart => exact kept_execBootSlotStart h
  | fgdStart => exact kept_execFgdStart h
  | verificationDone => exact kept_execVerificationDone h
  | rsmen => exact kept_execRsmen h
  | fgdPlock => exact kept_execFgdPlock h
  | flashRead => exact kept_execFlashRead h
  | flashWrite => exact kept_execFlashWrite h
  | flashErase => exact kept_execFlashErase h
  | flashOperationDone => exact kept_execFlashOperationDone h
  | deviceTimeout => exact kept_execDeviceTimeout h
  | fgdCntRead => exact kept_execFgdCntRead h
  | promoGo => exact kept_execPromoGo h
  | promoCancel => exact kept_execPromoCancel h
  | promotionVerified => exact kept_execPromotionVerified h
  | nvcProgram => exact kept_execNvcProgram h
  | nvcErase => exact kept_execNvcErase h
  | nvcRead => exact kept_execNvcRead h
  | nvcDone => exact kept_execNvcDone h
  | confArm => exact kept_execConfArm h
  | nvcConfirm => exact kept_execNvcConfirm h
  | confirmationExpiry => exact kept_execConfirmationExpiry h
  | pieceDelivered => exact kept_execPieceDelivered h
  | sessionIdleExpiry => exact kept_execSessionIdleExpiry h
  | autoConfirm => exact kept_execAutoConfirm h
  | logCommit => exact kept_execLogCommit h
  | recordWritten => exact kept_execRecordWritten h
  | logFlush => exact kept_execLogFlush h
  | logCntRead => exact kept_execLogCntRead h
  | errEcccntRead => exact kept_execErrEcccntRead h
  | smartBatteryPoll => exact kept_execSmartBatteryPoll h
  | gaugeCheck => exact kept_execGaugeCheck h
  | policyRestore => exact kept_execPolicyRestore h
  | getIdentity => exact kept_execGetIdentity h
  | getCaps => exact kept_execGetCaps h
  | getEvents => exact kept_execGetEvents h
  | sealHost => exact kept_execSealHost h
  | getTime => exact kept_execGetTime h
  | restartFw => exact kept_execRestartFw h
  | getPowerState => exact kept_execGetPowerState h
  | getRail => exact kept_execGetRail h
  | clearRailFault => exact kept_execClearRailFault h
  | resumeDecoder => exact kept_execResumeDecoder h
  | setWake => exact kept_execSetWake h
  | enterShip => exact kept_execEnterShip h
  | getBattery => exact kept_execGetBattery h
  | getCharger => exact kept_execGetCharger h
  | getPacks => exact kept_execGetPacks h
  | clearChargeFault => exact kept_execClearChargeFault h
  | setChargeLimits => exact kept_execSetChargeLimits h
  | getPort => exact kept_execGetPort h
  | getSourceCaps => exact kept_execGetSourceCaps h
  | requestPdo => exact kept_execRequestPdo h
  | sendVdm => exact kept_execSendVdm h
  | getVdm => exact kept_execGetVdm h
  | setPortPolicy => exact kept_execSetPortPolicy h
  | setReverse => exact kept_execSetReverse h
  | getThermal => exact kept_execGetThermal h
  | getFans => exact kept_execGetFans h
  | setFan => exact kept_execSetFan h
  | clearStall => exact kept_execClearStall h
  | setProfile => exact kept_execSetProfile h
  | getKbdConfig => exact kept_execGetKbdConfig h
  | setStuck => exact kept_execSetStuck h
  | lock => exact kept_execLock h
  | unlockSigned => exact kept_execUnlockSigned h
  | setUnlockSeq => exact kept_execSetUnlockSeq h
  | getLighting => exact kept_execGetLighting h
  | setLighting => exact kept_execSetLighting h
  | setLampRegion => exact kept_execSetLampRegion h
  | setCcm => exact kept_execSetCcm h
  | setChainDriver => exact kept_execSetChainDriver h
  | chainCommit => exact kept_execChainCommit h
  | getChain => exact kept_execGetChain h
  | getDiag => exact kept_execGetDiag h
  | clearDiag => exact kept_execClearDiag h
  | getModules => exact kept_execGetModules h
  | moduleRead => exact kept_execModuleRead h
  | moduleWrite => exact kept_execModuleWrite h
  | rediscover => exact kept_execRediscover h
  | getNonce => exact kept_execGetNonce h
  | submitToken => exact kept_execSubmitToken h
  | attest => exact kept_execAttest h
  | getReport => exact kept_execGetReport h
  | getIdentityKey => exact kept_execGetIdentityKey h
  | getLifeCycle => exact kept_execGetLifeCycle h
  | getFlashStatus => exact kept_execGetFlashStatus h
  | promote => exact kept_execPromote h
  | cancelPromote => exact kept_execCancelPromote h
  | confirmBoot => exact kept_execConfirmBoot h
  | getDigest => exact kept_execGetDigest h
  | sessionOpen => exact kept_execSessionOpen h
  | piece => exact kept_execPiece h
  | status => exact kept_execStatus h
  | activate => exact kept_execActivate h
  | cancel => exact kept_execCancel h
  | confirm => exact kept_execConfirm h
  | getLogInfo => exact kept_execGetLogInfo h
  | readLog => exact kept_execReadLog h
  | writeLog => exact kept_execWriteLog h
  | getSetting => exact kept_execGetSetting h
  | setSetting => exact kept_execSetSetting h
  | deleteSetting => exact kept_execDeleteSetting h
  | add => exact kept_execAdd h
  | sub => exact kept_execSub h
  | and => exact kept_execAnd h
  | or => exact kept_execOr h
  | xor => exact kept_execXor h
  | andn => exact kept_execAndn h
  | shl => exact kept_execShl h
  | shr => exact kept_execShr h
  | sar => exact kept_execSar h
  | rol => exact kept_execRol h
  | ror => exact kept_execRor h
  | mul => exact kept_execMul h
  | mulhs => exact kept_execMulhs h
  | mulhu => exact kept_execMulhu h
  | divs => exact kept_execDivs h
  | divu => exact kept_execDivu h
  | rems => exact kept_execRems h
  | remu => exact kept_execRemu h
  | min => exact kept_execMin h
  | max => exact kept_execMax h
  | minu => exact kept_execMinu h
  | maxu => exact kept_execMaxu h
  | addc => exact kept_execAddc h
  | addx => exact kept_execAddx h
  | subc => exact kept_execSubc h
  | subx => exact kept_execSubx h
  | neg => exact kept_execNeg h
  | not => exact kept_execNot h
  | abs => exact kept_execAbs h
  | clz => exact kept_execClz h
  | sextb => exact kept_execSextb h
  | sexth => exact kept_execSexth h
  | zextb => exact kept_execZextb h
  | zexth => exact kept_execZexth h
  | bswap => exact kept_execBswap h
  | mov => exact kept_execMov h
  | sel => exact kept_execSel h
  | addi => exact kept_execAddi h
  | andi => exact kept_execAndi h
  | ori => exact kept_execOri h
  | xori => exact kept_execXori h
  | shi => exact kept_execShi h
  | movi => exact kept_execMovi h
  | movhi => exact kept_execMovhi h
  | muli => exact kept_execMuli h
  | adda => exact kept_execAdda h
  | mova => exact kept_execMova h
  | addad => exact kept_execAddad h
  | subad => exact kept_execSubad h
  | addaw => exact kept_execAddaw h
  | addah => exact kept_execAddah h
  | movad => exact kept_execMovad h
  | movda => exact kept_execMovda h
  | subaa => exact kept_execSubaa h
  | movia => exact kept_execMovia h
  | movla => exact kept_execMovla h
  | ldw => exact kept_execLdw h
  | ldh => exact kept_execLdh h
  | ldhu => exact kept_execLdhu h
  | ldb => exact kept_execLdb h
  | ldbu => exact kept_execLdbu h
  | stw => exact kept_execStw h
  | sth => exact kept_execSth h
  | stb => exact kept_execStb h
  | lda => exact kept_execLda h
  | sta => exact kept_execSta h
  | ldd => exact kept_execLdd h
  | std => exact kept_execStd h
  | ldwp => exact kept_execLdwp h
  | stwp => exact kept_execStwp h
  | push => exact kept_execPush h
  | pop => exact kept_execPop h
  | macs => exact kept_execMacs h
  | macu => exact kept_execMacu h
  | msbs => exact kept_execMsbs h
  | mulq => exact kept_execMulq h
  | macsat => exact kept_execMacsat h
  | clrq => exact kept_execClrq h
  | rdql => exact kept_execRdql h
  | rdqh => exact kept_execRdqh h
  | rdqs => exact kept_execRdqs h
  | wrql => exact kept_execWrql h
  | wrqh => exact kept_execWrqh h
  | shq => exact kept_execShq h
  | cmp => exact kept_execCmp h
  | cmpi => exact kept_execCmpi h
  | cmpa => exact kept_execCmpa h
  | pand => exact kept_execPand h
  | por => exact kept_execPor h
  | pxor => exact kept_execPxor h
  | pandn => exact kept_execPandn h
  | pmov => exact kept_execPmov h
  | pnot => exact kept_execPnot h
  | pset => exact kept_execPset h
  | pclr => exact kept_execPclr h
  | br => exact kept_execBr h
  | call => exact kept_execCall h
  | jmp => exact kept_execJmp h
  | callr => exact kept_execCallr h
  | ret => exact kept_execRet h
  | dbnz => exact kept_execDbnz h
  | mfc => exact kept_execMfc h
  | mtc => exact kept_execMtc h
  | nop => exact kept_execNop h
  | trap => exact kept_execTrap h
  | rfe => exact kept_execRfe h
  | wait => exact kept_execWait h
  | fence => exact kept_execFence h
  | ei => exact kept_execEi h
  | di => exact kept_execDi h
  | bkpt => exact kept_execBkpt h
  | rssv => exact kept_execRssv h
  | rsrs => exact kept_execRsrs h
  | bmov => exact kept_execBmov h
  | bfill => exact kept_execBfill h
  | bcmp => exact kept_execBcmp h
  | bscan => exact kept_execBscan h
  | customInstruction => exact kept_execCustomInstruction h
  | interruptEntry => exact kept_execInterruptEntry h
  | nmiEntry => exact kept_execNmiEntry h
  | watchdogStage1Expiry => exact kept_execWatchdogStage1Expiry h
  | watchdogStage2Expiry => exact kept_execWatchdogStage2Expiry h
  | tmrWdkick => exact kept_execTmrWdkick h
  | sysUclo => exact kept_execSysUclo h
  | sysUchi => exact kept_execSysUchi h
  | pllLockRegained => exact kept_execPllLockRegained h
  | crystalSourceChange => exact kept_execCrystalSourceChange h
  | hostSignalGpio => exact kept_execHostSignalGpio h
  | addressedRequestReturned => exact kept_execAddressedRequestReturned h
  | debugPortHalt => exact kept_execDebugPortHalt h

/-- A step takes the front command off the queue and keeps the rest. -/
theorem kept_step {s t : State} (h : step s = .next t) : Kept { s with pending := s.pending.tail } t := by
  unfold step at h
  split at h
  case h_1 c rest hq =>
    rw [hq]
    exact kept_exec c (Kept.refl _) t h
  case h_2 hq =>
    have hs : Kept { s with pending := s.pending.tail } s :=
      ⟨fun ho => ho.1, fun ho => ho.2.1, fun ho => ho.2.2, by simp [SameQueue, hq], Fuses.burntIn_refl _⟩
    cases h
    exact kept_idleTick hs

/-- Settles O59: what a step keeps (`kept_step`) includes the canonical form. -/
theorem canonicalKept : Obligations.CanonicalKept := by
  unfold Obligations.CanonicalKept
  intro s t hs h
  exact (kept_step h).canonical hs

end Sys2Proof.Machine

/-! Little-endian bytes, and loads and stores of the SRAM-type areas (O7). -/

namespace Sys2Proof.Machine

/-! ### Little-endian bytes -/

@[simp] theorem length_leBytes (n v : Nat) : (leBytes n v).length = n := by
  induction n generalizing v with
  | zero => rfl
  | succ n ih => simp [leBytes, ih]

/-- Byte `i` of a value, least significant first (R5). -/
theorem getElem_leBytes (n v i : Nat) (h : i < (leBytes n v).length) :
    (leBytes n v)[i] = BitVec.ofNat 8 (v / 256 ^ i) := by
  induction n generalizing v i with
  | zero => simp at h
  | succ n ih =>
    cases i with
    | zero => simp [leBytes]
    | succ i => simp [leBytes, ih, Nat.div_div_eq_div_mul, Nat.pow_succ']

/-- Reading the bytes of a value gives its low part back (R5). -/
theorem leNat_leBytes (n v : Nat) : leNat (leBytes n v) = v % 256 ^ n := by
  induction n generalizing v with
  | zero => simp [leBytes, leNat, Nat.mod_one]
  | succ n ih => simp [leBytes, leNat, ih, Nat.pow_succ', Nat.mod_mul]

/-! ### Stores of bytes -/

/-- A store changes memory and parity alone. -/
theorem State.setBytes_eq (s : State) (a : Nat) (l : List Byte) :
    s.setBytes a l = { s with mem := (s.setBytes a l).mem, badBytes := (s.setBytes a l).badBytes } := by
  induction l generalizing s a with
  | nil => rfl
  | cons b l ih => rw [State.setBytes, ih]; rfl

/-- The bytes stored have good parity (R43). -/
theorem State.badBytes_setBytes {s : State} {a b : Nat} {l : List Byte} (h : b ∈ (s.setBytes a l).badBytes) :
    b ∈ s.badBytes ∧ (b < a ∨ a + l.length ≤ b) := by
  induction l generalizing s a with
  | nil => exact ⟨h, by simp; omega⟩
  | cons x l ih =>
    obtain ⟨hb, hout⟩ := ih h
    have hb : b ∈ s.badBytes ∧ b ≠ a := by simpa [State.setByte] using hb
    refine ⟨hb.1, ?_⟩
    rw [List.length_cons]
    omega

/-! ### Loads and stores of the SRAM-type areas -/

/-- The areas of SRAM-type memory that loads and stores reach (R38). -/
def Area.isMemory (r : Area) : Prop := r = .sram ∨ r = .retained ∨ r = .lighting

theorem writeValue_of_isMemory {a : Word} (h : (areaOf a.toNat).isMemory) (s : State) (n : Nat) (v : Word) :
    writeValue s a n v = s.setBytes a.toNat (leBytes n v.toNat) := by
  unfold writeValue
  rcases h with h | h | h <;> rw [h] <;> rfl

theorem readValue_of_isMemory {a : Word} (h : (areaOf a.toNat).isMemory) (s : State) (n : Nat) :
    readValue s a n = (BitVec.ofNat 32 (leNat (areaBytes s a.toNat n)), s) := by
  unfold readValue
  rcases h with h | h | h <;> rw [h]

/-- The map below main SRAM (R38). -/
theorem areaOf_of_lt_sramBase {a : Nat} (h : a < sramBase) :
    areaOf a = if a < 0x10000 then .bootRom else if windowBase ≤ a ∧ a < windowBase + 0x180000 then .window
      else if firnBase ≤ a ∧ a < firnBase + 0x400000 then .firn else .none := by
  simp only [sramBase] at h
  simp (disch := omega) only [areaOf, sramBase, retBase, rsBase, luxBase, if_neg]

/-- The map from main SRAM on (R38, R42). -/
theorem areaOf_of_sramBase_le {a : Nat} (h : sramBase ≤ a) :
    areaOf a = if a < sramBase + 0x100000 then .sram else if retBase ≤ a ∧ a < retBase + 0x8000 then .retained
      else if rsBase ≤ a ∧ a < rsBase + 0x1000 then .rstack
      else if luxBase ≤ a ∧ a < luxBase + 0x30C00 then .lighting
      else if 0x40000000 ≤ a ∧ a < 0x40160000 then .peripheral else .none := by
  have hs := h
  simp only [sramBase] at h
  simp (disch := omega) only [areaOf, windowBase, firnBase, if_neg, hs, true_and]

theorem not_isMemory_of_lt_sramBase {a : Nat} (h : a < sramBase) : ¬ (areaOf a).isMemory := by
  rw [areaOf_of_lt_sramBase h]
  repeat' split
  all_goals simp only [Area.isMemory, reduceCtorEq, or_self, not_false_eq_true]

theorem sramBase_le_of_isMemory {a : Nat} (h : (areaOf a).isMemory) : sramBase ≤ a :=
  Nat.not_lt.1 fun hlt => not_isMemory_of_lt_sramBase hlt h

/-- Boot ROM and the views of the Firn store lie below main SRAM (R38). -/
theorem areaOf_ne_of_sramBase_le {a : Nat} (h : sramBase ≤ a) :
    areaOf a ≠ .bootRom ∧ areaOf a ≠ .window ∧ areaOf a ≠ .firn := by
  rw [areaOf_of_sramBase_le h]
  repeat' split
  all_goals simp only [ne_eq, reduceCtorEq, not_false_eq_true, and_self]

/-- From main SRAM on, what a load sees of an address is its byte of memory. -/
theorem areaByte_of_sramBase_le {a : Nat} (h : sramBase ≤ a) (s : State) : areaByte s a = s.byte a := by
  obtain ⟨hrom, hwindow, hfirn⟩ := areaOf_ne_of_sramBase_le h
  unfold areaByte
  split
  case h_1 harea => exact absurd harea hrom
  case h_2 harea => exact absurd harea hwindow
  case h_3 harea => exact absurd harea hfirn
  case h_4 => rfl

@[simp] theorem length_areaBytes (s : State) (a n : Nat) : (areaBytes s a n).length = n := by
  induction n generalizing a with
  | zero => rfl
  | succ n ih => simp [areaBytes, ih]

theorem getElem_areaBytes (s : State) (a n i : Nat) (h : i < (areaBytes s a n).length) :
    (areaBytes s a n)[i] = areaByte s (a + i) := by
  induction n generalizing a i with
  | zero => simp at h
  | succ n ih =>
    cases i with
    | zero => rfl
    | succ i =>
      simp only [areaBytes, List.getElem_cons_succ, ih]
      congr 1
      omega

/-- A load of the bytes just stored sees them. -/
theorem areaBytes_setBytes {a : Nat} (ha : sramBase ≤ a) (s : State) (l : List Byte) :
    areaBytes (s.setBytes a l) a l.length = l := by
  refine List.ext_getElem (length_areaBytes _ _ _) fun i _ hi => ?_
  rw [getElem_areaBytes, areaByte_of_sramBase_le (by omega), State.byte_setBytes_inside _ _ _ _ hi]

/-- Settles O7: a store is `setBytes` of the value's little-endian bytes, and a load reads the same bytes back. -/
theorem mainMemoryBytes : Obligations.MainMemoryBytes := by
  unfold Obligations.MainMemoryBytes
  intro s a v n _ harea
  have hmem : (areaOf a.toNat).isMemory := harea
  have hload := areaBytes_setBytes (sramBase_le_of_isMemory hmem) s (leBytes n v.toNat)
  rw [length_leBytes] at hload
  simp only [writeValue_of_isMemory hmem, readValue_of_isMemory hmem]
  refine ⟨fun i hi => ?_, fun b hb => ?_, fun b hb => ?_, State.setBytes_eq _ _ _, ?_⟩
  · rw [State.byte_setBytes_inside _ _ _ _ (by simpa using hi), getElem_leBytes]
  · exact State.byte_setBytes_outside _ _ _ _ (by simpa using hb)
  · simpa using State.badBytes_setBytes hb
  · rw [hload, leNat_leBytes]

end Sys2Proof.Machine

/-! What the resets leave alone until their last step: the AON sequencer, the timebase, the core and the fuses. -/

namespace Sys2Proof.Machine

/-- What no part of a reset but its last step touches: the AON sequencer, the timebase, the core and the fuses. -/
def vitals (s : State) : Sys × Nat × Cpu × Fuses := (s.sys, s.tbase, s.cpu, s.sec.fuses)

@[simp] theorem vitals_mk {fields mem badBytes firn firnCorr firnDed tbase rdata free cpu board balls sys log link ec
    bulk mbx lpe rail pwr port0 port1 chg kbd lux chn thm floe0 floe1 sec fgd nvc kpf wdog pending} :
    vitals ⟨fields, mem, badBytes, firn, firnCorr, firnDed, tbase, rdata, free, cpu, board, balls, sys, log, link, ec,
      bulk, mbx, lpe, rail, pwr, port0, port1, chg, kbd, lux, chn, thm, floe0, floe1, sec, fgd, nvc, kpf, wdog, pending⟩
      = (sys, tbase, cpu, sec.fuses) := rfl

@[simp] theorem vitals_eta (s : State) : (s.sys, s.tbase, s.cpu, s.sec.fuses) = vitals s := rfl

theorem vitals_ite (c : Prop) [Decidable c] (a b : State) :
    vitals (if c then a else b) = if c then vitals a else vitals b := apply_ite vitals c a b

theorem vitals_of_ite {c : Prop} [Decidable c] {a b s : State} (ha : vitals a = vitals s) (hb : vitals b = vitals s) :
    vitals (if c then a else b) = vitals s := by split <;> assumption

theorem vitals_foldl {α : Type} {f : State → α → State} (hf : ∀ s a, vitals (f s a) = vitals s) (l : List α)
    (s : State) : vitals (l.foldl f s) = vitals s := by
  induction l generalizing s with
  | nil => rfl
  | cons a l ih => rw [List.foldl_cons, ih, hf]

/-! ### Named operations -/

section
variable (s : State)

@[simp] theorem vitals_wr (f : Field) (v : Nat) : vitals (s.wr f v) = vitals s := rfl
@[simp] theorem vitals_set (f : Field) : vitals (s.set f) = vitals s := rfl
@[simp] theorem vitals_clr (f : Field) : vitals (s.clr f) = vitals s := rfl
@[simp] theorem vitals_wrB (f : Field) (b : Bool) : vitals (s.wrB f b) = vitals s := rfl
@[simp] theorem vitals_count (f : Field) (n : Nat) : vitals (s.count f n) = vitals s := rfl
@[simp] theorem vitals_drawn : vitals s.drawn = vitals s := rfl
@[simp] theorem vitals_wipe (lo hi : Nat) : vitals (s.wipe lo hi) = vitals s := rfl
@[simp] theorem vitals_setFirnWord (w v : Nat) : vitals (s.setFirnWord w v) = vitals s := rfl
@[simp] theorem vitals_eraseFirn (lo hi : Nat) : vitals (s.eraseFirn lo hi) = vitals s := rfl
@[simp] theorem vitals_nvcError (r w : Nat) : vitals (s.nvcError r w) = vitals s := rfl
@[simp] theorem vitals_hostUnseal : vitals (hostUnseal s) = vitals s := rfl
@[simp] theorem vitals_setPin (n : Nat) (x : PwrIn) : vitals (setPin n x s) = vitals s := rfl
@[simp] theorem vitals_offer (g : Nat) : vitals (offer g s) = vitals s := rfl
@[simp] theorem vitals_settle : vitals (settle s) = vitals s := rfl
@[simp] theorem vitals_postAbort : vitals (postAbort s) = vitals s := rfl
@[simp] theorem vitals_resetRanges (rs : List (Nat × Nat)) : vitals (resetRanges rs s) = vitals s := by
  simp [resetRanges]
@[simp] theorem vitals_resetOutside (rs : List (Nat × Nat)) : vitals (resetOutside rs s) = vitals s := by
  simp [resetOutside]
@[simp] theorem vitals_setFlash (a : Nat) (bs : List Byte) : vitals (setFlash a bs s) = vitals s := rfl
@[simp] theorem vitals_showClocks : vitals (showClocks s) = vitals s := rfl
@[simp] theorem vitals_hostPowerState : vitals (hostPowerState s) = vitals s := by
  simp [hostPowerState]
@[simp] theorem vitals_sampleStraps : vitals (sampleStraps s) = vitals s := rfl
@[simp] theorem vitals_fwReadyDown : vitals (fwReadyDown s) = vitals s := rfl
@[simp] theorem vitals_clearSlot (k : Nat) : vitals (clearSlot k s) = vitals s := rfl

@[simp] theorem vitals_setPort (p : Nat) (x : PdPort) : vitals (setPort p x s) = vitals s := by
  unfold setPort; split <;> rfl

@[simp] theorem vitals_regWrite (a v : Nat) : vitals (s.regWrite a v) = vitals s := by
  refine vitals_foldl (fun t r => ?_) _ _
  unfold writeRow
  split
  case h_4 => split <;> rfl
  all_goals rfl

@[simp] theorem vitals_logEnter (r : LogRec) : vitals (s.logEnter r) = vitals s := by
  unfold State.logEnter
  simp [vitals_ite]

@[simp] theorem vitals_hwLog (source sev code : Nat) (data : List Nat) :
    vitals (s.hwLog source sev code data) = vitals s := by
  simp [State.hwLog, State.logDrop, vitals_ite]

/-! ### The power path's inputs -/

@[simp] theorem vitals_endContract (p : Nat) : vitals (endContract p s) = vitals s := by simp [endContract]

@[simp] theorem vitals_portDetach (p : Nat) : vitals (portDetach p s) = vitals s := by simp [portDetach]

@[simp] theorem vitals_reverseStop (c : Nat) : vitals (reverseStop c s) = vitals s := by
  simp [reverseStop, vitals_ite]

@[simp] theorem vitals_rdEnforced : vitals (rdEnforced s) = vitals s :=
  vitals_foldl (fun t p => by simp [vitals_ite]) _ _

@[simp] theorem vitals_refreshCeil (n : Nat) : vitals (refreshCeil n s) = vitals s := rfl

@[simp] theorem vitals_vocDone (n voc : Nat) : vitals (vocDone n voc s) = vitals s := by
  simp [vocDone, vitals_ite]

@[simp] theorem vitals_startVoc (n : Nat) (again : Bool) : vitals (startVoc n again s) = vitals s := by
  simp [startVoc, skipVoc, vitals_ite]

@[simp] theorem vitals_trackerOff (n : Nat) : vitals (trackerOff n s) = vitals s := rfl

@[simp] theorem vitals_handOver : vitals (handOver s) = vitals s := by
  unfold handOver
  split
  · rfl
  · simp [vitals_ite]

@[simp] theorem vitals_select (n : Nat) : vitals (select n s) = vitals s := by
  simp [select, vitals_ite]

@[simp] theorem vitals_reselect : vitals (reselect s) = vitals s := by
  unfold reselect
  split
  · rfl
  split
  · split <;> simp [vitals_ite]
  split
  · rfl
  split <;> simp [vitals_ite]

@[simp] theorem vitals_bounce (n : Nat) : vitals (bounce n s) = vitals s := by
  simp [bounce, vitals_ite]

@[simp] theorem vitals_invalidate (n : Nat) (counts : Bool) : vitals (invalidate n counts s) = vitals s := by
  simp [invalidate, vitals_ite]

@[simp] theorem vitals_overVoltage (n vin : Nat) : vitals (overVoltage n vin s) = vitals s := by
  simp [overVoltage, protectOff, vitals_ite]

@[simp] theorem vitals_inputSeen (n vin : Nat) : vitals (inputSeen n vin s) = vitals s := by
  simp [inputSeen, vitals_ite]

/-! ### What a domain reset goes through -/

@[simp] theorem vitals_holdRails : vitals (holdRails s) = vitals s := by
  simp [holdRails, holdPins, vitals_ite]

theorem vitals_nvcCut (addr buf i k n : Nat) : vitals (nvcCut addr buf i k n s) = vitals s := by
  induction n generalizing s i with
  | zero => rfl
  | succ n ih => simp [nvcCut, vitals_ite, ih]

@[simp] theorem vitals_nvcInterrupted : vitals (nvcInterrupted s) = vitals s := by
  unfold nvcInterrupted
  split
  · rfl
  · simp only [vitals_ite, vitals_nvcCut, vitals_foldl fun t i => vitals_drawn (t.setFirnWord _ _)]
    simp

@[simp] theorem vitals_logDomainReset : vitals (logDomainReset s) = vitals s := vitals_nvcInterrupted s

@[simp] theorem vitals_putBytes (f : Nat → Field) (n : Nat) (bs : List Byte) : vitals (putBytes f n bs s) = vitals s := by
  exact vitals_foldl (fun t k => vitals_wr t _ _) _ _

theorem vitals_regionClear (i : Nat) : vitals (regionClear s i) = vitals s := by simp [regionClear]

theorem vitals_regionView (p : Nat × FlashRegion) : vitals (regionView s p) = vitals s := by simp [regionView]

@[simp] theorem vitals_fgdView : vitals (fgdView s) = vitals s := by
  exact (vitals_foldl vitals_regionView _ _).trans (vitals_foldl vitals_regionClear _ _)

@[simp] theorem vitals_touched (k : Nat) : vitals (touched s k) = vitals s := by
  simp [touched, vitals_ite, fgdCause]

@[simp] theorem vitals_reqEffect (r : FlashReq) : vitals (reqEffect r s) = vitals s := by
  unfold reqEffect
  extract_lets as put t
  have hput (t : State) (p : Nat × Byte) : vitals (put t p) = vitals t := vitals_setFlash t _ _
  have ht : vitals t = vitals s := vitals_of_ite (vitals_foldl hput _ _) (vitals_setFlash s _ _)
  clear_value t
  refine vitals_of_ite rfl ?_
  rw [vitals_fgdView, vitals_foldl vitals_touched, ht]

@[simp] theorem vitals_fgdDomainReset : vitals (fgdDomainReset s) = vitals s := by
  unfold fgdDomainReset
  split <;> simp

@[simp] theorem vitals_vwoutWrite (v : Nat) : vitals (vwoutWrite v s) = vitals s := by
  simp [vwoutWrite, vitals_ite]

@[simp] theorem vitals_fwReadyLost : vitals (fwReadyLost s) = vitals s := by
  simp [fwReadyLost, vitals_ite]

@[simp] theorem vitals_holdTerms : vitals (holdTerms s) = vitals s := by
  simp [holdTerms, vitals_ite]

@[simp] theorem vitals_pwrDomainReset : vitals (pwrDomainReset s) = vitals s := by
  unfold pwrDomainReset
  refine (vitals_foldl (fun t n => vitals_setPin t n _) _ _).trans ?_
  simp [vitals_ite]

@[simp] theorem vitals_pdDomainReset : vitals (pdDomainReset s) = vitals s := by
  simp [pdDomainReset]

@[simp] theorem vitals_fuseView : vitals (fuseView s) = vitals s := by
  exact (vitals_foldl (fun t k => vitals_putBytes t _ _ _) _ _).trans (by simp)

@[simp] theorem vitals_debugOpens (level : Nat) : vitals (debugOpens level s) = vitals s := by
  exact (vitals_foldl vitals_clearSlot _ _).trans (by simp)

@[simp] theorem vitals_senseFuses : vitals (senseFuses s) = vitals s := by
  unfold senseFuses
  extract_lets st t u v sec w
  have ht : vitals t = vitals s := vitals_fuseView _
  clear_value t
  have hu : vitals u = vitals s := vitals_of_ite ht ht
  have hw : vitals w = vitals u := vitals_of_ite rfl rfl
  clear_value w
  rw [← hu, ← hw]
  refine vitals_of_ite ?_ rfl
  exact vitals_debugOpens w 2

@[simp] theorem vitals_secDomainReset : vitals (secDomainReset s) = vitals s := rfl
@[simp] theorem vitals_kbdCoreLost (was keep : Bool) : vitals (kbdCoreLost was keep s) = vitals s := rfl
@[simp] theorem vitals_floeDomainReset : vitals (floeDomainReset s) = vitals s := rfl
@[simp] theorem vitals_thmDomainReset : vitals (thmDomainReset s) = vitals s := rfl
@[simp] theorem vitals_chgDomainReset : vitals (chgDomainReset s) = vitals s := rfl

/-- The AON sequencer once CORE is lost: nothing is requested of it, and the core's clock and debug are at their start
(R23, R27, R29, R318). -/
def Sys.coreGone (y : Sys) : Sys :=
  { y with
    offReq := none, waiting := none, waitingCauses := 0, selInEffect := 7, pllBack := false
    dbgHalted := false, dbgStep := false, dbgBreak := false }

theorem vitals_coreLost (keep : Bool) :
    vitals (coreLost keep s) = (s.sys.coreGone, s.tbase, {}, s.sec.fuses) := by
  unfold coreLost
  extract_lets wasFrame reverse t1 k pages t2 t3 t4 t5 t6 t7 t8
  have h5 : vitals t5 = vitals s := by simp [t5, t4, t3, t2, t1]
  have h6 : vitals t6 = vitals s := by simp [t6, h5, vitals_ite]
  have h8 : vitals t8 = vitals s := by simp [t8, t7, h6]
  simp only [vitals, Prod.mk.injEq] at h8
  obtain ⟨hsys, htime, -, hfuses⟩ := h8
  show (t8.sys.coreGone, t8.tbase, ({} : Cpu), t8.sec.fuses) = _
  rw [hsys, htime, hfuses]

theorem coreLost_lux (keep : Bool) : (coreLost keep s).lux = {} := rfl

/-! ### What a cold reset goes through -/

@[simp] theorem vitals_firnChecked (w : Nat) : vitals (s.firnChecked w) = vitals s := by
  simp [State.firnChecked, vitals_ite]

@[simp] theorem vitals_kpfScan (off n : Nat) : vitals (kpfScan off n s) = vitals s := by
  have ht : vitals (s.firnScan off n) = vitals s := vitals_foldl vitals_firnChecked _ _
  unfold kpfScan
  extract_lets t
  split
  · exact ht
  · exact ht

@[simp] theorem vitals_logReady : vitals (logReady s) = vitals s := by
  simp [logReady, vitals_ite]

theorem vitals_programWords (n w : Nat) (bs : List Byte) : vitals (programWords n w bs s) = vitals s := by
  induction n generalizing s w bs with
  | zero => rfl
  | succ n ih => simp [programWords, State.programWord, vitals_ite, ih]

@[simp] theorem vitals_logWrite (r : LogRec) : vitals (logWrite r s) = vitals s := by
  simp [logWrite, programFirn, vitals_programWords, vitals_ite]

@[simp] theorem vitals_recordWritten : vitals (recordWritten s) = vitals s := by
  unfold recordWritten
  split
  · rfl
  · simp [vitals_ite]

theorem vitals_setWire (b : Nat) (v : Bool) : vitals (setWire b v s) = vitals s := by
  unfold setWire
  split <;> rfl

@[simp] theorem vitals_wiresAtReset : vitals (wiresAtReset s) = vitals s :=
  vitals_foldl (fun t b => vitals_setWire t b _) _ _

@[simp] theorem vitals_hostStarts : vitals (hostStarts s) = vitals s := by
  simp [hostStarts, vitals_ite]

@[simp] theorem vitals_hostRestarts : vitals (hostRestarts s) = vitals s := by
  simp [hostRestarts, vitals_ite]

@[simp] theorem vitals_seeInputs (old : List (Nat × PwrIn)) : vitals (seeInputs old s) = vitals s :=
  vitals_foldl (fun t _ => vitals_inputSeen t _ _) _ _

/-! ### Off, and the cold reset -/

/-- The AON sequencer once everything is off; the crystal and the active slot are not AON's. -/
def Sys.gone (y : Sys) : Sys :=
  { aonOn := false, coreOn := false, v18en := false, v18pg := false, xtal := y.xtal, activeSlot := y.activeSlot }

theorem vitals_coldState : vitals (coldState s) = (s.sys.gone, s.tbase, {}, s.sec.fuses) := by
  unfold coldState
  extract_lets t
  have ht : vitals t = vitals s := by simp [t]
  simp only [vitals, Prod.mk.injEq] at ht
  obtain ⟨hsys, htime, -, hfuses⟩ := ht
  show (t.sys.gone, t.tbase, ({} : Cpu), t.sec.fuses) = _
  rw [hsys, htime, hfuses]

theorem coldState_lux : (coldState s).lux = {} := rfl

/-- The AON sequencer as a cold reset leaves it: V18_EN asserted, V18_PG awaited. -/
def Sys.starting (y : Sys) (causes start : Nat) (vio : Bool) : Sys :=
  { coreOn := false, v18pg := false, waitPg := true, pgSince := start, causes := causes
    xtal := y.xtal, hostUp := vio, activeSlot := y.activeSlot }

theorem vitals_coldReset (causes start : Nat) : ∃ vio, vitals (coldReset causes start s) =
    (s.sys.starting causes start vio, start, {}, s.sec.fuses) := by
  have h0 := vitals_coldState s
  simp only [vitals, Prod.mk.injEq] at h0
  obtain ⟨hsys, -, -, hfuses⟩ := h0
  refine ⟨(coldState s).board.vio, ?_⟩
  simp only [coldReset, vitals_showClocks, vitals_seeInputs, vitals_hostRestarts, vitals_senseFuses,
    vitals_sampleStraps, vitals_mk, hsys, hfuses]
  rfl

end

end Sys2Proof.Machine

/-! Domain control: LUX, CORE off and ship mode, and register writes field by field (O21). -/

namespace Sys2Proof.Machine

/-! ### A core store to a register -/

/-- A core store that meets no exception has its effect (R439). -/
theorem coreStore_of_stores {a : Nat} {s : State} (h : Stores s a) (effect : State → State) :
    coreStore a effect s = effect s := by
  obtain ⟨hup, hcheck⟩ := h
  simp [coreStore, hup, hcheck]

theorem writeRow_rd_of_ne (s0 s : State) (a v : Nat) (r : RegRow) {f : Field} (h : f.key ≠ (r.fieldAt a).key) :
    (writeRow s0 a v s r).rd f = s.rd f := by
  unfold writeRow
  split
  case h_4 => split <;> simp [State.rd_wr_of_ne _ _ h]
  all_goals simp [State.rd_wr_of_ne _ _ h]

/-- What a row makes of its own field depends on that field alone. -/
theorem writeRow_rd_congr {s t : State} (s0 : State) (a v : Nat) (r : RegRow)
    (h : t.rd (r.fieldAt a) = s.rd (r.fieldAt a)) :
    (writeRow s0 a v t r).rd (r.fieldAt a) = (writeRow s0 a v s r).rd (r.fieldAt a) := by
  unfold writeRow
  split
  case h_4 => split <;> simp [h]
  all_goals simp [h]

theorem foldl_writeRow_rd_of_notMem (s0 s : State) (a v : Nat) (rows : List RegRow) {f : Field}
    (h : ∀ r ∈ rows, f.key ≠ (r.fieldAt a).key) : (rows.foldl (writeRow s0 a v) s).rd f = s.rd f := by
  induction rows generalizing s with
  | nil => rfl
  | cons r rows ih =>
    rw [List.foldl_cons, ih _ fun q hq => h q (List.mem_cons_of_mem _ hq),
      writeRow_rd_of_ne _ _ _ _ _ (h r List.mem_cons_self)]

/-- In a write of a whole register each field takes what its own row makes of it (R9). -/
theorem foldl_writeRow_rd (s0 s : State) (a v : Nat) {rows : List RegRow}
    (hkeys : rows.Pairwise fun q r => (q.fieldAt a).key ≠ (r.fieldAt a).key) {r : RegRow} (hr : r ∈ rows) :
    (rows.foldl (writeRow s0 a v) s).rd (r.fieldAt a) = (writeRow s0 a v s r).rd (r.fieldAt a) := by
  induction rows generalizing s with
  | nil => simp at hr
  | cons q rows ih =>
    obtain ⟨hq, hrows⟩ := List.pairwise_cons.1 hkeys
    rw [List.foldl_cons]
    rcases List.mem_cons.1 hr with rfl | hr
    · exact foldl_writeRow_rd_of_notMem _ _ _ _ _ hq
    · rw [ih _ hrows hr]
      exact writeRow_rd_congr _ _ _ _ (writeRow_rd_of_ne _ _ _ _ _ (Ne.symm (hq r hr)))

theorem regWrite_rd (s : State) (a v : Nat) (hkeys : (regRows a).Pairwise fun q r => (q.fieldAt a).key ≠ (r.fieldAt a).key)
    {r : RegRow} (hr : r ∈ regRows a) :
    (s.regWrite a v).rd (r.fieldAt a) = (writeRow s a v s r).rd (r.fieldAt a) :=
  foldl_writeRow_rd s s a v hkeys hr

/-- A one-bit field's part of a word is the word's bit there. -/
theorem bitsOf_one (v i : Nat) : bitsOf v i 1 = (v.testBit i).toNat := by
  rw [Nat.toNat_testBit]; rfl

/-- The row of a one-bit field at bit `i`. -/
def bitRow (a i : Nat) (acc : Access) (reset : Nat) : RegRow := ⟨⟨a, i, 1⟩, [], acc, reset, none, false⟩

theorem pairwise_bitRow (a n : Nat) (acc : Access) (reset : Nat) :
    ((List.range n).map fun i => bitRow a i acc reset).Pairwise fun q r => (q.fieldAt a).key ≠ (r.fieldAt a).key := by
  rw [List.pairwise_map]
  refine List.pairwise_lt_range.imp fun hij => ?_
  simp only [bitRow, RegRow.fieldAt, Field.key]
  omega

/-- A write of a register of one-bit fields. -/
theorem regWrite_rd_bitRow {a n i : Nat} {acc : Access} {reset : Nat}
    (hrows : regRows a = (List.range n).map fun i => bitRow a i acc reset) (hi : i < n) (s : State) (v : Nat) :
    (s.regWrite a v).rd ⟨a, i, 1⟩ = (writeRow s a v s (bitRow a i acc reset)).rd ⟨a, i, 1⟩ :=
  regWrite_rd s a v (hrows ▸ pairwise_bitRow a n acc reset) (r := bitRow a i acc reset)
    (by rw [hrows]; exact List.mem_map.2 ⟨i, List.mem_range.2 hi, rfl⟩)

/-- A bit that is written 1 to clear (R9). -/
theorem writeRow_bitRow_w1c (s0 s : State) (a v i reset : Nat) :
    (writeRow s0 a v s (bitRow a i .w1c reset)).rd ⟨a, i, 1⟩ = if v.testBit i then 0 else s.rd ⟨a, i, 1⟩ % 2 := by
  simp only [writeRow, bitRow, RegRow.fieldAt, Field.of, bitsOf_one, State.rd_wr_self, Nat.pow_one]
  cases v.testBit i
  · simp
  · simp only [Bool.toNat_true, Nat.and_one_is_mod, if_true]
    omega

/-- A bit that is read and written (R9). -/
theorem writeRow_bitRow_rw (s0 s : State) (a v i reset : Nat) :
    (writeRow s0 a v s (bitRow a i .rw reset)).rd ⟨a, i, 1⟩ = if v.testBit i then 1 else 0 := by
  simp only [writeRow, bitRow, RegRow.fieldAt, Field.of, bitsOf_one, State.rd_wr_self, Nat.pow_one]
  cases v.testBit i <;> rfl

theorem regRows_rstcause : regRows 0x40000020 = (List.range 14).map fun i => bitRow 0x40000020 i .w1c 0 := by decide

theorem regRows_wakeen : regRows 0x40000040 = (List.range 9).map fun i => bitRow 0x40000040 i .rw 1 := by decide

/-! ### SYS_DOMCTRL (R21, R23, R47) -/

theorem testBit_withBit (f : Field) (v : Word) (i : Nat) :
    (withBit f v).testBit i = (v.toNat.testBit i || decide (f.lo = i)) := by
  rw [withBit, Nat.testBit_or, Nat.testBit_two_pow]

/-- A request bit leaves the key of its write as it is. -/
theorem withBit_div_key {f : Field} (h : f.lo < 24) (v : Word) : withBit f v / 2 ^ 24 = v.toNat / 2 ^ 24 := by
  simp only [withBit, ← Nat.shiftRight_eq_div_pow, Nat.shiftRight_or_distrib]
  rw [Nat.shiftRight_eq_div_pow (2 ^ f.lo), Nat.div_eq_of_lt (Nat.pow_lt_pow_right (by omega) h), Nat.or_zero]

theorem luxSwitch_of_eq {b : Bool} {s : State} (h : b = s.on Reg.SYS_DOMCTRL.LUXEN) : luxSwitch b s = s := by
  simp [luxSwitch, h]

/-- A keyed request of a SYS_DOMCTRL write that leaves LUX as it is: refused or accepted. -/
theorem domctrlWrite_request {v : Nat} {s : State} (hkey : v / 2 ^ 24 = 0xA5)
    (hlux : v.testBit 0 = s.on Reg.SYS_DOMCTRL.LUXEN) (hrefused : v.testBit 16 = false)
    (hreq : (v.testBit 8 || v.testBit 9) = true) :
    domctrlWrite v s =
      if (v.testBit 8 && v.testBit 9) || s.sys.offReq.isSome || (if v.testBit 8 then coreNeeded s else inputAttached s)
      then s.set Reg.SYS_DOMCTRL.REFUSED
      else { s with sys := { s.sys with offReq := some (if v.testBit 8 then .coreOff else .ship) } } := by
  simp only [domctrlWrite, hrefused, Bool.false_eq_true, if_false, luxSwitch_of_eq hlux, hkey, hreq, Bool.not_true,
    ne_eq, not_true_eq_false, or_self]

/-- Switching LUX on: LUXEN is set and LUXRDY waits for the zeroing (R21). -/
theorem luxSwitch_on {s : State} (h : s.on Reg.SYS_DOMCTRL.LUXEN = false) :
    luxSwitch true s = ((luxResetRegs s).clr Reg.SYS_DOMCTRL.LUXRDY).wrB Reg.SYS_DOMCTRL.LUXEN true := by
  simp [luxSwitch, h]

/-- Without its key a SYS_DOMCTRL write asks for nothing but LUX and the clearing of REFUSED (R21). -/
theorem domctrlWrite_of_noKey {v : Nat} {s : State} (hkey : v / 2 ^ 24 ≠ 0xA5) :
    domctrlWrite v s = luxSwitch (v.testBit 0) (if v.testBit 16 then s.clr Reg.SYS_DOMCTRL.REFUSED else s) :=
  if_pos (.inl hkey)

theorem luxResetRegs_frame (s : State) :
    (luxResetRegs s).mem = s.mem ∧ (luxResetRegs s).cpu = s.cpu ∧ (luxResetRegs s).sys = s.sys := by
  simp [luxResetRegs, resetRanges]

theorem answers_of_eq {i : Instr} {s t u : State} {P : State → Prop} (he : exec i s = .next t) (ht : t = u) (hu : P u) :
    Answers i s P := ⟨u, ht ▸ he, hu⟩

/-- LUX switched on: LUXEN reads 1, LUXRDY 0, and only registers and the lighting engines change (R21). -/
theorem luxSwitch_on_frame {s : State} (h : s.on Reg.SYS_DOMCTRL.LUXEN = false) :
    (luxSwitch true s).rd Reg.SYS_DOMCTRL.LUXEN = 1 ∧ (luxSwitch true s).rd Reg.SYS_DOMCTRL.LUXRDY = 0
      ∧ (luxSwitch true s).mem = s.mem ∧ (luxSwitch true s).cpu = s.cpu ∧ (luxSwitch true s).sys = s.sys := by
  obtain ⟨hmem, hcpu, hsys⟩ := luxResetRegs_frame s
  rw [luxSwitch_on h]
  refine ⟨?_, ?_, by simp [hmem], by simp [hcpu], by simp [hsys]⟩
  · simp [State.wrB, Reg.SYS_DOMCTRL.LUXEN]
  · rw [State.wrB, State.rd_wr_of_ne _ _ (by decide)]
    simp [State.clr]

/-- The write of LUXEN=1 without a key (R21). -/
theorem luxen_answers {v : Word} {s : State} (hs : Stores s 0x40000010) (hon : v.toNat % 2 = 1)
    (hkey : v.toNat / 2 ^ 24 ≠ 0xA5) (hoff : s.on Reg.SYS_DOMCTRL.LUXEN = false) :
    Answers (.luxen v) s fun u => u.rd Reg.SYS_DOMCTRL.LUXEN = 1 ∧ u.rd Reg.SYS_DOMCTRL.LUXRDY = 0
        ∧ u.mem = s.mem ∧ u.cpu = s.cpu ∧ u.sys = s.sys := by
  have hbit : v.toNat.testBit 0 = true := by simp [Nat.testBit_zero, hon]
  have hcleared : (s.clr Reg.SYS_DOMCTRL.REFUSED).on Reg.SYS_DOMCTRL.LUXEN = false := by
    rw [← hoff, State.on, State.on, State.clr, State.rd_wr_of_ne _ _ (by decide)]
  refine answers_of_eq rfl ((coreStore_of_stores hs _).trans (domctrlWrite_of_noKey hkey)) ?_
  rw [hbit]
  split
  · exact luxSwitch_on_frame hcleared
  · exact luxSwitch_on_frame hoff

/-- A wiped byte has good parity (R33). -/
theorem State.notMem_badBytes_wipe (s : State) {lo hi a : Nat} (hlo : lo ≤ a) (hhi : a < hi) :
    a ∉ (s.wipe lo hi).badBytes := by
  simp [State.wipe, hlo, hhi]

/-- The zeroing of the lighting memories ends (R21). -/
theorem luxReady_answers {t : Nat} {s : State} (hup : s.coreUp = true) (hon : s.on Reg.SYS_DOMCTRL.LUXEN = true)
    (hrdy : s.on Reg.SYS_DOMCTRL.LUXRDY = false) :
    Answers (.luxReady t) s fun u => u.rd Reg.SYS_DOMCTRL.LUXRDY = 1
        ∧ (∀ a, 0x30000000 ≤ a → a < 0x30030C00 → u.byte a = 0 ∧ a ∉ u.badBytes)
        ∧ (∀ a, a < 0x30000000 → u.byte a = s.byte a) ∧ FieldsBut [Reg.SYS_DOMCTRL.LUXRDY] s u := by
  have hu : luxReady (s.seen t) =
      ((s.seen t).wipe luxBase (luxBase + 0x40000)).set Reg.SYS_DOMCTRL.LUXRDY := by
    have hup' : (s.seen t).coreUp = true := hup
    simp [luxReady, luxOn, hup', hon, hrdy]
  refine answers_of_eq rfl hu ⟨?_, fun a hlo hhi => ⟨?_, ?_⟩, fun a hlt => ?_, fun k hk => ?_⟩
  · simp [State.set, Reg.SYS_DOMCTRL.LUXRDY]
  · rw [State.byte_set, State.byte_wipe, if_pos (by simp only [luxBase]; omega)]
  · exact State.notMem_badBytes_wipe _ hlo (Nat.lt_trans hhi (by decide))
  · rw [State.byte_set, State.byte_wipe, if_neg (by simp only [luxBase]; omega), State.byte_seen]
  · have hne : k ≠ Reg.SYS_DOMCTRL.LUXRDY.key := by simpa using hk
    simp only [State.set, State.wr, Sparse.get_put_of_ne 0 hne]
    rfl

/-- A keyed COREOFF request on a write that leaves LUX as it is (R23). -/
theorem exec_coreoff {v : Word} {s : State} (hs : Stores s 0x40000010) (hkey : v.toNat / 2 ^ 24 = 0xA5)
    (hlux : v.toNat.testBit 0 = s.on Reg.SYS_DOMCTRL.LUXEN) (h16 : v.toNat.testBit 16 = false) :
    exec (.coreoff v) s = .next (
      if v.toNat.testBit 9 || s.sys.offReq.isSome || coreNeeded s then s.set Reg.SYS_DOMCTRL.REFUSED
      else { s with sys := { s.sys with offReq := some .coreOff } }) := by
  have hw := domctrlWrite_request (v := withBit Reg.SYS_DOMCTRL.COREOFF v) (s := s)
    (by rw [withBit_div_key (by decide), hkey]) (by rw [testBit_withBit, hlux]; exact Bool.or_false _)
    (by simp [testBit_withBit, h16, Reg.SYS_DOMCTRL.COREOFF]) (by simp [testBit_withBit, Reg.SYS_DOMCTRL.COREOFF])
  simp only [testBit_withBit, Reg.SYS_DOMCTRL.COREOFF] at hw
  refine congrArg _ ((coreStore_of_stores hs _).trans (hw.trans ?_))
  simp

/-- A keyed SHIP request on a write that leaves LUX as it is (R47). -/
theorem exec_ship {v : Word} {s : State} (hs : Stores s 0x40000010) (hkey : v.toNat / 2 ^ 24 = 0xA5)
    (hlux : v.toNat.testBit 0 = s.on Reg.SYS_DOMCTRL.LUXEN) (h16 : v.toNat.testBit 16 = false) :
    exec (.ship v) s = .next (
      if v.toNat.testBit 8 || s.sys.offReq.isSome || inputAttached s then s.set Reg.SYS_DOMCTRL.REFUSED
      else { s with sys := { s.sys with offReq := some .ship } }) := by
  have hw := domctrlWrite_request (v := withBit Reg.SYS_DOMCTRL.SHIP v) (s := s)
    (by rw [withBit_div_key (by decide), hkey]) (by rw [testBit_withBit, hlux]; exact Bool.or_false _)
    (by simp [testBit_withBit, h16, Reg.SYS_DOMCTRL.SHIP]) (by simp [testBit_withBit, Reg.SYS_DOMCTRL.SHIP])
  simp only [testBit_withBit, Reg.SYS_DOMCTRL.SHIP] at hw
  refine congrArg _ ((coreStore_of_stores hs _).trans (hw.trans ?_))
  cases v.toNat.testBit 8 <;> simp

/-! ### Carrying a request out -/

/-- Once CORE is off, no engine computes and nothing else of an idle microsecond happens. -/
theorem idleTick_of_off {s t : State} (haon : s.sys.aonOn = true)
    (ht : alarmCheck (offCarriedOut (s.seen (s.tbase + 1))) = t) (hlux : t.lux.computing = false)
    (hcore : t.sys.coreOn = false) : idleTick s = t := by
  simp [idleTick, haon, ht, hlux, hcore, State.coreUp]

theorem step_of_idle {s : State} (h : s.pending = []) : step s = .next (idleTick s) := by
  unfold step
  rw [h]

theorem alarmCheck_of_fired {s : State} (h : s.sys.alarmFired = true) : alarmCheck s = s := by simp [alarmCheck, h]

theorem alarmCheck_of_aonOff {s : State} (h : s.sys.aonOn = false) : alarmCheck s = s := by simp [alarmCheck, h]

/-- A COREOFF request is carried out (R23). -/
theorem offCarriedOut_coreOff {s : State} (h : s.sys.offReq = some .coreOff) :
    (offCarriedOut s).sys = { s.sys.coreGone with coreOn := false, v18en := false, v18pg := false }
      ∧ (offCarriedOut s).sec.fuses = s.sec.fuses ∧ (offCarriedOut s).lux = {} := by
  have hv := vitals_coreLost (holdRails s) true
  have hr := vitals_holdRails s
  simp only [vitals, Prod.mk.injEq] at hv hr
  obtain ⟨hsys, -, -, hfuses⟩ := hv
  obtain ⟨hsys', -, -, hfuses'⟩ := hr
  simp only [offCarriedOut, h]
  refine ⟨?_, hfuses.trans hfuses', coreLost_lux (holdRails s) true⟩
  show ({ (coreLost true (holdRails s)).sys with coreOn := false, v18en := false, v18pg := false } : Sys) = _
  rw [hsys, hsys']

/-- A SHIP request is carried out (R47). -/
theorem offCarriedOut_ship {s : State} (h : s.sys.offReq = some .ship) :
    (offCarriedOut s).sys = { s.sys.gone with shipMode := true }
      ∧ (offCarriedOut s).sec.fuses = s.sec.fuses ∧ (offCarriedOut s).lux = {} := by
  have hr : vitals (if s.log.front.isEmpty then s else recordWritten s) = vitals s :=
    vitals_of_ite rfl (vitals_recordWritten s)
  have hv := vitals_coldState (if s.log.front.isEmpty then s else recordWritten s)
  simp only [vitals, Prod.mk.injEq] at hv hr
  obtain ⟨hsys, -, -, hfuses⟩ := hv
  obtain ⟨hsys', -, -, hfuses'⟩ := hr
  simp only [offCarriedOut, h]
  refine ⟨?_, hfuses.trans hfuses', coldState_lux _⟩
  rw [hsys, hsys']

theorem step_coreOff {s : State} (hq : s.pending = []) (haon : s.sys.aonOn = true)
    (hreq : s.sys.offReq = some .coreOff) (hfired : s.sys.alarmFired = true) :
    ∃ u, step s = .next u ∧ u.sys.coreOn = false ∧ u.sys.v18en = false ∧ u.sys.aonOn = true ∧ u.sys.offReq = none
        ∧ u.sec.fuses = s.sec.fuses := by
  obtain ⟨hsys, hfuses, hlux⟩ := offCarriedOut_coreOff (s := s.seen (s.tbase + 1)) hreq
  refine ⟨_, (step_of_idle hq).trans (congrArg _ (idleTick_of_off haon (alarmCheck_of_fired ?_) ?_ ?_)), ?_⟩
  · rw [hsys]; exact hfired
  · rw [hlux]
  · rw [hsys]
  · rw [hsys, hfuses]
    exact ⟨rfl, rfl, haon, rfl, rfl⟩

theorem step_ship {s : State} (hq : s.pending = []) (haon : s.sys.aonOn = true) (hreq : s.sys.offReq = some .ship) :
    ∃ u, step s = .next u ∧ u.sys.shipMode = true ∧ u.sys.aonOn = false ∧ u.sys.coreOn = false := by
  obtain ⟨hsys, -, hlux⟩ := offCarriedOut_ship (s := s.seen (s.tbase + 1)) hreq
  refine ⟨_, (step_of_idle hq).trans (congrArg _ (idleTick_of_off haon (alarmCheck_of_aonOff ?_) ?_ ?_)), ?_⟩
  · rw [hsys]; rfl
  · rw [hlux]
  · rw [hsys]; rfl
  · rw [hsys]
    exact ⟨rfl, rfl, rfl⟩

/-- A cold reset with cause SHIPWAKE has begun: V18_EN is asserted after 300 to 1,000 µs, and the fuses are `f` (R34,
R48). -/
def ShipWoken (f : Fuses) (u : State) : Prop :=
  u.sys.shipMode = false ∧ u.sys.aonOn = true ∧ u.sys.coreOn = false ∧ u.sys.waitPg = true ∧ u.sys.causes = 4
    ∧ 300 ≤ u.sys.pgSince ∧ u.sys.pgSince ≤ 1000 ∧ u.tbase = u.sys.pgSince ∧ u.cpu = {} ∧ u.sec.fuses = f

theorem shipWoken_coldReset (h : Fin 4) (n : Fin 8) (s : State) :
    ShipWoken s.sec.fuses (coldReset (causeBit Reg.SYS_RSTCAUSE.SHIPWAKE) (startAt s) (strapped h n s.drawn)) := by
  obtain ⟨vio, hv⟩ := vitals_coldReset (strapped h n s.drawn) (causeBit Reg.SYS_RSTCAUSE.SHIPWAKE) (startAt s)
  simp only [vitals, Prod.mk.injEq] at hv
  obtain ⟨hsys, htime, hcpu, hfuses⟩ := hv
  have hlo : 300 ≤ startAt s := Nat.le_add_right _ _
  have hhi : startAt s ≤ 1000 := by unfold startAt; omega
  unfold ShipWoken
  rw [hsys, htime, hcpu, hfuses]
  exact ⟨rfl, rfl, rfl, rfl, rfl, hlo, hhi, rfl, rfl, rfl⟩

/-- SHIP_WAKE wakes from ship mode, a request that is being carried out finished first (R48). -/
theorem shipWake_answers {h : Fin 4} {n : Fin 8} {s : State}
    (hs : s.sys.shipMode = true ∨ s.sys.offReq = some .ship) : Answers (.shipWake h n) s (ShipWoken s.sec.fuses) := by
  by_cases hreq : s.sys.offReq = some .ship
  case pos =>
    obtain ⟨hsys, hfuses, -⟩ := offCarriedOut_ship hreq
    have hship : (offCarriedOut s).sys.shipMode = true := by rw [hsys]
    refine answers_of_eq rfl ?_ (hfuses ▸ shipWoken_coldReset h n (offCarriedOut s))
    rw [if_pos hreq, if_pos hship]
  case neg =>
    refine answers_of_eq rfl ?_ (shipWoken_coldReset h n s)
    rw [if_neg hreq, if_pos (hs.resolve_right hreq)]

/-! ### SYS_RSTCAUSE and SYS_WAKEEN (R9) -/

/-- A REGISTER_WRITE that meets no exception is the store's effect (R9). -/
theorem exec_registerWrite {a : Word} {s : State} (h : Stores s a.toNat) (v : Word) :
    exec (.registerWrite a v) s = .next (writeValue s a 4 v) :=
  congrArg Host.Outcome.next (coreStore_of_stores h fun s => writeValue s a 4 v)

/-- The registers of the SYS block without a row of their own. -/
theorem writeValue_sys {a : Word} (harea : areaOf a.toNat = .peripheral) (hblock : (a.toNat - 0x40000000) / 0x10000 = 0)
    (s : State) (n : Nat) (v : Word) : writeValue s a n v = sysWrite a.toNat v.toNat s := by
  simp only [writeValue, harea, busWrite, hblock]

theorem rstcause_answers {v : Word} {s : State} (hs : Stores s 0x40000020) :
    Answers (.registerWrite 0x40000020 v) s fun u => ∀ i, i < 14 →
        u.rd ⟨0x40000020, i, 1⟩ = if v.toNat.testBit i then 0 else s.rd ⟨0x40000020, i, 1⟩ % 2 := by
  have hw : writeValue s 0x40000020 4 v = s.regWrite 0x40000020 v.toNat :=
    writeValue_sys (by decide) (by decide) s 4 v
  refine answers_of_eq (exec_registerWrite hs v) hw fun i hi => ?_
  rw [regWrite_rd_bitRow regRows_rstcause hi, writeRow_bitRow_w1c]

theorem wakeen_answers {v : Word} {s : State} (hs : Stores s 0x40000040) :
    Answers (.registerWrite 0x40000040 v) s fun u => ∀ i, i < 9 →
        u.rd ⟨0x40000040, i, 1⟩ = if v.toNat.testBit i then 1 else 0 := by
  have hw : writeValue s 0x40000040 4 v = s.regWrite 0x40000040 v.toNat :=
    writeValue_sys (by decide) (by decide) s 4 v
  refine answers_of_eq (exec_registerWrite hs v) hw fun i hi => ?_
  rw [regWrite_rd_bitRow regRows_wakeen hi, writeRow_bitRow_rw]

/-- No condition of R23 stands, so LUX is off. -/
theorem luxen_off_of_not_coreNeeded {s : State} (h : coreNeeded s = false) :
    s.on Reg.SYS_DOMCTRL.LUXEN = false := by
  simp only [coreNeeded, Bool.or_eq_false_iff] at h
  exact h.1.2

/-- Settles O21: the SYS_DOMCTRL clauses are `domctrlWrite`'s cases, the off and ship-wake clauses follow the AON sequencer
through the resets (`vitals`), and the last two are register writes field by field. -/
theorem domainControl : Obligations.DomainControl := by
  unfold Obligations.DomainControl
  refine ⟨fun v s hs => luxen_answers hs, fun t s => luxReady_answers, ?_, ?_, ?_, ?_, fun s => step_coreOff,
    fun s => step_ship, fun h n s => shipWake_answers, fun v s => rstcause_answers, fun v s => wakeen_answers⟩
  · intro v s hs hkey heven h9 h16 hreq hneed
    have hlux : v.toNat.testBit 0 = s.on Reg.SYS_DOMCTRL.LUXEN := by
      rw [luxen_off_of_not_coreNeeded hneed, Nat.testBit_zero, heven]; rfl
    simp [exec_coreoff hs hkey hlux h16, h9, hreq, hneed]
  · intro v s hs hkey hlux h9 h16 hneed
    simp [exec_coreoff hs hkey hlux h16, hneed]
  · intro v s hs hkey hlux h16
    refine ⟨fun hno => ?_, fun hno => ?_⟩
    · rw [exec_coreoff hs hkey hlux h16, if_pos (by simpa using .inl hno)]
    · rw [exec_ship hs hkey hlux h16, if_pos (by simpa [or_assoc] using hno)]
  · intro v s hs hkey hlux h8 h16 hreq hin
    simp [exec_ship hs hkey hlux h16, h8, hreq, hin]

end Sys2Proof.Machine
